-- ==== Sys2Proof/Message.lean ====
section
/-! DEFINITION. The data that commands carry from outside the module: entries in host memory, frames, messages and
measurements. -/

namespace Sys2Proof

/-- A submission entry as it stands in host memory (R77). `flags` is byte 1 whole. -/
structure SubEntry where
  opcode : Nat
  flags : Nat
  cid : Nat
  arg0 : Nat
  arg1 : Nat
  bufLen : Nat
  bufAddr : Nat
  arg2 : Nat
  arg3 : List Byte
  deriving DecidableEq, Repr, Inhabited

/-- The host's side of a buffer transfer (R88): whether every transfer ends without error, the scatter
list read where SGL is 1 as (address, length, bytes 12 to 15), and the bytes read from the buffer. -/
structure HostBuf where
  ok : Bool
  sgl : List (Nat × Nat × Nat)
  data : List Byte
  deriving DecidableEq, Repr, Inhabited

/-- The operation in flight that a host-opcode command executes: port, submission ring, CID. -/
structure OpRef where
  port : Nat
  sq : Nat
  cid : Nat
  deriving DecidableEq, Repr, Inhabited

/-- How a port is reset (R57); `clock`: the port's reference clock is present then (R47). -/
inductive PortResetKind where
  | perst (clock : Bool) | hot | linkDown (clock : Bool)
  deriving DecidableEq, Repr

/-- A space of a host port that an access names (R67, R68): the registers of BAR0, the page of
BAR2, or the configuration space. -/
inductive HostSpace where
  | regs | page | config
  deriving DecidableEq, Repr, Inhabited

/-- The two levels of one strap as sampled: with the internal pull-up and with the pull-down (R35). -/
structure StrapPin where
  up : Bool
  down : Bool
  deriving DecidableEq, Repr, Inhabited

/-- Every pin sampled as a strap (R34 to R38), and whether the reference clocks of the host ports are present then (R47). -/
structure StrapPins where
  alm0 : StrapPin
  alm1 : StrapPin
  alm2 : StrapPin
  dpxPos : Bool
  recoveryN : Bool
  partnerN : Bool
  refA : Bool
  refB : Bool
  deriving DecidableEq, Repr, Inhabited

/-- What the boot ROM finds (R408, R424, R438): the device root is reconstructed, each copy of the part map passes its CRC, and
the parts of each bank whose blocks no longer match the block table. -/
structure BootFind where
  rootOk : Bool
  map0Ok : Bool
  map1Ok : Bool
  bad0 : Fin 32
  bad1 : Fin 32
  deriving DecidableEq, Repr, Inhabited

/-- What DOMAIN_START finds in MRAM (R156, R191, R299, R305): bit k: program image bank k cannot be read without error, or
journal bank k fails its check; the tasks whose current retained half fails its CRC, and the channels whose compensation
table does. -/
structure MramFind where
  image : Fin 4
  journal : Fin 4
  retained : List (Fin 96)
  tables : List (Fin 48)
  deriving DecidableEq, Repr, Inhabited

/-- One UPDATE or RESYNC entry of a Zader frame (R113): slot bytes 0 to 23 and whether the entry's CRC
is right. -/
structure ZSlot where
  index : Nat
  value : Word64
  time : Nat
  tag : Nat
  typ : Nat
  origin : Nat
  quality : Nat
  flags : Nat
  seq : Nat
  crcOk : Bool
  deriving DecidableEq, Repr, Inhabited

/-- One OWNERSHIP entry (R113): action 1 RELEASE, 2 CLAIM, 3 STATE. -/
structure ZOwn where
  block : Nat
  action : Nat
  former : Nat
  newOwner : Nat
  gen : Nat
  manual : Bool
  crcOk : Bool
  deriving DecidableEq, Repr, Inhabited

/-- The entries of a Zader frame. -/
inductive ZBody where
  | none
  | slots (l : List ZSlot)
  | owns (l : List ZOwn)
  | req (target : Nat) (nblocks : Nat) (blocks : List Nat) (crcOk : Bool)
  deriving DecidableEq, Repr, Inhabited

/-- A Zader frame by its fields (R113). `hdrCrcOk`: HDR_CRC is right; `formOk`: the reserved header bits are zero and the
payload has exactly 32 + 32 × COUNT bytes. -/
structure ZFrame where
  version : Nat
  kind : Nat
  origin : Nat
  count : Nat
  seq : Nat
  sendTime : Nat
  building : Nat
  restart : Bool
  resyncEnd : Bool
  block : Nat
  part : Nat
  hdrCrcOk : Bool
  formOk : Bool
  body : ZBody
  deriving DecidableEq, Repr, Inhabited

/-- What a FORWARD message carries (R320). -/
inductive FwdKind where
  | field | ptWrite | force | unforce | takenOver | display | restamp | stationLost | stationBack
  deriving DecidableEq, Repr, Inhabited

/-- A FORWARD message of a slot write (R320): the slot as its first writer stamped it. -/
structure FwdMsg where
  kind : FwdKind
  index : Nat
  value : Word64
  time : Nat
  seq : Nat
  quality : Nat
  alarm : Bool
  deriving DecidableEq, Repr, Inhabited

/-- An entry of an INPUTS message (R319): VALUE, SLOT_TIME, byte 19 and the energy snapshot of R177. -/
structure ShipEnt where
  value : Word64
  time : Nat
  qual : Nat
  snap : Nat
  deriving DecidableEq, Repr, Inhabited

/-- The measurements of an island (R263): primary and shadow in units of 0.5 µA, the terminal voltage in units of
10 mV as a 16-bit pattern, stage in units of 0.1 °C. -/
structure IslMeas where
  primary : Nat
  shadow : Nat
  terminal : Nat
  stage : Int
  deriving DecidableEq, Repr, Inhabited

/-- A completed conversion of a universal input (R264, R267): the converter code, the value in the channel's
unit as binary32, the resistance in Ω, and whether the excitation was at compliance. -/
structure UiMeas where
  code : Nat
  x : Nat
  ohms : Nat
  compliance : Bool
  deriving DecidableEq, Repr, Inhabited

/-- A frame received on a DALI bus (R274): a backward frame, or an event message of control device `a`. -/
inductive DaliRx where
  | answer (byte : Nat)
  | event (a : Nat) (frame : Nat)
  deriving DecidableEq, Repr, Inhabited

/-- How a DALI forward frame ended (R275, R282) with the collisions that repeated it. -/
inductive DaliEnd where
  | done | collisionLimit
  deriving DecidableEq, Repr, Inhabited

/-- A reply on a serial port (R277, R278): register words or bits, an acknowledged write, an exception code,
or an OSDP reply with card data and status bits. -/
inductive SerReply where
  | words (l : List Nat)
  | ok
  | exception (code : Nat)
  | reader (card : Option Nat) (status : Nat)
  deriving DecidableEq, Repr, Inhabited

/-- A frame on a CAN bus (R349): flags are bits 8:0 of CANn_RXFff_CTL (ESI, BRS, FDF, IDE, RTR, DLC); byte k of the
data at bits 8k; `ts`: PTP time of its start. -/
structure CanFrame where
  id : Nat
  flags : Nat
  data : Nat
  ts : Nat
  deriving DecidableEq, Repr, Inhabited

/-- A current channel's 32 samples of a block (R284, R286), shifted in time by the channel's phase correction: in CT mode the
secondary current in pA, in ROGOWSKI mode the integrated coil voltage in units of 10^−19 V as at 50 Hz; and whether a sample
stood at the limit of its converter. Channel 48 is the assay channel. -/
structure MtrCh where
  ch : Nat
  i : List Int
  overrange : Bool
  deriving DecidableEq, Repr, Inhabited

/-- A metering block (R284, R286): the channels' samples, those of L1, L2, L3 and N in nV, those of L1, L2 and L3 delayed by a
quarter period, and the frequency of L1, L2 and L3 in mHz. -/
structure MtrBlock where
  chans : List MtrCh
  volts : List (List Int)
  quad : List (List Int)
  freq : List Nat
  deriving DecidableEq, Repr, Inhabited

/-- What an assay step measured (R308, R310): gain difference in ppm, phase difference in m°, too little
signal, and, of a calibration, the gain trim (2^−30) and phase trim (µ°) to be added and whether the second
half's check passed. -/
structure AssayMeas where
  gain : Int
  phase : Int
  noSignal : Bool
  trim : Int
  trimPh : Int
  checkOk : Bool
  deriving DecidableEq, Repr, Inhabited

/-- An Ethernet frame received (R357 to R366): addresses, length with FCS, VID of its tag, FCS and code errors, EtherType or
length after the tag, MAC-control opcode and quanta; of an IP packet whether it is IPv6, its UDP destination port, whether
it is ICMPv6; of a PTP event message its messageType, domainNumber, sequenceId and sourcePortIdentity; `sfd`: PTP time
of its delimiter at the MAC in ns; `room`: the frames that the running cores have not yet taken leave it room in its ring;
`free`: free KiB of the ring beside frames that wait for a core that does not run. -/
structure EthFrame where
  dst : List Byte
  src : List Byte
  len : Nat
  tag : Option Nat
  fcsOk : Bool
  symErr : Bool
  alignErr : Bool
  etype : Nat
  opcode : Nat
  quanta : Nat
  ipv6 : Bool
  udp : Option Nat
  icmp6 : Bool
  event : Option (Nat × Nat × Nat × Nat)
  sfd : Nat
  room : Bool
  free : Nat
  deriving DecidableEq, Repr, Inhabited

/-- A PTP message received (R375): MAC, domainNumber, sequenceId, sourcePortIdentity, twoStepFlag, its timestamp field in
ns, correctionField in units of 2^−16 ns, requestingPortIdentity. -/
structure PtpMsg where
  mac : Nat
  domain : Nat
  seq : Nat
  src : Nat
  twoStep : Bool
  time : Nat
  corr : Int
  requester : Nat
  deriving DecidableEq, Repr, Inhabited

/-- An Announce message received (R375): grandmaster identity (first byte most significant) and its properties,
stepsRemoved, currentUtcOffset as 16 bits, and the flags currentUtcOffsetValid, leap61 and leap59. -/
structure PtpAnnounce where
  mac : Nat
  domain : Nat
  src : Nat
  gm : Nat
  prio1 : Nat
  cls : Nat
  accuracy : Nat
  variance : Nat
  prio2 : Nat
  steps : Nat
  utc : Nat
  utcValid : Bool
  leap61 : Bool
  leap59 : Bool
  deriving DecidableEq, Repr, Inhabited

/-- The PTP messages that the module sends at its intervals (R375). -/
inductive PtpSend where
  | sync | delayReq | pdelayReq | announce
  deriving DecidableEq, Repr

end Sys2Proof
end

