-- ==== Sys2Proof/Machine/Data.lean ====
section
/-! DEFINITION. The parts of the state of the block, unit by unit, and the messages that carry them between the modules
of a pair. -/

namespace Sys2Proof.Machine

/-! ## Clocks, logbook, host ports, gates and contexts -/

/-- The module's clocks. `upNs`: ns passed since the machine began, resets and failures of the supply included. `ptp`: the PTP clock in units of
2^−28 ns since its epoch (R371). `tick`: the 48-bit tick count (R387). `tickAcc`: the fraction of a tick
passed, in units of ns × Hz. `tickRun`: the tick crystal oscillates.
`wrapped`: the count has wrapped and its WRAP event has not been given. -/
structure Clk where
  upNs : Nat := 0
  ptp : Nat := 0
  tick : Nat := 0
  tickAcc : Nat := 0
  tickRun : Bool := true
  wrapped : Bool := false
  deriving DecidableEq, Repr, Inhabited

/-- A logbook record (R398) but for its number and CRC. -/
structure LogRec where
  code : Nat
  unit : Nat
  inst : Nat
  ms : Nat
  timeUnknown : Bool
  butty : Bool
  holdup : Bool
  auditCopy : Bool
  p0 : Nat
  p1 : Nat
  p2 : Nat
  p3 : Nat
  deriving DecidableEq, Repr, Inhabited

/-- A posted record that waits in the stage (R405), with its numbers in the two rings. -/
structure StagedRec where
  num : Nat
  auditNum : Option Nat
  entry : LogRec
  deriving DecidableEq, Repr, Inhabited

/-- A main-ring clear whose token has passed and that waits for the LOG_READs already fetched (R406). -/
structure ClearWait where
  op : OpRef
  ctx : Nat
  counter : Nat
  readers : List OpRef
  deriving DecidableEq, Repr, Inhabited

/-- The logbook (R398 to R406). The rings list (record number, record), oldest first. -/
structure LogS where
  main : List (Nat × LogRec) := []
  audit : List (Nat × LogRec) := []
  stage : List StagedRec := []
  mainNext : Nat := 0
  auditNext : Nat := 0
  epochMs : Nat := 0
  epochTick : Nat := 0
  epochSet : Bool := false
  posts : Nat := 0
  flooded : Bool := false
  mainOver : Bool := false
  auditOver : Bool := false
  clear : Option ClearWait := none
  deriving DecidableEq, Repr, Inhabited

/-- A completion entry but for its phase (R78). `head` is SQ_HEAD of an ordinary entry and INDEX of a
subscription entry. -/
structure Comp where
  cid : Nat
  sq : Nat
  notify : Bool
  status : Nat
  head : Nat
  quality : Nat
  flags : Nat
  coalesced : Bool
  result : Nat
  deriving DecidableEq, Repr, Inhabited

/-- An operation in flight (R76): its number in the order of fetches of both ports, its entry, the context of its ring, the SQ head after its fetch, whether
it has started, and its completion once it has finished. -/
structure Op where
  num : Nat
  sq : Nat
  entry : SubEntry
  ctx : Nat
  head : Nat
  started : Bool
  done : Option Comp
  deriving DecidableEq, Repr, Inhabited

/-- A subscription (R87): the PT_SUBSCRIBE that made it and the points it still holds. -/
structure Sub where
  sq : Nat
  cq : Nat
  cid : Nat
  ctx : Nat
  first : Nat
  points : List Nat
  deriving DecidableEq, Repr, Inhabited

/-- An unwritten notification (R87). -/
structure Note where
  cq : Nat
  comp : Comp
  deriving DecidableEq, Repr, Inhabited

/-- The state of a completion ring that no register shows (R79, R91). -/
structure CqX where
  phase : Bool := true
  counted : Nat := 0
  timer : Bool := false
  deriving DecidableEq, Repr, Inhabited

/-- One host port: operations in flight in order of fetch, subscriptions, waiting notifications and
CANCELLED entries, the last ring served at each priority, the MSI-X table and pending bits (R68), the
configuration space (R67), the registers that hold a value per port, the port's SNAP holding values (R3) and the epoch registers that it has staged (R401,
R407). -/
structure PortS where
  ops : List Op := []
  subs : List Sub := []
  notes : List Note := []
  cancels : List (Nat × OpRef × Comp) := []
  served : Tbl Nat := []
  cq : Tbl CqX := []
  msix : Tbl Word := []
  pba : Nat := 0
  cfg : Tbl Word := []
  regs : Tbl Word := []
  snap : Tbl Word := []
  epoch : Tbl (Option Nat) := []
  deriving DecidableEq, Repr, Inhabited

/-- A lock gate (R93, R94, R96). `endNs`: when the lease ends. `audited`: an audit record was written less
than 1 s ago. `unreported`: drops since that record. -/
structure Gate where
  holder : Option Nat := none
  gen : Nat := 0
  leaseMs : Nat := 0
  endNs : Nat := 0
  audited : Bool := false
  unreported : Nat := 0
  deriving DecidableEq, Repr, Inhabited

/-- Denials of a tenant context (R98). -/
structure Deny where
  count : Nat := 0
  reported : Bool := false
  first : Option Nat := none
  unreported : Nat := 0
  deriving DecidableEq, Repr, Inhabited

/-! ## Point image and replication -/

/-- A slot of the point image (R102). `badCrc` holds the stored CRC where it is not the CRC of the
slot's bytes. -/
structure Slot where
  value : Word64 := 0#64
  time : Nat := 0
  tag : Nat := 0
  typ : Nat := 0
  origin : Nat := 0
  quality : Nat := 0
  forced : Bool := false
  retained : Bool := false
  alarm : Bool := false
  event : Bool := false
  seq : Nat := 0
  binding : Nat := 0
  badCrc : Option Nat := none
  deriving DecidableEq, Repr, Inhabited

/-- The point image (R102 to R108, R131): the slots, the dirty slots in the order of marking, and the
owned slots whose CRC fault has been reported. -/
structure PixS where
  slots : Tbl Slot := []
  dirty : List Nat := []
  faulted : List Nat := []
  deriving DecidableEq, Repr, Inhabited

/-- An entry of the ownership table (R110). -/
structure Own where
  owner : Nat := 0
  gen : Nat := 0
  c1 : Nat := 0
  c2 : Nat := 0
  c3 : Nat := 0
  auto : Bool := false
  deriving DecidableEq, Repr, Inhabited

/-- What a receiver holds of an origin (R118, R120). -/
structure Origin where
  seq : Option Nat := none
  heard : Bool := false
  silent : Bool := false
  silentNs : Nat := 0
  lastNs : Nat := 0
  deriving DecidableEq, Repr, Inhabited

/-- An incomplete resync of a block (R119): the parts received, whether the RESYNC_END frame is held, the
requests sent, and whether the three tries have failed. -/
structure Resync where
  parts : List Nat
  ended : Bool
  tries : Nat
  failed : Bool
  deriving DecidableEq, Repr, Inhabited

/-- A planned release that waits for its effective time (R125). -/
structure PlannedRelease where
  block : Nat
  toNode : Nat
  time : Nat
  deriving DecidableEq, Repr, Inhabited

/-- The replication engine (R110 to R121). `wants`: requests not yet sent, as (target, blocks). `whole`: origins of
which a resync of all blocks has been requested, those not yet known among them.
`serve`: blocks whose service has been requested. `served`: when a block's last service began, in ns
since the start. `waiting`: an ownership command that waits for the restart of
NC1, as (CLAIM, block, new owner). `dropSeen`: (task, block) pairs whose first dropped output
since the block's loss has been recorded (R160). -/
structure RepS where
  own : Tbl Own := []
  origins : Tbl Origin := []
  resync : Tbl (Option Resync) := []
  wants : List (Nat × List Nat) := []
  whole : List Nat := []
  serve : List Nat := []
  served : Tbl (Option Nat) := []
  seq : Nat := 0
  restart : Bool := true
  planned : List PlannedRelease := []
  waiting : Option (Bool × Nat × Nat) := none
  dropSeen : List (Nat × Nat) := []
  sweepAt : Nat := 0
  deriving DecidableEq, Repr, Inhabited

/-- Power and reset state that no register shows. `pfailLow`: PFAIL_N is driven low. `inService`: the power
failure was detected in SERVICE (R52), or the module reset began there. `at21`: the bank has fallen to 21.0 V since the detection. `railsOff`:
the bank has fallen to 12.0 V. `resetting`: a module reset is between steps 3 and 6 (R59); `smReset`: it is a
safety reset or a safety-manager watchdog reset (R446). `keelDone`: KEEL_START has ended. `domainsUp`: DOMAIN_START has ended (R62). `rebooted`: the
start in progress follows a module reset. `lossPending`: power was lost under HOLDUP_FAULT (R54).
`committed`: the commit of the power failure has been made. `bankOpen`: the bank has been falling or charging since it was
measured last, so that its voltage is open. `xtalRecord`: the crystal failure waits to be
recorded at KEEL_START (R49). `resetOrdered`: the RST_CAUSE bit of a module reset ordered and not begun. `failUp`: when the power failure
was detected, `measUp`: when the bank was measured last, in ns since the start; none before the first. -/
structure PwrS where
  pfailLow : Bool := true
  inService : Bool := false
  at21 : Bool := false
  railsOff : Bool := false
  resetting : Bool := false
  smReset : Bool := false
  keelDone : Bool := false
  domainsUp : Bool := false
  rebooted : Bool := false
  lossPending : Bool := false
  committed : Bool := false
  bankOpen : Bool := false
  xtalRecord : Bool := false
  resetOrdered : Option Nat := none
  failUp : Nat := 0
  measUp : Option Nat := none
  deriving DecidableEq, Repr, Inhabited

/-! ## Program image, tasks and online change -/

/-- A task table entry (R137). -/
structure TaskEnt where
  task : Nat
  kind : Nat
  safety : Bool
  prio : Nat
  pair : Nat
  period : Nat
  wdog : Nat
  entry : Nat
  instBase : Nat
  inCount : Nat
  outCount : Nat
  trigKind : Nat
  trigRef : Nat
  phase : Nat
  deriving DecidableEq, Repr, Inhabited

/-- A LAYOUT entry (R182). -/
structure LayoutEnt where
  task : Nat
  depth : Nat
  instSize : Nat
  frameBase : Nat
  retOff : Nat
  retSize : Nat
  deriving DecidableEq, Repr, Inhabited

/-- A FUNCS entry (R182). -/
structure FuncEnt where
  off : Nat
  size : Nat
  deriving DecidableEq, Repr, Inhabited

/-- An INIT record (R182). -/
structure InitRec where
  task : Nat
  off : Nat
  data : List Byte
  deriving DecidableEq, Repr, Inhabited

/-- A BINDINGS entry (R183). -/
structure BindEnt where
  task : Nat
  dir : Nat
  entry : Nat
  index : Nat
  typ : Nat
  hasSafe : Bool
  station : Nat
  fieldOut : Nat
  safe : Nat
  deriving DecidableEq, Repr, Inhabited

/-- A SLOTS entry (R184). -/
structure SlotCfg where
  index : Nat
  tag : Nat
  typ : Nat
  retained : Bool
  event : Bool
  quality : Nat
  binding : Nat
  initial : Nat
  symbol : Nat
  deriving DecidableEq, Repr, Inhabited

/-- A LOOPS entry (R185). -/
structure LoopEnt where
  task : Nat
  loc : Nat
  engine : Nat
  slot : Nat
  pv : Nat
  sp : Nat
  ff : Nat
  out : Nat
  deriving DecidableEq, Repr, Inhabited

/-- A SYMBOLS entry (R185). -/
structure SymEnt where
  hash : Nat
  typ : Nat
  task : Nat
  cls : Nat
  off : Nat
  size : Nat
  deriving DecidableEq, Repr, Inhabited

/-- A LOOPCFG record (R232): the loop's parameters by number, gain regions, thresholds and memory
settings, as the record's fields give them. -/
structure LoopCfgRec where
  task : Nat
  loc : Nat
  flags : Nat
  feAction : Nat
  mem : Nat
  nreg : Nat
  sched : Nat
  params : List Nat
  regions : List (List Nat)
  thresholds : List Nat
  hyst : Nat
  memRec : List Nat
  deriving DecidableEq, Repr, Inhabited

/-- A program image (R180 to R185), parsed. -/
structure Image where
  digest : List Byte
  origin : Nat
  node : Nat
  building : Nat
  tasks : List TaskEnt
  layout : List LayoutEnt
  code : List Nat
  funcs : List FuncEnt
  consts : List Nat
  inits : List InitRec
  binds : List BindEnt
  slots : List SlotCfg
  loops : List LoopEnt
  syms : List SymEnt
  loopcfg : List LoopCfgRec
  deriving DecidableEq, Repr, Inhabited

/-- An entry of a task's input image (R174, R177): VALUE, SLOT_TIME, byte 19 and the energy snapshot. -/
structure InEnt where
  value : Word64 := 0#64
  time : Nat := 0
  qual : Nat := 0
  snap : Nat := 0
  deriving DecidableEq, Repr, Inhabited

/-- An entry of a task's output image: what STOUT or a loop and what STOQ wrote in the cycle (R143, R175). -/
structure OutEnt where
  value : Option Word64 := none
  qual : Option (Nat × Bool) := none
  deriving DecidableEq, Repr, Inhabited

/-- A saved activation (R166). -/
structure Frame where
  regs : Tbl Word64
  retPc : Nat
  callerIb : Nat
  func : Nat
  deriving DecidableEq, Repr, Inhabited

/-- The states of a task, in the codes of SCN_Tnn_STATE.STATE (R161). -/
inductive TaskSt where
  | absent | idle | ready | running | preempted | halted | suspended | stopped
  deriving DecidableEq, Repr, Inhabited

/-- A task's run state. `was`: the state before a halt. `first`: R157. `pend`: a trigger waits for release.
`armed`: the armed time. `release`: PTP time of the present or last release, `relUp` the same in ns since the
start, `slotNs` the last aligned instant that has passed. `freeRun`: the releases run on from the 125 MHz clock
(R139). `order`: place in the order of releases. `wdExt`: ns of halt added to the watchdog (R152). `latched`,
`shipped`, `ended`, `commit`: the latch is done, the inputs are common to the pair, the block code has ended, the
output commit is done. `loops`: the task-local loops evaluated in the cycle. `outVal`, `outForce`: value and
forced value of each bound OUT slot at the latch (R217, R219). `slotUp`: when the last release instant came, taken or not,
in ns since the start (R139). `firstNext`: FIRST of the next cycle, where a resume found this one in progress.
`suspend`: SUSPEND holds. `cold`: the first commit
after a cold restart is still to come. `skipBreak`: the instruction at the present offset has been halted
before and runs now. -/
structure TaskRun where
  st : TaskSt := .absent
  was : TaskSt := .absent
  first : Nat := 0
  firstNext : Nat := 0
  pend : Bool := false
  armed : Option Nat := none
  release : Nat := 0
  relUp : Option Nat := none
  slotUp : Option Nat := none
  slotNs : Option Nat := none
  freeRun : Bool := false
  order : Nat := 0
  wdExt : Nat := 0
  latched : Bool := false
  shipped : Bool := false
  ended : Bool := false
  commit : Bool := false
  loops : List Nat := []
  inImg : Tbl InEnt := []
  outImg : Tbl OutEnt := []
  outVal : Tbl Word64 := []
  outForce : Tbl (Option Word64) := []
  regs : Tbl Word64 := []
  frames : List Frame := []
  pc : Nat := 0
  ib : Nat := 0
  suspend : Bool := false
  cold : Bool := false
  skipBreak : Bool := false
  deriving DecidableEq, Repr, Inhabited

/-- A half of a task's retained area (R144, R186): the digest it was written under and its bytes. -/
structure RetHalf where
  digest : List Byte := []
  crcOk : Bool := true
  data : Tbl Byte := []
  deriving DecidableEq, Repr, Inhabited

/-- A task's retained area: two halves and the bank pointer. -/
structure RetArea where
  half0 : RetHalf := {}
  half1 : RetHalf := {}
  cur : Bool := false
  deriving DecidableEq, Repr, Inhabited

/-- The journalled write of a RETAINED slot (R155). -/
structure RetSlot where
  value : Word64
  quality : Nat
  symbol : Nat
  typ : Nat
  deriving DecidableEq, Repr, Inhabited

/-- What a stop by command goes on to once the cycles in progress have completed (R150). -/
inductive AfterStop where
  | stop | warm | cold
  deriving DecidableEq, Repr, Inhabited

/-- A TASK_CTL that waits for the release boundary at which both modules carry it out (R151): PTP ns, target, action,
argument, and the operation that completes with it, where it is of this module's rings. -/
structure HeldCtl where
  due : Nat
  target : Nat
  action : Nat
  arg : Nat
  op : Option OpRef
  deriving DecidableEq, Repr, Inhabited

/-- The controller and the scan pairs. `bank0`, `bank1`: the two program image banks in MRAM, `curBank` the bank
pointer. `img`: the image in the running half of the block-code store. `inst`: instance data, pair k at
524,288 × k. `byCmd`: the STOP was by command and no IMG_LOAD has been accepted since. `lost`: the remote
stations that are lost. `outsSafe`: the field outputs stand at their safe values (STOP_OUT, HOLD_OUT).
`haltUp`: when the halt in HOLD began. `pairTest`: bit k: the core self-test that follows a fault of SPk is to pass; bit
4 + k: an older test of SPk ends before it. `held`: the outputs that a STEP committed and that the field units do not
show yet (R152). `ctl`: TASK_CTL operations that wait for their release boundary (R151).
`trigs`: event tasks whose trigger has come and has not been taken up (R140). -/
structure ScnS where
  bank0 : List Byte := []
  bank1 : List Byte := []
  curBank : Bool := false
  img : Option Image := none
  task : Tbl TaskRun := []
  inst : Tbl Byte := []
  ret : Tbl RetArea := []
  retSlots : Tbl (Option RetSlot) := []
  breaks : List (Nat × Nat) := []
  byCmd : Bool := false
  stopping : Option (AfterStop × List (Nat × OpRef)) := none
  order : Nat := 0
  lost : List Nat := []
  started : Bool := false
  outsSafe : Bool := false
  haltUp : Nat := 0
  pairTest : Nat := 0
  trigs : List Nat := []
  held : List Nat := []
  ctl : List HeldCtl := []
  deriving DecidableEq, Repr, Inhabited

/-- What a force holds (R192, R196). -/
inductive ForceKey where
  | slot (index : Nat)
  | var (task hash typ : Nat)
  deriving DecidableEq, Repr, Inhabited

/-- A force-table entry (R192). -/
structure Force where
  key : ForceKey
  typ : Nat
  value : Word64
  deriving DecidableEq, Repr, Inhabited

/-- One item of a VALUES record (R199). -/
structure ValItem where
  op : Nat
  task : Nat
  typ : Nat
  const : Nat
  hash : Nat
  value : Nat
  deriving DecidableEq, Repr, Inhabited

/-- An IMG_CHANGE in progress (R190). `values`: the items, the tasks that have not passed their boundary,
and the items applied and not applied so far. `switch`: the new image, its bytes, RELEASE_FORCES and when the
checks ended, in ns since the start. -/
inductive Change where
  | values (op : OpRef) (items : List ValItem) (left : List Nat) (applied skipped : Nat)
  | switch (op : OpRef) (bytes : List Byte) (img : Image) (release : Bool) (since : Nat)
  deriving DecidableEq, Repr

/-- The online change unit and the force table. `stamps`: SLOT_TIME and SEQUENCE of the last force operation on a slot
(R197, R320). -/
structure OlcS where
  forces : Tbl (Option Force) := []
  stamps : Tbl (Option (Nat × Nat)) := []
  change : Option Change := none
  deriving DecidableEq, Repr, Inhabited

/-! ## Loop engines -/

/-- A loop slot (R210 to R231). Reals are binary64 bit patterns. `par`: parameters by number K.
`reg`: region gains at 4 × region + field. `thr`: thresholds T1 to T7 at 0 to 6. `stlp`: values STLP
wrote in the cycle; `due`: those of committed cycles. `gains`: KP, TD, TF_N, B, C, KFF and region of the
previous evaluation. `align`: the first evaluation sets I so that v equals the OUT slot's value. `q`: the quantities as at the
end of the last evaluation, by number K. `manOpen`: a change to MANUAL since the load or restart, whose MAN_OUT is the OUT
slot's value at the first evaluation (R217, R218); `manNow`: MAN_OUT is written at the boundary of the coming evaluation. -/
structure LoopSlot where
  task : Nat
  loc : Nat
  pv : Nat
  sp : Nat
  ff : Nat
  out : Nat
  direct : Bool := false
  initAuto : Bool := false
  forceTrack : Bool := false
  feAction : Nat := 0
  pvBadAction : Nat := 0
  sched : Nat := 0
  nreg : Nat := 1
  mem : Option Nat := none
  hyst : Nat := 0
  par : Tbl Nat := []
  reg : Tbl Nat := []
  thr : Tbl Nat := []
  auto : Bool := false
  i : Nat := 0
  dPrev : Nat := 0
  edPrev : Nat := 0
  uPrev : Nat := 0
  rp : Nat := 0
  vel : Nat := 0
  acc : Nat := 0
  feTimer : Nat := 0
  feLatch : Bool := false
  feU : Nat := 0
  region : Nat := 0
  goodPv : Option Nat := none
  goodSp : Option Nat := none
  goodFf : Option Nat := none
  pvBad : Bool := false
  lastRel : Option Nat := none
  reentry : Bool := true
  fresh : Bool := true
  align : Bool := false
  gains : List Nat := []
  q : Tbl Nat := []
  status : Nat := 0
  stlp : List (Nat × Nat) := []
  due : List (Nat × Nat) := []
  numNs : Option Nat := none
  manOpen : Bool := false
  manNow : Bool := false
  deriving DecidableEq, Repr, Inhabited

/-- A repetitive-control memory (R232 to R236): settings, bins as binary32 bit patterns, the open bin with
the sum (binary64) and count of its valid samples, the same with the samples of the cycle in progress (`ncur`,
`nsum`, `ncount`), the bins not yet in the saved copy. -/
structure MemS where
  period : Nat := 0
  nbins : Nat := 0
  mode : Nat := 0
  offset : Nat := 0
  lead : Nat := 0
  gain : Nat := 0
  qf : Nat := 0
  bins : Tbl Nat := []
  cur : Option Nat := none
  sum : Nat := 0
  count : Nat := 0
  ncur : Option Nat := none
  nsum : Nat := 0
  ncount : Nat := 0
  frozen : Bool := false
  unsaved : List Nat := []
  deriving DecidableEq, Repr, Inhabited

/-- The saved copy of a memory in MRAM (R235). -/
structure MemSaved where
  period : Nat := 0
  nbins : Nat := 0
  mode : Nat := 0
  bins : Tbl Nat := []
  deriving DecidableEq, Repr, Inhabited

/-- The states of a trace buffer (R238). -/
inductive TraceSt where
  | idle | armed | triggered | done
  deriving DecidableEq, Repr, Inhabited

/-- A trace buffer (R237, R238). Samples oldest first, each a list of 16-bit nodes. `cfg`: LEn_TRbb_CFG as at the last sample
point; `cmds`: the commands that wait for the next one, oldest first, each with whether it came while a TRACE_FETCH of the
buffer was in flight. -/
structure TraceS where
  st : TraceSt := .idle
  cfgErr : Bool := false
  samples : List (List Nat) := []
  decim : Nat := 0
  trigIdx : Nat := 0
  prev : Option Nat := none
  force : Bool := false
  cfg : Nat := 0
  cmds : List (Nat × Bool) := []
  deriving DecidableEq, Repr, Inhabited

/-- A pending host write of loop state (R229). `task`: the task concerned; `due`: the instant named, PTP ns;
`atRelease`: that instant is a release of the task. -/
structure LeWrite where
  task : Nat
  due : Nat
  atRelease : Bool
  kind : Nat
  target : Nat
  index : Nat
  value : Nat
  persist : Bool
  deriving DecidableEq, Repr, Inhabited

/-- The four loop engines: slot s of engine e at 512 × e + s, memory m at 64 × e + m, trace buffer b at
4 × e + b. `evals`: when engine e evaluated within the last second, in ns since the start. -/
structure LeS where
  slot : Tbl (Option LoopSlot) := []
  mem : Tbl MemS := []
  saved : Tbl MemSaved := []
  trace : Tbl TraceS := []
  wr : Tbl (Option LeWrite) := []
  evals : Tbl (List Nat) := []
  deriving DecidableEq, Repr, Inhabited

/-! ## Loop islands, universal inputs, discrete outputs, DALI and serial ports -/

/-- The states of an island, in the codes of LInn_STATUS.STATE (R259, R263). -/
inductive IslSt where
  | off | driving | standby | yieldIn | yieldOut | autonomous
  deriving DecidableEq, Repr, Inhabited

/-- A ramp of an island's current in codes: from `src` at `startNs` to `dst` after `durNs` (R259). -/
structure Ramp where
  src : Nat
  dst : Nat
  startNs : Nat
  durNs : Nat
  deriving DecidableEq, Repr, Inhabited

/-- An island (R243 to R262). `code`, `qual`: code and quality of the last commit taken since the island left
OFF; none before the first. `derate`: codes taken off the target by R254, and `hot`: the stage is above the
limits of R254. `short`: the most current the loop has been found to take while it is short of compliance or
open. `own`, `peer`: the release lines as the island sees them, before the position-B rule. `recheck`: a
recheck of R257 runs. While the data link is silent the island works from what it had when the link was lost:
`cfg` is LInn_CFG, `held` the code it keeps, and `shown` the STATE, CLOCK, PEER and OWN last reported (R259,
R263). `measNs`: when its measurement registers were last updated. -/
structure IslS where
  st : IslSt := .off
  code : Option Nat := none
  qual : Nat := 1
  ramp : Option Ramp := none
  derate : Nat := 0
  link : Bool := false
  own : Bool := false
  peer : Bool := false
  recheck : Bool := false
  hot : Bool := false
  short : Option Nat := none
  cfg : Nat := 0
  held : Nat := 0
  shown : Nat := 0
  measNs : Option Nat := none
  deriving DecidableEq, Repr, Inhabited

/-- A universal input (R264 to R267): the TYPE in effect, the filtered value (binary32), the contact's state,
the state that successive conversions show and their number, and whether OUT_OF_SERVICE has been written and
the shunt is disconnected. `good`: the last good value written. `conv`: the PTP time at which its last conversion
completed, and `chg`: the writes of its TYPE since, with the time and the TYPE before each (R265). -/
structure UiS where
  typ : Nat := 0
  y : Option Nat := none
  contact : Option Bool := none
  cand : Bool := false
  agree : Nat := 0
  oos : Bool := false
  shuntOff : Bool := false
  good : Option Nat := none
  conv : Option Nat := none
  chg : List (Nat × Nat) := []
  deriving DecidableEq, Repr, Inhabited

/-- The discrete outputs (R269 to R271): bit nn of `on`: driver nn conducts. `hold`: the 100 µs of R271 run.
`retried`: latched outputs that a retry drives again (R270). `stuck`: pins found against their command. -/
structure DoS where
  on : Nat := 0
  own : Bool := false
  peer : Bool := false
  hold : Bool := false
  retried : Nat := 0
  stuck : Nat := 0
  deriving DecidableEq, Repr, Inhabited

/-- A raw DALI frame (R282): 24 bits long, an answer expected, the frame's bits. -/
structure DaliRaw where
  long : Bool
  expect : Bool
  frame : Nat
  deriving DecidableEq, Repr, Inhabited

/-- The forward frame on a DALI bus; `answered`: its backward frame has come. -/
inductive DaliTx where
  | level (dest lvl : Nat)
  | poll (a : Nat) (answered : Bool)
  | raw (answered : Bool)
  deriving DecidableEq, Repr, Inhabited

/-- A DALI master (R272 to R275). `pend`, `sent`, `done`: pending level, level last sent and last committed by
destination. `raw`: the queued or running raw frame; `due`: it has waited 500 ms. `miss`: successive polls
without an answer. `last`: the address polled last. `resend`: a new motor waits for 100 ms of bus idle. -/
structure DaliS where
  pend : Tbl (Option Nat) := []
  sent : Tbl (Option Nat) := []
  done : Tbl (Option Nat) := []
  raw : Option DaliRaw := none
  due : Bool := false
  tx : Option DaliTx := none
  miss : Tbl Nat := []
  last : Nat := 63
  resend : Bool := false
  deriving DecidableEq, Repr, Inhabited

/-- A Modbus entry of the settings (R277): device, function, first address, count, period, format (0 U16,
1 S16, 2 U32, 3 S32, 4 F32), word order (first word high), and remote station, 255 none. -/
structure MbEntry where
  dev : Nat
  fn : Nat
  addr : Nat
  count : Nat
  periodMs : Nat
  fmt : Nat
  highFirst : Bool
  station : Nat
  deriving DecidableEq, Repr, Inhabited

/-- What a serial transaction carries: a poll of Modbus entry `c` or a write of it with a value of a slot type, a poll of
OSDP reader `a` or its pattern. -/
inductive SerKind where
  | mbPoll (c : Nat)
  | mbWrite (c typ : Nat) (v : Word64)
  | osdpPoll (a : Nat)
  | osdpSend (a : Nat) (v : Nat)
  deriving DecidableEq, Repr, Inhabited

/-- A serial port (R276 to R279). `txn`: the transaction and the retries left. `queue`: writes not yet begun.
`last`: value last committed by channel. `fails`: successive failed transactions by device or reader.
`online`: devices that answered last. `silent`: readers declared silent. `wait`: a new motor waits. `session`: the readers
with an open Secure Channel session, and `reopen`: those whose session a switch-over ended (R279). -/
structure SerS where
  txn : Option (SerKind × Nat) := none
  queue : List SerKind := []
  last : Tbl (Option Word64) := []
  fails : Tbl Nat := []
  online : List Nat := []
  silent : List Nat := []
  lost : List Nat := []
  wait : Bool := false
  session : List Nat := []
  reopen : List Nat := []
  deriving DecidableEq, Repr, Inhabited

/-- An OSDP reader of the settings (R276, R279): address and remote station, 255 none. -/
structure OsdpReader where
  addr : Nat
  station : Nat
  deriving DecidableEq, Repr, Inhabited

/-- The field units. `uiFrom`: the PTP time from which a new motor's frames of conversions begin (R268). -/
structure FieldS where
  isl : Tbl IslS := []
  ui : Tbl UiS := []
  dout : DoS := {}
  dali : Tbl DaliS := []
  ser : Tbl SerS := []
  uiFrom : Nat := 0
  deriving DecidableEq, Repr, Inhabited

/-! ## CAN FD -/

/-- The states of a transmit buffer, in the codes of CANn_TXBUF_STAT.STATE (R341). -/
inductive TxSt where
  | empty | waitTime | pending | active | sent | cancelled | sentLate
  deriving DecidableEq, Repr, Inhabited

/-- A transmit buffer (R341 to R345, R350). `ctl`: bits 8:0 of CANn_TXBUF_CTL. `data`: byte k at bits 8k.
`cancel`: a cancel came too late. `refill`: new content waits for the end of the attempt, in `next`. -/
structure TxBuf where
  ctl : Nat := 0
  id : Nat := 0
  time : Nat := 0
  data : Nat := 0
  st : TxSt := .empty
  attempts : Nat := 0
  coalesced : Nat := 0
  echoed : Bool := false
  late : Bool := false
  cancel : Bool := false
  refill : Bool := false
  next : Option Nat := none
  deriving DecidableEq, Repr, Inhabited

/-- An acceptance filter as its registers hold it (R349). -/
structure CanFilter where
  id : Nat := 0
  mask : Nat := 0
  ctl : Nat := 0
  hits : Nat := 0
  deriving DecidableEq, Repr, Inhabited

/-- A received frame in a FIFO (R349): flags are bits 8:0 of CANn_RXFff_CTL. -/
structure CanRx where
  id : Nat
  flags : Nat
  filter : Nat
  data : Nat
  ts : Nat
  deriving DecidableEq, Repr, Inhabited

/-- A CAN controller. -/
structure CanS where
  buf : Tbl TxBuf := []
  flt : Tbl CanFilter := []
  fifo0 : List CanRx := []
  fifo1 : List CanRx := []
  deriving DecidableEq, Repr, Inhabited

/-- A signal of the settings (R350): filter or MAPPED buffer, start bit, length, byte order, format
(0 UNSIGNED, 1 SIGNED, 2 FLOAT32, 3 FLOAT64) and, for transmit, ON_CHANGE and PERIOD in ms, 0 none. -/
structure CanSig where
  ref : Nat
  start : Nat
  len : Nat
  big : Bool
  fmt : Nat
  onChange : Bool
  periodMs : Nat
  deriving DecidableEq, Repr, Inhabited

/-- A MAPPED buffer of the settings (R341): number, CTL bits 8:0 and identifier. -/
structure CanMapped where
  buf : Nat
  ctl : Nat
  id : Nat
  deriving DecidableEq, Repr, Inhabited

/-- The CAN settings of a controller (R341, R350, R353): MAPPED buffers, signals by channel, filters. -/
structure CanSet where
  mapped : List CanMapped := []
  rx : List CanSig := []
  tx : List CanSig := []
  flt : Tbl CanFilter := []
  deriving DecidableEq, Repr, Inhabited

/-! ## Settings records and the safety manager's reports -/

/-- An Ethernet remote station of the settings (R365, R368): station, source address, EtherType or UDP port of its frames,
and timeout in ms. -/
structure EthStn where
  station : Nat
  src : List Byte
  etype : Option Nat
  udp : Option Nat
  timeoutMs : Nat
  deriving DecidableEq, Repr, Inhabited

/-- The settings records beside those of registers (R277, R278, R341, R350, R351, R368): they come from the
manufacturer's configuration tool and no command writes them. `eth`: Ethernet stations by MAC.
`own`: candidates and AUTO of every block, and the blocks that the module's own node owns (R111). -/
structure SetS where
  mb : Tbl (List MbEntry) := []
  osdp : Tbl (List OsdpReader) := []
  can : Tbl CanSet := []
  eth : Tbl (List EthStn) := []
  own : Tbl Own := []
  deriving DecidableEq, Repr, Inhabited

/-- A fault detected and not yet declared (R445): CLASS, unit, instance, program counter or word. -/
structure FaultRep where
  cls : Nat
  unit : Nat
  inst : Nat
  pc : Nat
  deriving DecidableEq, Repr, Inhabited

/-! ## Metering -/

/-- A commit in a journal bank (R299): totals of 128 bits by accumulator number. -/
structure Commit where
  seq : Nat
  time : Nat
  id : Nat
  kind : Nat
  totals : Tbl Nat
  wrapped : List Nat
  deriving DecidableEq, Repr, Inhabited

/-- A step of the assay rotation (R307, R310): channel 0 to 47 or 48 REF; a calibration; from the queue. -/
structure MtrStep where
  target : Nat
  cal : Bool
  queued : Bool
  endNs : Nat
  deriving DecidableEq, Repr, Inhabited

/-- The metering domain (R284 to R312). `tot`: totals in units of 2^−96 by accumulator number; `wrapped`: the
totals with WRAPPED set. `done`: the totals of the last completed block in units of 2^−32, `doneTime` its end, `doneUp` that end by the module's own
clock, `doneIdle` its NO_LOAD channels, `doneWr` its WRAPPED flags; `sec`: the totals of the block that ended at the last
1 s boundary (R298). `adopted`: the block of the last shipment adopted. `restored`: the journal has been restored since the start. `held`: a block's end whose completion awaits the butty (R301). `own`: the
module's own increments by block end, newest last. `old`: (register, old value, ns of the write) of
configuration writes not yet in effect; point k of a gain table stands at 2^24 + k. `wave`: the samples of the last block, `sq`:
the sums of the squares of its corrected samples over the last 200 blocks, by converter (48 CT48, 49 to 52 L1, L2, L3 and N);
`pw`, `qw`: P and Q of the last 200 blocks by channel. `bank0`, `bank1`: the bytes of the journal's banks. `gapFrom`:
COMMIT_TIME from which a measurement gap runs. `overrange`: by channel, ns of the last OVERRANGE record, and blocks
since. `winOwn`, `winBase`: own increments and motor's totals at the start of the window of R302.
`gain`, `phase`: active tables at 32 × channel + point; `fgain`, `fphase`: factory tables; `badTable`: channels
whose active table fails its CRC; `staged`: staged gain (2p) and phase (2p + 1) of port p. `dieT`, `modT`: the
last ten readings. `rot`: the position of the regular rotation; `again`: calibrations repeated at the regular
visit; `fails`: successive failing visits; `refNs`: end of the last REF step. -/
structure MtrS where
  tot : Tbl Nat := []
  wrapped : List Nat := []
  done : Tbl Nat := []
  doneTime : Nat := 0
  doneUp : Nat := 0
  doneIdle : List Nat := []
  doneWr : List Nat := []
  sec : Tbl Nat := []
  adopted : Nat := 0
  restored : Bool := false
  wave : Tbl (List Int) := []
  sq : Tbl (List Nat) := []
  pw : Tbl (List Int) := []
  qw : Tbl (List Int) := []
  held : Option (Nat × List Nat) := none
  last : Nat := 0
  own : List (Nat × Tbl Nat) := []
  old : List (Nat × Nat × Nat) := []
  bank0 : List Byte := []
  bank1 : List Byte := []
  gapFrom : Option Nat := none
  overrange : Tbl (Option Nat × Nat) := []
  winOwn : Tbl Nat := []
  winBase : Tbl Nat := []
  winLast : Tbl Nat := []
  gain : Tbl Int := []
  phase : Tbl Int := []
  fgain : Tbl Int := []
  fphase : Tbl Int := []
  badTable : List Nat := []
  staged : Tbl (Option Nat) := []
  dieT : List Int := []
  modT : List Int := []
  rot : Nat := 48
  step : Option MtrStep := none
  queue : List (Nat × Bool) := []
  again : List Nat := []
  fails : Tbl Nat := []
  refNs : Option Nat := none
  deriving DecidableEq, Repr, Inhabited

/-! ## Security -/

/-- A partition of the key store (R415, R419): slots as blobs under the store KEK with attribute and length, the operator
key (empty: none) and the token counters by kind. -/
structure KeyPart where
  slots : Tbl (Option (List Byte × Nat × Nat)) := []
  opKey : List Byte := []
  ctr : Tbl Nat := []
  deriving DecidableEq, Repr, Inhabited

/-- The security core (R408 to R421). `debug`: debug is in force, which selects the partition (R419);
`debugNext`: the state pending for the next module reset. `rootOk`: the device root is there. `key`: the key in
the crucible. `ctx0`, `ctx1`: the tags bound to each context in the production and the debug partition (R97). -/
structure SecS where
  debug : Bool := false
  debugNext : Bool := false
  rootOk : Bool := false
  key : List Byte := []
  prod : KeyPart := {}
  test : KeyPart := {}
  ctx0 : Tbl (List Nat) := []
  ctx1 : Tbl (List Nat) := []
  deriving DecidableEq, Repr, Inhabited

/-! ## Duplex pair -/

/-- INPUTS that came before the release of their cycle (R319). -/
structure InBuf where
  ref : Nat
  entries : List ShipEnt
  outs : List (Nat × Option Word64)
  deriving DecidableEq, Repr, Inhabited

/-- The duplex unit (R313 to R337). `seqReport`: the last SEQ_REPORT value held (R18, R323). `fitted`: DPX_PRESENT_N
was low at start-up (R259). `alone`: the module is motor without a partner (R313). `releaseOut`: the line DPX_RELEASE_OUT (R258). By task: `own`, REF and output hash of a
commit whose partner's hash has not come; `peer`, a partner's hash that came before the own commit; `inCrc`, REF and
CRC-64 of the input image last used; `inbuf`, INPUTS that came before the release; `shipUp`, when shipping began, in ns.
`xc`: task and REF of the cross-check in progress; `xcPeer`: the CRC of the partner's XCHECK. `grantLow`: when GRANT_IN was taken low; `abdAt`: when an ABDICATE came; `silentAt`: when ALIVE_IN was
judged silent; `downAt`: since when both lanes are down (all in ns since the start). `taking`: cause and start of a takeover in preparation. `switchAt`: the boundary of a
planned switch, PTP ns. `waitFrom`: since when the motor waits for
a gap of a join. `imageSent`: the motor has sent its image in the present join. `xcAbd`: the last cross-check ended with
the motor's abdication. -/
structure DpxS where
  seqReport : Option Nat := none
  fitted : Bool := false
  alone : Bool := true
  releaseOut : Bool := false
  own : Tbl (Option (Nat × Nat)) := []
  peer : Tbl (Option (Nat × Nat)) := []
  inCrc : Tbl (Nat × Nat) := []
  inbuf : Tbl (Option InBuf) := []
  shipUp : Tbl (Option Nat) := []
  xc : Option (Nat × Nat) := none
  xcPeer : Option Nat := none
  grantLow : Option Nat := none
  abdAt : Option Nat := none
  silentAt : Option Nat := none
  downAt : Option Nat := none
  taking : Option (Nat × Nat) := none
  switchAt : Option Nat := none
  waitFrom : Option Nat := none
  imageSent : Bool := false
  xcAbd : Bool := false
  deriving DecidableEq, Repr, Inhabited

/-! ## Firmware update -/

/-- A part of a firmware image (R426): interfaces as (ID, MAJOR, MINOR). -/
structure FwPart where
  cls : Nat
  first : Nat
  count : Nat
  format : Nat
  version : Nat
  provides : List (Nat × Nat × Nat)
  requires : List (Nat × Nat × Nat)
  deriving DecidableEq, Repr, Inhabited

/-- A firmware bank (R425, R428): the items accepted; `hallOk`: the hallmark has been accepted; `factory`: the bank holds
the image that the module left the factory with, whose bytes the manual does not give. -/
structure FwBank where
  factory : Bool := false
  header : List Byte := []
  table : List Byte := []
  hallmark : List Byte := []
  hallOk : Bool := false
  blocks : Tbl (Option (List Byte)) := []
  deriving DecidableEq, Repr, Inhabited

/-- A copy of the part map (R424): bit p of `banks` is the bank of part p. -/
structure PartMap where
  seq : Nat := 0
  banks : Nat := 0
  ok : Bool := true
  deriving DecidableEq, Repr, Inhabited

/-- The stages of an armed activation: waiting for its gap, for a network time, the island hand-over with the number of islands
switched and what follows (0 done, 1 the soak, 2 back on the old code), the soak of a pair, the planned switch of a pair, the gap of the former motor, and the butty's gap back to the old code. -/
inductive ArmStage where
  | gap | net | islands (next after : Nat) | soak | switch | former | back
  deriving DecidableEq, Repr, Inhabited

/-- An armed activation (R432 to R436): mask, ARG2, caller, stage, and when the present stage began, in ns since the
start. `pair`: it is the sequence of R434. -/
structure Armed where
  mask : Nat
  arg2 : Nat
  caller : Nat
  stage : ArmStage
  since : Nat
  pair : Bool
  deriving DecidableEq, Repr, Inhabited

/-- The original settings records of a part's groups, kept until its migration is confirmed (R12, R439): their format, the
records of registers, the other records. -/
structure KeptRecs where
  format : Nat
  regs : Tbl Word
  set : SetS
  deriving DecidableEq, Repr, Inhabited

/-- Firmware update (R423 to R442). `stored`: format of each part's current settings records, none: the factory image's; `kept`: the
originals of each part's unconfirmed migration. `lastBank`: the bank most recently staged. `recovery`: the module is in recovery. -/
structure FwuS where
  map0 : PartMap := {}
  map1 : PartMap := {}
  bank0 : FwBank := { factory := true }
  bank1 : FwBank := {}
  stored : Tbl (Option Nat) := []
  kept : Tbl (Option KeptRecs) := []
  armed : Option Armed := none
  lastBank : Nat := 0
  recovery : Bool := false
  deriving DecidableEq, Repr, Inhabited

/-! ## Ethernet and network time -/

/-- A frame queued for transmission (R366): class (0 PTP, 1 Zader, 2 station, 3 other), length with FCS before padding,
tagging and destination kind (0 unicast, 1 multicast, 2 broadcast); `stamp`: the event message whose departure stamp the
queue of R380 takes, `oneStep` (R379). -/
structure TxFrame where
  cls : Nat
  len : Nat
  tagged : Bool
  dest : Nat
  oneStep : Bool
  stamp : Option (Nat × Nat)
  deriving DecidableEq, Repr, Inhabited

/-- A MAC (R354 to R369). `tx`: queued frames, oldest first. `rx`: frames that wait in the receive ring for network core NC0,
class counter and length, oldest first (R365, R366, R447). `pauseEnd`: end of the pause timer and `pauseSpeed` its speed
code; `heldFrom`: since when the transmitter has been held without a break, `paidNs`: up to when TX_PAUSED_US has counted,
`fracNs`: the fraction carried forward, `warned`: PAUSE_LONG was raised in the hold. `own`: bins that the module needs, by
register. `medium`: the medium read from the SFP+ module, 1 10GBASE-R, 2 1000BASE-X. -/
structure EthS where
  tx : List TxFrame := []
  rx : List (Nat × Nat) := []
  pauseEnd : Option Nat := none
  pauseSpeed : Nat := 0
  heldFrom : Option Nat := none
  paidNs : Nat := 0
  fracNs : Nat := 0
  warned : Bool := false
  own : Tbl Nat := []
  medium : Nat := 0
  deriving DecidableEq, Repr, Inhabited

/-- A queued stamp (R380): MAC, corrected stamp in units of 0.1 ns, messageType, domainNumber, sequenceId, CRC of
sourcePortIdentity. -/
structure Stamp where
  mac : Nat
  time : Int
  kind : Nat
  domain : Nat
  seq : Nat
  crc : Nat
  deriving DecidableEq, Repr, Inhabited

/-- The master that the clock follows (R372, R376): port, sourcePortIdentity, grandmaster. -/
structure Master where
  port : Nat
  src : Nat
  gm : Nat
  deriving DecidableEq, Repr, Inhabited

/-- An Announce held of a port (R375): the data that the best master clock algorithm compares. -/
structure AnnounceSet where
  src : Nat
  gm : Nat
  rank : Nat
  steps : Nat
  deriving DecidableEq, Repr, Inhabited

/-- Network time (R371 to R382). Times of stamps and differences are in units of 0.1 ns. `est`: the servo's frequency
estimate. `locks`: successive Syncs within LOCK_NS. `delay`: the measured path delay by port; `diff`: of the last Sync
by port, receive stamp less origin and corrections. `sync`: a two-step Sync that waits for its Follow_Up, as (port, source,
sequence, receive stamp, correction). `req`, `pdreq`: the Delay_Req and Pdelay_Req in progress by port, as (sequence, transmit
stamp); `presp`: a Pdelay_Resp that waits for its follow-up, as (sequence, receive stamp, request's receive time, correction).
`answers`: Pdelay_Reqs answered whose follow-up waits for the transmit stamp, as (port, sequence, requester). `announce`:
Announce data by port. `seqs`: next sequenceId by 16 × port + messageType. `holdUp`: when the holdover began. `txq`, `rxq`: the
stamp queues; `taken`: entries that NC0 has taken and not yet matched. -/
structure PtpS where
  est : Nat := 0x80000000
  locks : Nat := 0
  delay : Tbl Int := []
  diff : Tbl Int := []
  sync : Option (Nat × Nat × Nat × Int × Int) := none
  req : Tbl (Option (Nat × Option Int)) := []
  pdreq : Tbl (Option (Nat × Option Int)) := []
  presp : Tbl (Option (Nat × Int × Int × Int)) := []
  answers : List (Nat × Nat × Nat) := []
  announce : Tbl (Option AnnounceSet) := []
  master : Option Master := none
  seqs : Tbl Nat := []
  holdUp : Nat := 0
  txq : List Stamp := []
  rxq : Tbl (List Stamp) := []
  taken : List Stamp := []
  deriving DecidableEq, Repr, Inhabited

/-! ## Backup domain -/

/-- The backup domain (R383 to R397) beside its count, which the clocks hold. `next`: NEXT of the wake; `alarm`: the alarm
in force; `trim`: the TRIM in force in the window that began at `win`, `pulse` its next pulse; `setTo`: a SET_COUNT that
waits for its edge; `capture`: a CAPTURE waits; `lockout`: the domain is locked out; `stopped`: the crystal has stopped. -/
structure BkdS where
  next : Nat := 0
  alarm : Nat := 0
  trim : Int := 0
  win : Nat := 0
  pulse : Nat := 0
  setTo : Option Nat := none
  capture : Bool := false
  lockout : Bool := false
  stopped : Bool := false
  deriving DecidableEq, Repr, Inhabited

/-! ## Safety and assay -/

/-- A target of the assay (R450 to R453): state (0 idle, 1 pending, 2 running), result, forced slices, slices, PTP time of
the last completed test; `again`: one further test is queued, `againCal` a calibration; `cal`: a calibration is requested; `inSlice`; `since`: when it
began to run, in ns since the start. -/
structure Target where
  st : Nat := 0
  result : Nat := 0
  forced : Nat := 0
  slices : Nat := 0
  time : Nat := 0
  again : Bool := false
  againCal : Bool := false
  cal : Bool := false
  inSlice : Bool := false
  since : Nat := 0
  deriving DecidableEq, Repr, Inhabited

/-- The safety manager (R445 to R448) and the assay controller. `storm`: tick counts of the last three safety resets,
newest first. `hour`: corrections since `hourFrom`; `hourSent`: ECC_HIGH was raised in the hour. `missed`: last heartbeat
miss by unit, in ns since the start. `stopStart`: the start in progress follows a reset of the safety manager, `stormy`: a reset storm (R446).  -/
structure SafS where
  storm : List Nat := []
  hour : Nat := 0
  hourFrom : Nat := 0
  hourSent : Bool := false
  missed : Tbl (Option Nat) := []
  restarting : List Nat := []
  stopStart : Bool := false
  stormy : Bool := false
  targets : Tbl Target := []
  deriving DecidableEq, Repr, Inhabited

/-- A part of the state that a joining module takes over (R334): instance data from a key on, a register, a task, a loop
slot, a pending loop-state write, a memory, an owned slot, a force-table entry, the breakpoints, the stored code of an
island, the stored driver states, the last SEQ_REPORT value. -/
inductive XferItem where
  | bytes (base : Nat) (l : List Byte)
  | reg (a : Nat) (v : Word)
  | task (n : Nat) (r : TaskRun)
  | loop (key : Nat) (x : Option LoopSlot)
  | write (e : Nat) (w : Option LeWrite)
  | mem (key : Nat) (m : MemS)
  | slot (i : Nat) (x : Slot)
  | force (n : Nat) (f : Option Force)
  | breaks (l : List (Nat × Nat)) (byCmd : Bool)
  | island (n : Nat) (code : Option Nat) (qual : Nat)
  | drivers (on : Nat)
  | seq (n : Nat)
  deriving DecidableEq, Repr

/-- What a FORWARD message carries (R320): a slot write, a loop-state write (R229), a TASK_CTL action with its release
boundary (R151), an image (R190, R333), an IMG_CHANGE with its kind and RELEASE_FORCES (R207). `bankOk`: this module's own
inactive bank was written and read back without error. -/
inductive Fwd where
  | slot (m : FwdMsg)
  | loopWrite (cmd : List Nat)
  | taskCtl (target action arg : Nat) (due : Option Nat)
  | image (bytes : List Byte) (bankOk : Bool)
  | change (kind : Nat) (bytes : List Byte) (release bankOk : Bool)
  deriving DecidableEq, Repr

/-- A HELLO message (R333): straps, node, building, control-class interfaces with their MAJOR, image DIGEST, pair health, HOLD, phase
RESYNC, and the settings as the sender holds them. -/
structure HelloMsg where
  almHi : Nat
  pos : Bool
  node : Nat
  building : Nat
  provides : List (Nat × Nat)
  digest : List Byte
  pairsOk : Bool
  hold : Bool
  inResync : Bool
  settings : Tbl Word
  set : SetS
  deriving DecidableEq, Repr, Inhabited

/-- The towline messages that the module sends (R318). -/
inductive TowMsg where
  | inputs (task ref : Nat) (entries : List ShipEnt) (outs : List (Nat × Option Word64))
  | inputsAck (task ref : Nat)
  | hash (task ref h : Nat)
  | forward (m : FwdMsg)
  | loopWrite (cmd : List Nat)
  | taskCtl (task action arg : Nat) (due : Option Nat)
  | image (bytes : List Byte)
  | change (kind : Nat) (bytes : List Byte) (release : Bool)
  | verdict (reason sect index : Nat)
  | totals (time id : Nat) (wrapped : List Nat) (l : List (Nat × Nat))
  | totalsAck (time : Nat)
  | seqReport (seq : Nat)
  | abdicate
  | notReady
  | xcheck (task ref inCrc : Nat)
  | switchAt (t : Nat)
  | hello (h : HelloMsg)
  | xfer (items : List XferItem) (kib : Nat)
  deriving DecidableEq, Repr, Inhabited

/-- What the module sends to the outside. A Zader frame and a PTP message stand here when they are handed to a MAC; `time` is
the time that a PTP message carries, in units of 0.1 ns. A DALI forward frame is its 16 or 24 bits (R272); a serial port sends
the bytes of a Modbus request at its BAUD and PARITY, or an OSDP command to a reader: a poll, or an LED and buzzer pattern. -/
inductive Out where
  | msix (port vec : Nat)
  | readData (port addr value : Nat)
  | hostWrite (port addr : Nat) (data : List Byte)
  | zader (link : Nat) (group : List Byte) (udp hops : Nat) (payload : List Byte)
  | ptp (mac kind seq : Nat) (time : Int) (requester : Nat)
  | towline (m : TowMsg)
  | dali (bus : Nat) (long : Bool) (frame : Nat)
  | serial (port baud parity : Nat) (bytes : List Byte)
  | osdp (port baud addr : Nat) (pattern : Option Nat)
  deriving DecidableEq, Repr

end Sys2Proof.Machine
end

