-- ==== Sys2Proof/Syntax.lean ====
section
/-! DEFINITION. The commands of the block: one constructor of `Instr` for each row of the command table
(opcode_table.json), with the data each command carries from outside the module. -/

namespace Sys2Proof

open Sys2Proof.Machine

/-- The commands, one constructor for each row of the command table, in the table's order. -/
inductive Instr where
  /-- POWER_FAIL_DETECT (R51) -/
  | powerFailDetect (vin bank : Fin 65536)
  /-- POWER_FAIL_COMMIT (R300) -/
  | powerFailCommit
  /-- BANK_AT_21V (R51) -/
  | bankAt21v
  /-- RAILS_OFF (R50) -/
  | railsOff
  /-- VIN_QUALIFY (R50) -/
  | vinQualify
  /-- BANK_MEASURE (R54) -/
  | bankMeasure (energy : Fin 65536)
  /-- XTAL_FAIL (R49) -/
  | xtalFail
  /-- SOFTWARE_RESET (R66) -/
  | softwareReset (p : Fin 2) (v : Word)
  /-- MODULE_RESET (R59) -/
  | moduleReset
  /-- RESET_DOMAINS (R59) -/
  | resetDomains (x : StrapPins)
  /-- SM_WATCHDOG_EXPIRE (R57) -/
  | smWatchdogExpire
  /-- PORT_RESET (R57) -/
  | portReset (p : Fin 2) (kind : PortResetKind)
  /-- FUNCTION_LEVEL_RESET (R57) -/
  | functionLevelReset (p : Fin 2)
  /-- POR_HOLD_END (R60) -/
  | porHoldEnd (x : StrapPins)
  /-- BOOT_VERIFY_DONE (R438) -/
  | bootVerifyDone (f : BootFind)
  /-- KEEL_START_DONE (R60) -/
  | keelStartDone (epochOk : Bool)
  /-- BANK_CHARGED (R60) -/
  | bankCharged
  /-- DOMAIN_START (R60) -/
  | domainStart (f : MramFind)
  /-- DOMAIN_START_DONE (R121) -/
  | domainStartDone
  /-- RESYNC_PHASE_END (R121) -/
  | resyncPhaseEnd
  /-- RING_ENABLE (R72) -/
  | ringEnable (p : Fin 2) (cq : Bool) (n : Fin 64) (v : Word)
  /-- SQ_DISABLE (R73) -/
  | sqDisable (p : Fin 2) (n : Fin 64) (v : Word)
  /-- CQ_DISABLE (R73) -/
  | cqDisable (p : Fin 2) (n : Fin 64) (v : Word)
  /-- SQ_TAIL_DOORBELL (R75) -/
  | sqTailDoorbell (p : Fin 2) (n : Fin 64) (v : Word)
  /-- CQ_HEAD_DOORBELL (R75) -/
  | cqHeadDoorbell (p : Fin 2) (n : Fin 64) (v : Word)
  /-- ENTRY_FETCH (R76) -/
  | entryFetch (p : Fin 2) (entry : Option (List Byte))
  /-- COMPLETION_WRITE (R80) -/
  | completionWrite (p : Fin 2) (n : Fin 64) (ok : Bool)
  /-- COALESCING_TIMER (R91) -/
  | coalescingTimer (p : Fin 2) (n : Fin 64)
  /-- IRQ_SOURCE_EDGE (R92) -/
  | irqSourceEdge (src : Fin 64)
  /-- SUBSCRIPTION_NOTIFY (R87) -/
  | subscriptionNotify (p : Fin 2) (n : Fin 64) (ok : Bool)
  /-- NOP (R84) -/
  | nop (r : OpRef)
  /-- PT_READ (R85) -/
  | ptRead (r : OpRef) (b : HostBuf)
  /-- PT_WRITE (R86) -/
  | ptWrite (r : OpRef)
  /-- PT_SUBSCRIBE (R87) -/
  | ptSubscribe (r : OpRef)
  /-- PT_SUBSCRIBE_CANCEL (R87) -/
  | ptSubscribeCancel (r : OpRef)
  /-- PT_FORCE (R193) -/
  | ptForce (r : OpRef)
  /-- PT_UNFORCE (R195) -/
  | ptUnforce (r : OpRef)
  /-- IMG_LOAD (R187) -/
  | imgLoad (r : OpRef) (b : HostBuf) (bankOk : Bool) (partner : Option (Nat × Nat × Nat))
  /-- IMG_CHANGE_VALUES (R199) -/
  | imgChangeValues (r : OpRef) (b : HostBuf) (partner : Option (Nat × Nat × Nat))
  /-- IMG_CHANGE_SWITCH (R203) -/
  | imgChangeSwitch (r : OpRef) (b : HostBuf) (bankOk : Bool) (partner : Option (Nat × Nat × Nat))
  /-- TASK_RUN (R150) -/
  | taskRun (r : OpRef)
  /-- TASK_STOP (R150) -/
  | taskStop (r : OpRef)
  /-- TASK_HOLD (R150) -/
  | taskHold (r : OpRef)
  /-- WARM_RESTART (R155) -/
  | warmRestart (r : OpRef)
  /-- COLD_RESTART (R155) -/
  | coldRestart (r : OpRef)
  /-- STEP (R152) -/
  | stepTask (r : OpRef)
  /-- CONTINUE (R150) -/
  | continueTasks (r : OpRef)
  /-- SET_BREAK (R153) -/
  | setBreak (r : OpRef)
  /-- CLEAR_BREAK (R153) -/
  | clearBreak (r : OpRef)
  /-- SUSPEND (R154) -/
  | suspendTask (r : OpRef)
  /-- RESUME (R154) -/
  | resumeTask (r : OpRef)
  /-- TRIGGER (R140) -/
  | ringTrigger (r : OpRef)
  /-- ARM_TIME (R140) -/
  | armTime (r : OpRef)
  /-- LOG_READ (R406) -/
  | logRead (r : OpRef) (b : HostBuf) (damaged : List (Nat × List Byte))
  /-- LOG_CLEAR (R406) -/
  | logClear (r : OpRef) (b : HostBuf)
  /-- LOG_CLEAR_SWITCH (R406) -/
  | logClearSwitch
  /-- MTR_SNAP (R295) -/
  | mtrSnap (r : OpRef) (b : HostBuf)
  /-- TRACE_FETCH (R239) -/
  | traceFetch (r : OpRef) (b : HostBuf)
  /-- DERIVE (R411) -/
  | derive (r : OpRef)
  /-- UNWRAP (R411) -/
  | unwrap (r : OpRef) (b : HostBuf)
  /-- LOAD_SLOT (R411) -/
  | loadSlot (r : OpRef)
  /-- GENERATE (R411) -/
  | generate (r : OpRef) (b : HostBuf)
  /-- STORE (R411) -/
  | store (r : OpRef) (b : HostBuf)
  /-- ERASE_SLOT (R411) -/
  | eraseSlot (r : OpRef)
  /-- ENCRYPT (R411) -/
  | encrypt (r : OpRef) (b : HostBuf)
  /-- DECRYPT (R411) -/
  | decrypt (r : OpRef) (b : HostBuf)
  /-- KEY_CLEAR (R411) -/
  | keyClear (r : OpRef)
  /-- SET_OPERATOR (R417) -/
  | setOperator (r : OpRef) (b : HostBuf)
  /-- DEBUG_UNLOCK (R419) -/
  | debugUnlock (r : OpRef) (b : HostBuf)
  /-- DEBUG_LOCK (R419) -/
  | debugLock (r : OpRef)
  /-- EXPORT_TEST (R411) -/
  | exportTest (r : OpRef) (b : HostBuf)
  /-- ATTEST (R420) -/
  | attest (r : OpRef) (b : HostBuf)
  /-- CTX_BIND (R97) -/
  | ctxBind (r : OpRef) (b : HostBuf)
  /-- GATE_TAKE (R93) -/
  | gateTake (p : Fin 2) (n : Fin 64)
  /-- GATE_RENEW (R94) -/
  | gateRenew (p : Fin 2) (n : Fin 64) (ms : Fin 1024)
  /-- GATE_RELEASE (R94) -/
  | gateRelease (p : Fin 2) (n : Fin 64)
  /-- LEASE_EXPIRE (R94) -/
  | leaseExpire (n : Fin 64)
  /-- GATE_AUDIT_SECOND (R96) -/
  | gateAuditSecond (n : Fin 64)
  /-- CTX_DENY_SECOND (R98) -/
  | ctxDenySecond (c : Fin 256)
  /-- REGISTER_WRITE (R462) -/
  | registerWrite (p : Fin 2) (w : HostSpace) (a : Nat) (data : List (Option Byte))
  /-- SNAP_READ (R3) -/
  | snapRead (p : Fin 2) (w : HostSpace) (a len : Nat)
  /-- RC_READ (R3) -/
  | rcRead (p : Fin 2) (a len : Nat)
  /-- UPDATE_FRAME_SEND (R115) -/
  | updateFrameSend
  /-- HEARTBEAT_SEND (R115) -/
  | heartbeatSend
  /-- REFRESH_SWEEP (R115) -/
  | refreshSweep
  /-- ZADER_FRAME_RECEIVE (R116) -/
  | zaderFrameReceive (link : Fin 2) (payload : List Byte)
  /-- RESYNC_REQ_SEND (R119) -/
  | resyncReqSend (target : Fin 256)
  /-- BLOCK_SERVICE (R119) -/
  | blockService
  /-- RESYNC_RETRY (R119) -/
  | resyncRetry (b : Fin 256)
  /-- ORIGIN_SILENT (R120) -/
  | originSilent (o : Fin 256)
  /-- AUTO_TAKEOVER (R126) -/
  | autoTakeover (b : Fin 256)
  /-- OWN_RELEASE (R125) -/
  | ownRelease (p : Fin 2) (b : Fin 256) (n : Fin 256)
  /-- OWN_RELEASE_EFFECTIVE (R125) -/
  | ownReleaseEffective (b : Fin 256)
  /-- OWN_CLAIM (R126) -/
  | ownClaim (p : Fin 2) (b : Fin 256)
  /-- PIX_SCRUB (R131) -/
  | pixScrub (upsets : List (Nat × Nat))
  /-- CYCLIC_RELEASE (R139) -/
  | cyclicRelease (n : Fin 32)
  /-- EVENT_TRIGGER (R140) -/
  | eventTrigger (n : Fin 96)
  /-- TIME_TRIGGER_FIRE (R140) -/
  | timeTriggerFire (n : Fin 96)
  /-- EVENT_RELEASE (R140) -/
  | eventRelease (n : Fin 96)
  /-- INPUT_LATCH (R142) -/
  | inputLatch (n : Fin 96)
  /-- OUTPUT_COMMIT (R143) -/
  | outputCommit (n : Fin 96)
  /-- RETAINED_BANK_SWITCH (R144) -/
  | retainedBankSwitch (n : Fin 96)
  /-- TASK_WATCHDOG_EXPIRE (R147) -/
  | taskWatchdogExpire (n : Fin 96)
  /-- BREAKPOINT_HIT (R150) -/
  | breakpointHit (n : Fin 96)
  /-- PAIR_COMPARE_MISMATCH (R134) -/
  | pairCompareMismatch (k : Fin 4)
  /-- NOP_INSTRUCTION (R170) -/
  | nopInstruction (k : Fin 4)
  /-- BR (R170) -/
  | br (k : Fin 4) (disp : Fin 524288)
  /-- BRT (R170) -/
  | brt (k : Fin 4) (a : Fin 64) (disp : Fin 524288)
  /-- BRF (R170) -/
  | brf (k : Fin 4) (a : Fin 64) (disp : Fin 524288)
  /-- CALL (R167) -/
  | callFn (k : Fin 4) (a : Fin 64) (f : Fin 524288)
  /-- RET (R167) -/
  | retFn (k : Fin 4)
  /-- ASSERT (R170) -/
  | assertReg (k : Fin 4) (a : Fin 64) (imm : Fin 524288)
  /-- SYS (R171) -/
  | sysRead (k : Fin 4) (d : Fin 64) (imm : Fin 8)
  /-- MOV (R170) -/
  | movReg (k : Fin 4) (d a : Fin 64)
  /-- LDI (R170) -/
  | ldi (k : Fin 4) (d : Fin 64) (imm : Fin 524288)
  /-- LDK (R170) -/
  | ldk (k : Fin 4) (d : Fin 64) (imm : Fin 524288)
  /-- SEL (R170) -/
  | sel (k : Fin 4) (d a b c : Fin 64)
  /-- LDB (R170) -/
  | ldb (k : Fin 4) (d a : Fin 64) (off : Fin 8192)
  /-- LDW (R170) -/
  | ldw (k : Fin 4) (d a : Fin 64) (off : Fin 8192)
  /-- LDWU (R170) -/
  | ldwu (k : Fin 4) (d a : Fin 64) (off : Fin 8192)
  /-- LDD (R170) -/
  | ldd (k : Fin 4) (d a : Fin 64) (off : Fin 8192)
  /-- STB (R170) -/
  | stb (k : Fin 4) (src a : Fin 64) (off : Fin 8192)
  /-- STW (R170) -/
  | stw (k : Fin 4) (src a : Fin 64) (off : Fin 8192)
  /-- STD (R170) -/
  | std (k : Fin 4) (src a : Fin 64) (off : Fin 8192)
  /-- LDIN (R174) -/
  | ldin (k : Fin 4) (d : Fin 64) (i : Fin 4096)
  /-- LDIQ (R174) -/
  | ldiq (k : Fin 4) (d : Fin 64) (i : Fin 4096)
  /-- LDIT (R174) -/
  | ldit (k : Fin 4) (d : Fin 64) (i : Fin 4096)
  /-- STOUT (R175) -/
  | stout (k : Fin 4) (src : Fin 64) (i : Fin 4096)
  /-- STOQ (R175) -/
  | stoq (k : Fin 4) (src : Fin 64) (i : Fin 4096)
  /-- LDLP (R176) -/
  | ldlp (k : Fin 4) (d : Fin 64) (loc : Fin 256) (q : Fin 32)
  /-- STLP (R176) -/
  | stlp (k : Fin 4) (src : Fin 64) (loc : Fin 256) (q : Fin 32)
  /-- ADD_D (R170) -/
  | addD (k : Fin 4) (d a b : Fin 64)
  /-- SUB_D (R170) -/
  | subD (k : Fin 4) (d a b : Fin 64)
  /-- MUL_D (R170) -/
  | mulD (k : Fin 4) (d a b : Fin 64)
  /-- DIV_D (R172) -/
  | divD (k : Fin 4) (d a b : Fin 64)
  /-- MOD_D (R172) -/
  | modD (k : Fin 4) (d a b : Fin 64)
  /-- CMP_D (R170) -/
  | cmpD (k : Fin 4) (d a b : Fin 64) (sub : Fin 6)
  /-- ADD_L (R170) -/
  | addL (k : Fin 4) (d a b : Fin 64)
  /-- SUB_L (R170) -/
  | subL (k : Fin 4) (d a b : Fin 64)
  /-- MUL_L (R170) -/
  | mulL (k : Fin 4) (d a b : Fin 64)
  /-- DIV_L (R172) -/
  | divL (k : Fin 4) (d a b : Fin 64)
  /-- MOD_L (R172) -/
  | modL (k : Fin 4) (d a b : Fin 64)
  /-- CMP_L (R170) -/
  | cmpL (k : Fin 4) (d a b : Fin 64) (sub : Fin 6)
  /-- CMP_E (R170) -/
  | cmpE (k : Fin 4) (d a b : Fin 64) (sub : Fin 6)
  /-- ADD_T (R172) -/
  | addT (k : Fin 4) (d a b : Fin 64)
  /-- SUB_T (R172) -/
  | subT (k : Fin 4) (d a b : Fin 64)
  /-- CMP_T (R170) -/
  | cmpT (k : Fin 4) (d a b : Fin 64) (sub : Fin 6)
  /-- ADD_R (R172) -/
  | addR (k : Fin 4) (d a b : Fin 64)
  /-- SUB_R (R172) -/
  | subR (k : Fin 4) (d a b : Fin 64)
  /-- MUL_R (R172) -/
  | mulR (k : Fin 4) (d a b : Fin 64)
  /-- DIV_R (R172) -/
  | divR (k : Fin 4) (d a b : Fin 64)
  /-- CMP_R (R172) -/
  | cmpR (k : Fin 4) (d a b : Fin 64) (sub : Fin 6)
  /-- FUN_R (R171) -/
  | funR (k : Fin 4) (d a b : Fin 64) (sub : Fin 19)
  /-- LIM_R (R172) -/
  | limR (k : Fin 4) (d a b c : Fin 64)
  /-- ADD_LR (R172) -/
  | addLr (k : Fin 4) (d a b : Fin 64)
  /-- SUB_LR (R172) -/
  | subLr (k : Fin 4) (d a b : Fin 64)
  /-- MUL_LR (R172) -/
  | mulLr (k : Fin 4) (d a b : Fin 64)
  /-- DIV_LR (R172) -/
  | divLr (k : Fin 4) (d a b : Fin 64)
  /-- CMP_LR (R172) -/
  | cmpLr (k : Fin 4) (d a b : Fin 64) (sub : Fin 6)
  /-- FUN_LR (R171) -/
  | funLr (k : Fin 4) (d a b : Fin 64) (sub : Fin 19)
  /-- LIM_LR (R172) -/
  | limLr (k : Fin 4) (d a b c : Fin 64)
  /-- LIM_L (R170) -/
  | limL (k : Fin 4) (d a b c : Fin 64)
  /-- AND (R170) -/
  | andReg (k : Fin 4) (d a b : Fin 64)
  /-- OR (R170) -/
  | orReg (k : Fin 4) (d a b : Fin 64)
  /-- XOR (R170) -/
  | xorReg (k : Fin 4) (d a b : Fin 64)
  /-- NOT (R170) -/
  | notReg (k : Fin 4) (d a : Fin 64)
  /-- NOTB (R170) -/
  | notb (k : Fin 4) (d a : Fin 64)
  /-- SHL (R170) -/
  | shl (k : Fin 4) (d a b : Fin 64)
  /-- SHR (R170) -/
  | shr (k : Fin 4) (d a b : Fin 64)
  /-- SAR (R170) -/
  | sar (k : Fin 4) (d a b : Fin 64)
  /-- CVT (R173) -/
  | cvtReg (k : Fin 4) (d a : Fin 64) (src dst : Fin 7) (rnd : Fin 4)
  /-- ESNAP (R177) -/
  | esnap (k : Fin 4) (d : Fin 32) (i : Fin 4096)
  /-- ESUB (R170) -/
  | esub (k : Fin 4) (d a b : Fin 32)
  /-- ECVT (R177) -/
  | ecvt (k : Fin 4) (d : Fin 64) (a : Fin 32)
  /-- BRX (R170) -/
  | brx (k : Fin 4) (a : Fin 64) (n : Fin 524288)
  /-- ADDI (R170) -/
  | addi (k : Fin 4) (d a : Fin 64) (imm : Fin 8192)
  /-- LDINX (R170) -/
  | ldinx (k : Fin 4) (d a : Fin 64)
  /-- VALUES_BOUNDARY (R200) -/
  | valuesBoundary (n : Fin 96)
  /-- SWITCH_GAP (R204) -/
  | switchGap (tenths : Nat)
  /-- SWITCH_WAIT_EXPIRE (R204) -/
  | switchWaitExpire
  /-- LOOP_EVALUATE (R216) -/
  | loopEvaluate (e : Fin 4)
  /-- MEMORY_SAVE (R235) -/
  | memorySave (e : Fin 4) (m : Fin 64)
  /-- LOOP_WRITE (R229) -/
  | loopWrite (p : Fin 2) (e : Fin 4) (v : Word)
  /-- LOOP_READ (R229) -/
  | loopRead (p : Fin 2) (e : Fin 4) (v : Word)
  /-- LOOP_CANCEL (R229) -/
  | loopCancel (p : Fin 2) (e : Fin 4)
  /-- LOOP_WRITE_APPLY (R229) -/
  | loopWriteApply (e : Fin 4)
  /-- MEM_CLEAR (R236) -/
  | memClear (p : Fin 2) (e : Fin 4) (m : Fin 64)
  /-- MEM_FREEZE (R236) -/
  | memFreeze (p : Fin 2) (e : Fin 4) (m : Fin 64)
  /-- MEM_UNFREEZE (R236) -/
  | memUnfreeze (p : Fin 2) (e : Fin 4) (m : Fin 64)
  /-- TRACE_ARM (R238) -/
  | traceArm (p : Fin 2) (e b : Fin 4)
  /-- TRACE_TRIGGER (R238) -/
  | traceTrigger (p : Fin 2) (e b : Fin 4)
  /-- TRACE_ABORT (R238) -/
  | traceAbort (p : Fin 2) (e b : Fin 4)
  /-- ISLAND_CFG_WRITE (R262) -/
  | islandCfgWrite (p : Fin 2) (n : Fin 24) (v : Word)
  /-- HEADROOM (R251) -/
  | headroom (n : Fin 24) (low : Bool) (m : IslMeas)
  /-- COMPLY (R251) -/
  | comply (n : Fin 24) (short : Bool) (m : IslMeas)
  /-- FALLBACK (R252) -/
  | fallback (n : Fin 24)
  /-- ISLAND_TIMED_RETRY (R252) -/
  | islandTimedRetry (n : Fin 24)
  /-- ISLAND_RETRY (R252) -/
  | islandRetry (p : Fin 2) (n : Fin 24)
  /-- RETRY_WINDOW_END (R252) -/
  | retryWindowEnd (n : Fin 24) (good : Bool)
  /-- OPEN (R253) -/
  | openLoop (n : Fin 24) (opened : Bool) (m : IslMeas)
  /-- SENSE_FAULT (R257) -/
  | senseFault (n : Fin 24) (m : IslMeas)
  /-- STAGE_FAULT (R257) -/
  | stageFault (n : Fin 24) (m : IslMeas)
  /-- ISLAND_CLEAR (R257) -/
  | islandClear (p : Fin 2) (n : Fin 24)
  /-- RECHECK_END (R257) -/
  | recheckEnd (n : Fin 24) (sense : Bool) (stage : Bool) (m : IslMeas)
  /-- THERMAL (R254) -/
  | thermal (n : Fin 24) (m : IslMeas)
  /-- LINK_LOST (R259) -/
  | linkLost (n : Fin 24)
  /-- ISLAND_RELEASE_EDGE (R259) -/
  | islandReleaseEdge (n : Fin 24)
  /-- HANDOVER_DONE (R259) -/
  | handoverDone (n : Fin 24)
  /-- STORE_SPENT (R246) -/
  | storeSpent (n : Fin 24)
  /-- UI_CONVERSION (R265) -/
  | uiConversion (n : Fin 32) (m : UiMeas)
  /-- UI_SHUNT_RETRY (R267) -/
  | uiShuntRetry (n : Fin 32)
  /-- DO_EN_WRITE (R269) -/
  | doEnWrite (p : Fin 2) (v : Word)
  /-- DO_SHORT (R269) -/
  | doShort (n : Fin 24)
  /-- DO_SHORT_CLEAR (R270) -/
  | doShortClear (p : Fin 2) (v : Word)
  /-- DO_AUTO_RETRY (R270) -/
  | doAutoRetry (n : Fin 24)
  /-- OPEN_LOAD (R270) -/
  | openLoad (n : Fin 24) (opened : Bool)
  /-- VS_LOW (R270) -/
  | vsLow (v0 : Fin 65536) (v1 : Fin 65536)
  /-- STUCK (R270) -/
  | stuck (n : Fin 24) (high : Bool)
  /-- DO_RELEASE_EDGE (R271) -/
  | doReleaseEdge
  /-- DO_YIELD_HOLD_END (R271) -/
  | doYieldHoldEnd
  /-- DALI_LEVEL_SEND (R273) -/
  | daliLevelSend (n : Fin 4)
  /-- DALI_POLL (R274) -/
  | daliPoll (n : Fin 4)
  /-- DALI_FRAME_RECEIVE (R274) -/
  | daliFrameReceive (n : Fin 4) (f : DaliRx)
  /-- DALI_BUS_DOWN (R275) -/
  | daliBusDown (n : Fin 4)
  /-- DALI_BUS_UP (R275) -/
  | daliBusUp (n : Fin 4)
  /-- DALI_RAW_SEND (R282) -/
  | daliRawSend (p : Fin 2) (n : Fin 4) (v : Word)
  /-- DALI_TAKEOVER_RESEND (R275) -/
  | daliTakeoverResend (n : Fin 4)
  /-- MODBUS_POLL (R277) -/
  | modbusPoll (n : Fin 2) (c : Fin 256)
  /-- MODBUS_WRITE (R277) -/
  | modbusWrite (n : Fin 2)
  /-- SER_REPLY (R276) -/
  | serReply (n : Fin 2) (r : SerReply) (framing : Bool)
  /-- SER_TIMEOUT (R276) -/
  | serTimeout (n : Fin 2)
  /-- OSDP_POLL (R278) -/
  | osdpPoll (n : Fin 2) (a : Fin 16) (session : Bool)
  /-- OSDP_READER_SILENT (R278) -/
  | osdpReaderSilent (n : Fin 2) (a : Fin 16)
  /-- SER_CFG_WRITE (R283) -/
  | serCfgWrite (p : Fin 2) (n : Fin 2) (v : Word)
  /-- SER_TAKEOVER_RESUME (R279) -/
  | serTakeoverResume (n : Fin 2)
  /-- METERING_BLOCK (R286) -/
  | meteringBlock (m : MtrBlock)
  /-- JOURNAL_COMMIT (R300) -/
  | journalCommit
  /-- ENERGY_DISPLAY_WRITE (R298) -/
  | energyDisplayWrite
  /-- MTR_CH_CFG_WRITE (R285) -/
  | mtrChCfgWrite (p : Fin 2) (n : Fin 49) (primary : Bool) (v : Word)
  /-- MTR_CIR_CFG_WRITE (R292) -/
  | mtrCirCfgWrite (p : Fin 2) (k : Fin 16) (v : Word)
  /-- TOTALS_RECEIVE (R301) -/
  | totalsReceive (time : Nat) (id : Nat) (wrapped : List Nat) (l : List (Nat × Nat))
  /-- TOTALS_ACK_RECEIVE (R301) -/
  | totalsAckReceive (time : Nat)
  /-- TOTALS_ACK_TIMEOUT (R301) -/
  | totalsAckTimeout
  /-- DPX_DISAGREE_WINDOW (R302) -/
  | dpxDisagreeWindow
  /-- MTC_TEMP_READ (R304) -/
  | mtcTempRead (die : Int) (mod : Int)
  /-- MTC_COMMIT (R305) -/
  | mtcCommit (p : Fin 2)
  /-- MTC_RESTORE (R305) -/
  | mtcRestore (p : Fin 2)
  /-- ASSAY_STEP_END (R308) -/
  | assayStepEnd (m : AssayMeas)
  /-- CAL_STEP_END (R310) -/
  | calStepEnd (m : AssayMeas)
  /-- VERIFY (R310) -/
  | verify (p : Fin 2) (c : Fin 64)
  /-- CALIBRATE (R310) -/
  | calibrate (p : Fin 2) (c : Fin 64)
  /-- CLEAR_FAULT (R309) -/
  | clearFault (p : Fin 2) (c : Fin 64)
  /-- ALIVE_SILENT (R314) -/
  | aliveSilent
  /-- ALIVE_GOOD (R314) -/
  | aliveGood
  /-- ALIVE_GENERATOR_STOP (R314) -/
  | aliveGeneratorStop
  /-- GRANT_IN_EDGE (R325) -/
  | grantInEdge (grant release : Bool)
  /-- DUAL_MOTOR (R316) -/
  | dualMotor
  /-- LANE_DOWN (R317) -/
  | laneDown (k : Fin 2)
  /-- LANE_UP (R317) -/
  | laneUp (k : Fin 2)
  /-- LANES_DOWN (R317) -/
  | lanesDown
  /-- INPUTS (R319) -/
  | inputs (task : Fin 96) (ref : Nat) (entries : List ShipEnt) (outs : List (Nat × Option Word64))
  /-- INPUTS_ACK (R319) -/
  | inputsAck (task : Fin 96) (ref : Nat)
  /-- SHIP_TIMEOUT (R319) -/
  | shipTimeout (task : Fin 96)
  /-- HASH (R321) -/
  | hash (task : Fin 96) (ref h : Nat)
  /-- HASH_TIMEOUT (R321) -/
  | hashTimeout (task : Fin 96)
  /-- FORWARD (R320) -/
  | forward (f : Fwd)
  /-- SEQ_REPORT (R323) -/
  | seqReport (seq : Nat)
  /-- ABDICATE (R325) -/
  | abdicate
  /-- ABDICATE_WINDOW_EXPIRE (R325) -/
  | abdicateWindowExpire
  /-- NOT_READY (R325) -/
  | notReady
  /-- TAKEOVER (R327) -/
  | takeover (quickOk : Bool)
  /-- XCHECK (R329) -/
  | xcheck (task : Fin 96) (ref inCrc : Nat)
  /-- XCHECK_DECIDE (R330) -/
  | xcheckDecide (rm rb qm qb : Bool)
  /-- DPX_SWITCH (R331) -/
  | dpxSwitch (p : Fin 2) (delay : Fin 65536)
  /-- SWITCH (R331) -/
  | switch (t : Nat)
  /-- PLANNED_SWITCH (R331) -/
  | plannedSwitch
  /-- DETACH (R336) -/
  | detach (p : Fin 2)
  /-- JOIN (R333) -/
  | join (p : Fin 2)
  /-- JOIN_RETRY (R333) -/
  | joinRetry
  /-- HELLO (R333) -/
  | hello (h : HelloMsg)
  /-- XFER (R335) -/
  | xfer (items : List XferItem) (kib : Nat)
  /-- XFER_GAP (R335) -/
  | xferGap (kib : Fin 257)
  /-- JOIN_WAIT_EXPIRE (R335) -/
  | joinWaitExpire
  /-- IDLE (R317) -/
  | idle (ok : Bool)
  /-- PARTNER_PRESENT_CHANGE (R336) -/
  | partnerPresentChange (present : Bool)
  /-- CAN_ENABLE (R340) -/
  | canEnable (p : Fin 2) (n : Fin 4) (v : Word)
  /-- CAN_BUS_JOIN (R340) -/
  | canBusJoin (n : Fin 4)
  /-- TX_REQUEST (R341) -/
  | txRequest (p : Fin 2) (n : Fin 4) (b : Fin 64)
  /-- TX_CANCEL (R345) -/
  | txCancel (p : Fin 2) (n : Fin 4) (b : Fin 64) (won : Bool)
  /-- TX_TIME_REACHED (R344) -/
  | txTimeReached (n : Fin 4) (b : Fin 64)
  /-- ARBITRATION_START (R342) -/
  | arbitrationStart (n : Fin 4)
  /-- ARBITRATION_LOST (R343) -/
  | arbitrationLost (n : Fin 4)
  /-- CAN_BUS_ERROR (R343) -/
  | canBusError (n : Fin 4) (code : Fin 7) (dataPhase : Bool) (heavy : Bool)
  /-- TX_DONE (R341) -/
  | txDone (n : Fin 4)
  /-- SUSPEND_END (R346) -/
  | suspendEnd (n : Fin 4)
  /-- RECOVER (R347) -/
  | recover (p : Fin 2) (n : Fin 4)
  /-- RECOVERED (R347) -/
  | recovered (n : Fin 4)
  /-- FLUSH (R353) -/
  | flush (p : Fin 2) (n : Fin 4) (which : Fin 4)
  /-- RXF_POP (R349) -/
  | rxfPop (p : Fin 2) (n : Fin 4) (f : Fin 2)
  /-- CAN_FRAME_RECEIVE (R349) -/
  | canFrameReceive (n : Fin 4) (f : CanFrame)
  /-- CAN_REFILL_PERIOD (R350) -/
  | canRefillPeriod (n : Fin 4) (b : Fin 64)
  /-- CAN_STATION_TIMEOUT (R351) -/
  | canStationTimeout (n : Fin 4) (k : Fin 64)
  /-- DOMINANT_TIMEOUT (R339) -/
  | dominantTimeout (n : Fin 4)
  /-- TXBUF_WRITE (R341) -/
  | txbufWrite (p : Fin 2) (n : Fin 4) (k : Fin 20) (v : Word)
  /-- LISTEN_EXIT (R348) -/
  | listenExit (n : Fin 4)
  /-- ETH_FRAME_RECEIVE (R357) -/
  | ethFrameReceive (n : Fin 3) (f : EthFrame)
  /-- PAUSE_TIMER_EXPIRE (R362) -/
  | pauseTimerExpire (n : Fin 3)
  /-- PAUSE_LONG (R364) -/
  | pauseLong (n : Fin 3)
  /-- ETH_FRAME_SEND (R366) -/
  | ethFrameSend (n : Fin 3) (handed : List TxFrame)
  /-- LINK_UP (R367) -/
  | linkUp (n : Fin 3) (speed : Fin 8) (full mdix : Bool)
  /-- LINK_DOWN (R367) -/
  | linkDown (n : Fin 3) (localFault remoteFault : Bool)
  /-- SFP_READ (R355) -/
  | sfpRead (n : Fin 2) (byte12 : Option Nat)
  /-- SFP_CHANGE (R355) -/
  | sfpChange (n : Fin 2) (abs los txflt : Bool)
  /-- ETH_CTL_WRITE (R370) -/
  | ethCtlWrite (p : Fin 2) (n : Fin 3) (v : Word)
  /-- ETH_HASH_WRITE (R361) -/
  | ethHashWrite (p : Fin 2) (n : Fin 3) (k : Fin 16) (v : Word)
  /-- ETH_STATION_TIMEOUT (R368) -/
  | ethStationTimeout (n : Fin 3) (k : Fin 64)
  /-- SYNC_RECEIVE (R374) -/
  | syncReceive (m : PtpMsg)
  /-- FOLLOW_UP_RECEIVE (R375) -/
  | followUpReceive (m : PtpMsg)
  /-- DELAY_REQ_RECEIVE (R375) -/
  | delayReqReceive (m : PtpMsg)
  /-- DELAY_RESP_RECEIVE (R375) -/
  | delayRespReceive (m : PtpMsg)
  /-- PDELAY_REQ_RECEIVE (R375) -/
  | pdelayReqReceive (m : PtpMsg)
  /-- PDELAY_RESP_RECEIVE (R375) -/
  | pdelayRespReceive (m : PtpMsg)
  /-- PDELAY_RESP_FOLLOW_UP_RECEIVE (R375) -/
  | pdelayRespFollowUpReceive (m : PtpMsg)
  /-- ANNOUNCE_RECEIVE (R375) -/
  | announceReceive (m : PtpAnnounce)
  /-- MASTER_LOST (R372) -/
  | masterLost
  /-- HOLDOVER_LIMIT (R372) -/
  | holdoverLimit
  /-- PTP_MESSAGE_SEND (R375) -/
  | ptpMessageSend (n : Fin 3) (k : PtpSend)
  /-- STAMP_TAKE (R380) -/
  | stampTake (q : Fin 4)
  /-- PTP_SET (R373) -/
  | ptpSet (p : Fin 2)
  /-- PTP_ADJUST (R373) -/
  | ptpAdjust (p : Fin 2)
  /-- PTP_ADDEND_WRITE (R373) -/
  | ptpAddendWrite (p : Fin 2) (v : Word)
  /-- PTP_CTL_WRITE (R382) -/
  | ptpCtlWrite (p : Fin 2) (v : Word)
  /-- TRIM_PULSE (R389) -/
  | trimPulse
  /-- BKD_WRAP (R387) -/
  | bkdWrap
  /-- BKD_ALARM (R392) -/
  | bkdAlarm
  /-- BKD_WAKE (R391) -/
  | bkdWake
  /-- BKD_WAKE_WRITE (R391) -/
  | bkdWakeWrite (p : Fin 2) (v : Word)
  /-- SET_COUNT (R388) -/
  | setCount (p : Fin 2)
  /-- SET_COUNT_LOAD (R388) -/
  | setCountLoad
  /-- BKD_ARM (R392) -/
  | bkdArm (p : Fin 2)
  /-- DISARM (R392) -/
  | disarm (p : Fin 2)
  /-- CAPTURE (R390) -/
  | capture (p : Fin 2)
  /-- CAPTURE_LATCH (R390) -/
  | captureLatch
  /-- CRC_CHECK (R394) -/
  | crcCheck (p : Fin 2)
  /-- RESTORED (R395) -/
  | restored (p : Fin 2)
  /-- ERASE (R394) -/
  | erase (p : Fin 2) (key : Fin 65536)
  /-- BKD_BYTE_WRITE (R394) -/
  | bkdByteWrite (p : Fin 2) (k : Fin 16) (v : Word)
  /-- BKD_SUPPLY_SWITCH (R383) -/
  | bkdSupplySwitch (vbat : Bool) (upsets : List (Nat × Nat))
  /-- LOCKOUT (R385) -/
  | lockout
  /-- LOCKOUT_EXIT (R385) -/
  | lockoutExit
  /-- BACKUP_DOMAIN_RESET (R385) -/
  | backupDomainReset
  /-- OSC_STOP (R386) -/
  | oscStop
  /-- LOG_RECORD_WRITE (R405) -/
  | logRecordWrite
  /-- LOG_FLOOD_SECOND (R405) -/
  | logFloodSecond
  /-- EPOCH_APPLY (R401) -/
  | epochApply (p : Fin 2) (apply : Bool)
  /-- FW_BLOCK_HEADER (R428) -/
  | fwBlockHeader (r : OpRef) (b : HostBuf) (mramOk : Bool)
  /-- FW_BLOCK_TABLE (R428) -/
  | fwBlockTable (r : OpRef) (b : HostBuf) (mramOk : Bool)
  /-- FW_BLOCK_HALLMARK (R428) -/
  | fwBlockHallmark (r : OpRef) (b : HostBuf) (mramOk : Bool)
  /-- FW_BLOCK_DATA (R428) -/
  | fwBlockData (r : OpRef) (b : HostBuf) (mramOk : Bool)
  /-- FW_ACTIVATE (R432) -/
  | fwActivate (r : OpRef) (butty : Bool)
  /-- FW_ACTIVATE_COLD (R437) -/
  | fwActivateCold (r : OpRef)
  /-- FW_ACTIVATE_GAP (R433) -/
  | fwActivateGap (mask : Fin 32) (migrated : Bool)
  /-- FW_GAP_WAIT_EXPIRE (R433) -/
  | fwGapWaitExpire
  /-- ISL_ISLAND_SWITCH (R433) -/
  | islIslandSwitch (migrated : Bool)
  /-- SOAK_END (R434) -/
  | soakEnd
  /-- FW_NET_SWITCH (R436) -/
  | fwNetSwitch (migrated : Bool)
  /-- CONFIRM (R439) -/
  | confirm (p : Fin 2)
  /-- CANCEL (R435) -/
  | cancel (p : Fin 2)
  /-- ABANDON_STAGING (R442) -/
  | abandonStaging (p : Fin 2)
  /-- FAULT_DECLARE (R445) -/
  | faultDeclare (found : Option FaultRep) (task : Option (Fin 96))
  /-- HEARTBEAT_MISS (R447) -/
  | heartbeatMiss (u : Fin 8) (task : Option (Fin 96))
  /-- UNIT_RESTART_DONE (R447) -/
  | unitRestartDone (u : Fin 8) (ok : Bool)
  /-- ECC_HIGH (R448) -/
  | eccHigh (corrected : Nat)
  /-- ASSAY_SLICE_START (R451) -/
  | assaySliceStart (t : Fin 9)
  /-- ASSAY_SLICE_END (R451) -/
  | assaySliceEnd (t : Fin 9) (fail : Bool)
  /-- ASSAY_PERIODIC_REQUEST (R453) -/
  | assayPeriodicRequest
  /-- ASY_TEST (R453) -/
  | asyTest (p : Fin 2) (t : Fin 64)
  /-- ASY_CALIBRATE (R453) -/
  | asyCalibrate (p : Fin 2) (t : Fin 64)
  /-- ISLAND_TEST_END (R450) -/
  | islandTestEnd (n : Fin 24) (fail : Bool) (limit : Bool)
  /-- SCRUB_PASS_END (R450) -/
  | scrubPassEnd (mram : Bool) (corrected : Nat)
  /-- PMON_CLEAR (R458) -/
  | pmonClear (p : Fin 2)
  /-- PMON_FREEZE (R458) -/
  | pmonFreeze (p : Fin 2) (freeze : Bool)
  /-- PMON_SEL_WRITE (R454) -/
  | pmonSelWrite (p : Fin 2) (c : Fin 16) (v : Word)
  /-- HOST_LINK_UP (R62) -/
  | hostLinkUp (p : Fin 2) (wide : Bool) (speed : Fin 4)
  /-- REFERENCE_CRYSTAL_START (R47) -/
  | referenceCrystalStart
  /-- ISLAND_LINK_RETURN (R259) -/
  | islandLinkReturn (n : Fin 24)
  /-- TICK_CRYSTAL_RESTART (R386) -/
  | tickCrystalRestart
  /-- BKD_VBAT_MEASURE (R397) -/
  | bkdVbatMeasure (centivolts : Nat)
  /-- DALI_FRAME_DONE (R282) -/
  | daliFrameDone (n : Fin 4) (e : DaliEnd) (coll : Nat)
  /-- DALI_RAW_WAIT_EXPIRE (R273) -/
  | daliRawWaitExpire (n : Fin 4)
  deriving DecidableEq, Repr

end Sys2Proof
end

