-- ==== Sys2Proof/Config.lean ====
section
/-! DEFINITION. What an implementation fixes and what the spec leaves open: constants without a body, so
that nothing can be proved of their values. Each is named in the assumption log. -/

namespace Sys2Proof.Config

/-- A value that the spec leaves open, one for each value of the state's counter `free`
(arbitrary starting numbers, random draws). -/
opaque freeValue : Nat → Nat

/-- How far a result of FUN.R or FUN.LR that R172 bounds to 2 ulp stands from the nearest value, modulo 5: the
function code, the width (32 or 64) and the operands' bits. -/
opaque funUlp : (sub w a b : Nat) → Nat

/-- The sign (bit 0) and the payload (the bits above it) of a quiet NaN that an operation makes, which R172 leaves open with
IEEE 754: the operation, the width and the operands' bits. -/
opaque nanBits : (op w x y : Nat) → Nat

/-- The temperature in °C, as binary32, that a resistance of an NTC in Ω stands for at the B value of UInn_PARAM (R264): the
manual gives the accuracy of the conversion and not its value. -/
opaque ntcCelsius : (ohms b : Nat) → Nat

/-- The primary current in pA that a sample of an integrated coil voltage stands for where SENS is 0 (R285 gives SENS from 1
on). -/
opaque coilZero : Int → Int

/-- The PCI-SIG vendor identifier of the maker, and the revision of the function (R67): the manual gives no number. -/
opaque pciVendor : Nat
opaque pciRevision : Nat

/-- The 16-bit CRC of a sourcePortIdentity that a stamp queue entry holds (R380): the manual gives no polynomial. -/
opaque portCrc : Nat → Nat

/-- A byte of the device root, which the PUF gives (R408). -/
opaque rootByte : Nat → Byte

/-- A byte of the firmware signing key and of the debug authority key in the boot ROM (R409). -/
opaque firmwareKeyByte : Nat → Byte
opaque debugKeyByte : Nat → Byte

/-- A byte of the header and of the block table of the firmware image that the module left the factory with (R425). -/
opaque factoryHeaderByte : Nat → Byte
opaque factoryTableByte : Nat → Byte

/-- A byte of the ML-DSA-87 public key that KeyGen_internal makes of a seed (R408). -/
opaque mldsaPublicByte : (seed : List Byte) → Nat → Byte

/-- A byte of an ML-DSA-87 signature by the key of a seed, over a message and a context string, with the random input of
hedged signing (R420). -/
opaque mldsaSignByte : (seed msg ctx : List Byte) → (rnd : Nat) → Nat → Byte

/-- Whether an ML-DSA-87 signature verifies (R416, R427). -/
opaque mldsaVerify : (key msg ctx sig : List Byte) → Bool

/-- A byte of the blob that a 128-bit key of the crucible wraps, and, for a blob that it unwraps, the bytes of the plaintext
after a byte that is odd where the integrity check passes: R412 states KW for a 256-bit key only. -/
opaque shortWrapByte : (key plain : List Byte) → Nat → Byte
opaque shortUnwrapByte : (key blob : List Byte) → Nat → Byte

end Sys2Proof.Config
end

