-- ==== Sys2Proof/Machine/Float.lean ====
section
/-! DEFINITION. IEEE 754 binary16, binary32 and binary64 arithmetic on bit patterns: exact results on numbers,
rounded once to nearest, ties to even (R162, R172). -/

namespace Sys2Proof.Machine

/-- A binary format: exponent bits and fraction bits. -/
structure Fmt where
  eb : Nat
  mb : Nat
  deriving DecidableEq, Repr

def b16 : Fmt := ⟨5, 10⟩
def b32 : Fmt := ⟨8, 23⟩
def b64 : Fmt := ⟨11, 52⟩

/-- What a bit pattern stands for: a finite number is (−1)^neg × m × 2^e. -/
inductive FVal where
  | nan
  | inf (neg : Bool)
  | fin (neg : Bool) (m : Nat) (e : Int)
  deriving DecidableEq, Repr

def Fmt.bias (f : Fmt) : Int := (2 ^ (f.eb - 1) : Nat) - 1

/-- The quiet NaN that operation `op` makes of the operands `x` and `y`: its sign and its payload are free (R172). -/
def Fmt.nan (f : Fmt) (op x y : Nat) : Nat :=
  let v := Config.nanBits op (1 + f.eb + f.mb) x y
  v % 2 * 2 ^ (f.eb + f.mb) + (2 ^ f.eb - 1) * 2 ^ f.mb + 2 ^ (f.mb - 1) + v / 2 % 2 ^ (f.mb - 1)

def Fmt.infBits (f : Fmt) (neg : Bool) : Nat := b2n neg * 2 ^ (f.eb + f.mb) + (2 ^ f.eb - 1) * 2 ^ f.mb

def Fmt.zeroBits (f : Fmt) (neg : Bool) : Nat := b2n neg * 2 ^ (f.eb + f.mb)

/-- The value of a bit pattern. -/
def Fmt.dec (f : Fmt) (x : Nat) : FVal :=
  let neg := natBit x (f.eb + f.mb)
  let ex := bits x f.mb f.eb
  let fr := x % 2 ^ f.mb
  if ex = 2 ^ f.eb - 1 then (if fr = 0 then .inf neg else .nan)
  else if ex = 0 then .fin neg fr (1 - f.bias - f.mb)
  else .fin neg (fr + 2 ^ f.mb) ((ex : Int) - f.bias - f.mb)

/-- (−1)^neg × (m + ε) × 2^e rounded to the format, with 0 < ε < 1 where `sticky`: `m` must then have more
bits than the format's precision. -/
def Fmt.round (f : Fmt) (neg : Bool) (m : Nat) (e : Int) (sticky : Bool) : Nat :=
  if m = 0 then f.zeroBits neg
  else
    let top : Int := e + (Nat.log2 m : Nat)
    let emin : Int := 1 - f.bias
    let q : Int := (if top < emin then emin else top) - f.mb
    let sh : Int := q - e
    let r : Nat :=
      if sh ≤ 0 then m * 2 ^ (-sh).toNat
      else
        let k := sh.toNat
        let hi := m / 2 ^ k
        let rem := m % 2 ^ k
        let half := 2 ^ (k - 1)
        if half < rem ∨ (rem = half ∧ (sticky ∨ hi % 2 = 1)) then hi + 1 else hi
    let r1 := if r = 2 ^ (f.mb + 1) then r / 2 else r
    let q1 := if r = 2 ^ (f.mb + 1) then q + 1 else q
    if r1 < 2 ^ f.mb then f.zeroBits neg + r1
    else
      let ex := (q1 + f.mb + f.bias).toNat
      if 2 ^ f.eb - 1 ≤ ex then f.infBits neg
      else f.zeroBits neg + ex * 2 ^ f.mb + (r1 - 2 ^ f.mb)

/-- The exact value encoded in the format; `src` is the pattern that it stands for. -/
def Fmt.enc (f : Fmt) (src : Nat) : FVal → Nat
  | .nan => f.nan 0 src 0
  | .inf n => f.infBits n
  | .fin n m e => f.round n m e false

/-- Conversion between formats, rounded once. -/
def fconv (a b : Fmt) (x : Nat) : Nat := b.enc x (a.dec x)

def FVal.neg : FVal → FVal
  | .nan => .nan
  | .inf n => .inf (!n)
  | .fin n m e => .fin (!n) m e

/-- The signed mantissas of two finite numbers at the smaller exponent. -/
def alignSum (n1 : Bool) (m1 : Nat) (e1 : Int) (n2 : Bool) (m2 : Nat) (e2 : Int) : Int × Int :=
  let e := if e1 < e2 then e1 else e2
  let a : Int := (m1 * 2 ^ (e1 - e).toNat : Nat)
  let b : Int := (m2 * 2 ^ (e2 - e).toNat : Nat)
  ((if n1 then -a else a) + (if n2 then -b else b), e)

/-- Sum. -/
def Fmt.add (f : Fmt) (x y : Nat) : Nat :=
  match f.dec x, f.dec y with
  | .nan, _ => f.nan 1 x y
  | _, .nan => f.nan 1 x y
  | .inf a, .inf b => if a = b then f.infBits a else f.nan 1 x y
  | .inf a, _ => f.infBits a
  | _, .inf b => f.infBits b
  | .fin n1 m1 e1, .fin n2 m2 e2 =>
    match alignSum n1 m1 e1 n2 m2 e2 with
    | (s, e) => if s = 0 then f.zeroBits (n1 && n2) else f.round (decide (s < 0)) s.natAbs e false

/-- The pattern with its sign inverted. -/
def Fmt.negate (f : Fmt) (x : Nat) : Nat := x ^^^ 2 ^ (f.eb + f.mb)

/-- Difference. -/
def Fmt.sub (f : Fmt) (x y : Nat) : Nat := f.add x (f.negate y)

/-- Product. -/
def Fmt.mul (f : Fmt) (x y : Nat) : Nat :=
  match f.dec x, f.dec y with
  | .nan, _ => f.nan 2 x y
  | _, .nan => f.nan 2 x y
  | .inf a, .inf b => f.infBits (a != b)
  | .inf a, .fin b m _ => if m = 0 then f.nan 2 x y else f.infBits (a != b)
  | .fin a m _, .inf b => if m = 0 then f.nan 2 x y else f.infBits (a != b)
  | .fin a m1 e1, .fin b m2 e2 => f.round (a != b) (m1 * m2) (e1 + e2) false

/-- Quotient. -/
def Fmt.div (f : Fmt) (x y : Nat) : Nat :=
  match f.dec x, f.dec y with
  | .nan, _ => f.nan 3 x y
  | _, .nan => f.nan 3 x y
  | .inf _, .inf _ => f.nan 3 x y
  | .inf a, .fin b _ _ => f.infBits (a != b)
  | .fin a _ _, .inf b => f.zeroBits (a != b)
  | .fin a m1 e1, .fin b m2 e2 =>
    if m2 = 0 then (if m1 = 0 then f.nan 3 x y else f.infBits (a != b))
    else if m1 = 0 then f.zeroBits (a != b)
    else
      let k := 2 * f.mb + 4 + Nat.log2 m2
      let n := m1 * 2 ^ k
      f.round (a != b) (n / m2) (e1 - e2 - k) (n % m2 != 0)

/-- The largest r with r² ≤ n, found from bit `k` down. -/
def isqrtFrom (n : Nat) : Nat → Nat → Nat
  | 0, r => if (r + 1) * (r + 1) ≤ n then r + 1 else r
  | k + 1, r =>
    let t := r + 2 ^ (k + 1)
    isqrtFrom n k (if t * t ≤ n then t else r)

/-- The integer square root. -/
def isqrt (n : Nat) : Nat := isqrtFrom n (Nat.log2 n / 2 + 1) 0

/-- Square root, correctly rounded. -/
def Fmt.sqrt (f : Fmt) (x : Nat) : Nat :=
  match f.dec x with
  | .nan => f.nan 4 x 0
  | .inf n => if n then f.nan 4 x 0 else f.infBits false
  | .fin n m e =>
    if m = 0 then f.zeroBits n
    else if n then f.nan 4 x 0
    else
      let k := 2 * (f.mb + 2)
      let sh := if (e - k) % 2 = 0 then k else k + 1
      let w := m * 2 ^ sh
      let r := isqrt w
      f.round false r ((e - sh) / 2) (r * r != w)

/-- The order of two values; none where either is a NaN. −0 equals +0. -/
def FVal.cmp (a b : FVal) : Option Ordering :=
  match a, b with
  | .nan, _ => none
  | _, .nan => none
  | .inf x, .inf y => some (if x = y then .eq else if x then .lt else .gt)
  | .inf x, _ => some (if x then .lt else .gt)
  | _, .inf y => some (if y then .gt else .lt)
  | .fin n1 m1 e1, .fin n2 m2 e2 =>
    match alignSum n1 m1 e1 (!n2) m2 e2 with
    | (s, _) => some (if s = 0 then .eq else if s < 0 then .lt else .gt)

def Fmt.cmp (f : Fmt) (x y : Nat) : Option Ordering := (f.dec x).cmp (f.dec y)

/-- x < y, x ≤ y, x = y: false where either is a NaN. -/
def Fmt.lt (f : Fmt) (x y : Nat) : Bool := f.cmp x y == some .lt
def Fmt.le (f : Fmt) (x y : Nat) : Bool := f.cmp x y == some .lt || f.cmp x y == some .eq
def Fmt.eq (f : Fmt) (x y : Nat) : Bool := f.cmp x y == some .eq

def Fmt.isNan (f : Fmt) (x : Nat) : Bool := f.dec x == .nan

/-- The number is finite. -/
def Fmt.finite (f : Fmt) (x : Nat) : Bool :=
  match f.dec x with
  | .fin _ _ _ => true
  | _ => false

/-- The four roundings to an integer (R173). -/
inductive Rnd where
  | nearest | zero | down | up
  deriving DecidableEq, Repr

/-- A finite number rounded to an integer. -/
def roundInt (r : Rnd) (neg : Bool) (m : Nat) (e : Int) : Int :=
  if 0 ≤ e then
    let a : Int := (m * 2 ^ e.toNat : Nat)
    if neg then -a else a
  else
    let k := (-e).toNat
    let q := m / 2 ^ k
    let rem := m % 2 ^ k
    let half := 2 ^ (k - 1)
    let up : Bool := match r with
      | .zero => false
      | .nearest => Nat.blt half rem || (rem == half && q % 2 == 1)
      | .down => neg && rem != 0
      | .up => !neg && rem != 0
    let a : Int := ((if up then q + 1 else q) : Nat)
    if neg then -a else a

/-- The integer of a pattern under a rounding; none for a NaN or an infinity. -/
def Fmt.toInt (f : Fmt) (r : Rnd) (x : Nat) : Option Int :=
  match f.dec x with
  | .fin n m e => some (roundInt r n m e)
  | _ => none

/-- The format's number nearest to an integer. -/
def Fmt.ofInt (f : Fmt) (i : Int) : Nat := f.round (decide (i < 0)) i.natAbs 0 false

/-- The number p / q of integers, correctly rounded. -/
def Fmt.ofRat (f : Fmt) (p : Int) (q : Nat) : Nat :=
  if q = 0 then f.nan 5 p.natAbs 0
  else if p = 0 then f.zeroBits false
  else
    let k := 2 * f.mb + 4 + Nat.log2 q
    let n := p.natAbs * 2 ^ k
    f.round (decide (p < 0)) (n / q) (-k) (n % q != 0)

/-- Absolute value. -/
def Fmt.abs (f : Fmt) (x : Nat) : Nat := x % 2 ^ (f.eb + f.mb)

/-- The largest integer not above a finite number, as a number; other patterns are their own floor. -/
def Fmt.floor (f : Fmt) (x : Nat) : Nat :=
  match f.dec x with
  | .fin n m e => if 0 ≤ e then x else
      let i := roundInt .down n m e
      if i = 0 then f.zeroBits n else f.ofInt i
  | .inf n => f.infBits n
  | .nan => f.nan 6 x 0

/-- A finite number rounded to an integral number of the format, its sign kept where the result is zero; infinities stay. -/
def Fmt.integral (f : Fmt) (r : Rnd) (x : Nat) : Nat :=
  match f.dec x with
  | .fin n m e => if 0 ≤ e then x % 2 ^ (1 + f.eb + f.mb) else
      let i := roundInt r n m e
      if i = 0 then f.zeroBits n else f.ofInt i
  | .inf n => f.infBits n
  | .nan => f.nan 7 x 0

/-- A finite number rounded to the format under any of the four roundings (R173); overflow gives infinity. -/
def Fmt.roundBy (f : Fmt) (r : Rnd) (neg : Bool) (m : Nat) (e : Int) : Nat :=
  if m = 0 then f.zeroBits neg
  else
    let top : Int := e + (Nat.log2 m : Nat)
    let emin : Int := 1 - f.bias
    let q : Int := (if top < emin then emin else top) - f.mb
    let n : Nat := (roundInt r neg m (e - q)).natAbs
    f.round neg n q false

/-- minimumNumber and maximumNumber of IEEE 754-2019 (R172): −0 is below +0. -/
def Fmt.minNum (f : Fmt) (x y : Nat) : Nat :=
  if f.isNan x then (if f.isNan y then f.nan 8 x y else y)
  else if f.isNan y then x
  else if f.lt x y then x
  else if f.lt y x then y
  else if natBit x (f.eb + f.mb) then x else y

def Fmt.maxNum (f : Fmt) (x y : Nat) : Nat :=
  if f.isNan x then (if f.isNan y then f.nan 9 x y else y)
  else if f.isNan y then x
  else if f.lt x y then y
  else if f.lt y x then x
  else if natBit x (f.eb + f.mb) then y else x

/-- Binary32 widened to binary64, exactly. -/
def widen (x : Nat) : Nat := fconv b32 b64 x

end Sys2Proof.Machine
end

