-- ==== Sys2Proof/Machine/Elem.lean ====
section
/-! DEFINITION. The functions of FUN.R and FUN.LR that R172 bounds to 2 ulp: EXP, LN, LOG10, the circular
functions and POW. Each is computed in fixed point with `elemPrec` fraction bits, far beyond binary64, rounded to
nearest, and moved by a free number of ulps from −2 to 2; the exceptional results are those of IEEE 754-2019. -/

namespace Sys2Proof.Machine

def elemPrec : Nat := 1400
def elemOne : Nat := 2 ^ elemPrec

/-- Product of two fixed-point numbers. -/
def fixMul (a b : Nat) : Nat := a * b / elemOne
/-- Quotient of two fixed-point numbers. -/
def fixDiv (a b : Nat) : Nat := a * elemOne / b

/-- Σ p·qʲ / (k + 2j), `n` terms, with alternating signs where `alt`. -/
def oddSeries (alt : Bool) (q : Nat) : Nat → (k p : Nat) → Int
  | 0, _, _ => 0
  | n + 1, k, p =>
    let rest := oddSeries alt q n (k + 2) (fixMul p q)
    ((p / k : Nat) : Int) + (if alt then -rest else rest)

/-- Σ ± t·qʲ·k! / (k + 2j)!, `n` terms, with alternating signs: the sine from t = q^½, k = 1, the cosine from t = 1, k = 0. -/
def circSeries (q : Nat) : Nat → (k t : Nat) → Int
  | 0, _, _ => 0
  | n + 1, k, t => (t : Int) - circSeries q n (k + 2) (fixMul t q / ((k + 1) * (k + 2)))

/-- Σ t·rʲ·k! / (k + j)!, `n` terms. -/
def expSeries (r : Nat) : Nat → (k t : Nat) → Nat
  | 0, _, _ => 0
  | n + 1, k, t => t + expSeries r n (k + 1) (fixMul t r / (k + 1))

/-- ln of a fixed-point number from 1 to 2. -/
def lnMant (m : Nat) : Nat :=
  let r := fixDiv (m - elemOne) (m + elemOne)
  2 * (oddSeries false (fixMul r r) 460 1 r).toNat

def ln2Fix : Nat := lnMant (2 * elemOne)

/-- ln of m × 2^e. -/
def lnFix (m : Nat) (e : Int) : Int :=
  let k := Nat.log2 m
  (e + k) * ln2Fix + lnMant (m * elemOne / 2 ^ k)

/-- tan(φ/2) of tan φ. -/
def halfTan (t : Nat) : Nat := fixDiv t (elemOne + isqrt (elemOne * elemOne + t * t))

/-- arctan of a fixed-point number from 0 to 1. -/
def atanUnit (t : Nat) : Nat :=
  let u := halfTan (halfTan (halfTan t))
  8 * (oddSeries true (fixMul u u) 230 1 u).toNat

def piFix : Nat := 4 * atanUnit elemOne

/-- The angle, from 0 to π, of the point (x, y), `xneg` telling the sign of x. -/
def angleFix (y x : Nat) (xneg : Bool) : Nat :=
  let a := if y = 0 ∧ x = 0 then 0
    else if y ≤ x then atanUnit (fixDiv y x) else piFix / 2 - atanUnit (fixDiv x y)
  if xneg then piFix - a else a

/-- The sine and the cosine of a fixed-point angle. -/
def circFix (x : Nat) : Int × Int :=
  let half := piFix / 2
  let r := x % half
  let q := fixMul r r
  let s := circSeries q 200 1 r
  let c := circSeries q 200 0 elemOne
  match x / half % 4 with
  | 0 => (s, c) | 1 => (c, -s) | 2 => (-s, -c) | _ => (-c, s)

/-- e to the power of a fixed-point number, as a fixed-point number times a power of two. The power stands
within ±8192, beyond every exponent of binary64. -/
def expFix (x : Int) : Nat × Int :=
  let k := x / (ln2Fix : Int)
  (expSeries (x % (ln2Fix : Int)).toNat 330 0 elemOne, max (-8192) (min 8192 k))

/-- (−1)^neg × v × 2^e, rounded to the nearest number of the format with an unbounded exponent, moved by `off` units
in the last place, and encoded. -/
def Fmt.near (f : Fmt) (off : Int) (neg : Bool) (v : Nat) (e : Int) : Nat :=
  let top : Int := e + (Nat.log2 v : Nat)
  let emin : Int := 1 - f.bias
  let q : Int := (if top < emin then emin else top) - f.mb
  let n : Int := roundInt .nearest false v (e - q) + off
  f.round (neg != decide (n < 0)) n.natAbs q false

/-- The same of a fixed-point number. -/
def Fmt.nearFix (f : Fmt) (off : Int) (neg : Bool) (v : Nat) : Nat := f.near off neg v (-(elemPrec : Int))
def Fmt.nearInt (f : Fmt) (off : Int) (v : Int) : Nat := f.nearFix off (decide (v < 0)) v.natAbs

/-- A finite number in fixed point, exact for binary32 and binary64. -/
def fixOf (m : Nat) (e : Int) : Nat := m * 2 ^ (e + elemPrec).toNat

def fixSigned (neg : Bool) (m : Nat) (e : Int) : Int := if neg then -(fixOf m e : Int) else fixOf m e

/-- The free distance from the nearest value, from −2 to 2 ulp (R172). -/
def funOff (sub w x y : Nat) : Int :=
  match Config.funUlp sub w x y % 5 with
  | 0 => 0 | 1 => 1 | 2 => 2 | 3 => -1 | _ => -2

def elemExp (f : Fmt) (off : Int) (x : Nat) : Nat :=
  match f.dec x with
  | .nan => f.nan 10 x 0
  | .inf n => if n then f.zeroBits false else f.infBits false
  | .fin n m e =>
    if m = 0 then f.ofInt 1
    else
      let r := expFix (fixSigned n m e)
      f.near off false r.1 (r.2 - elemPrec)

/-- LN, or with `ten` LOG10. -/
def elemLog (f : Fmt) (ten : Bool) (off : Int) (x : Nat) : Nat :=
  match f.dec x with
  | .nan => f.nan (if ten then 12 else 11) x 0
  | .inf n => if n then f.nan (if ten then 12 else 11) x 0 else f.infBits false
  | .fin n m e =>
    if m = 0 then f.infBits true
    else if n then f.nan (if ten then 12 else 11) x 0
    else if x = f.ofInt 1 then f.zeroBits false
    else
      let l := lnFix m e
      f.nearInt off (if ten then l * elemOne / lnFix 10 0 else l)

/-- SIN (0), COS (1) and TAN (2). -/
def elemCirc (f : Fmt) (which : Nat) (off : Int) (x : Nat) : Nat :=
  match f.dec x with
  | .nan => f.nan (13 + which) x 0
  | .inf _ => f.nan (13 + which) x 0
  | .fin n m e =>
    if m = 0 then (if which = 1 then f.ofInt 1 else x)
    else
      let c := circFix (fixOf m e)
      match which with
      | 0 => f.nearInt off (if n then -c.1 else c.1)
      | 1 => f.nearInt off c.2
      | _ => f.nearFix off (n != (decide (c.1 < 0) != decide (c.2 < 0))) (fixDiv c.1.natAbs c.2.natAbs)

/-- ASIN, or with `cos` ACOS. -/
def elemArc (f : Fmt) (cos : Bool) (off : Int) (x : Nat) : Nat :=
  match f.dec x with
  | .nan => f.nan (if cos then 17 else 16) x 0
  | .inf _ => f.nan (if cos then 17 else 16) x 0
  | .fin n m e =>
    let v := fixOf m e
    let side := isqrt (elemOne * elemOne - v * v)
    if elemOne < v then f.nan (if cos then 17 else 16) x 0
    else if cos then
      if v = elemOne ∧ ¬ n then f.zeroBits false else f.nearFix off false (angleFix side v n)
    else if m = 0 then x
    else f.nearFix off n (angleFix v side false)

/-- A number as one coordinate of a point whose direction counts: an infinity outweighs a finite number. -/
def pointOf (wide : Bool) : FVal → Bool × Nat
  | .nan => (false, 0)
  | .inf n => (n, elemOne)
  | .fin n m e => (n, if wide then 0 else fixOf m e)

/-- ATAN2 of y and x: the angle of the point (x, y) with the sign of y. -/
def elemAtan2 (f : Fmt) (off : Int) (y x : Nat) : Nat :=
  let a := f.dec y
  let b := f.dec x
  if a = .nan ∨ b = .nan then f.nan 18 x y
  else
    let wide := !(f.finite y && f.finite x)
    let p := pointOf wide a
    let q := pointOf wide b
    if p.2 = 0 ∧ ¬ q.1 then f.zeroBits p.1
    else f.nearFix off p.1 (angleFix p.2 q.2 q.1)

/-- Is m × 2^e an integer; an odd one? -/
def isWhole (m : Nat) (e : Int) : Bool := e ≥ 0 || m % 2 ^ (-e).toNat == 0
def isOdd (m : Nat) (e : Int) : Bool := e ≤ 0 && isWhole m e && m / 2 ^ (-e).toNat % 2 == 1

/-- POW: x to the power y, with the exceptional results of `pow` of IEEE 754. -/
def elemPow (f : Fmt) (off : Int) (x y : Nat) : Nat :=
  let a := f.dec x
  let one := f.ofInt 1
  if f.abs y = 0 ∨ x = one then one
  else match a, f.dec y with
  | .nan, _ => f.nan 19 x y
  | _, .nan => f.nan 19 x y
  | _, .inf yn =>
    if f.abs x = one then one
    else if f.lt (f.abs x) one = yn then f.infBits false else f.zeroBits false
  | .inf xn, .fin yn ym ye =>
    let neg := xn && isOdd ym ye
    if yn then f.zeroBits neg else f.infBits neg
  | .fin xn xm xe, .fin yn ym ye =>
    let neg := xn && isOdd ym ye
    if xm = 0 then (if yn then f.infBits neg else f.zeroBits neg)
    else if xn ∧ ¬ isWhole ym ye then f.nan 19 x y
    else
      let l := lnFix xm xe
      let z := l * (fixOf ym ye : Int) / (elemOne : Int)
      let r := expFix (if yn then -z else z)
      f.near off neg r.1 (r.2 - elemPrec)

/-- ATAN: the angle of the point (1, x). -/
def elemAtan (f : Fmt) (off : Int) (x : Nat) : Nat :=
  if f.abs x = 0 then x else elemAtan2 f off x (f.ofInt 1)

/-- The functions of FUN that R172 bounds to 2 ulp, by their SUB code (R171). -/
def elemFun (f : Fmt) (sub : Nat) (off : Int) (x y : Nat) : Nat :=
  match sub with
  | 3 => elemExp f off x
  | 4 => elemLog f false off x
  | 5 => elemLog f true off x
  | 6 => elemCirc f 0 off x
  | 7 => elemCirc f 1 off x
  | 8 => elemCirc f 2 off x
  | 9 => elemArc f false off x
  | 10 => elemArc f true off x
  | 11 => elemAtan f off x
  | 15 => elemAtan2 f off x y
  | _ => elemPow f off x y

end Sys2Proof.Machine
end

