-- ==== Sys2Proof/Machine/Crc.lean ====
section
/-! DEFINITION. The checksums and digests that the spec names: CRC-32C, CRC-64 and SHA3-512. -/

namespace Sys2Proof.Machine

/-- `k` steps of a reflected CRC register over zero input bits. -/
def crcSteps (poly : Nat) : Nat → Nat → Nat
  | 0, c => c
  | k + 1, c => crcSteps poly k (if c % 2 = 1 then (c / 2) ^^^ poly else c / 2)

/-- A reflected CRC of `w` bits over bytes, with the register set to all ones first and inverted at the
end. -/
def crcRefl (w poly : Nat) (l : List Byte) : Nat :=
  (l.foldl (fun c b => crcSteps poly 8 (c ^^^ b.toNat)) (2 ^ w - 1)) ^^^ (2 ^ w - 1)

/-- The CRC-16 of Modbus RTU: the register is not inverted at the end. -/
def crc16modbus (l : List Byte) : Nat := l.foldl (fun c b => crcSteps 0xA001 8 (c ^^^ b.toNat)) 0xFFFF

/-- CRC-32C (Castagnoli). -/
def crc32c (l : List Byte) : Nat := crcRefl 32 0x82F63B78 l

/-- CRC-64/XZ (R320). -/
def crc64xz (l : List Byte) : Nat := crcRefl 64 0xC96C5795D7870F42 l

/-! ## SHA3-512 (FIPS 202) -/

/-- A state of Keccak-f[1600]: 25 lanes, lane x + 5 y. -/
abbrev Keccak := List Word64

def Keccak.lane (k : Keccak) (x y : Nat) : Word64 := k.getD (x % 5 + 5 * (y % 5)) 0#64

/-- Step theta. -/
def keccakTheta (k : Keccak) : Keccak :=
  let c := fun x => k.lane x 0 ^^^ k.lane x 1 ^^^ k.lane x 2 ^^^ k.lane x 3 ^^^ k.lane x 4
  (List.range 25).map (fun i =>
    k.lane i (i / 5) ^^^ c (i + 4) ^^^ (c (i + 1)).rotateLeft 1)

/-- The rotation offsets of step rho, lane x + 5 y. -/
def keccakRot : List Nat :=
  [0, 1, 62, 28, 27, 36, 44, 6, 55, 20, 3, 10, 43, 25, 39, 41, 45, 15, 21, 8, 18, 2, 61, 56, 14]

/-- Steps rho and pi: the lane (x, y) goes to (y, 2x + 3y). -/
def keccakRhoPi (k : Keccak) : Keccak :=
  (List.range 25).map (fun i =>
    let x := i % 5
    let y := i / 5
    let sx := (x + 3 * y) % 5
    let j := sx + 5 * x
    (k.getD j 0#64).rotateLeft (keccakRot.getD j 0))

/-- Step chi. -/
def keccakChi (k : Keccak) : Keccak :=
  (List.range 25).map (fun i =>
    let x := i % 5
    let y := i / 5
    k.lane x y ^^^ (~~~ k.lane (x + 1) y &&& k.lane (x + 2) y))

/-- The round constants of step iota. -/
def keccakRC : List Word64 :=
  [0x0000000000000001, 0x0000000000008082, 0x800000000000808A, 0x8000000080008000,
   0x000000000000808B, 0x0000000080000001, 0x8000000080008081, 0x8000000000008009,
   0x000000000000008A, 0x0000000000000088, 0x0000000080008009, 0x000000008000000A] ++
  [0x000000008000808B, 0x800000000000008B, 0x8000000000008089, 0x8000000000008003,
   0x8000000000008002, 0x8000000000000080, 0x000000000000800A, 0x800000008000000A,
   0x8000000080008081, 0x8000000000008080, 0x0000000080000001, 0x8000000080008008]

/-- Keccak-f[1600]. -/
def keccakF (k : Keccak) : Keccak :=
  keccakRC.foldl (fun a rc =>
    match keccakChi (keccakRhoPi (keccakTheta a)) with
    | h :: t => (h ^^^ rc) :: t
    | [] => []) k

/-- A block of `rate` bytes into the state. -/
def keccakAbsorb (rate : Nat) (k : Keccak) (block : List Byte) : Keccak :=
  keccakF ((List.range 25).map (fun i =>
    if i < rate / 8 then k.getD i 0#64 ^^^ BitVec.ofNat 64 (leNat ((block.drop (8 * i)).take 8))
    else k.getD i 0#64))

/-- `n` blocks absorbed. -/
def keccakBlocks (rate : Nat) : Nat → Keccak → List Byte → Keccak
  | 0, k, _ => k
  | n + 1, k, l => keccakBlocks rate n (keccakAbsorb rate k (l.take rate)) (l.drop rate)

/-- A message closed by a domain suffix and the padding to a multiple of `rate` bytes, absorbed into the zero state. -/
def keccakSponge (rate suffix : Nat) (l : List Byte) : Keccak :=
  let q := rate - l.length % rate
  let pad : List Byte := if q = 1 then [BitVec.ofNat 8 (suffix + 128)]
    else BitVec.ofNat 8 suffix :: (List.replicate (q - 2) 0#8 ++ [0x80#8])
  let m := l ++ pad
  keccakBlocks rate (m.length / rate) (List.replicate 25 0#64) m

/-- SHA3-512: 64 bytes. -/
def sha3_512 (l : List Byte) : List Byte :=
  ((keccakSponge 72 6 l).take 8).flatMap (fun w => natLE 8 w.toNat)

/-! ## KMAC256 (NIST SP 800-185) -/

/-- The ASCII bytes of a string. -/
def ascii (t : String) : List Byte := t.toList.map (fun c => BitVec.ofNat 8 c.toNat)

/-- A number below 65,536 as left_encode writes it. -/
def leftEncode (n : Nat) : List Byte :=
  if n < 256 then [1#8, BitVec.ofNat 8 n] else [2#8, BitVec.ofNat 8 (n / 256), BitVec.ofNat 8 n]

/-- A number below 65,536 as right_encode writes it. -/
def rightEncode (n : Nat) : List Byte :=
  if n < 256 then [BitVec.ofNat 8 n, 1#8] else [BitVec.ofNat 8 (n / 256), BitVec.ofNat 8 n, 2#8]

/-- encode_string of a short string. -/
def encodeStr (l : List Byte) : List Byte := leftEncode (8 * l.length) ++ l

/-- bytepad to the rate of 136 bytes. -/
def bytepad136 (l : List Byte) : List Byte :=
  let m := leftEncode 136 ++ l
  m ++ List.replicate ((136 - m.length % 136) % 136) 0#8

/-- KMAC256(K, X, L, S), with L in bits, at most 1,088 (R408). -/
def kmac256 (key x : List Byte) (lbits : Nat) (custom : List Byte) : List Byte :=
  let m := bytepad136 (encodeStr (ascii "KMAC") ++ encodeStr custom) ++ bytepad136 (encodeStr key)
    ++ x ++ rightEncode lbits
  ((keccakSponge 136 4 m).flatMap (fun w => natLE 8 w.toNat)).take (lbits / 8)

end Sys2Proof.Machine
end

