-- ==== Sys2Proof/Machine/Pcie.lean ====
section
/-! DEFINITION. The configuration space of a host port's endpoint (R67, R461): 53 registers, with the values that R67 states and
the layout of PCI Express. -/

namespace Sys2Proof.Machine

/-- A register of the configuration space: offset, value after a port reset, bits that a write sets, bits that a write of 1
clears. The vendor identifier, the revision and what R67 leaves to the standard are PRESUMED (log entry 193). -/
structure CfgRow where
  off : Nat
  reset : Nat
  wmask : Nat := 0
  cmask : Nat := 0
  deriving DecidableEq, Repr, Inhabited

/-- The type 0 header of port `p` (R67): device ID 0x0880, class code 0x08_8000, subsystem ID 0 on port A and 1 on port B,
BAR0 of 64 bits and 16 MiB, BAR2 of 64 bits and 64 KiB, no expansion ROM, Interrupt Pin 0. -/
def cfgHeader (p : Nat) : List CfgRow := [
  ⟨0x00, Config.pciVendor % 2 ^ 16 + 0x0880 * 2 ^ 16, 0, 0⟩,
  ⟨0x04, 0x00100000, 0x0547, 0xF9000000⟩,
  ⟨0x08, Config.pciRevision % 2 ^ 8 + 0x088000 * 2 ^ 8, 0, 0⟩,
  ⟨0x0C, 0, 0xFF, 0⟩,
  ⟨0x10, 4, 0xFF000000, 0⟩, ⟨0x14, 0, 0xFFFFFFFF, 0⟩,
  ⟨0x18, 4, 0xFFFF0000, 0⟩, ⟨0x1C, 0, 0xFFFFFFFF, 0⟩,
  ⟨0x20, 0, 0, 0⟩, ⟨0x24, 0, 0, 0⟩, ⟨0x28, 0, 0, 0⟩,
  ⟨0x2C, Config.pciVendor % 2 ^ 16 + p * 2 ^ 16, 0, 0⟩,
  ⟨0x30, 0, 0, 0⟩, ⟨0x34, 0x40, 0, 0⟩, ⟨0x38, 0, 0, 0⟩, ⟨0x3C, 0, 0xFF, 0⟩]

/-- The capabilities (R67, R461): power management, MSI-X with 128 vectors in BAR2, PCI Express with payloads of up to 512
bytes, 10-bit tags, FLR, completion timeout ranges A to C and links of up to ×2 at 16.0 GT/s, AER with ECRC, LTR, and the L1
substates. -/
def cfgCaps : List CfgRow := [
  ⟨0x40, 0x00035001, 0, 0⟩, ⟨0x44, 0, 3, 0⟩,
  ⟨0x50, 0x007F6011, 0xC0000000, 0⟩, ⟨0x54, 0x8002, 0, 0⟩, ⟨0x58, 0xC002, 0, 0⟩,
  ⟨0x60, 0x00020010, 0, 0⟩, ⟨0x64, 0x10008022, 0, 0⟩, ⟨0x68, 0x2810, 0x7FFF, 0xF0000⟩,
  ⟨0x6C, 0x824, 0, 0⟩, ⟨0x70, 0, 0x3FB, 0⟩,
  ⟨0x74, 0, 0, 0⟩, ⟨0x78, 0, 0, 0⟩, ⟨0x7C, 0, 0, 0⟩, ⟨0x80, 0, 0, 0⟩,
  ⟨0x84, 0x30817, 0, 0⟩, ⟨0x88, 0, 0x141F, 0⟩,
  ⟨0x8C, 0x1E, 0, 0⟩, ⟨0x90, 4, 0xFFFF, 0⟩, ⟨0x94, 0, 0, 0⟩, ⟨0x98, 0, 0, 0⟩,
  ⟨0x100, 0x14020001, 0, 0⟩, ⟨0x104, 0, 0, 0x7FFFFFF⟩, ⟨0x108, 0, 0x7FFFFFF, 0⟩, ⟨0x10C, 0x462030, 0x7FFFFFF, 0⟩,
  ⟨0x110, 0, 0, 0xF1C1⟩, ⟨0x114, 0x2000, 0xF1C1, 0⟩, ⟨0x118, 0xA0, 0x140, 0⟩,
  ⟨0x11C, 0, 0, 0⟩, ⟨0x120, 0, 0, 0⟩, ⟨0x124, 0, 0, 0⟩, ⟨0x128, 0, 0, 0⟩,
  ⟨0x140, 0x15010018, 0, 0⟩, ⟨0x144, 0, 0x1FFF1FFF, 0⟩,
  ⟨0x150, 0x0001001E, 0, 0⟩, ⟨0x154, 0x1F, 0, 0⟩, ⟨0x158, 0, 0xE3FFFF0F, 0⟩, ⟨0x15C, 0, 0xFB, 0⟩]

/-- The 53 registers of port `p` (R461). -/
def cfgRows (p : Nat) : List CfgRow := cfgHeader p ++ cfgCaps

/-- The register at a dword offset; elsewhere the space reads as zero. -/
def cfgRow (p a : Nat) : CfgRow := ((cfgRows p).find? (fun r => r.off == a)).getD ⟨a, 0, 0, 0⟩

/-- The value of a configuration register after a port reset. -/
def cfgReset (p a : Nat) : Word := BitVec.ofNat 32 (cfgRow p a).reset

end Sys2Proof.Machine
end

