-- ==== Sys2Proof/Machine/RegMap.lean ====
section
/-! DEFINITION. The register map of BAR0 (chapter 22, R460 to R466, and the register tables of every
chapter): the offset of each register, the fields of each register, the reset value, the access
code and the writable bits of each register. Written from the register tables of spec/. -/

namespace Sys2Proof.Machine

/-- The access codes of R3. -/
inductive Acc where
  | ro | rw | rwg | w1c | rc | snap
  deriving DecidableEq, Repr

/-- A field of a register: the register's BAR0 offset, the lowest bit and the width. -/
structure Fld where
  off : Nat
  lo : Nat
  w : Nat
  deriving DecidableEq, Repr

/-- One line of a register table: the first offset, the repetitions as (count, stride) with the
widest stride first, the access code, the reset value, the bits that a write sets, the bits that
writing 1 clears, and whether each port has its own value (R465). -/
structure RegRow where
  off : Nat
  dims : List (Nat × Nat)
  acc : Acc
  reset : Nat
  wmask : Nat
  cmask : Nat
  perPort : Bool
  deriving DecidableEq, Repr

namespace R

def PCR_STATUS : Nat := 0x100000
def PCR_RST_CAUSE : Nat := 0x100004
def PCR_RST_CTL : Nat := 0x100008
def PCR_PLL_STATUS : Nat := 0x10000c
def PCR_GATE_CTL : Nat := 0x100010
def PCR_VIN : Nat := 0x100014
def PCR_HOLDUP : Nat := 0x100018
def PCR_PFAIL_CNT : Nat := 0x10001c
def PCR_POWER : Nat := 0x100020
def HP_ID (i : Nat) : Nat := 0x10000 + 0x10000 * i
def HP_CTL (i : Nat) : Nat := 0x10004 + 0x10000 * i
def HP_STATUS (i : Nat) : Nat := 0x10008 + 0x10000 * i
def HP_ERR (i : Nat) : Nat := 0x1000c + 0x10000 * i
def HP_RSV_WRITES (i : Nat) : Nat := 0x10010 + 0x10000 * i
def HP_DROP_WRITES (i : Nat) : Nat := 0x10014 + 0x10000 * i
def HP_DB_IGNORED (i : Nat) : Nat := 0x10018 + 0x10000 * i
def HP_SQ_BASE_LO (i n : Nat) : Nat := 0x11000 + 0x10000 * i + 0x20 * n
def HP_SQ_BASE_HI (i n : Nat) : Nat := 0x11004 + 0x10000 * i + 0x20 * n
def HP_SQ_CFG (i n : Nat) : Nat := 0x11008 + 0x10000 * i + 0x20 * n
def HP_SQ_HEAD (i n : Nat) : Nat := 0x1100c + 0x10000 * i + 0x20 * n
def HP_SQ_TAIL (i n : Nat) : Nat := 0x11010 + 0x10000 * i + 0x20 * n
def HP_SQ_STATUS (i n : Nat) : Nat := 0x11014 + 0x10000 * i + 0x20 * n
def HP_CQ_BASE_LO (i n : Nat) : Nat := 0x12000 + 0x10000 * i + 0x20 * n
def HP_CQ_BASE_HI (i n : Nat) : Nat := 0x12004 + 0x10000 * i + 0x20 * n
def HP_CQ_CFG (i n : Nat) : Nat := 0x12008 + 0x10000 * i + 0x20 * n
def HP_CQ_TAIL (i n : Nat) : Nat := 0x1200c + 0x10000 * i + 0x20 * n
def HP_CQ_HEAD (i n : Nat) : Nat := 0x12010 + 0x10000 * i + 0x20 * n
def HP_CQ_COAL (i n : Nat) : Nat := 0x12014 + 0x10000 * i + 0x20 * n
def HP_CQ_STATUS (i n : Nat) : Nat := 0x12018 + 0x10000 * i + 0x20 * n
def GATE_TAKE (n : Nat) : Nat := 0x30000 + 0x10 * n
def GATE_LEASE (n : Nat) : Nat := 0x30004 + 0x10 * n
def GATE_STATUS (n : Nat) : Nat := 0x30008 + 0x10 * n
def GATE_DROPS (n : Nat) : Nat := 0x3000c + 0x10 * n
def CTX_SEL : Nat := 0x31000
def CTX_INFO : Nat := 0x31004
def CTX_TAGS_LO : Nat := 0x31008
def CTX_TAGS_HI : Nat := 0x3100c
def CTX_DENY : Nat := 0x31010
def IRT_ROUTE (n : Nat) : Nat := 0x120000 + 4 * n
def IRT_PEND_LO : Nat := 0x120100
def IRT_PEND_HI : Nat := 0x120104
def PIX_CTL : Nat := 0x200000
def PIX_STATUS : Nat := 0x200004
def PIX_CRC_ERR : Nat := 0x200008
def PIX_CRC_LAST : Nat := 0x20000c
def PIX_EVENT : Nat := 0x200010
def PIX_EVENT_EN : Nat := 0x200014
def REP_CTL : Nat := 0x210000
def REP_NODE : Nat := 0x210004
def REP_BUILDING : Nat := 0x210008
def REP_TIMEOUT : Nat := 0x21000c
def REP_REFRESH : Nat := 0x210010
def REP_GROUP (k : Nat) : Nat := 0x210014 + 4 * k
def REP_STATUS : Nat := 0x210024
def REP_EVENT : Nat := 0x210028
def REP_EVENT_EN : Nat := 0x21002c
def REP_OWN_SEL : Nat := 0x210030
def REP_OWN : Nat := 0x210034
def REP_OWN_GEN : Nat := 0x210038
def REP_OWN_CAND : Nat := 0x21003c
def REP_OWN_CMD : Nat := 0x210040
def REP_OWN_TIME_LO : Nat := 0x210044
def REP_OWN_TIME_HI : Nat := 0x210048
def REP_OWN_RESULT : Nat := 0x21004c
def REP_TX_FRAMES : Nat := 0x210050
def REP_RX_FRAMES : Nat := 0x210054
def REP_DUP : Nat := 0x210058
def REP_OWN_ECHO : Nat := 0x21005c
def REP_FOREIGN : Nat := 0x210060
def REP_OLDER : Nat := 0x210064
def REP_FUTURE : Nat := 0x210068
def REP_BAD : Nat := 0x21006c
def REP_GAPS : Nat := 0x210070
def REP_RESYNC_REQ : Nat := 0x210074
def REP_RESYNC_SERVED : Nat := 0x210078
def REP_ORG_SEL : Nat := 0x210080
def REP_ORG_STATE : Nat := 0x210084
def REP_ORG_SEQ : Nat := 0x210088
def SCN_CTL : Nat := 0x300000
def SCN_STATUS : Nat := 0x300004
def SCN_EVENT : Nat := 0x300008
def SCN_EVENT_EN : Nat := 0x30000c
def SCN_FAULT_TASK : Nat := 0x300010
def SCN_FAULT_PC : Nat := 0x300014
def SCN_FAULT_CYC_LO : Nat := 0x300018
def SCN_FAULT_CYC_HI : Nat := 0x30001c
def SCN_PAIR_MISMATCH : Nat := 0x300020
def SCN_BREAK_PC : Nat := 0x300024
def SCN_LOAD (k : Nat) : Nat := 0x300028 + 4 * k
def SCN_T_CFG (n : Nat) : Nat := 0x301000 + 0x40 * n
def SCN_T_PERIOD (n : Nat) : Nat := 0x301004 + 0x40 * n
def SCN_T_STATE (n : Nat) : Nat := 0x301008 + 0x40 * n
def SCN_T_CYC_LO (n : Nat) : Nat := 0x30100c + 0x40 * n
def SCN_T_CYC_HI (n : Nat) : Nat := 0x301010 + 0x40 * n
def SCN_T_EXEC_LAST (n : Nat) : Nat := 0x301014 + 0x40 * n
def SCN_T_EXEC_MAX (n : Nat) : Nat := 0x301018 + 0x40 * n
def SCN_T_LATE (n : Nat) : Nat := 0x30101c + 0x40 * n
def SCN_T_OVERFLOW (n : Nat) : Nat := 0x301020 + 0x40 * n
def SCN_T_LOST_LO (n : Nat) : Nat := 0x301024 + 0x40 * n
def SCN_T_LOST_HI (n : Nat) : Nat := 0x301028 + 0x40 * n
def SCN_T_DROP (n : Nat) : Nat := 0x30102c + 0x40 * n
def OLC_CTL : Nat := 0x310000
def OLC_STATUS : Nat := 0x310004
def OLC_EVENT : Nat := 0x310008
def OLC_EVENT_EN : Nat := 0x31000c
def OLC_LAST_RESULT : Nat := 0x310010
def OLC_SWITCH_TIME : Nat := 0x310014
def OLC_CHANGES : Nat := 0x310018
def OLC_ITEMS_FORCED : Nat := 0x31001c
def OLC_FORCE_SEL : Nat := 0x310020
def OLC_FORCE_INFO : Nat := 0x310024
def OLC_FORCE_HASH_LO : Nat := 0x310028
def OLC_FORCE_HASH_HI : Nat := 0x31002c
def OLC_FORCE_VAL_LO : Nat := 0x310030
def OLC_FORCE_VAL_HI : Nat := 0x310034
def OLC_DIGEST (k : Nat) : Nat := 0x310040 + 4 * k
def LE_CTL (i : Nat) : Nat := 0x400000 + 0x10000 * i
def LE_STATUS (i : Nat) : Nat := 0x400004 + 0x10000 * i
def LE_LOAD (i : Nat) : Nat := 0x400008 + 0x10000 * i
def LE_EVENT (i : Nat) : Nat := 0x40000c + 0x10000 * i
def LE_EVENT_EN (i : Nat) : Nat := 0x400010 + 0x10000 * i
def LE_FE_COUNT (i : Nat) : Nat := 0x400014 + 0x10000 * i
def LE_FE_LAST (i : Nat) : Nat := 0x400018 + 0x10000 * i
def LE_SLOT_SEL (i : Nat) : Nat := 0x400020 + 0x10000 * i
def LE_SLOT_INFO (i : Nat) : Nat := 0x400024 + 0x10000 * i
def LE_SLOT_STATUS (i : Nat) : Nat := 0x400028 + 0x10000 * i
def LE_QTY_LO (i : Nat) : Nat := 0x40002c + 0x10000 * i
def LE_QTY_HI (i : Nat) : Nat := 0x400030 + 0x10000 * i
def LE_WR_CMD (i : Nat) : Nat := 0x400040 + 0x10000 * i
def LE_WR_VAL_LO (i : Nat) : Nat := 0x400044 + 0x10000 * i
def LE_WR_VAL_HI (i : Nat) : Nat := 0x400048 + 0x10000 * i
def LE_WR_RESULT (i : Nat) : Nat := 0x40004c + 0x10000 * i
def LE_MEM_SEL (i : Nat) : Nat := 0x400050 + 0x10000 * i
def LE_MEM_INFO (i : Nat) : Nat := 0x400054 + 0x10000 * i
def LE_MEM_CMD (i : Nat) : Nat := 0x400058 + 0x10000 * i
def LE_MEM_UPDATES (i : Nat) : Nat := 0x40005c + 0x10000 * i
def LE_TR_CFG (i n : Nat) : Nat := 0x400100 + 0x10000 * i + 0x40 * n
def LE_TR_NODES_LO (i n : Nat) : Nat := 0x400104 + 0x10000 * i + 0x40 * n
def LE_TR_NODES_HI (i n : Nat) : Nat := 0x400108 + 0x10000 * i + 0x40 * n
def LE_TR_TRIG (i n : Nat) : Nat := 0x40010c + 0x10000 * i + 0x40 * n
def LE_TR_LEVEL (i n : Nat) : Nat := 0x400110 + 0x10000 * i + 0x40 * n
def LE_TR_CMD (i n : Nat) : Nat := 0x400114 + 0x10000 * i + 0x40 * n
def LE_TR_STATUS (i n : Nat) : Nat := 0x400118 + 0x10000 * i + 0x40 * n
def LE_TR_GAPS (i n : Nat) : Nat := 0x40011c + 0x10000 * i + 0x40 * n
def LE_TR_TIME_LO (i n : Nat) : Nat := 0x400120 + 0x10000 * i + 0x40 * n
def LE_TR_TIME_HI (i n : Nat) : Nat := 0x400124 + 0x10000 * i + 0x40 * n
def LI_CFG (i : Nat) : Nat := 0x500000 + 0x100 * i
def LI_COMPLY (i : Nat) : Nat := 0x500004 + 0x100 * i
def LI_SCALE_LO (i : Nat) : Nat := 0x500008 + 0x100 * i
def LI_SCALE_HI (i : Nat) : Nat := 0x50000c + 0x100 * i
def LI_CMD (i : Nat) : Nat := 0x500010 + 0x100 * i
def LI_STATUS (i : Nat) : Nat := 0x500014 + 0x100 * i
def LI_EVENT (i : Nat) : Nat := 0x500018 + 0x100 * i
def LI_EVENT_EN (i : Nat) : Nat := 0x50001c + 0x100 * i
def LI_CODE (i : Nat) : Nat := 0x500020 + 0x100 * i
def LI_MEAS (i : Nat) : Nat := 0x500024 + 0x100 * i
def LI_VOLT (i : Nat) : Nat := 0x500028 + 0x100 * i
def LI_TEMP (i : Nat) : Nat := 0x50002c + 0x100 * i
def LI_FAULTS (i : Nat) : Nat := 0x500030 + 0x100 * i
def LI_HANDOVERS (i : Nat) : Nat := 0x500034 + 0x100 * i
def UI_FAULTY : Nat := 0x510000
def UI_EVENT : Nat := 0x510004
def UI_EVENT_EN : Nat := 0x510008
def UI_CFG (n : Nat) : Nat := 0x510100 + 0x10 * n
def UI_PARAM (n : Nat) : Nat := 0x510104 + 0x10 * n
def UI_RAW (n : Nat) : Nat := 0x510108 + 0x10 * n
def UI_STAT (n : Nat) : Nat := 0x51010c + 0x10 * n
def DO_CTL : Nat := 0x520000
def DO_EN : Nat := 0x520004
def DO_CMD : Nat := 0x520008
def DO_STATE : Nat := 0x52000c
def DO_READBACK : Nat := 0x520010
def DO_SHORT : Nat := 0x520014
def DO_OPEN : Nat := 0x520018
def DO_VS : Nat := 0x52001c
def DO_EVENT : Nat := 0x520020
def DO_EVENT_EN : Nat := 0x520024
def DALI_CTL (i : Nat) : Nat := 0x530000 + 0x1000 * i
def DALI_STATUS (i : Nat) : Nat := 0x530004 + 0x1000 * i
def DALI_RAW_TX (i : Nat) : Nat := 0x530008 + 0x1000 * i
def DALI_RAW_RX (i : Nat) : Nat := 0x53000c + 0x1000 * i
def DALI_EVENT (i : Nat) : Nat := 0x530010 + 0x1000 * i
def DALI_EVENT_EN (i : Nat) : Nat := 0x530014 + 0x1000 * i
def DALI_COLLISIONS (i : Nat) : Nat := 0x530018 + 0x1000 * i
def DALI_NOANSWER (i : Nat) : Nat := 0x53001c + 0x1000 * i
def SER_CFG (i : Nat) : Nat := 0x540000 + 0x1000 * i
def SER_STATUS (i : Nat) : Nat := 0x540004 + 0x1000 * i
def SER_EVENT (i : Nat) : Nat := 0x540008 + 0x1000 * i
def SER_EVENT_EN (i : Nat) : Nat := 0x54000c + 0x1000 * i
def SER_TXN (i : Nat) : Nat := 0x540010 + 0x1000 * i
def SER_FAILED (i : Nat) : Nat := 0x540014 + 0x1000 * i
def MTR_CTL : Nat := 0x600000
def MTR_STATUS : Nat := 0x600004
def MTR_EVENT : Nat := 0x600008
def MTR_EVENT_EN : Nat := 0x60000c
def MTR_JOURNAL_SEQ_LO : Nat := 0x600010
def MTR_JOURNAL_SEQ_HI : Nat := 0x600014
def MTR_JOURNAL_ID : Nat := 0x600018
def MTR_COMMIT_LAT : Nat := 0x60001c
def MTR_GAP_S : Nat := 0x600020
def MTR_FREQ : Nat := 0x600024
def MTR_V_RMS (k : Nat) : Nat := 0x600028 + 4 * k
def MTR_CAL_CMD : Nat := 0x600040
def MTR_CAL_STATUS : Nat := 0x600044
def MTR_ASSAY_POS : Nat := 0x600048
def MTR_DPX_DIFF : Nat := 0x60004c
def MTR_CH_CFG (n : Nat) : Nat := 0x601000 + 0x20 * n
def MTR_CH_PRIMARY (n : Nat) : Nat := 0x601004 + 0x20 * n
def MTR_CH_STATUS (n : Nat) : Nat := 0x601008 + 0x20 * n
def MTR_CH_IRMS (n : Nat) : Nat := 0x60100c + 0x20 * n
def MTR_CH_P (n : Nat) : Nat := 0x601010 + 0x20 * n
def MTR_CH_Q (n : Nat) : Nat := 0x601014 + 0x20 * n
def MTR_CH_TRIM (n : Nat) : Nat := 0x601018 + 0x20 * n
def MTR_CH_TRIMPH (n : Nat) : Nat := 0x60101c + 0x20 * n
def MTR_CIR_CFG (n : Nat) : Nat := 0x602000 + 0x10 * n
def MTR_CIR_P (n : Nat) : Nat := 0x602004 + 0x10 * n
def MTR_CIR_Q (n : Nat) : Nat := 0x602008 + 0x10 * n
def MTC_CTL : Nat := 0x610000
def MTC_TEMP : Nat := 0x610004
def MTC_SEL : Nat := 0x610008
def MTC_GAIN : Nat := 0x61000c
def MTC_PHASE : Nat := 0x610010
def MTC_CMD : Nat := 0x610014
def MTC_SRC_LO : Nat := 0x610018
def MTC_SRC_HI : Nat := 0x61001c
def MTC_STATUS : Nat := 0x610020
def MTC_EVENT : Nat := 0x610024
def MTC_EVENT_EN : Nat := 0x610028
def MTC_CRC_ERR : Nat := 0x61002c
def DPX_CTL : Nat := 0x800000
def DPX_CMD : Nat := 0x800004
def DPX_STATUS : Nat := 0x800008
def DPX_EVENT : Nat := 0x80000c
def DPX_EVENT_EN : Nat := 0x800010
def DPX_SWITCHES : Nat := 0x800014
def DPX_LAST_SWITCH : Nat := 0x800018
def DPX_SWITCH_TIME_LO : Nat := 0x80001c
def DPX_SWITCH_TIME_HI : Nat := 0x800020
def DPX_MISMATCH : Nat := 0x800024
def DPX_XCHECK : Nat := 0x800028
def DPX_LANE_ERR : Nat := 0x80002c
def DPX_XFER : Nat := 0x800030
def DPX_CFG_DIFF : Nat := 0x800034
def DPX_SHIP_MAX : Nat := 0x800038
def CAN_CTL (i : Nat) : Nat := 0x580000 + 0x4000 * i
def CAN_NBT (i : Nat) : Nat := 0x580004 + 0x4000 * i
def CAN_DBT (i : Nat) : Nat := 0x580008 + 0x4000 * i
def CAN_TDC (i : Nat) : Nat := 0x58000c + 0x4000 * i
def CAN_STATUS (i : Nat) : Nat := 0x580010 + 0x4000 * i
def CAN_EVENT (i : Nat) : Nat := 0x580014 + 0x4000 * i
def CAN_EVENT_EN (i : Nat) : Nat := 0x580018 + 0x4000 * i
def CAN_CMD (i : Nat) : Nat := 0x58001c + 0x4000 * i
def CAN_LAST_ERR (i : Nat) : Nat := 0x580020 + 0x4000 * i
def CAN_TX_FRAMES (i : Nat) : Nat := 0x580024 + 0x4000 * i
def CAN_RX_FRAMES (i : Nat) : Nat := 0x580028 + 0x4000 * i
def CAN_ARB_LOST (i : Nat) : Nat := 0x58002c + 0x4000 * i
def CAN_BUS_ERRORS (i : Nat) : Nat := 0x580030 + 0x4000 * i
def CAN_BUSOFF_CNT (i : Nat) : Nat := 0x580034 + 0x4000 * i
def CAN_ECHO_CNT (i : Nat) : Nat := 0x580038 + 0x4000 * i
def CAN_TX_PEND_LO (i : Nat) : Nat := 0x580040 + 0x4000 * i
def CAN_TX_PEND_HI (i : Nat) : Nat := 0x580044 + 0x4000 * i
def CAN_TX_REQ_LO (i : Nat) : Nat := 0x580048 + 0x4000 * i
def CAN_TX_REQ_HI (i : Nat) : Nat := 0x58004c + 0x4000 * i
def CAN_TX_CANCEL_LO (i : Nat) : Nat := 0x580050 + 0x4000 * i
def CAN_TX_CANCEL_HI (i : Nat) : Nat := 0x580054 + 0x4000 * i
def CAN_STN_LOST_LO (i : Nat) : Nat := 0x580058 + 0x4000 * i
def CAN_STN_LOST_HI (i : Nat) : Nat := 0x58005c + 0x4000 * i
def CAN_TXBUF_SEL (i : Nat) : Nat := 0x580100 + 0x4000 * i
def CAN_TXBUF_CTL (i : Nat) : Nat := 0x580104 + 0x4000 * i
def CAN_TXBUF_ID (i : Nat) : Nat := 0x580108 + 0x4000 * i
def CAN_TXBUF_TIME_LO (i : Nat) : Nat := 0x58010c + 0x4000 * i
def CAN_TXBUF_TIME_HI (i : Nat) : Nat := 0x580110 + 0x4000 * i
def CAN_TXBUF_STAT (i : Nat) : Nat := 0x580114 + 0x4000 * i
def CAN_TXBUF_DATA (i k : Nat) : Nat := 0x580140 + 0x4000 * i + 4 * k
def CAN_RXF_STATUS (i n : Nat) : Nat := 0x580200 + 0x4000 * i + 0x80 * n
def CAN_RXF_OVF (i n : Nat) : Nat := 0x580204 + 0x4000 * i + 0x80 * n
def CAN_RXF_ID (i n : Nat) : Nat := 0x580208 + 0x4000 * i + 0x80 * n
def CAN_RXF_CTL (i n : Nat) : Nat := 0x58020c + 0x4000 * i + 0x80 * n
def CAN_RXF_TS_LO (i n : Nat) : Nat := 0x580210 + 0x4000 * i + 0x80 * n
def CAN_RXF_TS_HI (i n : Nat) : Nat := 0x580214 + 0x4000 * i + 0x80 * n
def CAN_RXF_POP (i n : Nat) : Nat := 0x580218 + 0x4000 * i + 0x80 * n
def CAN_RXF_DATA (i n k : Nat) : Nat := 0x580240 + 0x4000 * i + 0x80 * n + 4 * k
def CAN_FLT_SEL (i : Nat) : Nat := 0x580300 + 0x4000 * i
def CAN_FLT_ID (i : Nat) : Nat := 0x580304 + 0x4000 * i
def CAN_FLT_MASK (i : Nat) : Nat := 0x580308 + 0x4000 * i
def CAN_FLT_CTL (i : Nat) : Nat := 0x58030c + 0x4000 * i
def CAN_FLT_HITS (i : Nat) : Nat := 0x580310 + 0x4000 * i
def ETH_CTL (i : Nat) : Nat := 0x700000 + 0x10000 * i
def ETH_STATUS (i : Nat) : Nat := 0x700004 + 0x10000 * i
def ETH_EVENT (i : Nat) : Nat := 0x700008 + 0x10000 * i
def ETH_EVENT_EN (i : Nat) : Nat := 0x70000c + 0x10000 * i
def ETH_ADDR_LO (i : Nat) : Nat := 0x700010 + 0x10000 * i
def ETH_ADDR_HI (i : Nat) : Nat := 0x700014 + 0x10000 * i
def ETH_VLAN (i : Nat) : Nat := 0x700018 + 0x10000 * i
def ETH_PAUSE (i : Nat) : Nat := 0x70001c + 0x10000 * i
def ETH_HASH (i k : Nat) : Nat := 0x700040 + 0x10000 * i + 4 * k
def ETH_CNT_HALF_LO (i : Nat) : Nat := 0x700080 + 0x10000 * i
def ETH_CNT_HALF_HI (i : Nat) : Nat := 0x700084 + 0x10000 * i
def ETH_CNT (i k : Nat) : Nat := 0x700100 + 0x10000 * i + 4 * k
def PTP_CTL : Nat := 0x730000
def PTP_STATUS : Nat := 0x730004
def PTP_EVENT : Nat := 0x730008
def PTP_EVENT_EN : Nat := 0x73000c
def PTP_TIME_NS : Nat := 0x730010
def PTP_TIME_SEC_LO : Nat := 0x730014
def PTP_TIME_SEC_HI : Nat := 0x730018
def PTP_ADDEND : Nat := 0x73001c
def PTP_SET_NS : Nat := 0x730020
def PTP_SET_SEC_LO : Nat := 0x730024
def PTP_SET_SEC_HI : Nat := 0x730028
def PTP_CMD : Nat := 0x73002c
def PTP_SERVO : Nat := 0x730030
def PTP_INTERVALS : Nat := 0x730034
def PTP_BMC : Nat := 0x730038
def PTP_HOLDOVER_CFG : Nat := 0x73003c
def PTP_OFFSET : Nat := 0x730040
def PTP_GM_LO : Nat := 0x730044
def PTP_GM_HI : Nat := 0x730048
def PTP_UTC : Nat := 0x73004c
def PTP_HOLDOVER_TIME : Nat := 0x730050
def PTP_STEPS : Nat := 0x730054
def PTP_TXQ_STATUS : Nat := 0x730058
def PTP_RXQ_STATUS : Nat := 0x73005c
def PTP_QSTICKY : Nat := 0x730060
def PTP_TXQ_OVF : Nat := 0x730064
def PTP_RXQ_OVF (k : Nat) : Nat := 0x730068 + 4 * k
def PTP_CORR (k : Nat) : Nat := 0x730080 + 4 * k
def BKD_STATUS : Nat := 0x900000
def BKD_EVENT : Nat := 0x900004
def BKD_EVENT_EN : Nat := 0x900008
def BKD_COUNT_LO : Nat := 0x90000c
def BKD_COUNT_HI : Nat := 0x900010
def BKD_SET_LO : Nat := 0x900014
def BKD_SET_HI : Nat := 0x900018
def BKD_ALARM_LO : Nat := 0x90001c
def BKD_ALARM_HI : Nat := 0x900020
def BKD_TRIM : Nat := 0x900024
def BKD_WAKE : Nat := 0x900028
def BKD_CMD : Nat := 0x90002c
def BKD_CAP_COUNT_LO : Nat := 0x900030
def BKD_CAP_COUNT_HI : Nat := 0x900034
def BKD_CAP_PTP_LO : Nat := 0x900038
def BKD_CAP_PTP_HI : Nat := 0x90003c
def BKD_WAKE_CNT : Nat := 0x900040
def BKD_VBAT : Nat := 0x900044
def BKD_CRC : Nat := 0x900048
def BKD_BYTE (k : Nat) : Nat := 0x900080 + 4 * k
def LOG_CTL : Nat := 0x910000
def LOG_STATUS : Nat := 0x910004
def LOG_EVENT : Nat := 0x910008
def LOG_EVENT_EN : Nat := 0x91000c
def LOG_MAIN_FIRST_LO : Nat := 0x910010
def LOG_MAIN_FIRST_HI : Nat := 0x910014
def LOG_MAIN_NEXT_LO : Nat := 0x910018
def LOG_MAIN_NEXT_HI : Nat := 0x91001c
def LOG_AUDIT_FIRST_LO : Nat := 0x910020
def LOG_AUDIT_FIRST_HI : Nat := 0x910024
def LOG_AUDIT_NEXT_LO : Nat := 0x910028
def LOG_AUDIT_NEXT_HI : Nat := 0x91002c
def LOG_EPOCH_MS_LO : Nat := 0x910030
def LOG_EPOCH_MS_HI : Nat := 0x910034
def LOG_EPOCH_TICK_LO : Nat := 0x910038
def LOG_EPOCH_TICK_HI : Nat := 0x91003c
def LOG_EPOCH_CMD : Nat := 0x910040
def LOG_CRC_ERR : Nat := 0x910044
def LOG_CLEARS : Nat := 0x910048
def CRU_STATUS : Nat := 0xa00000
def CRU_LOAD_ID : Nat := 0xa00004
def CRU_EVENT : Nat := 0xa00008
def CRU_EVENT_EN : Nat := 0xa0000c
def CRU_USES : Nat := 0xa00010
def CRU_REFUSALS : Nat := 0xa00014
def CRU_TOKEN_FAILS : Nat := 0xa00018
def CRU_CTR_SEL : Nat := 0xa0001c
def CRU_CTR_LO : Nat := 0xa00020
def CRU_CTR_HI : Nat := 0xa00024
def HMK_STATE : Nat := 0xa00030
def HMK_ID_DIGEST (k : Nat) : Nat := 0xa00040 + 4 * k
def HMK_OP_DIGEST (k : Nat) : Nat := 0xa00080 + 4 * k
def FWU_CTL : Nat := 0xa10000
def FWU_STATUS : Nat := 0xa10004
def FWU_EVENT : Nat := 0xa10008
def FWU_EVENT_EN : Nat := 0xa1000c
def FWU_CMD : Nat := 0xa10010
def FWU_STAGE : Nat := 0xa10014
def FWU_FLOOR : Nat := 0xa10018
def FWU_LAST : Nat := 0xa1001c
def FWU_ARM_TIME_LO : Nat := 0xa10020
def FWU_ARM_TIME_HI : Nat := 0xa10024
def FWU_PART_SEL : Nat := 0xa10028
def FWU_PART_RUN : Nat := 0xa1002c
def FWU_PART_STAGED : Nat := 0xa10030
def FWU_PART_SET : Nat := 0xa10034
def FWU_RX_MAP (k : Nat) : Nat := 0xa10040 + 4 * k
def FWU_RUN_DIGEST (k : Nat) : Nat := 0xa10080 + 4 * k
def FWU_STAGED_DIGEST (k : Nat) : Nat := 0xa100c0 + 4 * k
def SAF_CTL : Nat := 0x810000
def SAF_EVENT : Nat := 0x810004
def SAF_EVENT_EN : Nat := 0x810008
def SAF_FAULT_LAST : Nat := 0x81000c
def SAF_FAULT_TIME_LO : Nat := 0x810010
def SAF_FAULT_TIME_HI : Nat := 0x810014
def SAF_FAULTS : Nat := 0x810018
def SAF_ECC_CORR : Nat := 0x81001c
def SAF_ECC_UNCORR : Nat := 0x810020
def SAF_ECC_LAST : Nat := 0x810024
def SAF_HB_MISS : Nat := 0x810028
def ASY_CTL : Nat := 0x820000
def ASY_CMD : Nat := 0x820004
def ASY_PENDING_LO : Nat := 0x820008
def ASY_PENDING_HI : Nat := 0x82000c
def ASY_EVENT : Nat := 0x820010
def ASY_EVENT_EN : Nat := 0x820014
def ASY_SEL : Nat := 0x820018
def ASY_TGT_STATUS : Nat := 0x82001c
def ASY_TGT_TIME_LO : Nat := 0x820020
def ASY_TGT_TIME_HI : Nat := 0x820024
def ASY_FORCED : Nat := 0x820028
def ASY_RUNS : Nat := 0x82002c
def PMON_CTL : Nat := 0x110000
def PMON_HALF : Nat := 0x110004
def PMON_EVENT_EN : Nat := 0x110008
def PMON_C_SEL (n : Nat) : Nat := 0x110100 + 0x10 * n
def PMON_C_LO (n : Nat) : Nat := 0x110104 + 0x10 * n
def PMON_C_HI (n : Nat) : Nat := 0x110108 + 0x10 * n
def MOD_ID : Nat := 0
def MOD_MAP : Nat := 4
def MOD_SERIAL_LO : Nat := 8
def MOD_SERIAL_HI : Nat := 0xc
def MOD_EVENT : Nat := 0x10
def MOD_EVENT_EN : Nat := 0x14
def MOD_STRAP : Nat := 0x40
def MOD_BLK_BASE (n : Nat) : Nat := 0x1000 + 0x20 * n
def MOD_BLK_INFO (n : Nat) : Nat := 0x1004 + 0x20 * n
def MOD_BLK_SIZE (n : Nat) : Nat := 0x1008 + 0x20 * n
def MOD_BLK_NAME_LO (n : Nat) : Nat := 0x100c + 0x20 * n
def MOD_BLK_NAME_HI (n : Nat) : Nat := 0x1010 + 0x20 * n
def MOD_BLK_RSV_A (n : Nat) : Nat := 0x1014 + 0x20 * n
def MOD_BLK_RSV_B (n : Nat) : Nat := 0x1018 + 0x20 * n
def MOD_BLK_DROPS (n : Nat) : Nat := 0x101c + 0x20 * n

end R

namespace F

def PCR_VIN_BANK : Fld := ⟨R.PCR_VIN, 16, 16⟩
def PCR_VIN_VIN : Fld := ⟨R.PCR_VIN, 0, 16⟩
def PCR_HOLDUP_AGE : Fld := ⟨R.PCR_HOLDUP, 16, 8⟩
def PCR_HOLDUP_ENERGY : Fld := ⟨R.PCR_HOLDUP, 0, 16⟩
def PCR_POWER_POWER : Fld := ⟨R.PCR_POWER, 0, 16⟩
def HP_ID_LINK_UP (i : Nat) : Fld := ⟨R.HP_ID i, 9, 1⟩
def HP_ID_PORT (i : Nat) : Fld := ⟨R.HP_ID i, 8, 1⟩
def HP_ID_WIDTH (i : Nat) : Fld := ⟨R.HP_ID i, 4, 2⟩
def HP_ID_SPEED (i : Nat) : Fld := ⟨R.HP_ID i, 0, 3⟩
def HP_CTL_GATE_LEASE_MS (i : Nat) : Fld := ⟨R.HP_CTL i, 16, 10⟩
def HP_CTL_HALT (i : Nat) : Fld := ⟨R.HP_CTL i, 0, 1⟩
def HP_STATUS_SUBS (i : Nat) : Fld := ⟨R.HP_STATUS i, 15, 17⟩
def HP_STATUS_INFLIGHT (i : Nat) : Fld := ⟨R.HP_STATUS i, 0, 10⟩
def HP_ERR_CQ_DISABLE_REFUSED (i : Nat) : Fld := ⟨R.HP_ERR i, 3, 1⟩
def HP_ERR_FOREIGN_WRITE (i : Nat) : Fld := ⟨R.HP_ERR i, 2, 1⟩
def HP_ERR_DB_DISABLED (i : Nat) : Fld := ⟨R.HP_ERR i, 1, 1⟩
def HP_ERR_CFG_LOCKED (i : Nat) : Fld := ⟨R.HP_ERR i, 0, 1⟩
def HP_SQ_BASE_LO_ADDR (i n : Nat) : Fld := ⟨R.HP_SQ_BASE_LO i n, 12, 20⟩
def HP_SQ_CFG_ENABLE (i n : Nat) : Fld := ⟨R.HP_SQ_CFG i n, 31, 1⟩
def HP_SQ_CFG_CQID (i n : Nat) : Fld := ⟨R.HP_SQ_CFG i n, 24, 6⟩
def HP_SQ_CFG_CTX (i n : Nat) : Fld := ⟨R.HP_SQ_CFG i n, 16, 8⟩
def HP_SQ_CFG_PRIO (i n : Nat) : Fld := ⟨R.HP_SQ_CFG i n, 8, 2⟩
def HP_SQ_CFG_SIZE_LOG2 (i n : Nat) : Fld := ⟨R.HP_SQ_CFG i n, 0, 5⟩
def HP_SQ_HEAD_INDEX (i n : Nat) : Fld := ⟨R.HP_SQ_HEAD i n, 0, 16⟩
def HP_SQ_TAIL_INDEX (i n : Nat) : Fld := ⟨R.HP_SQ_TAIL i n, 0, 16⟩
def HP_SQ_STATUS_INFLIGHT (i n : Nat) : Fld := ⟨R.HP_SQ_STATUS i n, 16, 16⟩
def HP_SQ_STATUS_STOPPED (i n : Nat) : Fld := ⟨R.HP_SQ_STATUS i n, 10, 1⟩
def HP_SQ_STATUS_FETCH_ERR (i n : Nat) : Fld := ⟨R.HP_SQ_STATUS i n, 9, 1⟩
def HP_SQ_STATUS_DB_RANGE (i n : Nat) : Fld := ⟨R.HP_SQ_STATUS i n, 8, 1⟩
def HP_SQ_STATUS_CFG_ERR (i n : Nat) : Fld := ⟨R.HP_SQ_STATUS i n, 1, 3⟩
def HP_SQ_STATUS_IDLE (i n : Nat) : Fld := ⟨R.HP_SQ_STATUS i n, 0, 1⟩
def HP_CQ_BASE_LO_ADDR (i n : Nat) : Fld := ⟨R.HP_CQ_BASE_LO i n, 12, 20⟩
def HP_CQ_CFG_ENABLE (i n : Nat) : Fld := ⟨R.HP_CQ_CFG i n, 31, 1⟩
def HP_CQ_CFG_IV (i n : Nat) : Fld := ⟨R.HP_CQ_CFG i n, 24, 7⟩
def HP_CQ_CFG_IEN (i n : Nat) : Fld := ⟨R.HP_CQ_CFG i n, 23, 1⟩
def HP_CQ_CFG_SIZE_LOG2 (i n : Nat) : Fld := ⟨R.HP_CQ_CFG i n, 0, 5⟩
def HP_CQ_TAIL_INDEX (i n : Nat) : Fld := ⟨R.HP_CQ_TAIL i n, 0, 16⟩
def HP_CQ_HEAD_INDEX (i n : Nat) : Fld := ⟨R.HP_CQ_HEAD i n, 0, 16⟩
def HP_CQ_COAL_COUNT (i n : Nat) : Fld := ⟨R.HP_CQ_COAL i n, 16, 8⟩
def HP_CQ_COAL_TIME_US (i n : Nat) : Fld := ⟨R.HP_CQ_COAL i n, 0, 10⟩
def HP_CQ_STATUS_PENDING (i n : Nat) : Fld := ⟨R.HP_CQ_STATUS i n, 16, 16⟩
def HP_CQ_STATUS_DB_RANGE (i n : Nat) : Fld := ⟨R.HP_CQ_STATUS i n, 8, 1⟩
def HP_CQ_STATUS_WRITE_ERR (i n : Nat) : Fld := ⟨R.HP_CQ_STATUS i n, 5, 1⟩
def HP_CQ_STATUS_CFG_ERR (i n : Nat) : Fld := ⟨R.HP_CQ_STATUS i n, 2, 3⟩
def HP_CQ_STATUS_STOPPED (i n : Nat) : Fld := ⟨R.HP_CQ_STATUS i n, 1, 1⟩
def HP_CQ_STATUS_FULL (i n : Nat) : Fld := ⟨R.HP_CQ_STATUS i n, 0, 1⟩
def GATE_TAKE_GRANTED (n : Nat) : Fld := ⟨R.GATE_TAKE n, 31, 1⟩
def GATE_TAKE_HOLDER (n : Nat) : Fld := ⟨R.GATE_TAKE n, 29, 2⟩
def GATE_TAKE_GEN (n : Nat) : Fld := ⟨R.GATE_TAKE n, 12, 8⟩
def GATE_TAKE_REMAIN_MS (n : Nat) : Fld := ⟨R.GATE_TAKE n, 0, 10⟩
def GATE_LEASE_LEASE_MS (n : Nat) : Fld := ⟨R.GATE_LEASE n, 0, 10⟩
def GATE_STATUS_GRANTED (n : Nat) : Fld := ⟨R.GATE_STATUS n, 31, 1⟩
def GATE_STATUS_HOLDER (n : Nat) : Fld := ⟨R.GATE_STATUS n, 29, 2⟩
def GATE_STATUS_GEN (n : Nat) : Fld := ⟨R.GATE_STATUS n, 12, 8⟩
def GATE_STATUS_REMAIN_MS (n : Nat) : Fld := ⟨R.GATE_STATUS n, 0, 10⟩
def CTX_SEL_CTX : Fld := ⟨R.CTX_SEL, 0, 8⟩
def CTX_INFO_BOUND : Fld := ⟨R.CTX_INFO, 31, 1⟩
def CTX_INFO_NTAGS : Fld := ⟨R.CTX_INFO, 24, 3⟩
def CTX_INFO_RINGS : Fld := ⟨R.CTX_INFO, 8, 8⟩
def CTX_INFO_CTX : Fld := ⟨R.CTX_INFO, 0, 8⟩
def CTX_TAGS_LO_TAG_ODD : Fld := ⟨R.CTX_TAGS_LO, 16, 12⟩
def CTX_TAGS_LO_TAG_EVEN : Fld := ⟨R.CTX_TAGS_LO, 0, 12⟩
def CTX_TAGS_HI_TAG_ODD : Fld := ⟨R.CTX_TAGS_HI, 16, 12⟩
def CTX_TAGS_HI_TAG_EVEN : Fld := ⟨R.CTX_TAGS_HI, 0, 12⟩
def IRT_ROUTE_ENB (n : Nat) : Fld := ⟨R.IRT_ROUTE n, 31, 1⟩
def IRT_ROUTE_VECB (n : Nat) : Fld := ⟨R.IRT_ROUTE n, 24, 7⟩
def IRT_ROUTE_ENA (n : Nat) : Fld := ⟨R.IRT_ROUTE n, 15, 1⟩
def IRT_ROUTE_VECA (n : Nat) : Fld := ⟨R.IRT_ROUTE n, 8, 7⟩
def PIX_CTL_SCRUB_MS : Fld := ⟨R.PIX_CTL, 0, 16⟩
def PIX_STATUS_OWNED : Fld := ⟨R.PIX_STATUS, 28, 4⟩
def PIX_STATUS_PRESENT : Fld := ⟨R.PIX_STATUS, 0, 19⟩
def PIX_CRC_LAST_INDEX : Fld := ⟨R.PIX_CRC_LAST, 0, 18⟩
def PIX_EVENT_CRC_OWNED : Fld := ⟨R.PIX_EVENT, 1, 1⟩
def PIX_EVENT_CRC_REPLICA : Fld := ⟨R.PIX_EVENT, 0, 1⟩
def PIX_EVENT_EN_CRC_OWNED : Fld := ⟨R.PIX_EVENT_EN, 1, 1⟩
def PIX_EVENT_EN_CRC_REPLICA : Fld := ⟨R.PIX_EVENT_EN, 0, 1⟩
def REP_CTL_HEARTBEAT_MS : Fld := ⟨R.REP_CTL, 16, 8⟩
def REP_CTL_TX_HOLD : Fld := ⟨R.REP_CTL, 8, 8⟩
def REP_CTL_LOCAL_TIME_OK : Fld := ⟨R.REP_CTL, 3, 1⟩
def REP_CTL_ETH1_EN : Fld := ⟨R.REP_CTL, 2, 1⟩
def REP_CTL_ETH0_EN : Fld := ⟨R.REP_CTL, 1, 1⟩
def REP_CTL_ENABLE : Fld := ⟨R.REP_CTL, 0, 1⟩
def REP_NODE_NODE : Fld := ⟨R.REP_NODE, 0, 8⟩
def REP_TIMEOUT_TAKEOVER_MS : Fld := ⟨R.REP_TIMEOUT, 16, 16⟩
def REP_TIMEOUT_ORIGIN_TIMEOUT_MS : Fld := ⟨R.REP_TIMEOUT, 0, 16⟩
def REP_REFRESH_FUTURE_MS : Fld := ⟨R.REP_REFRESH, 16, 16⟩
def REP_REFRESH_REFRESH_S : Fld := ⟨R.REP_REFRESH, 0, 16⟩
def REP_STATUS_HEARD : Fld := ⟨R.REP_STATUS, 16, 8⟩
def REP_STATUS_SILENT : Fld := ⟨R.REP_STATUS, 8, 8⟩
def REP_STATUS_RESYNCING : Fld := ⟨R.REP_STATUS, 2, 1⟩
def REP_STATUS_CLOCK_VALID : Fld := ⟨R.REP_STATUS, 1, 1⟩
def REP_STATUS_RUNNING : Fld := ⟨R.REP_STATUS, 0, 1⟩
def REP_EVENT_EVENTS : Fld := ⟨R.REP_EVENT, 0, 9⟩
def REP_EVENT_EN_EVENTS : Fld := ⟨R.REP_EVENT_EN, 0, 9⟩
def REP_OWN_SEL_BLOCK : Fld := ⟨R.REP_OWN_SEL, 0, 8⟩
def REP_OWN_OWNER : Fld := ⟨R.REP_OWN, 0, 8⟩
def REP_OWN_CAND_AUTO : Fld := ⟨R.REP_OWN_CAND, 31, 1⟩
def REP_OWN_CAND_CAND3 : Fld := ⟨R.REP_OWN_CAND, 16, 8⟩
def REP_OWN_CAND_CAND2 : Fld := ⟨R.REP_OWN_CAND, 8, 8⟩
def REP_OWN_CAND_CAND1 : Fld := ⟨R.REP_OWN_CAND, 0, 8⟩
def REP_OWN_CMD_ACTION : Fld := ⟨R.REP_OWN_CMD, 16, 2⟩
def REP_OWN_CMD_TO_NODE : Fld := ⟨R.REP_OWN_CMD, 8, 8⟩
def REP_OWN_CMD_BLOCK : Fld := ⟨R.REP_OWN_CMD, 0, 8⟩
def REP_OWN_RESULT_CODE : Fld := ⟨R.REP_OWN_RESULT, 0, 8⟩
def REP_ORG_SEL_ORIGIN : Fld := ⟨R.REP_ORG_SEL, 0, 8⟩
def REP_ORG_STATE_AGE_MS : Fld := ⟨R.REP_ORG_STATE, 16, 16⟩
def REP_ORG_STATE_BLOCKS : Fld := ⟨R.REP_ORG_STATE, 8, 4⟩
def REP_ORG_STATE_STATE : Fld := ⟨R.REP_ORG_STATE, 0, 2⟩
def SCN_CTL_HOLD_OUT : Fld := ⟨R.SCN_CTL, 5, 1⟩
def SCN_CTL_STOP_OUT : Fld := ⟨R.SCN_CTL, 4, 1⟩
def SCN_CTL_START_MODE : Fld := ⟨R.SCN_CTL, 0, 2⟩
def SCN_STATUS_HALT_TASK : Fld := ⟨R.SCN_STATUS, 24, 8⟩
def SCN_STATUS_LAST_START : Fld := ⟨R.SCN_STATUS, 16, 3⟩
def SCN_STATUS_STOP_CAUSE : Fld := ⟨R.SCN_STATUS, 12, 4⟩
def SCN_STATUS_PAIR_OK : Fld := ⟨R.SCN_STATUS, 8, 4⟩
def SCN_STATUS_MODE : Fld := ⟨R.SCN_STATUS, 0, 2⟩
def SCN_EVENT_EVENTS : Fld := ⟨R.SCN_EVENT, 0, 11⟩
def SCN_EVENT_EN_EVENTS : Fld := ⟨R.SCN_EVENT_EN, 0, 11⟩
def SCN_FAULT_TASK_PAIR : Fld := ⟨R.SCN_FAULT_TASK, 8, 2⟩
def SCN_FAULT_TASK_TASK : Fld := ⟨R.SCN_FAULT_TASK, 0, 8⟩
def SCN_LOAD_BUSY (k : Nat) : Fld := ⟨R.SCN_LOAD k, 0, 14⟩
def SCN_T_CFG_PRESENT (n : Nat) : Fld := ⟨R.SCN_T_CFG n, 31, 1⟩
def SCN_T_CFG_KIND (n : Nat) : Fld := ⟨R.SCN_T_CFG n, 30, 1⟩
def SCN_T_CFG_SAFETY (n : Nat) : Fld := ⟨R.SCN_T_CFG n, 29, 1⟩
def SCN_T_CFG_PAIR (n : Nat) : Fld := ⟨R.SCN_T_CFG n, 24, 2⟩
def SCN_T_CFG_PRIO (n : Nat) : Fld := ⟨R.SCN_T_CFG n, 16, 5⟩
def SCN_T_CFG_WDOG_MULT (n : Nat) : Fld := ⟨R.SCN_T_CFG n, 8, 8⟩
def SCN_T_CFG_TRIG_KIND (n : Nat) : Fld := ⟨R.SCN_T_CFG n, 4, 4⟩
def SCN_T_STATE_TIME_ARMED (n : Nat) : Fld := ⟨R.SCN_T_STATE n, 10, 1⟩
def SCN_T_STATE_PENDING (n : Nat) : Fld := ⟨R.SCN_T_STATE n, 9, 1⟩
def SCN_T_STATE_BREAK (n : Nat) : Fld := ⟨R.SCN_T_STATE n, 8, 1⟩
def SCN_T_STATE_FIRST (n : Nat) : Fld := ⟨R.SCN_T_STATE n, 4, 4⟩
def SCN_T_STATE_STATE (n : Nat) : Fld := ⟨R.SCN_T_STATE n, 0, 4⟩
def OLC_CTL_SAFETY_FORCE : Fld := ⟨R.OLC_CTL, 16, 1⟩
def OLC_CTL_SWITCH_WAIT_MS : Fld := ⟨R.OLC_CTL, 0, 16⟩
def OLC_STATUS_STATE : Fld := ⟨R.OLC_STATUS, 29, 3⟩
def OLC_STATUS_SLOT_FORCES : Fld := ⟨R.OLC_STATUS, 16, 13⟩
def OLC_STATUS_VAR_FORCES : Fld := ⟨R.OLC_STATUS, 0, 9⟩
def OLC_EVENT_EVENTS : Fld := ⟨R.OLC_EVENT, 0, 6⟩
def OLC_EVENT_EN_EVENTS : Fld := ⟨R.OLC_EVENT_EN, 0, 6⟩
def OLC_LAST_RESULT_KIND : Fld := ⟨R.OLC_LAST_RESULT, 24, 8⟩
def OLC_LAST_RESULT_SECTION : Fld := ⟨R.OLC_LAST_RESULT, 16, 8⟩
def OLC_LAST_RESULT_REASON : Fld := ⟨R.OLC_LAST_RESULT, 0, 8⟩
def OLC_FORCE_SEL_ENTRY : Fld := ⟨R.OLC_FORCE_SEL, 0, 12⟩
def OLC_FORCE_INFO_VALID : Fld := ⟨R.OLC_FORCE_INFO, 31, 1⟩
def OLC_FORCE_INFO_VAR : Fld := ⟨R.OLC_FORCE_INFO, 30, 1⟩
def OLC_FORCE_INFO_TYPE : Fld := ⟨R.OLC_FORCE_INFO, 26, 4⟩
def OLC_FORCE_INFO_TASK : Fld := ⟨R.OLC_FORCE_INFO, 18, 8⟩
def OLC_FORCE_INFO_INDEX : Fld := ⟨R.OLC_FORCE_INFO, 0, 18⟩
def LE_CTL_FREEZE_LEARN (i : Nat) : Fld := ⟨R.LE_CTL i, 0, 1⟩
def LE_STATUS_SLOTS (i : Nat) : Fld := ⟨R.LE_STATUS i, 16, 10⟩
def LE_STATUS_MEMS (i : Nat) : Fld := ⟨R.LE_STATUS i, 0, 7⟩
def LE_LOAD_EVALS (i : Nat) : Fld := ⟨R.LE_LOAD i, 0, 22⟩
def LE_EVENT_EVENTS (i : Nat) : Fld := ⟨R.LE_EVENT i, 0, 10⟩
def LE_EVENT_EN_EVENTS (i : Nat) : Fld := ⟨R.LE_EVENT_EN i, 0, 10⟩
def LE_FE_LAST_SLOT (i : Nat) : Fld := ⟨R.LE_FE_LAST i, 0, 9⟩
def LE_SLOT_SEL_QTY (i : Nat) : Fld := ⟨R.LE_SLOT_SEL i, 16, 5⟩
def LE_SLOT_SEL_SLOT (i : Nat) : Fld := ⟨R.LE_SLOT_SEL i, 0, 9⟩
def LE_SLOT_INFO_PRESENT (i : Nat) : Fld := ⟨R.LE_SLOT_INFO i, 31, 1⟩
def LE_SLOT_INFO_AUTO (i : Nat) : Fld := ⟨R.LE_SLOT_INFO i, 30, 1⟩
def LE_SLOT_INFO_REGION (i : Nat) : Fld := ⟨R.LE_SLOT_INFO i, 27, 3⟩
def LE_SLOT_INFO_TASK (i : Nat) : Fld := ⟨R.LE_SLOT_INFO i, 16, 7⟩
def LE_SLOT_INFO_LOC (i : Nat) : Fld := ⟨R.LE_SLOT_INFO i, 8, 8⟩
def LE_SLOT_INFO_HAS_MEM (i : Nat) : Fld := ⟨R.LE_SLOT_INFO i, 6, 1⟩
def LE_SLOT_INFO_MEM (i : Nat) : Fld := ⟨R.LE_SLOT_INFO i, 0, 6⟩
def LE_SLOT_STATUS_STATUS (i : Nat) : Fld := ⟨R.LE_SLOT_STATUS i, 0, 15⟩
def LE_WR_CMD_ACTION (i : Nat) : Fld := ⟨R.LE_WR_CMD i, 30, 2⟩
def LE_WR_CMD_PERSIST (i : Nat) : Fld := ⟨R.LE_WR_CMD i, 29, 1⟩
def LE_WR_CMD_KIND (i : Nat) : Fld := ⟨R.LE_WR_CMD i, 26, 3⟩
def LE_WR_CMD_TARGET (i : Nat) : Fld := ⟨R.LE_WR_CMD i, 16, 9⟩
def LE_WR_CMD_INDEX (i : Nat) : Fld := ⟨R.LE_WR_CMD i, 0, 12⟩
def LE_WR_RESULT_CODE (i : Nat) : Fld := ⟨R.LE_WR_RESULT i, 0, 4⟩
def LE_MEM_SEL_MEM (i : Nat) : Fld := ⟨R.LE_MEM_SEL i, 0, 6⟩
def LE_MEM_INFO_PRESENT (i : Nat) : Fld := ⟨R.LE_MEM_INFO i, 31, 1⟩
def LE_MEM_INFO_FROZEN (i : Nat) : Fld := ⟨R.LE_MEM_INFO i, 30, 1⟩
def LE_MEM_INFO_LEARNING (i : Nat) : Fld := ⟨R.LE_MEM_INFO i, 29, 1⟩
def LE_MEM_INFO_MODE (i : Nat) : Fld := ⟨R.LE_MEM_INFO i, 28, 1⟩
def LE_MEM_INFO_BIN (i : Nat) : Fld := ⟨R.LE_MEM_INFO i, 16, 12⟩
def LE_MEM_INFO_NBINS (i : Nat) : Fld := ⟨R.LE_MEM_INFO i, 0, 13⟩
def LE_MEM_CMD_MEM (i : Nat) : Fld := ⟨R.LE_MEM_CMD i, 16, 6⟩
def LE_MEM_CMD_ACTION (i : Nat) : Fld := ⟨R.LE_MEM_CMD i, 0, 2⟩
def LE_TR_CFG_NNODES (i n : Nat) : Fld := ⟨R.LE_TR_CFG i n, 28, 4⟩
def LE_TR_CFG_DECIM (i n : Nat) : Fld := ⟨R.LE_TR_CFG i n, 16, 8⟩
def LE_TR_CFG_SLOT (i n : Nat) : Fld := ⟨R.LE_TR_CFG i n, 0, 9⟩
def LE_TR_NODES_LO_NODE3 (i n : Nat) : Fld := ⟨R.LE_TR_NODES_LO i n, 24, 5⟩
def LE_TR_NODES_LO_NODE2 (i n : Nat) : Fld := ⟨R.LE_TR_NODES_LO i n, 16, 5⟩
def LE_TR_NODES_LO_NODE1 (i n : Nat) : Fld := ⟨R.LE_TR_NODES_LO i n, 8, 5⟩
def LE_TR_NODES_LO_NODE0 (i n : Nat) : Fld := ⟨R.LE_TR_NODES_LO i n, 0, 5⟩
def LE_TR_NODES_HI_NODE3 (i n : Nat) : Fld := ⟨R.LE_TR_NODES_HI i n, 24, 5⟩
def LE_TR_NODES_HI_NODE2 (i n : Nat) : Fld := ⟨R.LE_TR_NODES_HI i n, 16, 5⟩
def LE_TR_NODES_HI_NODE1 (i n : Nat) : Fld := ⟨R.LE_TR_NODES_HI i n, 8, 5⟩
def LE_TR_NODES_HI_NODE0 (i n : Nat) : Fld := ⟨R.LE_TR_NODES_HI i n, 0, 5⟩
def LE_TR_TRIG_SOURCE (i n : Nat) : Fld := ⟨R.LE_TR_TRIG i n, 28, 4⟩
def LE_TR_TRIG_TNODE (i n : Nat) : Fld := ⟨R.LE_TR_TRIG i n, 16, 5⟩
def LE_TR_TRIG_PRE (i n : Nat) : Fld := ⟨R.LE_TR_TRIG i n, 0, 14⟩
def LE_TR_CMD_ACTION (i n : Nat) : Fld := ⟨R.LE_TR_CMD i n, 0, 2⟩
def LE_TR_STATUS_STATE (i n : Nat) : Fld := ⟨R.LE_TR_STATUS i n, 30, 2⟩
def LE_TR_STATUS_CFG_ERR (i n : Nat) : Fld := ⟨R.LE_TR_STATUS i n, 29, 1⟩
def LE_TR_STATUS_TRIG_IDX (i n : Nat) : Fld := ⟨R.LE_TR_STATUS i n, 15, 14⟩
def LE_TR_STATUS_STORED (i n : Nat) : Fld := ⟨R.LE_TR_STATUS i n, 0, 15⟩
def LI_CFG_HEADROOM (i : Nat) : Fld := ⟨R.LI_CFG i, 8, 5⟩
def LI_CFG_COMPLY_LOW (i : Nat) : Fld := ⟨R.LI_CFG i, 5, 1⟩
def LI_CFG_QUAL_ALARM (i : Nat) : Fld := ⟨R.LI_CFG i, 4, 1⟩
def LI_CFG_ALM_HI (i : Nat) : Fld := ⟨R.LI_CFG i, 3, 1⟩
def LI_CFG_PROT (i : Nat) : Fld := ⟨R.LI_CFG i, 2, 1⟩
def LI_CFG_MODE (i : Nat) : Fld := ⟨R.LI_CFG i, 0, 2⟩
def LI_COMPLY_RETRY_S (i : Nat) : Fld := ⟨R.LI_COMPLY i, 16, 8⟩
def LI_COMPLY_COMPLY_TIME_MS (i : Nat) : Fld := ⟨R.LI_COMPLY i, 0, 16⟩
def LI_CMD_CLEAR (i : Nat) : Fld := ⟨R.LI_CMD i, 1, 1⟩
def LI_CMD_RETRY (i : Nat) : Fld := ⟨R.LI_CMD i, 0, 1⟩
def LI_STATUS_STATE (i : Nat) : Fld := ⟨R.LI_STATUS i, 29, 3⟩
def LI_STATUS_CLOCK (i : Nat) : Fld := ⟨R.LI_STATUS i, 26, 3⟩
def LI_STATUS_ALM_DIR (i : Nat) : Fld := ⟨R.LI_STATUS i, 13, 1⟩
def LI_STATUS_LINK (i : Nat) : Fld := ⟨R.LI_STATUS i, 12, 1⟩
def LI_STATUS_BIND_ERR (i : Nat) : Fld := ⟨R.LI_STATUS i, 11, 1⟩
def LI_STATUS_STAGE_FAULT (i : Nat) : Fld := ⟨R.LI_STATUS i, 10, 1⟩
def LI_STATUS_SENSE_FAULT (i : Nat) : Fld := ⟨R.LI_STATUS i, 9, 1⟩
def LI_STATUS_THERMAL (i : Nat) : Fld := ⟨R.LI_STATUS i, 8, 1⟩
def LI_STATUS_RANGE (i : Nat) : Fld := ⟨R.LI_STATUS i, 7, 1⟩
def LI_STATUS_FALLBACK (i : Nat) : Fld := ⟨R.LI_STATUS i, 6, 1⟩
def LI_STATUS_RETRYING (i : Nat) : Fld := ⟨R.LI_STATUS i, 5, 1⟩
def LI_STATUS_COMPLY (i : Nat) : Fld := ⟨R.LI_STATUS i, 4, 1⟩
def LI_STATUS_HEADROOM (i : Nat) : Fld := ⟨R.LI_STATUS i, 3, 1⟩
def LI_STATUS_OPEN (i : Nat) : Fld := ⟨R.LI_STATUS i, 2, 1⟩
def LI_STATUS_PEER (i : Nat) : Fld := ⟨R.LI_STATUS i, 1, 1⟩
def LI_STATUS_OWN (i : Nat) : Fld := ⟨R.LI_STATUS i, 0, 1⟩
def LI_EVENT_EVENTS (i : Nat) : Fld := ⟨R.LI_EVENT i, 0, 10⟩
def LI_EVENT_EN_EVENTS (i : Nat) : Fld := ⟨R.LI_EVENT_EN i, 0, 10⟩
def LI_CODE_TARGET (i : Nat) : Fld := ⟨R.LI_CODE i, 16, 16⟩
def LI_CODE_APPLIED (i : Nat) : Fld := ⟨R.LI_CODE i, 0, 16⟩
def LI_MEAS_SHADOW (i : Nat) : Fld := ⟨R.LI_MEAS i, 16, 16⟩
def LI_MEAS_PRIMARY (i : Nat) : Fld := ⟨R.LI_MEAS i, 0, 16⟩
def LI_VOLT_SUPPLY (i : Nat) : Fld := ⟨R.LI_VOLT i, 16, 16⟩
def LI_VOLT_TERMINAL (i : Nat) : Fld := ⟨R.LI_VOLT i, 0, 16⟩
def LI_TEMP_STAGE (i : Nat) : Fld := ⟨R.LI_TEMP i, 0, 16⟩
def LI_FAULTS_SENSE (i : Nat) : Fld := ⟨R.LI_FAULTS i, 24, 8⟩
def LI_FAULTS_THERMAL (i : Nat) : Fld := ⟨R.LI_FAULTS i, 16, 8⟩
def LI_FAULTS_COMPLY (i : Nat) : Fld := ⟨R.LI_FAULTS i, 8, 8⟩
def LI_FAULTS_OPEN (i : Nat) : Fld := ⟨R.LI_FAULTS i, 0, 8⟩
def UI_CFG_FILT (n : Nat) : Fld := ⟨R.UI_CFG n, 16, 10⟩
def UI_CFG_DEBOUNCE (n : Nat) : Fld := ⟨R.UI_CFG n, 8, 4⟩
def UI_CFG_INVERT (n : Nat) : Fld := ⟨R.UI_CFG n, 4, 1⟩
def UI_CFG_LIVE_ZERO (n : Nat) : Fld := ⟨R.UI_CFG n, 3, 1⟩
def UI_CFG_TYPE (n : Nat) : Fld := ⟨R.UI_CFG n, 0, 3⟩
def UI_PARAM_NTC_B (n : Nat) : Fld := ⟨R.UI_PARAM n, 0, 16⟩
def UI_RAW_CODE (n : Nat) : Fld := ⟨R.UI_RAW n, 0, 16⟩
def UI_STAT_FAULTS (n : Nat) : Fld := ⟨R.UI_STAT n, 16, 16⟩
def UI_STAT_CONDITIONS (n : Nat) : Fld := ⟨R.UI_STAT n, 0, 5⟩
def SER_CFG_TIMEOUT_MS (i : Nat) : Fld := ⟨R.SER_CFG i, 16, 16⟩
def SER_CFG_RETRIES (i : Nat) : Fld := ⟨R.SER_CFG i, 8, 3⟩
def SER_CFG_BIAS (i : Nat) : Fld := ⟨R.SER_CFG i, 7, 1⟩
def SER_CFG_PARITY (i : Nat) : Fld := ⟨R.SER_CFG i, 5, 2⟩
def SER_CFG_BAUD (i : Nat) : Fld := ⟨R.SER_CFG i, 2, 3⟩
def SER_CFG_PROTO (i : Nat) : Fld := ⟨R.SER_CFG i, 0, 2⟩
def MTR_CTL_ASSAY_STEP_S : Fld := ⟨R.MTR_CTL, 8, 8⟩
def MTR_CTL_ASSAY_EN : Fld := ⟨R.MTR_CTL, 1, 1⟩
def MTR_CTL_ENABLE : Fld := ⟨R.MTR_CTL, 0, 1⟩
def MTR_STATUS_BANK : Fld := ⟨R.MTR_STATUS, 8, 1⟩
def MTR_STATUS_FREQ_RANGE : Fld := ⟨R.MTR_STATUS, 7, 1⟩
def MTR_STATUS_HOLDUP_MODE : Fld := ⟨R.MTR_STATUS, 6, 1⟩
def MTR_STATUS_WRAPPED_ANY : Fld := ⟨R.MTR_STATUS, 5, 1⟩
def MTR_STATUS_LOSS_POSSIBLE : Fld := ⟨R.MTR_STATUS, 4, 1⟩
def MTR_STATUS_GAP : Fld := ⟨R.MTR_STATUS, 3, 1⟩
def MTR_STATUS_PARTNER_TOTALS : Fld := ⟨R.MTR_STATUS, 2, 1⟩
def MTR_STATUS_STATE : Fld := ⟨R.MTR_STATUS, 0, 2⟩
def MTR_EVENT_EVENTS : Fld := ⟨R.MTR_EVENT, 0, 10⟩
def MTR_EVENT_EN_EVENTS : Fld := ⟨R.MTR_EVENT_EN, 0, 10⟩
def MTR_COMMIT_LAT_TIME : Fld := ⟨R.MTR_COMMIT_LAT, 0, 16⟩
def MTR_FREQ_FREQ : Fld := ⟨R.MTR_FREQ, 0, 17⟩
def MTR_CAL_CMD_ACTION : Fld := ⟨R.MTR_CAL_CMD, 30, 2⟩
def MTR_CAL_CMD_CHANNEL : Fld := ⟨R.MTR_CAL_CMD, 0, 6⟩
def MTR_CAL_STATUS_QUEUED : Fld := ⟨R.MTR_CAL_STATUS, 16, 6⟩
def MTR_CAL_STATUS_LAST_CHANNEL : Fld := ⟨R.MTR_CAL_STATUS, 8, 6⟩
def MTR_CAL_STATUS_LAST_CODE : Fld := ⟨R.MTR_CAL_STATUS, 0, 8⟩
def MTR_ASSAY_POS_SECONDS_LEFT : Fld := ⟨R.MTR_ASSAY_POS, 8, 8⟩
def MTR_ASSAY_POS_CAL : Fld := ⟨R.MTR_ASSAY_POS, 6, 1⟩
def MTR_ASSAY_POS_TARGET : Fld := ⟨R.MTR_ASSAY_POS, 0, 6⟩
def MTR_DPX_DIFF_PPM : Fld := ⟨R.MTR_DPX_DIFF, 16, 16⟩
def MTR_DPX_DIFF_CHANNEL : Fld := ⟨R.MTR_DPX_DIFF, 0, 6⟩
def MTR_CH_CFG_INVERT (n : Nat) : Fld := ⟨R.MTR_CH_CFG n, 4, 1⟩
def MTR_CH_CFG_VPHASE (n : Nat) : Fld := ⟨R.MTR_CH_CFG n, 2, 2⟩
def MTR_CH_CFG_MODE (n : Nat) : Fld := ⟨R.MTR_CH_CFG n, 0, 2⟩
def MTR_CH_PRIMARY_SENS (n : Nat) : Fld := ⟨R.MTR_CH_PRIMARY n, 16, 16⟩
def MTR_CH_PRIMARY_PRIMARY (n : Nat) : Fld := ⟨R.MTR_CH_PRIMARY n, 0, 14⟩
def MTR_CH_STATUS_VISITS (n : Nat) : Fld := ⟨R.MTR_CH_STATUS n, 16, 16⟩
def MTR_CH_STATUS_LAST_RESULT (n : Nat) : Fld := ⟨R.MTR_CH_STATUS n, 8, 8⟩
def MTR_CH_STATUS_CAL_PENDING (n : Nat) : Fld := ⟨R.MTR_CH_STATUS n, 5, 1⟩
def MTR_CH_STATUS_IN_ASSAY (n : Nat) : Fld := ⟨R.MTR_CH_STATUS n, 4, 1⟩
def MTR_CH_STATUS_ASSAY_FAULT (n : Nat) : Fld := ⟨R.MTR_CH_STATUS n, 3, 1⟩
def MTR_CH_STATUS_OVERRANGE (n : Nat) : Fld := ⟨R.MTR_CH_STATUS n, 2, 1⟩
def MTR_CH_STATUS_STATE (n : Nat) : Fld := ⟨R.MTR_CH_STATUS n, 0, 2⟩
def MTR_CIR_CFG_ENABLE (n : Nat) : Fld := ⟨R.MTR_CIR_CFG n, 31, 1⟩
def MTR_CIR_CFG_PH3 (n : Nat) : Fld := ⟨R.MTR_CIR_CFG n, 16, 6⟩
def MTR_CIR_CFG_PH2 (n : Nat) : Fld := ⟨R.MTR_CIR_CFG n, 8, 6⟩
def MTR_CIR_CFG_PH1 (n : Nat) : Fld := ⟨R.MTR_CIR_CFG n, 0, 6⟩
def MTC_CTL_ENABLE : Fld := ⟨R.MTC_CTL, 0, 1⟩
def MTC_TEMP_MODULE : Fld := ⟨R.MTC_TEMP, 16, 16⟩
def MTC_TEMP_DIE : Fld := ⟨R.MTC_TEMP, 0, 16⟩
def MTC_SEL_FACTORY : Fld := ⟨R.MTC_SEL, 15, 1⟩
def MTC_SEL_POINT : Fld := ⟨R.MTC_SEL, 8, 5⟩
def MTC_SEL_CHANNEL : Fld := ⟨R.MTC_SEL, 0, 6⟩
def MTC_CMD_ACTION : Fld := ⟨R.MTC_CMD, 0, 2⟩
def MTC_SRC_HI_SRC : Fld := ⟨R.MTC_SRC_HI, 0, 21⟩
def MTC_STATUS_HOLDING : Fld := ⟨R.MTC_STATUS, 3, 1⟩
def MTC_STATUS_FACTORY_IN_USE : Fld := ⟨R.MTC_STATUS, 2, 1⟩
def MTC_STATUS_MODULE_FAULT : Fld := ⟨R.MTC_STATUS, 1, 1⟩
def MTC_STATUS_DIE_FAULT : Fld := ⟨R.MTC_STATUS, 0, 1⟩
def MTC_EVENT_EVENTS : Fld := ⟨R.MTC_EVENT, 0, 4⟩
def MTC_EVENT_EN_EVENTS : Fld := ⟨R.MTC_EVENT_EN, 0, 4⟩
def DPX_CTL_JOIN_WAIT_MS : Fld := ⟨R.DPX_CTL, 16, 14⟩
def DPX_CTL_AUTO_JOIN : Fld := ⟨R.DPX_CTL, 0, 1⟩
def DPX_CMD_ACTION : Fld := ⟨R.DPX_CMD, 30, 2⟩
def DPX_CMD_DELAY_MS : Fld := ⟨R.DPX_CMD, 0, 16⟩
def DPX_STATUS_PAIR_STATE : Fld := ⟨R.DPX_STATUS, 28, 4⟩
def DPX_STATUS_ROLE : Fld := ⟨R.DPX_STATUS, 27, 1⟩
def DPX_STATUS_POS : Fld := ⟨R.DPX_STATUS, 26, 1⟩
def DPX_STATUS_PARTNER_PRESENT : Fld := ⟨R.DPX_STATUS, 25, 1⟩
def DPX_STATUS_SWITCH_PENDING : Fld := ⟨R.DPX_STATUS, 24, 1⟩
def DPX_STATUS_REASON : Fld := ⟨R.DPX_STATUS, 16, 8⟩
def DPX_STATUS_XCHECK_ACTIVE : Fld := ⟨R.DPX_STATUS, 7, 1⟩
def DPX_STATUS_LINE_FAULT : Fld := ⟨R.DPX_STATUS, 6, 1⟩
def DPX_STATUS_LANE1_UP : Fld := ⟨R.DPX_STATUS, 5, 1⟩
def DPX_STATUS_LANE0_UP : Fld := ⟨R.DPX_STATUS, 4, 1⟩
def DPX_STATUS_ALIVE_OK : Fld := ⟨R.DPX_STATUS, 3, 1⟩
def DPX_STATUS_RELEASE_IN : Fld := ⟨R.DPX_STATUS, 2, 1⟩
def DPX_STATUS_GRANT_IN : Fld := ⟨R.DPX_STATUS, 1, 1⟩
def DPX_STATUS_GRANT_OUT : Fld := ⟨R.DPX_STATUS, 0, 1⟩
def DPX_EVENT_EVENTS : Fld := ⟨R.DPX_EVENT, 0, 14⟩
def DPX_EVENT_EN_EVENTS : Fld := ⟨R.DPX_EVENT_EN, 0, 14⟩
def DPX_LAST_SWITCH_CAUSE : Fld := ⟨R.DPX_LAST_SWITCH, 24, 8⟩
def DPX_LAST_SWITCH_LATENCY : Fld := ⟨R.DPX_LAST_SWITCH, 0, 16⟩
def DPX_XCHECK_ROW : Fld := ⟨R.DPX_XCHECK, 24, 8⟩
def DPX_XCHECK_TASK : Fld := ⟨R.DPX_XCHECK, 16, 8⟩
def DPX_XCHECK_FINDINGS : Fld := ⟨R.DPX_XCHECK, 0, 5⟩
def DPX_XFER_KIB_LEFT : Fld := ⟨R.DPX_XFER, 16, 16⟩
def DPX_XFER_PASSES : Fld := ⟨R.DPX_XFER, 8, 8⟩
def DPX_XFER_WAITS : Fld := ⟨R.DPX_XFER, 0, 2⟩
def DPX_CFG_DIFF_GROUPS : Fld := ⟨R.DPX_CFG_DIFF, 0, 8⟩
def DPX_SHIP_MAX_TIME : Fld := ⟨R.DPX_SHIP_MAX, 0, 16⟩
def CAN_CTL_UNMATCHED (i : Nat) : Fld := ⟨R.CAN_CTL i, 4, 2⟩
def CAN_CTL_FD_EN (i : Nat) : Fld := ⟨R.CAN_CTL i, 3, 1⟩
def CAN_CTL_AUTO_RECOVER (i : Nat) : Fld := ⟨R.CAN_CTL i, 2, 1⟩
def CAN_CTL_LISTEN (i : Nat) : Fld := ⟨R.CAN_CTL i, 1, 1⟩
def CAN_CTL_ENABLE (i : Nat) : Fld := ⟨R.CAN_CTL i, 0, 1⟩
def CAN_NBT_NBRP (i : Nat) : Fld := ⟨R.CAN_NBT i, 27, 5⟩
def CAN_NBT_NTSEG1 (i : Nat) : Fld := ⟨R.CAN_NBT i, 16, 8⟩
def CAN_NBT_NTSEG2 (i : Nat) : Fld := ⟨R.CAN_NBT i, 8, 7⟩
def CAN_NBT_NSJW (i : Nat) : Fld := ⟨R.CAN_NBT i, 0, 7⟩
def CAN_DBT_DBRP (i : Nat) : Fld := ⟨R.CAN_DBT i, 27, 5⟩
def CAN_DBT_DTSEG1 (i : Nat) : Fld := ⟨R.CAN_DBT i, 16, 5⟩
def CAN_DBT_DTSEG2 (i : Nat) : Fld := ⟨R.CAN_DBT i, 8, 4⟩
def CAN_DBT_DSJW (i : Nat) : Fld := ⟨R.CAN_DBT i, 0, 4⟩
def CAN_TDC_TDCV (i : Nat) : Fld := ⟨R.CAN_TDC i, 16, 7⟩
def CAN_TDC_TDC_EN (i : Nat) : Fld := ⟨R.CAN_TDC i, 15, 1⟩
def CAN_TDC_TDCO (i : Nat) : Fld := ⟨R.CAN_TDC i, 0, 7⟩
def CAN_STATUS_RECOVERY (i : Nat) : Fld := ⟨R.CAN_STATUS i, 24, 7⟩
def CAN_STATUS_REC (i : Nat) : Fld := ⟨R.CAN_STATUS i, 16, 8⟩
def CAN_STATUS_TEC (i : Nat) : Fld := ⟨R.CAN_STATUS i, 8, 8⟩
def CAN_STATUS_SYNCING (i : Nat) : Fld := ⟨R.CAN_STATUS i, 6, 1⟩
def CAN_STATUS_IDLE (i : Nat) : Fld := ⟨R.CAN_STATUS i, 5, 1⟩
def CAN_STATUS_SUSPEND (i : Nat) : Fld := ⟨R.CAN_STATUS i, 4, 1⟩
def CAN_STATUS_RECOVERY_WAIT (i : Nat) : Fld := ⟨R.CAN_STATUS i, 3, 1⟩
def CAN_STATUS_LISTEN (i : Nat) : Fld := ⟨R.CAN_STATUS i, 2, 1⟩
def CAN_STATUS_STATE (i : Nat) : Fld := ⟨R.CAN_STATUS i, 0, 2⟩
def CAN_EVENT_EVENTS (i : Nat) : Fld := ⟨R.CAN_EVENT i, 0, 16⟩
def CAN_EVENT_EN_EVENTS (i : Nat) : Fld := ⟨R.CAN_EVENT_EN i, 0, 16⟩
def CAN_CMD_FLUSH (i : Nat) : Fld := ⟨R.CAN_CMD i, 1, 2⟩
def CAN_CMD_RECOVER (i : Nat) : Fld := ⟨R.CAN_CMD i, 0, 1⟩
def CAN_LAST_ERR_BUF (i : Nat) : Fld := ⟨R.CAN_LAST_ERR i, 8, 6⟩
def CAN_LAST_ERR_TX (i : Nat) : Fld := ⟨R.CAN_LAST_ERR i, 4, 1⟩
def CAN_LAST_ERR_DATA_PHASE (i : Nat) : Fld := ⟨R.CAN_LAST_ERR i, 3, 1⟩
def CAN_LAST_ERR_CODE (i : Nat) : Fld := ⟨R.CAN_LAST_ERR i, 0, 3⟩
def CAN_TXBUF_SEL_BUF (i : Nat) : Fld := ⟨R.CAN_TXBUF_SEL i, 0, 6⟩
def CAN_TXBUF_CTL_MAPPED (i : Nat) : Fld := ⟨R.CAN_TXBUF_CTL i, 31, 1⟩
def CAN_TXBUF_CTL_AT (i : Nat) : Fld := ⟨R.CAN_TXBUF_CTL i, 8, 1⟩
def CAN_TXBUF_CTL_BRS (i : Nat) : Fld := ⟨R.CAN_TXBUF_CTL i, 7, 1⟩
def CAN_TXBUF_CTL_FDF (i : Nat) : Fld := ⟨R.CAN_TXBUF_CTL i, 6, 1⟩
def CAN_TXBUF_CTL_IDE (i : Nat) : Fld := ⟨R.CAN_TXBUF_CTL i, 5, 1⟩
def CAN_TXBUF_CTL_RTR (i : Nat) : Fld := ⟨R.CAN_TXBUF_CTL i, 4, 1⟩
def CAN_TXBUF_CTL_DLC (i : Nat) : Fld := ⟨R.CAN_TXBUF_CTL i, 0, 4⟩
def CAN_TXBUF_ID_ID (i : Nat) : Fld := ⟨R.CAN_TXBUF_ID i, 0, 29⟩
def CAN_TXBUF_STAT_COALESCED (i : Nat) : Fld := ⟨R.CAN_TXBUF_STAT i, 16, 16⟩
def CAN_TXBUF_STAT_ATTEMPTS (i : Nat) : Fld := ⟨R.CAN_TXBUF_STAT i, 8, 8⟩
def CAN_TXBUF_STAT_ECHOED (i : Nat) : Fld := ⟨R.CAN_TXBUF_STAT i, 4, 1⟩
def CAN_TXBUF_STAT_LATE (i : Nat) : Fld := ⟨R.CAN_TXBUF_STAT i, 3, 1⟩
def CAN_TXBUF_STAT_STATE (i : Nat) : Fld := ⟨R.CAN_TXBUF_STAT i, 0, 3⟩
def CAN_RXF_STATUS_FILL (i n : Nat) : Fld := ⟨R.CAN_RXF_STATUS i n, 0, 8⟩
def CAN_RXF_ID_ID (i n : Nat) : Fld := ⟨R.CAN_RXF_ID i n, 0, 29⟩
def CAN_RXF_CTL_VALID (i n : Nat) : Fld := ⟨R.CAN_RXF_CTL i n, 31, 1⟩
def CAN_RXF_CTL_FILTER (i n : Nat) : Fld := ⟨R.CAN_RXF_CTL i n, 9, 7⟩
def CAN_RXF_CTL_ESI (i n : Nat) : Fld := ⟨R.CAN_RXF_CTL i n, 8, 1⟩
def CAN_RXF_CTL_FLAGS (i n : Nat) : Fld := ⟨R.CAN_RXF_CTL i n, 0, 8⟩
def CAN_FLT_SEL_FLT (i : Nat) : Fld := ⟨R.CAN_FLT_SEL i, 0, 6⟩
def CAN_FLT_ID_ID (i : Nat) : Fld := ⟨R.CAN_FLT_ID i, 0, 29⟩
def CAN_FLT_MASK_ID (i : Nat) : Fld := ⟨R.CAN_FLT_MASK i, 0, 29⟩
def CAN_FLT_CTL_HAS_STATION (i : Nat) : Fld := ⟨R.CAN_FLT_CTL i, 14, 1⟩
def CAN_FLT_CTL_STATION (i : Nat) : Fld := ⟨R.CAN_FLT_CTL i, 8, 6⟩
def CAN_FLT_CTL_IDE (i : Nat) : Fld := ⟨R.CAN_FLT_CTL i, 3, 1⟩
def CAN_FLT_CTL_ACTION (i : Nat) : Fld := ⟨R.CAN_FLT_CTL i, 0, 3⟩
def ETH_CTL_PAUSE_WARN_MS (i : Nat) : Fld := ⟨R.ETH_CTL i, 16, 16⟩
def ETH_CTL_BCAST_EN (i : Nat) : Fld := ⟨R.ETH_CTL i, 7, 1⟩
def ETH_CTL_PAUSE_EN (i : Nat) : Fld := ⟨R.ETH_CTL i, 6, 1⟩
def ETH_CTL_JUMBO (i : Nat) : Fld := ⟨R.ETH_CTL i, 5, 1⟩
def ETH_CTL_AN_EN (i : Nat) : Fld := ⟨R.ETH_CTL i, 4, 1⟩
def ETH_CTL_MODE (i : Nat) : Fld := ⟨R.ETH_CTL i, 1, 3⟩
def ETH_CTL_ENABLE (i : Nat) : Fld := ⟨R.ETH_CTL i, 0, 1⟩
def ETH_STATUS_LINK_UP (i : Nat) : Fld := ⟨R.ETH_STATUS i, 31, 1⟩
def ETH_STATUS_SPEED (i : Nat) : Fld := ⟨R.ETH_STATUS i, 28, 3⟩
def ETH_STATUS_PAUSED (i : Nat) : Fld := ⟨R.ETH_STATUS i, 27, 1⟩
def ETH_STATUS_SFP_ABS (i : Nat) : Fld := ⟨R.ETH_STATUS i, 26, 1⟩
def ETH_STATUS_SFP_LOS (i : Nat) : Fld := ⟨R.ETH_STATUS i, 25, 1⟩
def ETH_STATUS_SFP_TXFLT (i : Nat) : Fld := ⟨R.ETH_STATUS i, 24, 1⟩
def ETH_STATUS_DUPLEX_FAIL (i : Nat) : Fld := ⟨R.ETH_STATUS i, 23, 1⟩
def ETH_STATUS_LOCAL_FAULT (i : Nat) : Fld := ⟨R.ETH_STATUS i, 22, 1⟩
def ETH_STATUS_REMOTE_FAULT (i : Nat) : Fld := ⟨R.ETH_STATUS i, 21, 1⟩
def ETH_STATUS_MDIX (i : Nat) : Fld := ⟨R.ETH_STATUS i, 20, 1⟩
def ETH_STATUS_RX_FREE (i : Nat) : Fld := ⟨R.ETH_STATUS i, 0, 9⟩
def ETH_EVENT_EVENTS (i : Nat) : Fld := ⟨R.ETH_EVENT i, 0, 8⟩
def ETH_EVENT_EN_EVENTS (i : Nat) : Fld := ⟨R.ETH_EVENT_EN i, 0, 8⟩
def ETH_VLAN_TAG_EN (i : Nat) : Fld := ⟨R.ETH_VLAN i, 31, 1⟩
def ETH_VLAN_PCP (i : Nat) : Fld := ⟨R.ETH_VLAN i, 13, 3⟩
def ETH_VLAN_VID (i : Nat) : Fld := ⟨R.ETH_VLAN i, 0, 12⟩
def ETH_PAUSE_LAST_QUANTA (i : Nat) : Fld := ⟨R.ETH_PAUSE i, 16, 16⟩
def ETH_PAUSE_REMAIN (i : Nat) : Fld := ⟨R.ETH_PAUSE i, 0, 16⟩
def ETH_CNT_HALF_HI_HALF (i : Nat) : Fld := ⟨R.ETH_CNT_HALF_HI i, 0, 24⟩
def PTP_CTL_DOMAIN : Fld := ⟨R.PTP_CTL, 16, 8⟩
def PTP_CTL_PORTS : Fld := ⟨R.PTP_CTL, 9, 3⟩
def PTP_CTL_STAMP_SEL : Fld := ⟨R.PTP_CTL, 8, 1⟩
def PTP_CTL_SLAVE_ONLY : Fld := ⟨R.PTP_CTL, 7, 1⟩
def PTP_CTL_ONE_STEP : Fld := ⟨R.PTP_CTL, 6, 1⟩
def PTP_CTL_TRANSPORT : Fld := ⟨R.PTP_CTL, 4, 2⟩
def PTP_CTL_DELAY_MECH : Fld := ⟨R.PTP_CTL, 3, 1⟩
def PTP_CTL_MODE : Fld := ⟨R.PTP_CTL, 1, 2⟩
def PTP_CTL_ENABLE : Fld := ⟨R.PTP_CTL, 0, 1⟩
def PTP_STATUS_PORT2 : Fld := ⟨R.PTP_STATUS, 22, 3⟩
def PTP_STATUS_PORT1 : Fld := ⟨R.PTP_STATUS, 19, 3⟩
def PTP_STATUS_PORT0 : Fld := ⟨R.PTP_STATUS, 16, 3⟩
def PTP_STATUS_SLAVE_PORT : Fld := ⟨R.PTP_STATUS, 6, 2⟩
def PTP_STATUS_SLEWING : Fld := ⟨R.PTP_STATUS, 5, 1⟩
def PTP_STATUS_MASTER_SEEN : Fld := ⟨R.PTP_STATUS, 4, 1⟩
def PTP_STATUS_VALID : Fld := ⟨R.PTP_STATUS, 3, 1⟩
def PTP_STATUS_STATE : Fld := ⟨R.PTP_STATUS, 0, 3⟩
def PTP_EVENT_EVENTS : Fld := ⟨R.PTP_EVENT, 0, 10⟩
def PTP_EVENT_EN_EVENTS : Fld := ⟨R.PTP_EVENT_EN, 0, 10⟩
def PTP_CMD_ACTION : Fld := ⟨R.PTP_CMD, 0, 2⟩
def PTP_SERVO_LOCK_NS : Fld := ⟨R.PTP_SERVO, 16, 16⟩
def PTP_SERVO_STEP_US : Fld := ⟨R.PTP_SERVO, 0, 16⟩
def PTP_INTERVALS_ANNOUNCE_TIMEOUT : Fld := ⟨R.PTP_INTERVALS, 12, 4⟩
def PTP_INTERVALS_LOG_ANNOUNCE : Fld := ⟨R.PTP_INTERVALS, 8, 4⟩
def PTP_INTERVALS_LOG_DELAY : Fld := ⟨R.PTP_INTERVALS, 4, 4⟩
def PTP_INTERVALS_LOG_SYNC : Fld := ⟨R.PTP_INTERVALS, 0, 4⟩
def PTP_BMC_CLOCK_CLASS : Fld := ⟨R.PTP_BMC, 16, 8⟩
def PTP_BMC_PRIORITY2 : Fld := ⟨R.PTP_BMC, 8, 8⟩
def PTP_BMC_PRIORITY1 : Fld := ⟨R.PTP_BMC, 0, 8⟩
def PTP_HOLDOVER_CFG_LIMIT_MIN : Fld := ⟨R.PTP_HOLDOVER_CFG, 0, 16⟩
def PTP_UTC_VALID : Fld := ⟨R.PTP_UTC, 31, 1⟩
def PTP_UTC_LEAP61 : Fld := ⟨R.PTP_UTC, 30, 1⟩
def PTP_UTC_LEAP59 : Fld := ⟨R.PTP_UTC, 29, 1⟩
def PTP_UTC_OFFSET_S : Fld := ⟨R.PTP_UTC, 0, 16⟩
def PTP_TXQ_STATUS_FILL : Fld := ⟨R.PTP_TXQ_STATUS, 0, 6⟩
def PTP_RXQ_STATUS_FILL02 : Fld := ⟨R.PTP_RXQ_STATUS, 16, 7⟩
def PTP_RXQ_STATUS_FILL01 : Fld := ⟨R.PTP_RXQ_STATUS, 8, 7⟩
def PTP_RXQ_STATUS_FILL00 : Fld := ⟨R.PTP_RXQ_STATUS, 0, 7⟩
def PTP_QSTICKY_OVF : Fld := ⟨R.PTP_QSTICKY, 0, 4⟩
def PTP_CORR_TX (k : Nat) : Fld := ⟨R.PTP_CORR k, 16, 16⟩
def PTP_CORR_RX (k : Nat) : Fld := ⟨R.PTP_CORR k, 0, 16⟩
def BKD_STATUS_VBAT_LOW : Fld := ⟨R.BKD_STATUS, 12, 1⟩
def BKD_STATUS_CAP_PTP_VALID : Fld := ⟨R.BKD_STATUS, 11, 1⟩
def BKD_STATUS_CAP_DONE : Fld := ⟨R.BKD_STATUS, 10, 1⟩
def BKD_STATUS_STEPPED : Fld := ⟨R.BKD_STATUS, 9, 1⟩
def BKD_STATUS_FIRED : Fld := ⟨R.BKD_STATUS, 8, 1⟩
def BKD_STATUS_ARMED : Fld := ⟨R.BKD_STATUS, 7, 1⟩
def BKD_STATUS_CRC_CHECKED : Fld := ⟨R.BKD_STATUS, 6, 1⟩
def BKD_STATUS_CRC_OK : Fld := ⟨R.BKD_STATUS, 5, 1⟩
def BKD_STATUS_DOMAIN_RESET : Fld := ⟨R.BKD_STATUS, 4, 1⟩
def BKD_STATUS_OSC_STOP : Fld := ⟨R.BKD_STATUS, 3, 1⟩
def BKD_STATUS_LOCKOUT_SEEN : Fld := ⟨R.BKD_STATUS, 2, 1⟩
def BKD_STATUS_TICK_CONTINUITY : Fld := ⟨R.BKD_STATUS, 1, 1⟩
def BKD_STATUS_SOURCE : Fld := ⟨R.BKD_STATUS, 0, 1⟩
def BKD_EVENT_EVENTS : Fld := ⟨R.BKD_EVENT, 0, 6⟩
def BKD_EVENT_EN_EVENTS : Fld := ⟨R.BKD_EVENT_EN, 0, 6⟩
def BKD_TRIM_TRIM : Fld := ⟨R.BKD_TRIM, 0, 9⟩
def BKD_WAKE_PERIOD : Fld := ⟨R.BKD_WAKE, 0, 26⟩
def BKD_CMD_KEY : Fld := ⟨R.BKD_CMD, 16, 16⟩
def BKD_CMD_ACTION : Fld := ⟨R.BKD_CMD, 0, 4⟩
def BKD_VBAT_VOLTS : Fld := ⟨R.BKD_VBAT, 0, 16⟩
def LOG_CTL_FLOOD_RATE : Fld := ⟨R.LOG_CTL, 0, 24⟩
def LOG_STATUS_EPOCH_SET : Fld := ⟨R.LOG_STATUS, 7, 1⟩
def LOG_STATUS_DIRECT : Fld := ⟨R.LOG_STATUS, 6, 1⟩
def LOG_STATUS_STAGED : Fld := ⟨R.LOG_STATUS, 0, 6⟩
def LOG_EVENT_EVENTS : Fld := ⟨R.LOG_EVENT, 0, 5⟩
def LOG_EVENT_EN_EVENTS : Fld := ⟨R.LOG_EVENT_EN, 0, 5⟩
def LOG_EPOCH_CMD_APPLY : Fld := ⟨R.LOG_EPOCH_CMD, 0, 1⟩
def CRU_STATUS_OWNER : Fld := ⟨R.CRU_STATUS, 4, 4⟩
def CRU_STATUS_LEN : Fld := ⟨R.CRU_STATUS, 3, 1⟩
def CRU_STATUS_ATTR : Fld := ⟨R.CRU_STATUS, 1, 2⟩
def CRU_STATUS_LOADED : Fld := ⟨R.CRU_STATUS, 0, 1⟩
def CRU_EVENT_EVENTS : Fld := ⟨R.CRU_EVENT, 0, 5⟩
def CRU_EVENT_EN_EVENTS : Fld := ⟨R.CRU_EVENT_EN, 0, 5⟩
def CRU_CTR_SEL_KIND : Fld := ⟨R.CRU_CTR_SEL, 0, 3⟩
def HMK_STATE_SLOTS_USED : Fld := ⟨R.HMK_STATE, 16, 8⟩
def HMK_STATE_OPERATOR_SET : Fld := ⟨R.HMK_STATE, 3, 1⟩
def HMK_STATE_DEBUG_PENDING : Fld := ⟨R.HMK_STATE, 2, 1⟩
def HMK_STATE_DEBUG : Fld := ⟨R.HMK_STATE, 1, 1⟩
def HMK_STATE_ROOT_OK : Fld := ⟨R.HMK_STATE, 0, 1⟩
def FWU_CTL_SOAK_S : Fld := ⟨R.FWU_CTL, 16, 8⟩
def FWU_CTL_GAP_WAIT_MS : Fld := ⟨R.FWU_CTL, 0, 16⟩
def FWU_STATUS_STATE : Fld := ⟨R.FWU_STATUS, 28, 4⟩
def FWU_STATUS_STAGE_BANK : Fld := ⟨R.FWU_STATUS, 26, 1⟩
def FWU_STATUS_NO_STAGE_BANK : Fld := ⟨R.FWU_STATUS, 25, 1⟩
def FWU_STATUS_UNCONFIRMED : Fld := ⟨R.FWU_STATUS, 20, 5⟩
def FWU_STATUS_ACTIVE : Fld := ⟨R.FWU_STATUS, 15, 5⟩
def FWU_STATUS_PART_BANK : Fld := ⟨R.FWU_STATUS, 0, 5⟩
def FWU_EVENT_EVENTS : Fld := ⟨R.FWU_EVENT, 0, 8⟩
def FWU_EVENT_EN_EVENTS : Fld := ⟨R.FWU_EVENT_EN, 0, 8⟩
def FWU_CMD_ACTION : Fld := ⟨R.FWU_CMD, 30, 2⟩
def FWU_STAGE_RECEIVED : Fld := ⟨R.FWU_STAGE, 16, 10⟩
def FWU_STAGE_BLOCK_COUNT : Fld := ⟨R.FWU_STAGE, 0, 10⟩
def FWU_LAST_MASK : Fld := ⟨R.FWU_LAST, 16, 5⟩
def FWU_LAST_OPCODE : Fld := ⟨R.FWU_LAST, 8, 8⟩
def FWU_LAST_REASON : Fld := ⟨R.FWU_LAST, 0, 8⟩
def FWU_PART_SEL_PART : Fld := ⟨R.FWU_PART_SEL, 0, 3⟩
def FWU_PART_SET_RUNNING : Fld := ⟨R.FWU_PART_SET, 16, 16⟩
def FWU_PART_SET_STORED : Fld := ⟨R.FWU_PART_SET, 0, 16⟩
def SAF_CTL_ECC_WARN : Fld := ⟨R.SAF_CTL, 16, 16⟩
def SAF_CTL_AUTO_RESTART : Fld := ⟨R.SAF_CTL, 0, 1⟩
def SAF_EVENT_EVENTS : Fld := ⟨R.SAF_EVENT, 0, 4⟩
def SAF_EVENT_EN_EVENTS : Fld := ⟨R.SAF_EVENT_EN, 0, 4⟩
def SAF_FAULT_LAST_CLASS : Fld := ⟨R.SAF_FAULT_LAST, 28, 4⟩
def SAF_FAULT_LAST_REACTION : Fld := ⟨R.SAF_FAULT_LAST, 24, 4⟩
def SAF_FAULT_LAST_UNIT : Fld := ⟨R.SAF_FAULT_LAST, 16, 8⟩
def SAF_FAULT_LAST_INSTANCE : Fld := ⟨R.SAF_FAULT_LAST, 8, 8⟩
def SAF_ECC_LAST_REGION : Fld := ⟨R.SAF_ECC_LAST, 28, 4⟩
def SAF_ECC_LAST_WORD : Fld := ⟨R.SAF_ECC_LAST, 0, 22⟩
def ASY_CTL_PERIOD_MIN : Fld := ⟨R.ASY_CTL, 16, 16⟩
def ASY_CTL_PERIODIC : Fld := ⟨R.ASY_CTL, 0, 1⟩
def ASY_CMD_ACTION : Fld := ⟨R.ASY_CMD, 30, 2⟩
def ASY_CMD_TARGET : Fld := ⟨R.ASY_CMD, 0, 6⟩
def ASY_EVENT_EVENTS : Fld := ⟨R.ASY_EVENT, 0, 2⟩
def ASY_EVENT_EN_EVENTS : Fld := ⟨R.ASY_EVENT_EN, 0, 2⟩
def ASY_SEL_TARGET : Fld := ⟨R.ASY_SEL, 0, 6⟩
def ASY_TGT_STATUS_STATE : Fld := ⟨R.ASY_TGT_STATUS, 30, 2⟩
def ASY_TGT_STATUS_RESULT : Fld := ⟨R.ASY_TGT_STATUS, 24, 4⟩
def ASY_TGT_STATUS_FORCED : Fld := ⟨R.ASY_TGT_STATUS, 16, 8⟩
def ASY_TGT_STATUS_SLICES : Fld := ⟨R.ASY_TGT_STATUS, 0, 16⟩
def PMON_CTL_CLEAR : Fld := ⟨R.PMON_CTL, 1, 1⟩
def PMON_CTL_FREEZE : Fld := ⟨R.PMON_CTL, 0, 1⟩
def PMON_HALF_COUNTERS : Fld := ⟨R.PMON_HALF, 0, 16⟩
def PMON_EVENT_EN_COUNTERS : Fld := ⟨R.PMON_EVENT_EN, 0, 16⟩
def PMON_C_SEL_EN (n : Nat) : Fld := ⟨R.PMON_C_SEL n, 31, 1⟩
def PMON_C_SEL_MODE (n : Nat) : Fld := ⟨R.PMON_C_SEL n, 30, 1⟩
def PMON_C_SEL_SOURCE (n : Nat) : Fld := ⟨R.PMON_C_SEL n, 0, 10⟩
def PMON_C_HI_COUNT (n : Nat) : Fld := ⟨R.PMON_C_HI n, 0, 16⟩
def MOD_ID_PRODUCT : Fld := ⟨R.MOD_ID, 16, 16⟩
def MOD_ID_DIE_REV : Fld := ⟨R.MOD_ID, 8, 8⟩
def MOD_ID_MODULE_REV : Fld := ⟨R.MOD_ID, 0, 8⟩
def MOD_MAP_FORMAT : Fld := ⟨R.MOD_MAP, 24, 8⟩
def MOD_MAP_BLOCKS : Fld := ⟨R.MOD_MAP, 16, 8⟩
def MOD_MAP_REGS : Fld := ⟨R.MOD_MAP, 0, 16⟩
def MOD_EVENT_EVENTS : Fld := ⟨R.MOD_EVENT, 0, 3⟩
def MOD_EVENT_EN_EVENTS : Fld := ⟨R.MOD_EVENT_EN, 0, 3⟩
def MOD_BLK_BASE_BASE (n : Nat) : Fld := ⟨R.MOD_BLK_BASE n, 0, 24⟩
def MOD_BLK_INFO_INSTANCE (n : Nat) : Fld := ⟨R.MOD_BLK_INFO n, 16, 8⟩
def MOD_BLK_INFO_GATE (n : Nat) : Fld := ⟨R.MOD_BLK_INFO n, 8, 8⟩
def MOD_BLK_INFO_SOURCE (n : Nat) : Fld := ⟨R.MOD_BLK_INFO n, 0, 8⟩
def MOD_BLK_SIZE_REGS (n : Nat) : Fld := ⟨R.MOD_BLK_SIZE n, 16, 16⟩
def MOD_BLK_SIZE_SPAN (n : Nat) : Fld := ⟨R.MOD_BLK_SIZE n, 0, 16⟩
def PCR_STATUS_PHASE : Fld := ⟨R.PCR_STATUS, 12, 4⟩
def PCR_STATUS_XTAL_FAIL : Fld := ⟨R.PCR_STATUS, 5, 1⟩
def PCR_STATUS_HOLDUP_FAULT : Fld := ⟨R.PCR_STATUS, 4, 1⟩
def PCR_STATUS_PFAIL : Fld := ⟨R.PCR_STATUS, 3, 1⟩
def PCR_STATUS_BANK_CHARGED : Fld := ⟨R.PCR_STATUS, 2, 1⟩
def PCR_STATUS_VIN_OK : Fld := ⟨R.PCR_STATUS, 1, 1⟩
def PCR_STATUS_REFCLK_OK : Fld := ⟨R.PCR_STATUS, 0, 1⟩
def PCR_RST_CAUSE_HOLDUP_LOSS : Fld := ⟨R.PCR_RST_CAUSE, 6, 1⟩
def PCR_RST_CAUSE_RECOVERY_EXIT : Fld := ⟨R.PCR_RST_CAUSE, 5, 1⟩
def PCR_RST_CAUSE_SM_WATCHDOG : Fld := ⟨R.PCR_RST_CAUSE, 4, 1⟩
def PCR_RST_CAUSE_SAFETY : Fld := ⟨R.PCR_RST_CAUSE, 3, 1⟩
def PCR_RST_CAUSE_SOFTWARE : Fld := ⟨R.PCR_RST_CAUSE, 2, 1⟩
def PCR_RST_CAUSE_BROWNOUT : Fld := ⟨R.PCR_RST_CAUSE, 1, 1⟩
def PCR_RST_CAUSE_POWER_ON : Fld := ⟨R.PCR_RST_CAUSE, 0, 1⟩
def PCR_PLL_STATUS_ENABLED : Fld := ⟨R.PCR_PLL_STATUS, 16, 10⟩
def PCR_PLL_STATUS_LOCKED : Fld := ⟨R.PCR_PLL_STATUS, 0, 10⟩
def DO_CTL_AUTO_RETRY : Fld := ⟨R.DO_CTL, 0, 1⟩
def MOD_STRAP_PARTNER_PRESENT : Fld := ⟨R.MOD_STRAP, 8, 1⟩
def MOD_STRAP_RECOVERY : Fld := ⟨R.MOD_STRAP, 7, 1⟩
def MOD_STRAP_DPX_POS : Fld := ⟨R.MOD_STRAP, 6, 1⟩
def MOD_STRAP_ALM2 : Fld := ⟨R.MOD_STRAP, 4, 2⟩
def MOD_STRAP_ALM1 : Fld := ⟨R.MOD_STRAP, 2, 2⟩
def MOD_STRAP_ALM0 : Fld := ⟨R.MOD_STRAP, 0, 2⟩
def DALI_CTL_ENABLE (i : Nat) : Fld := ⟨R.DALI_CTL i, 31, 1⟩
def DALI_CTL_POLL_MS (i : Nat) : Fld := ⟨R.DALI_CTL i, 0, 16⟩
def DALI_STATUS_PENDING (i : Nat) : Fld := ⟨R.DALI_STATUS i, 24, 8⟩
def DALI_STATUS_RAW_BUSY (i : Nat) : Fld := ⟨R.DALI_STATUS i, 1, 1⟩
def DALI_STATUS_BUS_DOWN (i : Nat) : Fld := ⟨R.DALI_STATUS i, 0, 1⟩
def DALI_RAW_RX_RESULT (i : Nat) : Fld := ⟨R.DALI_RAW_RX i, 28, 4⟩
def DALI_RAW_RX_ANSWER (i : Nat) : Fld := ⟨R.DALI_RAW_RX i, 0, 8⟩
def SER_STATUS_ONLINE (i : Nat) : Fld := ⟨R.SER_STATUS i, 24, 8⟩
def SER_STATUS_BUSY (i : Nat) : Fld := ⟨R.SER_STATUS i, 0, 1⟩

end F

/-- Register rows of the blocks based in page 0x00 of BAR0. -/
def regRows00 : List RegRow := [
  ⟨0, [], .ro, 0x8800000, 0, 0, false⟩,
  ⟨4, [], .ro, 0x1401716, 0, 0, false⟩,
  ⟨8, [(2, 4)], .snap, 0, 0, 0, false⟩,
  ⟨0x10, [], .w1c, 0, 0, 7, false⟩,
  ⟨0x14, [], .rw, 0, 7, 0, false⟩,
  ⟨0x40, [], .ro, 0, 0, 0, false⟩,
  ⟨0x1000, [(64, 0x20), (8, 4)], .ro, 0, 0, 0, false⟩]

/-- Register rows of the blocks based in page 0x01 of BAR0. -/
def regRows01 : List RegRow := [
  ⟨0x10000, [(2, 0x10000)], .ro, 0, 0, 0, false⟩,
  ⟨0x10004, [(2, 0x10000)], .rw, 0x640000, 0x3ff0001, 0, false⟩,
  ⟨0x10008, [(2, 0x10000)], .ro, 0, 0, 0, false⟩,
  ⟨0x1000c, [(2, 0x10000)], .w1c, 0, 0, 0xf, false⟩,
  ⟨0x10010, [(2, 0x10000), (3, 4)], .ro, 0, 0, 0, false⟩,
  ⟨0x11000, [(2, 0x10000), (64, 0x20)], .rw, 0, 0xffffffff, 0, false⟩,
  ⟨0x11004, [(2, 0x10000), (64, 0x20)], .rw, 0, 0xffffffff, 0, false⟩,
  ⟨0x11008, [(2, 0x10000), (64, 0x20)], .rw, 0, 0xbfff031f, 0, false⟩,
  ⟨0x1100c, [(2, 0x10000), (64, 0x20), (2, 4)], .ro, 0, 0, 0, false⟩,
  ⟨0x11014, [(2, 0x10000), (64, 0x20)], .w1c, 1, 0, 0x300, false⟩,
  ⟨0x12000, [(2, 0x10000), (64, 0x20)], .rw, 0, 0xffffffff, 0, false⟩,
  ⟨0x12004, [(2, 0x10000), (64, 0x20)], .rw, 0, 0xffffffff, 0, false⟩,
  ⟨0x12008, [(2, 0x10000), (64, 0x20)], .rw, 0, 0xff80001f, 0, false⟩,
  ⟨0x1200c, [(2, 0x10000), (64, 0x20), (2, 4)], .ro, 0, 0, 0, false⟩,
  ⟨0x12014, [(2, 0x10000), (64, 0x20)], .rw, 0, 0xff03ff, 0, false⟩,
  ⟨0x12018, [(2, 0x10000), (64, 0x20)], .w1c, 0, 0, 0x120, false⟩]

/-- Register rows of the blocks based in page 0x03 of BAR0. -/
def regRows03 : List RegRow := [
  ⟨0x30000, [(64, 0x10)], .ro, 0, 0, 0, false⟩,
  ⟨0x30004, [(64, 0x10)], .rw, 0, 0x3ff, 0, false⟩,
  ⟨0x30008, [(64, 0x10), (2, 4)], .ro, 0, 0, 0, false⟩,
  ⟨0x31000, [], .rw, 0, 0xff, 0, true⟩,
  ⟨0x31004, [], .ro, 0x80000000, 0, 0, false⟩,
  ⟨0x31008, [(3, 4)], .ro, 0, 0, 0, false⟩]

/-- Register rows of the blocks based in page 0x10 of BAR0. -/
def regRows10 : List RegRow := [
  ⟨0x100000, [], .ro, 2, 0, 0, false⟩,
  ⟨0x100004, [], .w1c, 1, 0, 0x7f, false⟩,
  ⟨0x100008, [], .rwg, 0, 0, 0, false⟩,
  ⟨0x10000c, [], .ro, 0x2000200, 0, 0, false⟩,
  ⟨0x100010, [], .rwg, 0, 0x3f, 0, false⟩,
  ⟨0x100014, [(4, 4)], .ro, 0, 0, 0, false⟩]

/-- Register rows of the blocks based in page 0x11 of BAR0. -/
def regRows11 : List RegRow := [
  ⟨0x110000, [], .rwg, 0, 3, 0, false⟩,
  ⟨0x110004, [], .w1c, 0, 0, 0xffff, false⟩,
  ⟨0x110008, [], .rw, 0, 0xffff, 0, false⟩,
  ⟨0x110100, [(16, 0x10)], .rwg, 0, 0xc00003ff, 0, false⟩,
  ⟨0x110104, [(16, 0x10), (2, 4)], .snap, 0, 0, 0, false⟩]

/-- Register rows of the blocks based in page 0x12 of BAR0. -/
def regRows12 : List RegRow := [
  ⟨0x120000, [(64, 4)], .rw, 0, 0xff00ff00, 0, false⟩,
  ⟨0x120100, [(2, 4)], .ro, 0, 0, 0, false⟩]

/-- Register rows of the blocks based in page 0x20 of BAR0. -/
def regRows20 : List RegRow := [
  ⟨0x200000, [], .rwg, 0x3e8, 0xffff, 0, false⟩,
  ⟨0x200004, [(3, 4)], .ro, 0, 0, 0, false⟩,
  ⟨0x200010, [], .w1c, 0, 0, 3, false⟩,
  ⟨0x200014, [], .rw, 0, 3, 0, false⟩]

/-- Register rows of the blocks based in page 0x21 of BAR0. -/
def regRows21 : List RegRow := [
  ⟨0x210000, [], .rwg, 0xa1406, 0xffff0f, 0, false⟩,
  ⟨0x210004, [], .rwg, 0, 0xff, 0, false⟩,
  ⟨0x210008, [], .rwg, 0, 0xffffffff, 0, false⟩,
  ⟨0x21000c, [], .rwg, 0x1f40064, 0xffffffff, 0, false⟩,
  ⟨0x210010, [], .rwg, 0x3e8003c, 0xffffffff, 0, false⟩,
  ⟨0x210014, [], .rwg, 0x5a0001, 0xffffffff, 0, false⟩,
  ⟨0x210018, [(2, 4)], .rwg, 0, 0xffffffff, 0, false⟩,
  ⟨0x210020, [], .rwg, 0xff050000, 0xffffffff, 0, false⟩,
  ⟨0x210024, [], .ro, 0, 0, 0, false⟩,
  ⟨0x210028, [], .w1c, 0, 0, 0x1ff, false⟩,
  ⟨0x21002c, [], .rw, 0, 0x1ff, 0, false⟩,
  ⟨0x210030, [], .rw, 0, 0xff, 0, true⟩,
  ⟨0x210034, [(2, 4)], .ro, 0, 0, 0, false⟩,
  ⟨0x21003c, [], .rwg, 0, 0x80ffffff, 0, false⟩,
  ⟨0x210040, [], .rwg, 0, 0x3ffff, 0, false⟩,
  ⟨0x210044, [(2, 4)], .rwg, 0, 0xffffffff, 0, false⟩,
  ⟨0x21004c, [(12, 4)], .ro, 0, 0, 0, false⟩,
  ⟨0x210080, [], .rw, 0, 0xff, 0, true⟩,
  ⟨0x210084, [(2, 4)], .ro, 0, 0, 0, false⟩]

/-- Register rows of the blocks based in page 0x30 of BAR0. -/
def regRows30 : List RegRow := [
  ⟨0x300000, [], .rwg, 1, 0x33, 0, false⟩,
  ⟨0x300004, [], .ro, 0xff000000, 0, 0, false⟩,
  ⟨0x300008, [], .w1c, 0, 0, 0x7ff, false⟩,
  ⟨0x30000c, [], .rw, 0, 0x7ff, 0, false⟩,
  ⟨0x300010, [(2, 4)], .ro, 0, 0, 0, false⟩,
  ⟨0x300018, [(2, 4)], .snap, 0, 0, 0, false⟩,
  ⟨0x300020, [(6, 4)], .ro, 0, 0, 0, false⟩,
  ⟨0x301000, [(96, 0x40), (3, 4)], .ro, 0, 0, 0, false⟩,
  ⟨0x30100c, [(96, 0x40), (2, 4)], .snap, 0, 0, 0, false⟩,
  ⟨0x301014, [(96, 0x40)], .ro, 0, 0, 0, false⟩,
  ⟨0x301018, [(96, 0x40)], .rc, 0, 0, 0, false⟩,
  ⟨0x30101c, [(96, 0x40), (5, 4)], .ro, 0, 0, 0, false⟩]

/-- Register rows of the blocks based in page 0x31 of BAR0. -/
def regRows31 : List RegRow := [
  ⟨0x310000, [], .rwg, 0x3e8, 0x1ffff, 0, false⟩,
  ⟨0x310004, [], .ro, 0, 0, 0, false⟩,
  ⟨0x310008, [], .w1c, 0, 0, 0x3f, false⟩,
  ⟨0x31000c, [], .rw, 0, 0x3f, 0, false⟩,
  ⟨0x310010, [(4, 4)], .ro, 0, 0, 0, false⟩,
  ⟨0x310020, [], .rw, 0, 0xfff, 0, true⟩,
  ⟨0x310024, [(3, 4)], .ro, 0, 0, 0, false⟩,
  ⟨0x310030, [(2, 4)], .snap, 0, 0, 0, false⟩,
  ⟨0x310040, [(16, 4)], .ro, 0, 0, 0, false⟩]

/-- Register rows of the blocks based in page 0x40 of BAR0. -/
def regRows40 : List RegRow := [
  ⟨0x400000, [(4, 0x10000)], .rwg, 0, 1, 0, false⟩,
  ⟨0x400004, [(4, 0x10000), (2, 4)], .ro, 0, 0, 0, false⟩,
  ⟨0x40000c, [(4, 0x10000)], .w1c, 0, 0, 0x3ff, false⟩,
  ⟨0x400010, [(4, 0x10000)], .rw, 0, 0x3ff, 0, false⟩,
  ⟨0x400014, [(4, 0x10000), (2, 4)], .ro, 0, 0, 0, false⟩,
  ⟨0x400020, [(4, 0x10000)], .rw, 0, 0x1f01ff, 0, true⟩,
  ⟨0x400024, [(4, 0x10000), (2, 4)], .ro, 0, 0, 0, false⟩,
  ⟨0x40002c, [(4, 0x10000), (2, 4)], .snap, 0, 0, 0, false⟩,
  ⟨0x400040, [(4, 0x10000)], .rwg, 0, 0xfdff0fff, 0, false⟩,
  ⟨0x400044, [(4, 0x10000), (2, 4)], .rwg, 0, 0xffffffff, 0, false⟩,
  ⟨0x40004c, [(4, 0x10000)], .ro, 0, 0, 0, false⟩,
  ⟨0x400050, [(4, 0x10000)], .rw, 0, 0x3f, 0, true⟩,
  ⟨0x400054, [(4, 0x10000)], .ro, 0, 0, 0, false⟩,
  ⟨0x400058, [(4, 0x10000)], .rwg, 0, 0x3f0003, 0, false⟩,
  ⟨0x40005c, [(4, 0x10000)], .ro, 0, 0, 0, false⟩,
  ⟨0x400100, [(4, 0x10000), (4, 0x40)], .rwg, 0, 0xf0ff01ff, 0, false⟩,
  ⟨0x400104, [(4, 0x10000), (4, 0x40), (2, 4)], .rwg, 0, 0x1f1f1f1f, 0, false⟩,
  ⟨0x40010c, [(4, 0x10000), (4, 0x40)], .rwg, 0, 0xf01f3fff, 0, false⟩,
  ⟨0x400110, [(4, 0x10000), (4, 0x40)], .rwg, 0, 0xffffffff, 0, false⟩,
  ⟨0x400114, [(4, 0x10000), (4, 0x40)], .rwg, 0, 3, 0, false⟩,
  ⟨0x400118, [(4, 0x10000), (4, 0x40), (2, 4)], .ro, 0, 0, 0, false⟩,
  ⟨0x400120, [(4, 0x10000), (4, 0x40), (2, 4)], .snap, 0, 0, 0, false⟩]

/-- Register rows of the blocks based in page 0x50 of BAR0. -/
def regRows50 : List RegRow := [
  ⟨0x500000, [(24, 0x100)], .rwg, 0x1400, 0x1f3f, 0, false⟩,
  ⟨0x500004, [(24, 0x100)], .rwg, 0xa01f4, 0xffffff, 0, false⟩,
  ⟨0x500008, [(24, 0x100)], .rwg, 0, 0xffffffff, 0, false⟩,
  ⟨0x50000c, [(24, 0x100)], .rwg, 0x42c80000, 0xffffffff, 0, false⟩,
  ⟨0x500010, [(24, 0x100)], .rwg, 0, 3, 0, false⟩,
  ⟨0x500014, [(24, 0x100)], .ro, 0, 0, 0, false⟩,
  ⟨0x500018, [(24, 0x100)], .w1c, 0, 0, 0x3ff, false⟩,
  ⟨0x50001c, [(24, 0x100)], .rw, 0, 0x3ff, 0, false⟩,
  ⟨0x500020, [(24, 0x100), (6, 4)], .ro, 0, 0, 0, false⟩]

/-- Register rows of the blocks based in page 0x51 of BAR0. -/
def regRows51 : List RegRow := [
  ⟨0x510000, [], .ro, 0, 0, 0, false⟩,
  ⟨0x510004, [], .w1c, 0, 0, 0xffffffff, false⟩,
  ⟨0x510008, [], .rw, 0, 0xffffffff, 0, false⟩,
  ⟨0x510100, [(32, 0x10)], .rwg, 0x100, 0x3ff0f1f, 0, false⟩,
  ⟨0x510104, [(32, 0x10)], .rwg, 0xf89, 0xffff, 0, false⟩,
  ⟨0x510108, [(32, 0x10), (2, 4)], .ro, 0, 0, 0, false⟩]

/-- Register rows of the blocks based in page 0x52 of BAR0. -/
def regRows52 : List RegRow := [
  ⟨0x520000, [], .rwg, 0, 1, 0, false⟩,
  ⟨0x520004, [], .rwg, 0, 0xffffff, 0, false⟩,
  ⟨0x520008, [], .rwg, 0, 0, 0, false⟩,
  ⟨0x52000c, [(5, 4)], .ro, 0, 0, 0, false⟩,
  ⟨0x520020, [], .w1c, 0, 0, 0xf, false⟩,
  ⟨0x520024, [], .rw, 0, 0xf, 0, false⟩]

/-- Register rows of the blocks based in page 0x53 of BAR0. -/
def regRows53 : List RegRow := [
  ⟨0x530000, [(4, 0x1000)], .rwg, 0x64, 0x8000ffff, 0, false⟩,
  ⟨0x530004, [(4, 0x1000)], .ro, 0, 0, 0, false⟩,
  ⟨0x530008, [(4, 0x1000)], .rwg, 0, 0, 0, false⟩,
  ⟨0x53000c, [(4, 0x1000)], .ro, 0, 0, 0, false⟩,
  ⟨0x530010, [(4, 0x1000)], .w1c, 0, 0, 0xf, false⟩,
  ⟨0x530014, [(4, 0x1000)], .rw, 0, 0xf, 0, false⟩,
  ⟨0x530018, [(4, 0x1000), (2, 4)], .ro, 0, 0, 0, false⟩]

/-- Register rows of the blocks based in page 0x54 of BAR0. -/
def regRows54 : List RegRow := [
  ⟨0x540000, [(2, 0x1000)], .rwg, 0x640200, 0xffff07ff, 0, false⟩,
  ⟨0x540004, [(2, 0x1000)], .ro, 0, 0, 0, false⟩,
  ⟨0x540008, [(2, 0x1000)], .w1c, 0, 0, 0xf, false⟩,
  ⟨0x54000c, [(2, 0x1000)], .rw, 0, 0xf, 0, false⟩,
  ⟨0x540010, [(2, 0x1000), (2, 4)], .ro, 0, 0, 0, false⟩]

/-- Register rows of the blocks based in page 0x58 of BAR0. -/
def regRows58 : List RegRow := [
  ⟨0x580000, [(4, 0x4000)], .rwg, 0xc, 0x3f, 0, false⟩,
  ⟨0x580004, [(4, 0x4000)], .rwg, 0x3e0f0f, 0xf8ff7f7f, 0, false⟩,
  ⟨0x580008, [(4, 0x4000)], .rwg, 0x1e0707, 0xf81f0f0f, 0, false⟩,
  ⟨0x58000c, [(4, 0x4000)], .rwg, 0x8020, 0x807f, 0, false⟩,
  ⟨0x580010, [(4, 0x4000)], .ro, 0, 0, 0, false⟩,
  ⟨0x580014, [(4, 0x4000)], .w1c, 0, 0, 0xffff, false⟩,
  ⟨0x580018, [(4, 0x4000)], .rw, 0, 0xffff, 0, false⟩,
  ⟨0x58001c, [(4, 0x4000)], .rwg, 0, 7, 0, false⟩,
  ⟨0x580020, [(4, 0x4000), (7, 4)], .ro, 0, 0, 0, false⟩,
  ⟨0x580040, [(4, 0x4000), (2, 4)], .ro, 0, 0, 0, false⟩,
  ⟨0x580048, [(4, 0x4000), (4, 4)], .rwg, 0, 0, 0, false⟩,
  ⟨0x580058, [(4, 0x4000), (2, 4)], .ro, 0, 0, 0, false⟩,
  ⟨0x580100, [(4, 0x4000)], .rw, 0, 0x3f, 0, true⟩,
  ⟨0x580104, [(4, 0x4000)], .rwg, 0, 0x1ff, 0, false⟩,
  ⟨0x580108, [(4, 0x4000)], .rwg, 0, 0x1fffffff, 0, false⟩,
  ⟨0x58010c, [(4, 0x4000), (2, 4)], .rwg, 0, 0xffffffff, 0, false⟩,
  ⟨0x580114, [(4, 0x4000)], .ro, 0, 0, 0, false⟩,
  ⟨0x580140, [(4, 0x4000), (16, 4)], .rwg, 0, 0xffffffff, 0, false⟩,
  ⟨0x580200, [(4, 0x4000), (2, 0x80), (6, 4)], .ro, 0, 0, 0, false⟩,
  ⟨0x580218, [(4, 0x4000), (2, 0x80)], .rwg, 0, 0, 0, false⟩,
  ⟨0x580240, [(4, 0x4000), (2, 0x80), (16, 4)], .ro, 0, 0, 0, false⟩,
  ⟨0x580300, [(4, 0x4000)], .rw, 0, 0x3f, 0, true⟩,
  ⟨0x580304, [(4, 0x4000), (2, 4)], .rwg, 0, 0x1fffffff, 0, false⟩,
  ⟨0x58030c, [(4, 0x4000)], .rwg, 0, 0x7f0f, 0, false⟩,
  ⟨0x580310, [(4, 0x4000)], .ro, 0, 0, 0, false⟩]

/-- Register rows of the blocks based in page 0x60 of BAR0. -/
def regRows60 : List RegRow := [
  ⟨0x600000, [], .rwg, 0xa03, 0xff03, 0, false⟩,
  ⟨0x600004, [], .ro, 0, 0, 0, false⟩,
  ⟨0x600008, [], .w1c, 0, 0, 0x3ff, false⟩,
  ⟨0x60000c, [], .rw, 0, 0x3ff, 0, false⟩,
  ⟨0x600010, [(2, 4)], .snap, 0, 0, 0, false⟩,
  ⟨0x600018, [(8, 4)], .ro, 0, 0, 0, false⟩,
  ⟨0x600040, [], .rwg, 0, 0xc000003f, 0, false⟩,
  ⟨0x600044, [(3, 4)], .ro, 0, 0, 0, false⟩,
  ⟨0x601000, [(49, 0x20)], .rwg, 0, 0x1f, 0, false⟩,
  ⟨0x601004, [(49, 0x20)], .rwg, 5, 0xffff3fff, 0, false⟩,
  ⟨0x601008, [(49, 0x20), (6, 4)], .ro, 0, 0, 0, false⟩,
  ⟨0x602000, [(16, 0x10)], .rwg, 0x3f3f3f, 0x803f3f3f, 0, false⟩,
  ⟨0x602004, [(16, 0x10), (2, 4)], .ro, 0, 0, 0, false⟩]

/-- Register rows of the blocks based in page 0x61 of BAR0. -/
def regRows61 : List RegRow := [
  ⟨0x610000, [], .rwg, 1, 1, 0, false⟩,
  ⟨0x610004, [], .ro, 0, 0, 0, false⟩,
  ⟨0x610008, [], .rw, 0, 0x9f3f, 0, true⟩,
  ⟨0x61000c, [(2, 4)], .rwg, 0, 0xffffffff, 0, true⟩,
  ⟨0x610014, [], .rwg, 0, 3, 0, false⟩,
  ⟨0x610018, [], .rwg, 0, 0xffffffff, 0, false⟩,
  ⟨0x61001c, [], .rwg, 0x1e0000, 0x1fffff, 0, false⟩,
  ⟨0x610020, [], .ro, 0, 0, 0, false⟩,
  ⟨0x610024, [], .w1c, 0, 0, 0xf, false⟩,
  ⟨0x610028, [], .rw, 0, 0xf, 0, false⟩,
  ⟨0x61002c, [], .ro, 0, 0, 0, false⟩]

/-- Register rows of the blocks based in page 0x70 of BAR0. -/
def regRows70 : List RegRow := [
  ⟨0x700000, [(3, 0x10000)], .rwg, 0x6400d0, 0xffff00ff, 0, false⟩,
  ⟨0x700004, [(3, 0x10000)], .ro, 0, 0, 0, false⟩,
  ⟨0x700008, [(3, 0x10000)], .w1c, 0, 0, 0xff, false⟩,
  ⟨0x70000c, [(3, 0x10000)], .rw, 0, 0xff, 0, false⟩,
  ⟨0x700010, [(3, 0x10000)], .rwg, 0, 0xffffffff, 0, false⟩,
  ⟨0x700014, [(3, 0x10000)], .rwg, 0, 0xffff, 0, false⟩,
  ⟨0x700018, [(3, 0x10000)], .rwg, 0, 0x8000efff, 0, false⟩,
  ⟨0x70001c, [(3, 0x10000)], .ro, 0, 0, 0, false⟩,
  ⟨0x700040, [(3, 0x10000), (16, 4)], .rwg, 0, 0xffffffff, 0, false⟩,
  ⟨0x700080, [(3, 0x10000)], .w1c, 0, 0, 0xffffffff, false⟩,
  ⟨0x700084, [(3, 0x10000)], .w1c, 0, 0, 0xffffff, false⟩,
  ⟨0x700100, [(3, 0x10000), (56, 4)], .ro, 0, 0, 0, false⟩]

/-- Register rows of the blocks based in page 0x73 of BAR0. -/
def regRows73 : List RegRow := [
  ⟨0x730000, [], .rwg, 0x6c2, 0xff0fff, 0, false⟩,
  ⟨0x730004, [], .ro, 0xc0, 0, 0, false⟩,
  ⟨0x730008, [], .w1c, 0, 0, 0x3ff, false⟩,
  ⟨0x73000c, [], .rw, 0, 0x3ff, 0, false⟩,
  ⟨0x730010, [(3, 4)], .snap, 0, 0, 0, false⟩,
  ⟨0x73001c, [], .rwg, 0x80000000, 0xffffffff, 0, false⟩,
  ⟨0x730020, [(2, 4)], .rwg, 0, 0xffffffff, 0, false⟩,
  ⟨0x730028, [], .rwg, 0, 0xffff, 0, false⟩,
  ⟨0x73002c, [], .rwg, 0, 3, 0, false⟩,
  ⟨0x730030, [], .rwg, 0x3e803e8, 0xffffffff, 0, false⟩,
  ⟨0x730034, [], .rwg, 0x310d, 0xffff, 0, false⟩,
  ⟨0x730038, [], .rwg, 0xf88080, 0xffffff, 0, false⟩,
  ⟨0x73003c, [], .rwg, 0, 0xffff, 0, false⟩,
  ⟨0x730040, [(8, 4)], .ro, 0, 0, 0, false⟩,
  ⟨0x730060, [], .w1c, 0, 0, 0xf, false⟩,
  ⟨0x730064, [(4, 4)], .ro, 0, 0, 0, false⟩,
  ⟨0x730080, [(3, 4)], .rwg, 0, 0xffffffff, 0, false⟩]

/-- Register rows of the blocks based in page 0x80 of BAR0. -/
def regRows80 : List RegRow := [
  ⟨0x800000, [], .rwg, 0x3e80001, 0x3fff0001, 0, false⟩,
  ⟨0x800004, [], .rwg, 0, 0xc000ffff, 0, false⟩,
  ⟨0x800008, [], .ro, 0, 0, 0, false⟩,
  ⟨0x80000c, [], .w1c, 0, 0, 0x3fff, false⟩,
  ⟨0x800010, [], .rw, 0, 0x3fff, 0, false⟩,
  ⟨0x800014, [(2, 4)], .ro, 0, 0, 0, false⟩,
  ⟨0x80001c, [(2, 4)], .snap, 0, 0, 0, false⟩,
  ⟨0x800024, [(5, 4)], .ro, 0, 0, 0, false⟩,
  ⟨0x800038, [], .rc, 0, 0, 0, false⟩]

/-- Register rows of the blocks based in page 0x81 of BAR0. -/
def regRows81 : List RegRow := [
  ⟨0x810000, [], .rwg, 0x100000, 0xffff0001, 0, false⟩,
  ⟨0x810004, [], .w1c, 0, 0, 0xf, false⟩,
  ⟨0x810008, [], .rw, 0, 0xf, 0, false⟩,
  ⟨0x81000c, [], .ro, 0, 0, 0, false⟩,
  ⟨0x810010, [(2, 4)], .snap, 0, 0, 0, false⟩,
  ⟨0x810018, [(5, 4)], .ro, 0, 0, 0, false⟩]

/-- Register rows of the blocks based in page 0x82 of BAR0. -/
def regRows82 : List RegRow := [
  ⟨0x820000, [], .rwg, 0x3c0001, 0xffff0001, 0, false⟩,
  ⟨0x820004, [], .rwg, 0, 0xc000003f, 0, false⟩,
  ⟨0x820008, [(2, 4)], .ro, 0, 0, 0, false⟩,
  ⟨0x820010, [], .w1c, 0, 0, 3, false⟩,
  ⟨0x820014, [], .rw, 0, 3, 0, false⟩,
  ⟨0x820018, [], .rw, 0, 0x3f, 0, true⟩,
  ⟨0x82001c, [], .ro, 0, 0, 0, false⟩,
  ⟨0x820020, [(2, 4)], .snap, 0, 0, 0, false⟩,
  ⟨0x820028, [(2, 4)], .ro, 0, 0, 0, false⟩]

/-- Register rows of the blocks based in page 0x90 of BAR0. -/
def regRows90 : List RegRow := [
  ⟨0x900000, [], .ro, 0x130, 0, 0, false⟩,
  ⟨0x900004, [], .w1c, 0, 0, 0x3f, false⟩,
  ⟨0x900008, [], .rw, 0, 0x3f, 0, false⟩,
  ⟨0x90000c, [(2, 4)], .snap, 0, 0, 0, false⟩,
  ⟨0x900014, [], .rwg, 0, 0xffffffff, 0, false⟩,
  ⟨0x900018, [], .rwg, 0, 0xffff, 0, false⟩,
  ⟨0x90001c, [], .rwg, 0, 0xffffffff, 0, false⟩,
  ⟨0x900020, [], .rwg, 0, 0xffff, 0, false⟩,
  ⟨0x900024, [], .rwg, 0, 0x1ff, 0, false⟩,
  ⟨0x900028, [], .rwg, 0, 0x3ffffff, 0, false⟩,
  ⟨0x90002c, [], .rwg, 0, 0xffff000f, 0, false⟩,
  ⟨0x900030, [(7, 4)], .ro, 0, 0, 0, false⟩,
  ⟨0x900080, [(16, 4)], .rwg, 0, 0xffffffff, 0, false⟩]

/-- Register rows of the blocks based in page 0x91 of BAR0. -/
def regRows91 : List RegRow := [
  ⟨0x910000, [], .rwg, 0x2710, 0xffffff, 0, false⟩,
  ⟨0x910004, [], .ro, 0, 0, 0, false⟩,
  ⟨0x910008, [], .w1c, 0, 0, 0x1f, false⟩,
  ⟨0x91000c, [], .rw, 0, 0x1f, 0, false⟩,
  ⟨0x910010, [(8, 4)], .snap, 0, 0, 0, false⟩,
  ⟨0x910030, [], .rwg, 0, 0xffffffff, 0, true⟩,
  ⟨0x910034, [], .rwg, 0, 0xffff, 0, true⟩,
  ⟨0x910038, [], .rwg, 0, 0xffffffff, 0, true⟩,
  ⟨0x91003c, [], .rwg, 0, 0xffff, 0, true⟩,
  ⟨0x910040, [], .rwg, 0, 1, 0, false⟩,
  ⟨0x910044, [(2, 4)], .ro, 0, 0, 0, false⟩]

/-- Register rows of the blocks based in page 0xA0 of BAR0. -/
def regRowsA0 : List RegRow := [
  ⟨0xa00000, [(2, 4)], .ro, 0, 0, 0, false⟩,
  ⟨0xa00008, [], .w1c, 0, 0, 0x1f, false⟩,
  ⟨0xa0000c, [], .rw, 0, 0x1f, 0, false⟩,
  ⟨0xa00010, [(3, 4)], .ro, 0, 0, 0, false⟩,
  ⟨0xa0001c, [], .rw, 1, 7, 0, true⟩,
  ⟨0xa00020, [(2, 4)], .snap, 0, 0, 0, false⟩,
  ⟨0xa00030, [], .ro, 0, 0, 0, false⟩,
  ⟨0xa00040, [(32, 4)], .ro, 0, 0, 0, false⟩]

/-- Register rows of the blocks based in page 0xA1 of BAR0. -/
def regRowsA1 : List RegRow := [
  ⟨0xa10000, [], .rwg, 0x103e8, 0xffffff, 0, false⟩,
  ⟨0xa10004, [], .ro, 0, 0, 0, false⟩,
  ⟨0xa10008, [], .w1c, 0, 0, 0xff, false⟩,
  ⟨0xa1000c, [], .rw, 0, 0xff, 0, false⟩,
  ⟨0xa10010, [], .rwg, 0, 0xc0000000, 0, false⟩,
  ⟨0xa10014, [(3, 4)], .ro, 0, 0, 0, false⟩,
  ⟨0xa10020, [(2, 4)], .snap, 0, 0, 0, false⟩,
  ⟨0xa10028, [], .rw, 0, 7, 0, true⟩,
  ⟨0xa1002c, [(3, 4)], .ro, 0, 0, 0, false⟩,
  ⟨0xa10040, [(48, 4)], .ro, 0, 0, 0, false⟩]

/-- The register rows that can hold an offset whose bits 23:16 are `p`. -/
def pageRows (p : Nat) : List RegRow :=
  if p = 0 then regRows00
  else if p = 1 ∨ p = 2 then regRows01
  else if p = 3 then regRows03
  else if p = 0x10 then regRows10
  else if p = 0x11 then regRows11
  else if p = 0x12 then regRows12
  else if p = 0x20 then regRows20
  else if p = 0x21 then regRows21
  else if p = 0x30 then regRows30
  else if p = 0x31 then regRows31
  else if p = 0x40 ∨ p = 0x41 ∨ p = 0x42 ∨ p = 0x43 then regRows40
  else if p = 0x50 then regRows50
  else if p = 0x51 then regRows51
  else if p = 0x52 then regRows52
  else if p = 0x53 then regRows53
  else if p = 0x54 then regRows54
  else if p = 0x58 then regRows58
  else if p = 0x60 then regRows60
  else if p = 0x61 then regRows61
  else if p = 0x70 ∨ p = 0x71 ∨ p = 0x72 then regRows70
  else if p = 0x73 then regRows73
  else if p = 0x80 then regRows80
  else if p = 0x81 then regRows81
  else if p = 0x82 then regRows82
  else if p = 0x90 then regRows90
  else if p = 0x91 then regRows91
  else if p = 0xa0 then regRowsA0
  else if p = 0xa1 then regRowsA1
  else []

/-- `d` is a sum of whole strides of `dims`, widest stride first. -/
def hitDims : List (Nat × Nat) → Nat → Bool
  | [], d => d == 0
  | (c, st) :: t, d => Nat.blt (d / st) c && hitDims t (d % st)

/-- The row's registers include offset `a`. -/
def RegRow.hit (r : RegRow) (a : Nat) : Bool := Nat.ble r.off a && hitDims r.dims (a - r.off)

/-- The register row of offset `a`; none where `a` is reserved space (R5). -/
def regRow (a : Nat) : Option RegRow := (pageRows (a / 65536)).find? (fun r => r.hit a)

/-- The value a register reads before anything has changed it (the Reset column). HPB_ID shows port 1
in bit 8 (R99). -/
def regReset (a : Nat) : BitVec 32 :=
  if a = R.HP_ID 1 then 0x100#32
  else match regRow a with
    | some r => BitVec.ofNat 32 r.reset
    | none => 0#32

/-- One block of the block map (R460). -/
structure Block where
  desc : Nat
  base : Nat
  span : Nat
  regs : Nat
  inst : Nat
  gate : Option Nat
  source : Option Nat
  name : List Nat
  deriving DecidableEq, Repr

/-- The block map of R460, part 0; `name` is the prefix in ASCII. -/
def blocks0 : List Block := [
  ⟨0, 0, 0x10000, 519, 0, none, some 39, [77, 79, 68]⟩,
  ⟨1, 0x10000, 0x10000, 839, 0, none, none, [72, 80, 65]⟩,
  ⟨2, 0x20000, 0x10000, 839, 0, none, none, [72, 80, 66]⟩,
  ⟨3, 0x30000, 0x10000, 261, 0, none, some 38, [71, 65, 84, 69, 47, 67, 84, 88]⟩,
  ⟨4, 0x100000, 0x10000, 9, 0, some 0, some 37, [80, 67, 82]⟩,
  ⟨5, 0x110000, 0x10000, 51, 0, some 1, some 34, [80, 77, 79, 78]⟩,
  ⟨6, 0x120000, 0x10000, 66, 0, none, none, [73, 82, 84]⟩,
  ⟨7, 0x200000, 0x10000, 6, 0, some 2, some 2, [80, 73, 88]⟩,
  ⟨8, 0x210000, 0x10000, 34, 0, some 3, some 3, [82, 69, 80]⟩,
  ⟨9, 0x300000, 0x10000, 1166, 0, some 4, some 0, [83, 67, 78]⟩,
  ⟨10, 0x310000, 0x10000, 30, 0, some 5, some 1, [79, 76, 67]⟩,
  ⟨11, 0x400000, 0x10000, 60, 0, some 6, some 4, [76, 69, 48]⟩,
  ⟨12, 0x410000, 0x10000, 60, 1, some 7, some 5, [76, 69, 49]⟩,
  ⟨13, 0x420000, 0x10000, 60, 2, some 8, some 6, [76, 69, 50]⟩,
  ⟨14, 0x430000, 0x10000, 60, 3, some 9, some 7, [76, 69, 51]⟩,
  ⟨15, 0x500000, 0x100, 14, 0, some 10, some 8, [76, 73, 48, 48]⟩,
  ⟨16, 0x500100, 0x100, 14, 1, some 10, some 8, [76, 73, 48, 49]⟩,
  ⟨17, 0x500200, 0x100, 14, 2, some 10, some 8, [76, 73, 48, 50]⟩,
  ⟨18, 0x500300, 0x100, 14, 3, some 10, some 8, [76, 73, 48, 51]⟩,
  ⟨19, 0x500400, 0x100, 14, 4, some 10, some 8, [76, 73, 48, 52]⟩,
  ⟨20, 0x500500, 0x100, 14, 5, some 10, some 8, [76, 73, 48, 53]⟩,
  ⟨21, 0x500600, 0x100, 14, 6, some 10, some 8, [76, 73, 48, 54]⟩,
  ⟨22, 0x500700, 0x100, 14, 7, some 10, some 8, [76, 73, 48, 55]⟩,
  ⟨23, 0x500800, 0x100, 14, 8, some 10, some 9, [76, 73, 48, 56]⟩,
  ⟨24, 0x500900, 0x100, 14, 9, some 10, some 9, [76, 73, 48, 57]⟩,
  ⟨25, 0x500a00, 0x100, 14, 10, some 10, some 9, [76, 73, 49, 48]⟩,
  ⟨26, 0x500b00, 0x100, 14, 11, some 10, some 9, [76, 73, 49, 49]⟩,
  ⟨27, 0x500c00, 0x100, 14, 12, some 10, some 9, [76, 73, 49, 50]⟩,
  ⟨28, 0x500d00, 0x100, 14, 13, some 10, some 9, [76, 73, 49, 51]⟩,
  ⟨29, 0x500e00, 0x100, 14, 14, some 10, some 9, [76, 73, 49, 52]⟩,
  ⟨30, 0x500f00, 0x100, 14, 15, some 10, some 9, [76, 73, 49, 53]⟩,
  ⟨31, 0x501000, 0x100, 14, 16, some 10, some 10, [76, 73, 49, 54]⟩]

/-- The block map of R460, part 1; `name` is the prefix in ASCII. -/
def blocks1 : List Block := [
  ⟨32, 0x501100, 0x100, 14, 17, some 10, some 10, [76, 73, 49, 55]⟩,
  ⟨33, 0x501200, 0x100, 14, 18, some 10, some 10, [76, 73, 49, 56]⟩,
  ⟨34, 0x501300, 0x100, 14, 19, some 10, some 10, [76, 73, 49, 57]⟩,
  ⟨35, 0x501400, 0x100, 14, 20, some 10, some 10, [76, 73, 50, 48]⟩,
  ⟨36, 0x501500, 0x100, 14, 21, some 10, some 10, [76, 73, 50, 49]⟩,
  ⟨37, 0x501600, 0x100, 14, 22, some 10, some 10, [76, 73, 50, 50]⟩,
  ⟨38, 0x501700, 0x100, 14, 23, some 10, some 10, [76, 73, 50, 51]⟩,
  ⟨39, 0x510000, 0x10000, 131, 0, some 11, some 11, [85, 73]⟩,
  ⟨40, 0x520000, 0x10000, 10, 0, some 12, some 12, [68, 79]⟩,
  ⟨41, 0x530000, 0x1000, 8, 0, some 13, some 13, [68, 65, 76, 73, 48]⟩,
  ⟨42, 0x531000, 0x1000, 8, 1, some 14, some 14, [68, 65, 76, 73, 49]⟩,
  ⟨43, 0x532000, 0x1000, 8, 2, some 15, some 15, [68, 65, 76, 73, 50]⟩,
  ⟨44, 0x533000, 0x1000, 8, 3, some 16, some 16, [68, 65, 76, 73, 51]⟩,
  ⟨45, 0x540000, 0x1000, 6, 0, some 17, some 17, [83, 69, 82, 48]⟩,
  ⟨46, 0x541000, 0x1000, 6, 1, some 18, some 18, [83, 69, 82, 49]⟩,
  ⟨47, 0x580000, 0x4000, 96, 0, some 19, some 19, [67, 65, 78, 48]⟩,
  ⟨48, 0x584000, 0x4000, 96, 1, some 20, some 20, [67, 65, 78, 49]⟩,
  ⟨49, 0x588000, 0x4000, 96, 2, some 21, some 21, [67, 65, 78, 50]⟩,
  ⟨50, 0x58c000, 0x4000, 96, 3, some 22, some 22, [67, 65, 78, 51]⟩,
  ⟨51, 0x600000, 0x10000, 458, 0, some 23, some 23, [77, 84, 82]⟩,
  ⟨52, 0x610000, 0x10000, 12, 0, some 24, some 24, [77, 84, 67]⟩,
  ⟨53, 0x700000, 0x10000, 82, 0, some 25, some 25, [69, 84, 72, 48]⟩,
  ⟨54, 0x710000, 0x10000, 82, 1, some 26, some 26, [69, 84, 72, 49]⟩,
  ⟨55, 0x720000, 0x10000, 82, 2, some 27, some 27, [69, 84, 72, 50]⟩,
  ⟨56, 0x730000, 0x10000, 32, 0, some 28, some 28, [80, 84, 80]⟩,
  ⟨57, 0x800000, 0x10000, 15, 0, some 29, some 29, [68, 80, 88]⟩,
  ⟨58, 0x810000, 0x10000, 11, 0, some 30, some 30, [83, 65, 70]⟩,
  ⟨59, 0x820000, 0x10000, 12, 0, some 31, some 31, [65, 83, 89]⟩,
  ⟨60, 0x900000, 0x10000, 35, 0, some 32, some 32, [66, 75, 68]⟩,
  ⟨61, 0x910000, 0x10000, 19, 0, some 33, some 33, [76, 79, 71]⟩,
  ⟨62, 0xa00000, 0x10000, 43, 0, none, some 35, [67, 82, 85, 47, 72, 77, 75]⟩,
  ⟨63, 0xa10000, 0x10000, 62, 0, some 34, some 36, [70, 87, 85]⟩]

/-- The block map of R460. -/
def blocks : List Block := blocks0 ++ blocks1

/-- The block whose span holds offset `a`. -/
def blockAt (a : Nat) : Option Block :=
  blocks.find? (fun b => Nat.ble b.base a && Nat.blt a (b.base + b.span))

end Sys2Proof.Machine
end

