-- ==== Sys2Proof/Machine/State.lean ====
section
/-! DEFINITION. The state of the block: every register, ring, buffer, counter, mode and pin that the spec
gives the module, the queue of waiting commands, and the state after reset. -/

namespace Sys2Proof.Machine

/-- The state of the module. -/
structure State where
  /-- BAR0 registers that hold a value for both ports, by offset; an unlisted offset reads as its Reset column -/
  regs : Tbl Word := []
  /-- settings records of the registers that DOMAIN_START loads (R465), by offset -/
  settings : Tbl Word := []
  /-- clocks -/
  clk : Clk := {}
  /-- logbook -/
  log : LogS := {}
  /-- host port A -/
  hpA : PortS := {}
  /-- host port B -/
  hpB : PortS := {}
  /-- lock gates -/
  gates : Tbl Gate := []
  /-- tenant denials by context -/
  deny : Tbl Deny := []
  /-- rising edges of interrupt source lines not yet raised (R92) -/
  edges : List Nat := []
  /-- point image -/
  pix : PixS := {}
  /-- replication engine and ownership table -/
  rep : RepS := {}
  /-- controller, tasks, program image -/
  scn : ScnS := {}
  /-- online change and forces -/
  olc : OlcS := {}
  /-- loop engines -/
  le : LeS := {}
  /-- what the module has sent to the outside, oldest first -/
  out : List Out := []
  /-- free values taken so far (the model's own counter) -/
  free : Nat := 0
  /-- power and reset -/
  pwr : PwrS := {}
  /-- security core -/
  sec : SecS := {}
  /-- duplex pair -/
  dpx : DpxS := {}
  /-- loop islands, universal inputs, discrete outputs, DALI masters and serial ports -/
  fio : FieldS := {}
  /-- CAN controllers -/
  can : Tbl CanS := []
  /-- settings records other than those of registers -/
  set : SetS := {}
  /-- metering -/
  mtr : MtrS := {}
  /-- faults that wait for the safety manager's declaration (R445) -/
  reports : List FaultRep := []
  /-- performance counters, 48 bits each (R454) -/
  pmon : Tbl Nat := []
  /-- performance counters that have counted what the model does not count; they show free values -/
  pmonOpen : List Nat := []
  /-- firmware update -/
  fwu : FwuS := {}
  /-- Ethernet MACs -/
  eth : Tbl EthS := []
  /-- network time -/
  ptp : PtpS := {}
  /-- backup domain -/
  bkd : BkdS := {}
  /-- safety manager and assay controller -/
  saf : SafS := {}
  /-- the commands that wait, first in, first out -/
  pending : List Instr := []
  deriving DecidableEq, Repr, Inhabited

/-- The reasons for which a command could stop the model. There is none: every command of the table has an
effect on every state. -/
inductive Fault where
  deriving DecidableEq, Repr

/-- The refusals. -/
inductive Refusal where
  /-- Raised by an arm of `exec` whose command has no meaning yet. Safe: nothing is claimed of it. -/
  | notModelled (mnemonic : String)
  deriving DecidableEq, Repr

/-- The state right after a power-on reset (R57, R60): phase POR_HOLD with VIN24 qualified, every register
at its Reset column, nothing in any store, no command waiting. -/
def State.reset : State := {}

end Sys2Proof.Machine
end

