-- ==== Sys2Proof/Machine/Ops.lean ====
section
/-! DEFINITION. The named operations that every command's meaning is written with: registers and their
fields, the clocks, event flags and interrupt lines, the logbook's posting, free values, lock gates, reserved
and dropped writes, MSI-X messages, and operations in flight. -/

namespace Sys2Proof.Machine

/-! ## Registers -/

/-- The value that register `a` holds (R2). -/
def State.rd (s : State) (a : Nat) : Word := tget s.regs (regReset a) a

/-- Register `a` set to `v`. -/
def State.wr (s : State) (a : Nat) (v : Word) : State :=
  { s with regs := tset s.regs (regReset a) a v }

/-- The value of register `a` as a number. -/
def State.rn (s : State) (a : Nat) : Nat := (s.rd a).toNat

/-- Register `a` set to the number `v`. -/
def State.wn (s : State) (a v : Nat) : State := s.wr a (BitVec.ofNat 32 v)

/-- The value of a field. -/
def State.g (s : State) (f : Fld) : Nat := bits (s.rn f.off) f.lo f.w

/-- A field set to `v`; the register's other bits stay. -/
def State.p (s : State) (f : Fld) (v : Nat) : State := s.wn f.off (setBits (s.rn f.off) f.lo f.w v)

/-- Bit `b` of register `a`. -/
def State.bit (s : State) (a b : Nat) : Bool := natBit (s.rn a) b

/-- Bit `b` of register `a` set to `v`. -/
def State.setBit (s : State) (a b : Nat) (v : Bool) : State := s.wn a (setBits (s.rn a) b 1 (b2n v))

/-- A counter that wraps from 0xFFFF_FFFF to 0. -/
def State.inc (s : State) (a : Nat) (n : Nat := 1) : State := s.wr a (s.rd a + BitVec.ofNat 32 n)

/-- A counter field that holds at its largest value. -/
def State.incHold (s : State) (f : Fld) (n : Nat := 1) : State := s.p f (min (s.g f + n) (2 ^ f.w - 1))

/-- A 64-bit value in the registers `a` (bits 31:0) and `a + 4`. -/
def State.rn64 (s : State) (a : Nat) : Nat := s.rn a + s.rn (a + 4) * 2 ^ 32

/-- A 64-bit value into the registers `a` and `a + 4`. -/
def State.wn64 (s : State) (a v : Nat) : State := (s.wn a v).wn (a + 4) (v / 2 ^ 32)

/-- The state of host port `p`, 0 for A and 1 for B. -/
def State.port (s : State) (p : Nat) : PortS := if p = 0 then s.hpA else s.hpB

/-- Host port `p` given the state `q`. -/
def State.setPort (s : State) (p : Nat) (q : PortS) : State :=
  if p = 0 then { s with hpA := q } else { s with hpB := q }

/-- The value of a register that holds one value per port. -/
def State.prd (s : State) (p a : Nat) : Nat := (tget (s.port p).regs (regReset a) a).toNat

/-- A per-port register set. -/
def State.pwp (s : State) (p a v : Nat) : State :=
  let q := s.port p
  s.setPort p { q with regs := tset q.regs (regReset a) a (BitVec.ofNat 32 v) }

/-! ## Free values -/

/-- The next free value: nothing constrains it. -/
def State.fresh (s : State) : Nat := Config.freeValue s.free

/-- The state after a free value has been taken. -/
def State.freshen (s : State) : State := { s with free := s.free + 1 }

/-! ## Clocks -/

/-- The clocks advance by `n` edges of 125 MHz: 8 ns each, the PTP clock by the addend of R371 at each
edge, the tick count by the ticks of 32,768 Hz that fall in them. -/
def State.advance (s : State) (n : Nat) : State :=
  let c := s.clk
  let acc := c.tickAcc + n * 8 * 32768
  { s with clk := { c with
      upNs := c.upNs + 8 * n
      ptp := c.ptp + n * s.rn R.PTP_ADDEND
      tick := if c.tickRun then (c.tick + acc / 1000000000) % 2 ^ 48 else c.tick
      wrapped := c.wrapped || (c.tickRun && Nat.ble (2 ^ 48) (c.tick + acc / 1000000000))
      tickAcc := if c.tickRun then acc % 1000000000 else c.tickAcc } }

/-- PTP time in whole ns since the epoch. -/
def State.ptpNs (s : State) : Nat := s.clk.ptp / 2 ^ 28

/-- The clocks advance to PTP time `t` ns where it lies ahead: the event whose instant that is occurs no
earlier. -/
def State.advanceToPtp (s : State) (t : Nat) : State :=
  if s.ptpNs < t then
    s.advance ((t * 2 ^ 28 - s.clk.ptp + (s.rn R.PTP_ADDEND - 1)) / s.rn R.PTP_ADDEND)
  else s

/-- The clocks advance to `t` ns since the start where it lies ahead. -/
def State.advanceToUp (s : State) (t : Nat) : State :=
  if s.clk.upNs < t then s.advance ((t - s.clk.upNs + 7) / 8) else s

/-- The clocks advance to tick count `t`, at most 2^47 ticks ahead. -/
def State.advanceToTick (s : State) (t : Nat) : State :=
  let d := (t + 2 ^ 48 - s.clk.tick) % 2 ^ 48
  if 0 < d ∧ d < 2 ^ 47 ∧ s.clk.tickRun then
    s.advance ((d * 1000000000 - s.clk.tickAcc + (8 * 32768 - 1)) / (8 * 32768))
  else s

/-- PHASE of PCR_STATUS (R66). -/
def State.phase (s : State) : Nat := s.g F.PCR_STATUS_PHASE

/-- PHASE is SERVICE. -/
def State.inService (s : State) : Bool := s.phase == 5

/-- The module's scheduler, engines and host ports run on: SERVICE, or a HOLDUP that began in SERVICE and
has not reached the stop (R51, R53). -/
def State.running (s : State) : Bool := s.phase == 5 || (s.phase == 6 && s.pwr.inService)

/-- The module has been in SERVICE since its start and its field outputs and transmitters may act (R61): SERVICE, or what
follows a power failure or an ordered reset there. -/
def State.served (s : State) : Bool := s.phase == 5 || ((s.phase == 6 || s.phase == 7) && s.pwr.inService)

/-- The module is motor: its DPX_GRANT_OUT is high, or it has no partner (R313) and has not been butty to one (R468). -/
def State.isMotor (s : State) : Bool := s.g F.DPX_STATUS_GRANT_OUT == 1 || s.dpx.alone

/-- The module has a partner: DPX_PRESENT_N is low. -/
def State.hasPartner (s : State) : Bool := s.g F.MOD_STRAP_PARTNER_PRESENT == 1

/-- The module is butty: it is not motor (R313). -/
def State.isButty (s : State) : Bool := !s.isMotor

/-- Network core `k`, 0 or 1, runs: it is not restarted after a fault (R8, R447). -/
def State.core (s : State) (k : Nat) : Bool := !s.saf.restarting.contains (6 + k)

/-- The pair is SYNCED (R337). -/
def State.synced (s : State) : Bool := s.g F.DPX_STATUS_PAIR_STATE == 3

/-! ## Events and interrupt lines -/

/-- An interrupt source with one of its status registers and that register's mask (R92). -/
structure EvPort where
  src : Nat
  ev : Nat
  en : Nat
  deriving DecidableEq, Repr

def evSCN : EvPort := ⟨0, R.SCN_EVENT, R.SCN_EVENT_EN⟩
def evOLC : EvPort := ⟨1, R.OLC_EVENT, R.OLC_EVENT_EN⟩
def evPIX : EvPort := ⟨2, R.PIX_EVENT, R.PIX_EVENT_EN⟩
def evREP : EvPort := ⟨3, R.REP_EVENT, R.REP_EVENT_EN⟩
def evLE (e : Nat) : EvPort := ⟨4 + e, R.LE_EVENT e, R.LE_EVENT_EN e⟩
def evLI (n : Nat) : EvPort := ⟨8 + n / 8, R.LI_EVENT n, R.LI_EVENT_EN n⟩
def evUI : EvPort := ⟨11, R.UI_EVENT, R.UI_EVENT_EN⟩
def evDO : EvPort := ⟨12, R.DO_EVENT, R.DO_EVENT_EN⟩
def evDALI (n : Nat) : EvPort := ⟨13 + n, R.DALI_EVENT n, R.DALI_EVENT_EN n⟩
def evSER (n : Nat) : EvPort := ⟨17 + n, R.SER_EVENT n, R.SER_EVENT_EN n⟩
def evCAN (n : Nat) : EvPort := ⟨19 + n, R.CAN_EVENT n, R.CAN_EVENT_EN n⟩
def evMTR : EvPort := ⟨23, R.MTR_EVENT, R.MTR_EVENT_EN⟩
def evMTC : EvPort := ⟨24, R.MTC_EVENT, R.MTC_EVENT_EN⟩
def evETH (n : Nat) : EvPort := ⟨25 + n, R.ETH_EVENT n, R.ETH_EVENT_EN n⟩
def evPTP : EvPort := ⟨28, R.PTP_EVENT, R.PTP_EVENT_EN⟩
def evDPX : EvPort := ⟨29, R.DPX_EVENT, R.DPX_EVENT_EN⟩
def evSAF : EvPort := ⟨30, R.SAF_EVENT, R.SAF_EVENT_EN⟩
def evASY : EvPort := ⟨31, R.ASY_EVENT, R.ASY_EVENT_EN⟩
def evBKD : EvPort := ⟨32, R.BKD_EVENT, R.BKD_EVENT_EN⟩
def evLOG : EvPort := ⟨33, R.LOG_EVENT, R.LOG_EVENT_EN⟩
def evPMON : EvPort := ⟨34, R.PMON_HALF, R.PMON_EVENT_EN⟩
def evCRU : EvPort := ⟨35, R.CRU_EVENT, R.CRU_EVENT_EN⟩
def evFWU : EvPort := ⟨36, R.FWU_EVENT, R.FWU_EVENT_EN⟩
def evMOD : EvPort := ⟨39, R.MOD_EVENT, R.MOD_EVENT_EN⟩

/-- The status registers of a source (R92, R460). Sources 37 and 38 have none. -/
def evPortsOf (src : Nat) : List EvPort :=
  match src with
  | 0 => [evSCN] | 1 => [evOLC] | 2 => [evPIX] | 3 => [evREP]
  | 4 => [evLE 0] | 5 => [evLE 1] | 6 => [evLE 2] | 7 => [evLE 3]
  | 8 => (List.range 8).map evLI
  | 9 => (List.range 8).map (fun n => evLI (8 + n))
  | 10 => (List.range 8).map (fun n => evLI (16 + n))
  | 11 => [evUI] | 12 => [evDO]
  | 13 => [evDALI 0] | 14 => [evDALI 1] | 15 => [evDALI 2] | 16 => [evDALI 3]
  | 17 => [evSER 0] | 18 => [evSER 1]
  | 19 => [evCAN 0] | 20 => [evCAN 1] | 21 => [evCAN 2] | 22 => [evCAN 3]
  | 23 => [evMTR] | 24 => [evMTC] | 25 => [evETH 0] | 26 => [evETH 1] | 27 => [evETH 2]
  | 28 => [evPTP] | 29 => [evDPX] | 30 => [evSAF] | 31 => [evASY] | 32 => [evBKD]
  | 33 => [evLOG] | 34 => [evPMON] | 35 => [evCRU] | 36 => [evFWU] | 39 => [evMOD]
  | _ => []

/-- The line of a source: high while a status register of its unit holds an unmasked event (R92). -/
def State.line (s : State) (src : Nat) : Bool :=
  (evPortsOf src).any (fun e => (s.rd e.ev &&& s.rd e.en) != 0#32)

/-- The trigger of kind `kind` with reference `ref` comes to the event tasks that name it (R137, R140). -/
def State.trigger (s : State) (kind ref : Nat) : State :=
  match s.scn.img with
  | none => s
  | some m =>
    let l := (m.tasks.filter (fun t => t.kind == 1 && t.trigKind == kind && t.trigRef == ref)).map (fun t => t.task)
    if l.isEmpty then s else { s with scn := { s.scn with trigs := s.scn.trigs ++ l } }

/-- A rising edge of source `src`: it reaches the interrupt routing block and the event tasks that the source
triggers (R92, R140). -/
def State.edge (s : State) (src : Nat) : State := ({ s with edges := s.edges ++ [src] }).trigger 4 src

/-- The rising edge of source `src`, where its line was `was` before. -/
def State.edgeFrom (s : State) (src : Nat) (was : Bool) : State :=
  if !was && s.line src then s.edge src else s

/-- An event: its bit in the status register becomes 1, and the source's line may rise. -/
def State.raise (s : State) (e : EvPort) (b : Nat) : State :=
  (s.setBit e.ev b true).edgeFrom e.src (s.line e.src)

/-- A pulse of a source that has no status register: 38 for gates and contexts (R96, R98). -/
def State.pulse (s : State) (src : Nat) : State := s.edge src

/-- Performance counter `c` advanced by `n` (R454): 48 bits, with PMON_HALF when bit 47 becomes 1. -/
def State.pmonAdd (s : State) (c n : Nat) : State :=
  let old := tget s.pmon 0 c
  let new := (old + n) % 2 ^ 48
  let s1 := { s with pmon := tset s.pmon 0 c new }
  if !natBit old 47 && natBit new 47 then s1.raise evPMON c else s1

/-- Counter `c` counts the occurrences of source `src` (R454): EN, MODE 0, not frozen. -/
def State.pmonTakes (s : State) (c src : Nat) : Bool :=
  s.g F.PMON_CTL_FREEZE == 0 && s.g (F.PMON_C_SEL_EN c) == 1 && s.g (F.PMON_C_SEL_MODE c) == 0
    && s.g (F.PMON_C_SEL_SOURCE c) == src

/-- `n` occurrences of the performance-monitor source `src` (R454, R455). -/
def State.count (s : State) (src : Nat) (n : Nat := 1) : State :=
  (List.range 16).foldl (fun t c => if t.pmonTakes c src then t.pmonAdd c n else t) s

/-- A fault reported to the safety manager, which will declare it (R445). -/
def State.report (s : State) (cls unit inst pc : Nat) : State :=
  { s with reports := s.reports ++ [⟨cls, unit, inst, pc⟩] }

/-- Something goes out of the module. -/
def State.emit (s : State) (o : Out) : State := { s with out := s.out ++ [o] }

/-- What the module sends to the partner over the towline, while a lane is up (R317, R318). -/
def State.tow (s : State) (m : TowMsg) : State :=
  if s.g F.DPX_STATUS_LANE0_UP == 1 || s.g F.DPX_STATUS_LANE1_UP == 1 then
    (s.emit (.towline m)).count 580
  else s

/-! ## Logbook posting -/

/-- MS of R400 for the present tick count. -/
def State.logMs (s : State) : Nat :=
  (s.log.epochMs + (s.clk.tick + 2 ^ 48 - s.log.epochTick % 2 ^ 48) % 2 ^ 48 * 1000 / 32768) % 2 ^ 48

/-- The record codes that the audit ring takes too (R404). -/
def auditCode (code : Nat) : Bool :=
  code == 0x1002 || code == 0x1003 || code == 0x7001 || code == 0x7002 || code == 0x7003
    || code / 4096 == 6

/-- A record written to MRAM: it is acknowledged, and a full ring overwrites its oldest (R404, R405). -/
def State.logAck (s : State) (r : StagedRec) : State :=
  let l := s.log
  let mainFull := Nat.ble 1048576 l.main.length
  let main := (if mainFull then l.main.drop 1 else l.main) ++ [(r.num, r.entry)]
  let auditFull := r.auditNum.isSome && Nat.ble 65536 l.audit.length
  let audit := match r.auditNum with
    | none => l.audit
    | some a => (if auditFull then l.audit.drop 1 else l.audit) ++ [(a, r.entry)]
  let s1 := ({ s with log := { l with
    main := main, audit := audit
    mainOver := l.mainOver || mainFull, auditOver := l.auditOver || auditFull } }).count 577
  let s2 := if mainFull && !l.mainOver then s1.raise evLOG 1 else s1
  if auditFull && !l.auditOver then s2.raise evLOG 2 else s2

/-- Every staged record written to MRAM (R51, R59). -/
def State.logFlush (s : State) : State :=
  s.log.stage.foldl (fun t r => t.logAck r) { s with log := { s.log with stage := [] } }

/-- A record posted (R398, R399, R404, R405): it takes its numbers and its time stamp and enters the stage;
while the stage is full the oldest staged record is written first; under HOLDUP_FAULT it goes straight to
MRAM (R54). -/
def State.post (s : State) (code unit inst : Nat) (p0 p1 p2 p3 : Nat := 0) : State :=
  let aud := auditCode code
  let e : LogRec := {
    code := code, unit := unit, inst := inst % 256, ms := s.logMs
    timeUnknown := !s.log.epochSet || s.g F.BKD_STATUS_TICK_CONTINUITY == 0
    butty := s.isButty
    holdup := s.g F.PCR_STATUS_PFAIL == 1
    auditCopy := aud
    p0 := p0 % 2 ^ 32, p1 := p1 % 2 ^ 32, p2 := p2 % 2 ^ 32, p3 := p3 % 2 ^ 32 }
  let l := s.log
  let r : StagedRec := ⟨l.mainNext, if aud then some l.auditNext else none, e⟩
  let s1 := ({ s with log := { l with
    mainNext := (l.mainNext + 1) % 2 ^ 64
    auditNext := if aud then (l.auditNext + 1) % 2 ^ 64 else l.auditNext
    posts := l.posts + 1 } }).count 576
  let rate := s.g F.LOG_CTL_FLOOD_RATE
  let s2 := if rate ≠ 0 ∧ rate < s1.log.posts ∧ !l.flooded then
      ({ s1 with log := { s1.log with flooded := true } }).raise evLOG 0 else s1
  if s2.g F.PCR_STATUS_HOLDUP_FAULT == 1 then (s2.logFlush).logAck r
  else match s2.log.stage with
    | o :: rest =>
      if 32 ≤ s2.log.stage.length then
        ({ s2 with log := { s2.log with stage := rest ++ [r] } }).logAck o
      else { s2 with log := { s2.log with stage := s2.log.stage ++ [r] } }
    | [] => { s2 with log := { s2.log with stage := [r] } }

/-! ## Reserved writes, lock gates -/

/-- A write counted under R5, R66, R70 or R462, at offset `a`, by port `p` (R467). -/
def State.rsvWrite (s : State) (p a : Nat) : State :=
  let s1 := s.inc (R.HP_RSV_WRITES p)
  let s2 := match blockAt a with
    | some b => s1.inc (if p = 0 then R.MOD_BLK_RSV_A b.desc else R.MOD_BLK_RSV_B b.desc)
    | none => s1
  s2.raise evMOD 2

/-- The state of gate `n` (R93). -/
def State.gate (s : State) (n : Nat) : Gate := tget s.gates {} n

/-- Gate `n` given the state `g`. -/
def State.setGate (s : State) (n : Nat) (g : Gate) : State := { s with gates := tset s.gates {} n g }

/-- Port `p` holds gate `n`. -/
def State.holds (s : State) (p n : Nat) : Bool := (s.gate n).holder == some p

/-- A write of a gated block by a port that does not hold gate `n` (R96): dropped, counted, recorded. -/
def State.dropWrite (s : State) (p n a : Nat) : State :=
  let s1 := ((s.inc (R.GATE_DROPS n)).inc (R.HP_DROP_WRITES p)).count (262 + 32 * p)
  let s2 := match blockAt a with
    | some b => s1.inc (R.MOD_BLK_DROPS b.desc)
    | none => s1
  let s3 := s2.post 0x1001 38 n n a p
  let g := s3.gate n
  let s4 := if g.audited then s3.setGate n { g with unreported := g.unreported + 1 }
    else (s3.setGate n { g with audited := true, unreported := 0 }).post 0x1002 38 n n (g.unreported + 1)
  s4.pulse 38

/-- A write of the gated register at offset `a` by port `p`: `f` where the port holds the block's gate,
else the write is dropped (R96, R464). -/
def State.gatedWrite (s : State) (p a : Nat) (f : State → State) : State :=
  match (blockAt a).bind (fun b => b.gate) with
  | none => f s
  | some n => if s.holds p n then f s else s.dropWrite p n a

/-- A gate released (R94): the lease ends; GEN stays. -/
def State.releaseGate (s : State) (n : Nat) : State :=
  s.setGate n { s.gate n with holder := none, leaseMs := 0, endNs := 0 }

/-- Whether offset `a` belongs to a block that responds (R62, R440): before DOMAIN_START has ended only MOD, HPA,
HPB, GATE, CTX and PCR do; in recovery only MOD, HPA, HPB, PCR and FWU. -/
def State.responds (s : State) (a : Nat) : Bool :=
  if s.fwu.recovery then
    (match blockAt a with | some b => Nat.blt b.desc 3 || b.desc == 4 || b.desc == 63 | none => true)
  else s.pwr.domainsUp || (match blockAt a with | some b => Nat.blt b.desc 5 | none => true)

/-- A command that is one register's write, at offset `a` by port `p`: R62, then the gate, then `f`. -/
def State.regWrite (s : State) (p a : Nat) (f : State → State) : State :=
  if s.responds a then s.gatedWrite p a f else s.rsvWrite p a

/-! ## Host ports -/

/-- The link of port `p` is in L0 or L1 (R99). -/
def State.linkUp (s : State) (p : Nat) : Bool := s.g (F.HP_ID_LINK_UP p) == 1

/-- A word of the MSI-X table (R68): word `i` of 512; the vector control word of an entry resets to
masked. -/
def PortS.msixWord (q : PortS) (i : Nat) : Word := tget q.msix (if i % 4 = 3 then 1#32 else 0#32) i

/-- A register of the configuration space of port `p` (R67). -/
def State.cfg (s : State) (p a : Nat) : Nat := (tget (s.port p).cfg (cfgReset p a) a).toNat

/-- MSI-X Enable of the function's Message Control (R91: the standard's masking). -/
def State.msixOn (s : State) (p : Nat) : Bool := natBit (s.cfg p 0x50) 31

/-- A vector is masked: by the Function Mask or by its table entry (R91). -/
def State.msixMasked (s : State) (p v : Nat) : Bool :=
  natBit (s.cfg p 0x50) 30 || natBit ((s.port p).msixWord (4 * v + 3)).toNat 0

/-- MSI-X vector `v` of port `p` raised (R91): sent, or pending while it is masked; none is sent or kept while MSI-X is not
enabled. -/
def State.msix (s : State) (p v : Nat) : State :=
  let q := s.port p
  if !s.linkUp p || !s.msixOn p then s
  else if s.msixMasked p v then
    s.setPort p { q with pba := setBits q.pba v 1 1 }
  else ({ s with out := s.out ++ [Out.msix p v] }).count (261 + 32 * p)

/-- A completion of an operation, with quality and flags zero unless given (R78). -/
def Op.comp (o : Op) (status result : Nat) (quality flags : Nat := 0) : Comp :=
  { cid := o.entry.cid, sq := o.sq, notify := false, status := status, head := o.head,
    quality := quality, flags := flags, coalesced := false, result := result % 2 ^ 64 }

/-- Whether two descriptions name the same operation. -/
def Op.is (o : Op) (r : OpRef) : Bool := o.sq == r.sq && o.entry.cid == r.cid && o.done.isNone

/-- FENCE of an entry (R77). -/
def entFence (e : SubEntry) : Bool := natBit e.flags 0

/-- SGL of an entry (R77). -/
def entSgl (e : SubEntry) : Bool := natBit e.flags 1

/-- The operation that may start next among `ops` (oldest first) and is named by `r` (R81): every earlier
entry of its SQ has started, and where it has FENCE every earlier entry of its SQ has completed. -/
def findStart (r : OpRef) : List Op → List Op → Option Op
  | _, [] => none
  | before, o :: rest =>
    if o.is r && !o.started then
      let mine := before.filter (fun b => b.sq == o.sq)
      if mine.all (fun b => b.started || b.done.isSome) && (!entFence o.entry || mine.isEmpty) then some o
      else none
    else findStart r (before ++ [o]) rest

/-- The first operation of a list that satisfies `f`, replaced by `g` of it. -/
def mapFirst {α : Type} (f : α → Bool) (g : α → α) : List α → List α
  | [] => []
  | a :: t => if f a then g a :: t else a :: mapFirst f g t

/-- The operation `r` marked as started. -/
def State.startOp (s : State) (r : OpRef) : State :=
  let q := s.port r.port
  s.setPort r.port { q with ops := mapFirst (fun o => o.is r && !o.started) (fun o => { o with started := true }) q.ops }

/-- The operation `r` finished, with the completion `c` to be written (R81). -/
def State.finish (s : State) (r : OpRef) (c : Comp) : State :=
  let q := s.port r.port
  s.setPort r.port { q with ops := mapFirst (fun o => o.is r && o.started) (fun o => { o with done := some c }) q.ops }

/-- The operation in flight named by `r`, started and not finished. -/
def State.opRunning (s : State) (r : OpRef) : Option Op :=
  (s.port r.port).ops.find? (fun o => o.is r && o.started)

/-- The operation finishes with a status and a result. Only SUCCESS and REFUSED carry a result that the manual states
(R82, R84); the RESULT of every other status is a free value. -/
def State.finishWith (s : State) (r : OpRef) (status result : Nat) (quality flags : Nat := 0) : State :=
  match s.opRunning r with
  | some o =>
    if status = 0 ∨ status = 0x0B then s.finish r (o.comp status result quality flags)
    else (s.finish r (o.comp status s.fresh quality flags)).freshen
  | none => s

/-- The operation succeeds and the manual states no RESULT: it is a free value. -/
def State.finishOpen (s : State) (r : OpRef) : State := s.freshen.finishWith r 0 s.fresh

/-- The executing unit takes up the operation `r` where it may start, its opcode is `code`, and `sel` holds
of its entry: `f` of the operation and the state in which it has started. Otherwise nothing changes: no such
operation waits. -/
def State.withOp (s : State) (r : OpRef) (code : Nat) (sel : SubEntry → Bool) (f : Op → State → State) : State :=
  if !(s.phase == 7) then
    match findStart r [] (s.port r.port).ops with
    | some o => if o.entry.opcode == code && sel o.entry then f o (s.startOp r) else s
    | none => s
  else s

/-- The scatter list is right (R88): 1 to 256 elements, each length a multiple of 8 and bytes 12 to 15 zero,
and the lengths add up to BUF_LEN at least. -/
def sglOk (e : SubEntry) (b : HostBuf) : Bool :=
  !entSgl e ||
    (Nat.ble 1 b.sgl.length && Nat.ble b.sgl.length 256
      && b.sgl.all (fun x => x.2.1 % 8 == 0 && x.2.2 == 0)
      && Nat.ble e.bufLen (b.sgl.foldl (fun n x => n + x.2.1) 0))

/-- The status of the transfers that read the buffer: 0, or INVALID_FIELD, or BUFFER_ERROR (R88). -/
def readStatus (e : SubEntry) (b : HostBuf) : Nat :=
  if !sglOk e b then 2 else if !b.ok || Nat.blt b.data.length e.bufLen then 9 else 0

/-- The status of the transfers that write the buffer. -/
def writeStatus (e : SubEntry) (b : HostBuf) : Nat :=
  if !sglOk e b then 2 else if !b.ok then 9 else 0

/-- The writes that put `data` into the elements of a scatter list in order (R88). -/
def sglWrites (p : Nat) : List (Nat × Nat × Nat) → List Byte → List Out
  | [], _ => []
  | (a, n, _) :: t, data =>
    if data.isEmpty then [] else .hostWrite p a (data.take n) :: sglWrites p t (data.drop n)

/-- `data` written into the buffer of an entry. -/
def State.hostPut (s : State) (p : Nat) (e : SubEntry) (b : HostBuf) (data : List Byte) : State :=
  if data.isEmpty then s
  else { s with out := s.out ++ (if entSgl e then sglWrites p b.sgl data else [.hostWrite p e.bufAddr data]) }

end Sys2Proof.Machine
end

