-- ==== Sys2Proof/Machine/Pix.lean ====
section
/-! DEFINITION. The building point image: slots, ownership, visibility, the write arbiter, slot integrity and
the notifications that a change of a slot produces (chapter 5, R85, R87, R98). -/

namespace Sys2Proof.Machine

/-! ## Slots -/

/-- The slot at a global index. -/
def State.slot (s : State) (i : Nat) : Slot := tget s.pix.slots {} i

/-- A slot put into the image as it is. -/
def State.putSlot (s : State) (i : Nat) (x : Slot) : State :=
  { s with pix := { s.pix with slots := tset s.pix.slots {} i x } }

/-- Flags of byte 19, bits 7:4 (R102). -/
def Slot.flags (x : Slot) : Nat := b2n x.forced + 2 * b2n x.retained + 4 * b2n x.alarm + 8 * b2n x.event

/-- The slot with the flags of a nibble. -/
def Slot.withFlags (x : Slot) (n : Nat) : Slot :=
  { x with forced := natBit n 0, retained := natBit n 1, alarm := natBit n 2, event := natBit n 3 }

/-- Bytes 0 to 27 of a slot (R102). -/
def Slot.body (x : Slot) : List Byte :=
  natLE 8 x.value.toNat ++ natLE 8 x.time ++
  [BitVec.ofNat 8 x.tag, BitVec.ofNat 8 (x.tag / 256 % 16 + 16 * x.typ), BitVec.ofNat 8 x.origin,
   BitVec.ofNat 8 (x.quality % 16 + 16 * x.flags)] ++ natLE 4 x.seq ++ natLE 4 x.binding

/-- The 32 bytes of a slot, with its stored CRC. -/
def Slot.bytes (x : Slot) : List Byte :=
  x.body ++ natLE 4 (match x.badCrc with | some c => c | none => crc32c x.body)

/-- The absent-slot pattern (R85). -/
def absentSlot : Slot := {}

/-- The slot is configured: its quality is not NOT_PRESENT. -/
def Slot.present (x : Slot) : Bool := x.quality != 0

/-- The number `v` is a VALUE in the encoding of a type (R103). -/
def encodedAs (typ v : Nat) : Bool :=
  match typ with
  | 0 => Nat.blt v 2
  | 1 => Nat.blt v (2 ^ 31) || (Nat.ble (2 ^ 64 - 2 ^ 31) v && Nat.blt v (2 ^ 64))
  | 3 => Nat.blt v (2 ^ 32)
  | 6 => Nat.blt v (2 ^ 32)
  | 2 => true
  | 4 => true
  | 5 => true
  | 7 => true
  | _ => false

/-! ## Blocks and owners -/

/-- The node number of the module (R133). -/
def State.node (s : State) : Nat := s.g F.REP_NODE_NODE

/-- The ownership entry of a block (R110). -/
def State.ownOf (s : State) (b : Nat) : Own := tget s.rep.own {} b

/-- The ownership entry of a block replaced. -/
def State.setOwn (s : State) (b : Nat) (o : Own) : State :=
  { s with rep := { s.rep with own := tset s.rep.own {} b o } }

/-- The module's node owns the block (R110). -/
def State.owns (s : State) (b : Nat) : Bool := s.node != 0 && (s.ownOf b).owner == s.node

/-- The slot lies in an owned block. -/
def State.ownsSlot (s : State) (i : Nat) : Bool := s.owns (i / 1024)

/-- The blocks of a node, ascending. -/
def State.blocksOf (s : State) (n : Nat) : List Nat :=
  (s.rep.own.filter (fun e => e.2.owner == n && n != 0)).map (fun e => e.1)

/-! ## Visibility (R98, R130) -/

/-- The tags bound to a tenant context in the partition in force (R97). -/
def State.ctxTags (s : State) (c : Nat) : List Nat :=
  tget (if s.sec.debug then s.sec.ctx1 else s.sec.ctx0) [] c

/-- A context is bound: context 0 always. -/
def State.ctxBound (s : State) (c : Nat) : Bool := c == 0 || !(s.ctxTags c).isEmpty

/-- A context sees a slot: context 0 every slot, a tenant those of its tags and of the public tag. -/
def State.sees (s : State) (c : Nat) (x : Slot) : Bool :=
  c == 0 || x.tag == 4095 || (s.ctxTags c).contains x.tag

/-- The slot as it is presented to a context: the absent-slot pattern where the context does not see it or it
is not present (R85). -/
def State.shown (s : State) (c i : Nat) : Slot :=
  let x := s.slot i
  if x.present && s.sees c x then x else absentSlot

/-- A denial of context `c` at point `i` (R98): counted, recorded at most once per second, source 38. -/
def State.deny1 (s : State) (c i : Nat) : State :=
  let d := tget s.deny {} c
  let n := (d.count + 1) % 2 ^ 32
  let put : Deny → State := fun e => { s with deny := tset s.deny {} c e }
  let s1 :=
    if d.reported then
      put ⟨n, true, some (d.first.getD i), d.unreported + 1⟩
    else (put ⟨n, true, none, 0⟩).post 0x1003 38 c c i 1
  s1.pulse 38

/-- An access of context `c` to point `i`: a denial where the slot is present and not visible. -/
def State.access (s : State) (c i : Nat) : State :=
  let x := s.slot i
  if x.present && !s.sees c x then s.deny1 c i else s

/-- The denials of an operation of port `p` on the points `l` counted for the performance monitors (R455). -/
def State.countDenied (s : State) (p c : Nat) (l : List Nat) : State :=
  s.count (263 + 32 * p) (l.filter (fun i => (s.slot i).present && !s.sees c (s.slot i))).length

/-! ## Notifications (R87) -/

/-- The notification entry of a point for a subscription. -/
def noteOf (b : Sub) (i : Nat) (x : Slot) (coalesced : Bool) : Comp :=
  { cid := b.cid, sq := b.sq, notify := true, status := 0x0E, head := i, quality := x.quality,
    flags := x.flags, coalesced := coalesced, result := x.value.toNat }

/-- A notification added: it replaces the unwritten one of the same subscription and point, which makes it
COALESCED. A point in two subscriptions gives one for each (log entry 214). -/
def addNote (b : Sub) (i : Nat) (x : Slot) (l : List Note) : List Note :=
  let same := fun (n : Note) => n.cq == b.cq && n.comp.cid == b.cid && n.comp.sq == b.sq && n.comp.head == i
  if l.any same then l.map (fun n => if same n then ⟨n.cq, noteOf b i x true⟩ else n)
  else l ++ [⟨b.cq, noteOf b i x false⟩]

/-- The notifications of a change of slot `i` on one port. -/
def State.notifyPort (s : State) (q : PortS) (i : Nat) : PortS :=
  let x := s.slot i
  let on := q.subs.filter (fun b => b.points.contains i && s.sees b.ctx x)
  { q with notes := on.foldl (fun l b => addNote b i x l) q.notes }

/-- A change of a slot's value, quality or flags notifies the subscriptions of both ports. -/
def State.notify (s : State) (i : Nat) : State :=
  { s with hpA := s.notifyPort s.hpA i, hpB := s.notifyPort s.hpB i }

/-- Two slots differ in what a subscription watches. -/
def Slot.seenChange (a b : Slot) : Bool :=
  a.value != b.value || a.quality != b.quality || a.flags != b.flags

/-! ## The write arbiter -/

/-- A slot written whole through the arbiter, with its CRC computed anew, which ends a reported CRC fault (R131), and the
notifications and task triggers it causes (R87, R140). -/
def State.store (s : State) (i : Nat) (x : Slot) : State :=
  let old := s.slot i
  let s0 := s.putSlot i { x with badCrc := none }
  let s1 := { s0 with pix := { s0.pix with faulted := s0.pix.faulted.filter (fun j => j != i) } }
  let s2 := if old.seenChange x then s1.notify i else s1
  if old.value != x.value || old.quality != x.quality then s2.trigger 1 i else s2

/-- A write to an owned slot with the stamp that it carries (R108): a change of VALUE, QUALITY, TAG, TYPE or the flags marks
the slot dirty. -/
def State.storeOwned (s : State) (i : Nat) (y : Slot) : State :=
  let old := s.slot i
  let s1 := (s.store i y).count 192
  let changed := old.seenChange y || old.tag != y.tag || old.typ != y.typ
  if changed && !s1.pix.dirty.contains i then { s1 with pix := { s1.pix with dirty := s1.pix.dirty ++ [i] } } else s1

/-- A write to an owned slot applied at PTP time `t` (R107): it takes the time, the node as ORIGIN and the next SEQUENCE. -/
def State.arbStamp (s : State) (t i : Nat) (x : Slot) : State :=
  s.storeOwned i { x with time := t % 2 ^ 64, origin := s.node, seq := ((s.slot i).seq + 1) % 2 ^ 32 }

/-- The symbol of a slot in the loaded image (R184). -/
def State.slotSymbol (s : State) (i : Nat) : Nat :=
  match s.scn.img with
  | some m => match m.slots.find? (fun c => c.index == i) with | some c => c.symbol | none => 0
  | none => 0

/-- The journal of an unbound slot with RETAINED set (R155): its value, quality, symbol and type. -/
def State.journalSlot (s : State) (i : Nat) : State :=
  let x := s.slot i
  if x.retained && x.binding == 0 then
    { s with scn := { s.scn with
        retSlots := tset s.scn.retSlots none i (some ⟨x.value, x.quality, s.slotSymbol i, x.typ⟩) } }
  else s

/-- A write to an owned slot, stamped and, where the slot is retained, journalled. -/
def State.arb (s : State) (t i : Nat) (x : Slot) : State := (s.arbStamp t i x).journalSlot i

/-- Slot `i` forwarded to the partner as it now stands, while the pair is SYNCED (R320). -/
def State.forward (s : State) (k : FwdKind) (i : Nat) : State :=
  let x := s.slot i
  if s.synced then s.tow (.forward ⟨k, i, x.value, x.time, x.seq, x.quality, x.alarm⟩) else s

/-- The quality of a present slot set to STALE with its time and sequence kept (R119, R120, R131). -/
def State.stale (s : State) (i : Nat) : State :=
  let x := s.slot i
  if x.present then s.store i { x with quality := 4 } else s

/-- The listed slots of a block. -/
def State.slotsOf (s : State) (b : Nat) : List Nat :=
  (s.pix.slots.filter (fun e => e.1 / 1024 == b)).map (fun e => e.1)

/-- A slot restamped (R109, R128): a new time, origin and sequence, and the quality `q`, which is FORCED at a forced slot. -/
def State.restamp (s : State) (t i : Nat) (q : Option Nat) : State :=
  let x := s.slot i
  if x.present then
    (s.arb t i (match q with | some n => { x with quality := if x.forced then 2 else n } | none => x)).forward .restamp i
  else s

/-! ## The force table (R192) -/

/-- The listed entries of the force table that hold a force. -/
def State.forces (s : State) : List (Nat × Force) :=
  s.olc.forces.filterMap (fun e => e.2.map (fun f => (e.1, f)))

/-- The entry that holds a force of `k`. -/
def State.forceOf (s : State) (k : ForceKey) : Option (Nat × Force) := s.forces.find? (fun e => e.2.key == k)

/-- The scan pair of a task in the loaded image. -/
def State.pairOf (s : State) (task : Nat) : Nat :=
  match s.scn.img with
  | some m => match m.tasks.find? (fun t => t.task == task) with | some t => t.pair | none => 0
  | none => 0

/-- Whether the table has room for a new force: 4,096 entries, and 64 variable forces per scan pair. -/
def State.forceRoom (s : State) (k : ForceKey) : Bool :=
  Nat.blt s.forces.length 4096 &&
    (match k with
     | .slot _ => true
     | .var t _ _ => Nat.blt (s.forces.filter (fun e => match e.2.key with
         | .var u _ _ => s.pairOf u == s.pairOf t
         | .slot _ => false)).length 64)

/-- The first free entry of the force table. -/
def State.freeForce (s : State) : Option Nat := (List.range 4096).find? (fun n => (tget s.olc.forces none n).isNone)

/-- The record of a force (R198, R403): 1 applied, 2 replaced, 3 released, 4 taken over. -/
def State.forceRecord (s : State) (f : Force) (what : Nat) : State :=
  match f.key with
  | .slot i => s.post 0x2004 1 0 i 0 f.value.toNat what
  | .var t h _ => s.post 0x2004 1 t t h f.value.toNat what

/-- A force set in the table: it replaces the entry of its key or takes a free one. A full table stays. -/
def State.setForce (s : State) (f : Force) : State :=
  match (match s.forceOf f.key with | some e => some e.1 | none => s.freeForce) with
  | some n => { s with olc := { s.olc with forces := tset s.olc.forces none n (some f) } }
  | none => s

/-- A force operation on slot `i` noted with the stamp that it gave the slot (R197, R320). -/
def State.stampForce (s : State) (i : Nat) : State :=
  let x := s.slot i
  { s with olc := { s.olc with stamps := tset s.olc.stamps none i (some (x.time, x.seq)) } }

/-- A force of the table released, with its record and event (R198, R209). The forced bytes stay. -/
def State.dropForce (s : State) (k : ForceKey) : State :=
  match s.forceOf k with
  | none => s
  | some (n, f) =>
    (({ s with olc := { s.olc with forces := tset s.olc.forces none n none } }).forceRecord f 3).raise evOLC 3

/-- The forces of a block's slots released (R129): the slots stand as they are. -/
def State.dropBlockForces (s : State) (b : Nat) : State :=
  (s.forces.filter (fun e => match e.2.key with | .slot i => i / 1024 == b | .var _ _ _ => false)).foldl
    (fun t e => t.dropForce e.2.key) s

/-- The forces that a gained block carries installed (R128): one record each. The slot has the quality that its former
owner stamped it with, FORCED, where this module had made it STALE. -/
def State.takeForces (s : State) (b : Nat) : State :=
  ((s.slotsOf b).filter (fun i => (s.slot i).forced)).foldl (fun t i =>
    let x := t.slot i
    let f : Force := ⟨.slot i, x.typ, x.value⟩
    let t1 := if x.quality = 2 then t else t.store i { x with quality := 2 }
    if (t1.forceOf f.key).isSome || t1.forceRoom f.key then
      (((t1.setForce f).stampForce i).forceRecord f 4).forward .takenOver i
    else t1.raise evOLC 5) s

/-! ## Resync needs (R118, R119) -/

/-- The replication engine runs: ENABLE, a node number from 1 to 192, the domains started (R133), in RESYNC and SERVICE and in
a HOLDUP that began in SERVICE (R51, R53). -/
def State.repOn (s : State) : Bool :=
  s.g F.REP_CTL_ENABLE == 1 && Nat.ble 1 s.node && Nat.ble s.node 192 && s.pwr.domainsUp && (s.phase == 4 || s.running)

/-- A request added to those not yet sent: one per target, the empty list for all its blocks. -/
def addWant (w : List (Nat × List Nat)) (target : Nat) (blocks : List Nat) : List (Nat × List Nat) :=
  if w.any (fun e => e.1 == target) then
    w.map (fun e => if e.1 == target then
      (target, if e.2.isEmpty || blocks.isEmpty then [] else e.2 ++ blocks.filter (fun b => !e.2.contains b))
      else e)
  else w ++ [(target, blocks)]

/-- A resync is needed of `blocks`, asked of node `target`; `all`: the request names all its blocks. -/
def State.needResync (s : State) (target : Nat) (all : Bool) (blocks : List Nat) : State :=
  if !s.repOn then s
  else
    let r := s.rep
    let rs := blocks.foldl (fun t b =>
      match tget t none b with
      | some _ => t
      | none => tset t none b (some ⟨[], false, 0, false⟩)) r.resync
    { s with rep := { r with resync := rs, wants := addWant r.wants target (if all then [] else blocks) } }

/-! ## Slot integrity (R131) -/

/-- A replica slot found corrupt (R131): it is STALE and its block is resynchronised. -/
def State.replicaFail (s : State) (i : Nat) : State :=
  ((s.store i { s.slot i with quality := 4 }).raise evPIX 0).needResync (s.ownOf (i / 1024)).owner false [i / 1024]

/-- The check of a slot's CRC at a read, at a transmission or in the scrub. -/
def State.checkSlot (s : State) (i : Nat) : State :=
  let x := s.slot i
  match x.badCrc with
  | none => s
  | some _ =>
    let s1 := ((s.inc R.PIX_CRC_ERR).p F.PIX_CRC_LAST_INDEX i).count 200
    if s.ownsSlot i then
      let s2 := s1.raise evPIX 1
      if s2.pix.faulted.contains i then s2
      else ({ s2 with pix := { s2.pix with faulted := s2.pix.faulted ++ [i] } }).report 8 2 0 i
    else
      s1.replicaFail i

/-- The checks of a range of slots. -/
def State.checkSlots (s : State) (l : List Nat) : State := l.foldl (fun t i => t.checkSlot i) s

/-! ## The commands of the PIX block -/

/-- PIX_SCRUB (R131): the scrub meets the slots whose stored CRC word has been upset, each with the CRC word
it now holds, and checks every slot. SCRUB_MS 0 stops the scrub (R132); an upset stands all the same. -/
def execPixScrub (upsets : List (Nat × Nat)) (s : State) : Host.Outcome State Fault Refusal :=
  let s1 := upsets.foldl (fun t (u : Nat × Nat) =>
    let x := t.slot (u.1 % 262144)
    let c := u.2 % 2 ^ 32
    t.putSlot (u.1 % 262144) { x with badCrc := if c = crc32c x.body then none else some c }) s
  if s1.g F.PIX_CTL_SCRUB_MS = 0 then .next s1
  else .next (s1.checkSlots ((s1.pix.slots.filter (fun e => e.2.badCrc.isSome)).map (fun e => e.1)))

end Sys2Proof.Machine
end

