-- ==== Sys2Proof/Machine/Field.lean ====
section
/-! DEFINITION. What the field units share: the numbers that slot values stand for, writes of bound input
slots, lost stations, and register writes with clamped fields. -/

namespace Sys2Proof.Machine

/-! ## Numbers -/

/-- The number that a VALUE of a type stands for (R103): 0 BOOL, 1 DINT, 2 LINT, 3 REAL, 4 LREAL, 5 TIME, 6 ENUM,
7 ENERGY. -/
def slotNum (typ v : Nat) : FVal :=
  match typ with
  | 3 => b32.dec (v % 2 ^ 32)
  | 4 => b64.dec (v % 2 ^ 64)
  | 0 => .fin false (v % 2) 0
  | 6 => .fin false (v % 2 ^ 32) 0
  | _ => let i := toSigned 64 v; .fin (decide (i < 0)) i.natAbs 0

/-- The VALUE of a type that stands for a number, rounded to nearest with ties to even (R173); none where the
type cannot hold it. -/
def numSlot (typ : Nat) (x : FVal) : Option Nat :=
  match typ, x with
  | 3, y => some (b32.enc 0 y)
  | 4, y => some (b64.enc 0 y)
  | 0, .fin _ m _ => some (if m = 0 then 0 else 1)
  | 1, .fin n m e =>
    let i := roundInt .nearest n m e
    if -(2 ^ 31 : Int) ≤ i ∧ i < 2 ^ 31 then some (ofSigned 64 i) else none
  | 6, .fin n m e =>
    let i := roundInt .nearest n m e
    if 0 ≤ i ∧ i < 2 ^ 32 then some i.toNat else none
  | 2, .fin n m e =>
    let i := roundInt .nearest n m e
    if -(2 ^ 63 : Int) ≤ i ∧ i < 2 ^ 63 then some (ofSigned 64 i) else none
  | 5, .fin n m e =>
    let i := roundInt .nearest n m e
    if -(2 ^ 63 : Int) ≤ i ∧ i < 2 ^ 63 then some (ofSigned 64 i) else none
  | _, _ => none

/-! ## Writes of bound input slots (R106, R194, R268, R320) -/

/-- BINDING of input channel `ch` of a unit (R106). -/
def fieldBinding (unit ch : Nat) : Nat := 2 * 2 ^ 28 + unit * 256 + ch

/-- The owned slots bound to input channel `ch` of a unit. -/
def State.fieldSlots (s : State) (unit ch : Nat) : List Nat :=
  (s.pix.slots.filter (fun e => e.2.binding == fieldBinding unit ch && e.2.present && s.ownsSlot e.1)).map
    (fun e => e.1)

/-- A channel's write of slot `i` (R194: dropped while the slot is forced; R320: forwarded). -/
def State.putField (s : State) (i : Nat) (f : Slot → Slot) : State :=
  let x := s.slot i
  if x.forced then s else (s.arb s.ptpNs i (f x)).forward .field i

/-- Every slot of a channel written. -/
def State.putChannel (s : State) (unit ch : Nat) (f : Slot → Slot) : State :=
  (s.fieldSlots unit ch).foldl (fun t i => t.putField i f) s

/-- A slot given a value and a quality; a slot of a type not in `types` gets BAD_CONFIG and value 0 (R264). -/
def putAs (types : List Nat) (v : Nat → Option Nat) (q : Nat) (x : Slot) : Slot :=
  if types.contains x.typ then
    match v x.typ with
    | some n => { x with value := BitVec.ofNat 64 n, quality := q }
    | none => { x with quality := 6 }
  else { x with value := 0#64, quality := 7 }

/-- A slot given a quality with its value kept. -/
def putQual (types : List Nat) (q : Nat) (x : Slot) : Slot :=
  if types.contains x.typ then { x with quality := q } else { x with value := 0#64, quality := 7 }

/-! ## Remote stations (R158, R159) -/

/-- The input channels that the settings have a station feed, as unit and channel (R277, R278, R351): the signals of CAN
filters with HAS_STATION, Modbus entries and OSDP readers. -/
def State.stationChannels (s : State) (k : Nat) : List (Nat × Nat) :=
  let can := fun (n : Nat) =>
    let flt := (tget s.can {} n).flt
    let rx := (tget s.set.can {} n).rx
    ((List.range rx.length).filter (fun c => rx[c]?.any (fun g =>
      let x := (tget flt {} g.ref).ctl
      natBit x 14 && bits x 8 6 == k))).map (fun c => (0x40 + n, c))
  let ser := fun (n : Nat) =>
    let mb := tget s.set.mb [] n
    let rd := tget s.set.osdp [] n
    ((List.range mb.length).filter (fun c => mb[c]?.any (fun e => e.station == k))).map (fun c => (0x30 + n, c))
      ++ ((List.range rd.length).filter (fun a => rd[a]?.any (fun e => e.station == k))).flatMap
        (fun a => [(0x30 + n, 2 * a), (0x30 + n, 2 * a + 1)])
  (List.range 4).flatMap can ++ (List.range 2).flatMap ser

/-- The input slots of a station (R158): those that input bindings with that STATION name (R183), and those bound to a channel
that it feeds. -/
def State.stationSlots (s : State) (k : Nat) : List Nat :=
  let bound := match s.scn.img with
    | some m => (m.binds.filter (fun b => b.dir == 0 && b.station == k)).map (fun b => b.index)
    | none => []
  (bound ++ (s.stationChannels k).flatMap (fun c => s.fieldSlots c.1 c.2)).eraseDups

/-- Station `k` declared lost: its input slots take BAD_COMMS with their values kept. -/
def State.stationLost (s : State) (k : Nat) : State :=
  if s.scn.lost.contains k then s
  else
    let s1 := { s with scn := { s.scn with lost := s.scn.lost ++ [k] } }
    let s2 := s1.raise evSCN 5
    let s3 := if s2.isMotor then
        ((s2.stationSlots k).filter (fun i => (s2.slot i).present && s2.ownsSlot i)).foldl
          (fun t i => t.putField i (fun x => { x with quality := 5 })) s2
      else s2
    if s3.synced && s3.isMotor then s3.tow (.forward ⟨.stationLost, k, 0#64, 0, 0, 0, false⟩) else s3

/-- Station `k` declared back. -/
def State.stationBack (s : State) (k : Nat) : State :=
  if !s.scn.lost.contains k then s
  else
    let s1 := { s with scn := { s.scn with lost := s.scn.lost.filter (fun j => j != k) } }
    let s2 := s1.raise evSCN 6
    if s2.synced && s2.isMotor then s2.tow (.forward ⟨.stationBack, k, 0#64, 0, 0, 0, false⟩) else s2

end Sys2Proof.Machine
end

