-- ==== Sys2Proof/Machine/Host.lean ====
section
/-! DEFINITION. The host ports: rings, doorbells, fetching, completions, notifications, interrupts and port
resets (chapter 4, R68 to R92). -/

namespace Sys2Proof.Machine

/-! ## Ring registers -/

/-- The bits of an SQ's CFG register other than ENABLE. -/
def sqCfgMask : Nat := 0x3fff031f
/-- The bits of a CQ's CFG register other than ENABLE. -/
def cqCfgMask : Nat := 0x7f80001f

def State.sqOn (s : State) (p n : Nat) : Bool := s.g (F.HP_SQ_CFG_ENABLE p n) == 1
def State.cqOn (s : State) (p n : Nat) : Bool := s.g (F.HP_CQ_CFG_ENABLE p n) == 1
def State.sqCq (s : State) (p n : Nat) : Nat := s.g (F.HP_SQ_CFG_CQID p n)
def State.sqCtx (s : State) (p n : Nat) : Nat := s.g (F.HP_SQ_CFG_CTX p n)
def State.sqSize (s : State) (p n : Nat) : Nat := 2 ^ s.g (F.HP_SQ_CFG_SIZE_LOG2 p n)
def State.cqSize (s : State) (p n : Nat) : Nat := 2 ^ s.g (F.HP_CQ_CFG_SIZE_LOG2 p n)
def State.sqHead (s : State) (p n : Nat) : Nat := s.g (F.HP_SQ_HEAD_INDEX p n)
def State.sqTail (s : State) (p n : Nat) : Nat := s.g (F.HP_SQ_TAIL_INDEX p n)
def State.cqHead (s : State) (p n : Nat) : Nat := s.g (F.HP_CQ_HEAD_INDEX p n)
def State.cqTail (s : State) (p n : Nat) : Nat := s.g (F.HP_CQ_TAIL_INDEX p n)

/-- Operations of SQ `n` of port `p` in flight. -/
def State.sqInFlight (s : State) (p n : Nat) : Nat :=
  ((s.port p).ops.filter (fun o => o.sq == n)).length

/-- The code of the first failing check of an SQ enable (R72), with `cfg` the value written; 0: none. -/
def State.sqCheck (s : State) (p n cfg : Nat) : Nat :=
  let size := bits cfg 0 5
  let cq := bits cfg 24 6
  let ctx := bits cfg 16 8
  if size < 4 ∨ 16 < size then 1
  else if bits (s.rn (R.HP_SQ_BASE_LO p n)) 0 12 ≠ 0 then 2
  else if !s.cqOn p cq then 3
  else if (List.range 64).any (fun m => s.sqOn p m && s.sqCq p m == cq && s.sqCtx p m != ctx) then 4
  else if !s.ctxBound ctx || (s.fwu.recovery && ctx != 0) then 5
  else 0

/-- The code of the first failing check of a CQ enable (R72); 0: none. -/
def State.cqCheck (s : State) (p n cfg : Nat) : Nat :=
  let size := bits cfg 0 5
  if size < 4 ∨ 16 < size then 1
  else if bits (s.rn (R.HP_CQ_BASE_LO p n)) 0 12 ≠ 0 then 2
  else 0

/-- An SQ disabled (R73): fetching stops, its subscriptions end without further notifications. -/
def State.sqOff (s : State) (p n : Nat) : State :=
  let s1 := s.p (F.HP_SQ_CFG_ENABLE p n) 0
  let q := s1.port p
  s1.setPort p { q with
    subs := q.subs.filter (fun b => b.sq != n)
    notes := q.notes.filter (fun m => m.comp.sq != n) }

/-- A CQ may not be disabled: an enabled SQ names it, or one that names it has operations in flight (R73). -/
def State.cqBusy (s : State) (p n : Nat) : Bool :=
  (List.range 64).any (fun m => s.sqCq p m == n && (s.sqOn p m || s.sqInFlight p m != 0))

/-- A write of an SQ's CFG register (R72, R73). -/
def State.sqCfgWrite (s : State) (p n v : Nat) : State :=
  let old := s.rn (R.HP_SQ_CFG p n)
  let on := natBit v 31
  if natBit old 31 then
    let s1 := if v &&& sqCfgMask ≠ old &&& sqCfgMask then s.p (F.HP_ERR_CFG_LOCKED p) 1 else s
    if on then s1 else s1.sqOff p n
  else
    let s1 := s.wn (R.HP_SQ_CFG p n) (v &&& sqCfgMask)
    if !on then s1
    else
      let code := s1.sqCheck p n v
      if code ≠ 0 then s1.p (F.HP_SQ_STATUS_CFG_ERR p n) code
      else ((((s1.p (F.HP_SQ_CFG_ENABLE p n) 1).p (F.HP_SQ_HEAD_INDEX p n) 0).p
        (F.HP_SQ_TAIL_INDEX p n) 0)).p (F.HP_SQ_STATUS_STOPPED p n) 0

/-- A write of a CQ's CFG register (R72, R73). -/
def State.cqCfgWrite (s : State) (p n v : Nat) : State :=
  let old := s.rn (R.HP_CQ_CFG p n)
  let on := natBit v 31
  if natBit old 31 then
    let s1 := if v &&& cqCfgMask ≠ old &&& cqCfgMask then s.p (F.HP_ERR_CFG_LOCKED p) 1 else s
    if on then s1
    else if s1.cqBusy p n then s1.p (F.HP_ERR_CQ_DISABLE_REFUSED p) 1
    else s1.p (F.HP_CQ_CFG_ENABLE p n) 0
  else
    let s1 := s.wn (R.HP_CQ_CFG p n) (v &&& cqCfgMask)
    if !on then s1
    else
      let code := s1.cqCheck p n v
      if code ≠ 0 then s1.p (F.HP_CQ_STATUS_CFG_ERR p n) code
      else
        let s2 := (((s1.p (F.HP_CQ_CFG_ENABLE p n) 1).p (F.HP_CQ_HEAD_INDEX p n) 0).p
          (F.HP_CQ_TAIL_INDEX p n) 0).p (F.HP_CQ_STATUS_STOPPED p n) 0
        let q := s2.port p
        s2.setPort p { q with cq := tset q.cq {} n {}, notes := q.notes.filter (fun m => m.cq != n) }

/-- A write of a ring's base register: only while ENABLE is 0 (R72). -/
def State.baseWrite (s : State) (p a v : Nat) (on : Bool) : State :=
  if on then (if s.rn a ≠ v then s.p (F.HP_ERR_CFG_LOCKED p) 1 else s) else s.wn a v

/-- RING_ENABLE (R72): port `p` writes the CFG register of its SQ or CQ `n` with ENABLE 1 and the other
fields of `v`. -/
def execRingEnable (p : Fin 2) (cq : Bool) (n : Fin 64) (v : Word) (s : State) :
    Host.Outcome State Fault Refusal :=
  let w := v.toNat % 2 ^ 31 + 2 ^ 31
  .next (if !s.linkUp p then s else if cq then s.cqCfgWrite p n w else s.sqCfgWrite p n w)

/-- SQ_DISABLE (R73): port `p` writes the CFG register of its SQ `n` with ENABLE 0 and the other fields of
`v`. -/
def execSqDisable (p : Fin 2) (n : Fin 64) (v : Word) (s : State) : Host.Outcome State Fault Refusal :=
  .next (if !s.linkUp p then s else s.sqCfgWrite p n (v.toNat % 2 ^ 31))

/-- CQ_DISABLE (R73): port `p` writes the CFG register of its CQ `n` with ENABLE 0 and the other fields of
`v`. -/
def execCqDisable (p : Fin 2) (n : Fin 64) (v : Word) (s : State) : Host.Outcome State Fault Refusal :=
  .next (if !s.linkUp p then s else s.cqCfgWrite p n (v.toNat % 2 ^ 31))

/-! ## Doorbells -/

/-- A doorbell write of a disabled ring (R75). -/
def State.doorbellOff (s : State) (p : Nat) : State :=
  (s.p (F.HP_ERR_DB_DISABLED p) 1).inc (R.HP_DB_IGNORED p)

/-- A write of an SQ tail doorbell (R75). -/
def State.tailDoorbell (s0 : State) (p n v : Nat) : State :=
  let s := s0.count (256 + 32 * p)
  if !s.sqOn p n then s.doorbellOff p
  else if s.sqSize p n ≤ v then s.p (F.HP_SQ_STATUS_DB_RANGE p n) 1
  else s.p (F.HP_SQ_TAIL_INDEX p n) v

/-- A write of a CQ head doorbell (R75). -/
def State.headDoorbell (s0 : State) (p n v : Nat) : State :=
  let s := s0.count (256 + 32 * p)
  if !s.cqOn p n then s.doorbellOff p
  else if s.cqSize p n ≤ v then s.p (F.HP_CQ_STATUS_DB_RANGE p n) 1
  else s.p (F.HP_CQ_HEAD_INDEX p n) v

/-- SQ_TAIL_DOORBELL (R75). -/
def execSqTailDoorbell (p : Fin 2) (n : Fin 64) (v : Word) (s : State) : Host.Outcome State Fault Refusal :=
  .next (if !s.linkUp p then s else s.tailDoorbell p n v.toNat)

/-- CQ_HEAD_DOORBELL (R75). -/
def execCqHeadDoorbell (p : Fin 2) (n : Fin 64) (v : Word) (s : State) : Host.Outcome State Fault Refusal :=
  .next (if !s.linkUp p then s else s.headDoorbell p n v.toNat)

/-! ## Fetching (R76, R83) -/

/-- SQ `n` has entries that its port may fetch (R73, R76, R89). -/
def State.sqReady (s : State) (p n : Nat) : Bool :=
  s.sqOn p n && s.sqHead p n != s.sqTail p n
    && s.g (F.HP_SQ_STATUS_STOPPED p n) == 0 && s.g (F.HP_CQ_STATUS_STOPPED p (s.sqCq p n)) == 0

/-- Port `p` may fetch: its link is up, it is not halted, fewer than 512 operations are in flight, the
domains have started, and the module has not stopped. -/
def State.mayFetch (s : State) (p : Nat) : Bool :=
  s.linkUp p && s.g (F.HP_CTL_HALT p) == 0 && Nat.blt (s.port p).ops.length 512
    && (s.pwr.domainsUp || s.fwu.recovery) && s.phase != 7 && (s.phase != 6 || s.pwr.inService)

/-- The SQ that port `p` serves next: the highest PRIO, and at equal PRIO the next after the ring served
last (R76). -/
def State.nextSq (s : State) (p : Nat) : Option Nat :=
  let pick := fun prio =>
    let last := tget (s.port p).served 63 prio
    ((List.range 64).map (fun k => (last + 1 + k) % 64)).find?
      (fun n => s.sqReady p n && s.g (F.HP_SQ_CFG_PRIO p n) == prio)
  [3, 2, 1, 0].findSome? pick

/-- A submission entry read from its 64 bytes (R77). -/
def subEntry (l : List Byte) : SubEntry where
  opcode := leNat (l.take 1)
  flags := leNat ((l.drop 1).take 1)
  cid := leNat ((l.drop 2).take 2)
  arg0 := leNat ((l.drop 4).take 4)
  arg1 := leNat ((l.drop 8).take 4)
  bufLen := leNat ((l.drop 12).take 4)
  bufAddr := leNat ((l.drop 16).take 8)
  arg2 := leNat ((l.drop 24).take 8)
  arg3 := (l.drop 32).take 32

/-- The byte at `k` of ARG3. -/
def entByte (e : SubEntry) (k : Nat) : Nat := (e.arg3.getD k 0#8).toNat

/-- ARG3 is zero. -/
def arg3Zero (e : SubEntry) : Bool := e.arg3.all (fun b => b == 0#8)

/-- No buffer: BUF_LEN, BUF_ADDR and SGL are zero (R84). -/
def noBuf (e : SubEntry) : Bool := e.bufLen == 0 && e.bufAddr == 0 && !entSgl e

/-- COUNT of a point range, 0 taken as 1. -/
def ptCount (e : SubEntry) : Nat := if bits e.arg1 0 11 = 0 then 1 else bits e.arg1 0 11

/-- The range of points lies in the image (R84). -/
def rangeOk (e : SubEntry) : Bool := Nat.ble (ptCount e) 1024 && Nat.ble (e.arg0 + ptCount e) 262144

/-- The tags of a CTX_BIND (R97): the first NTAGS of four, each from 1 to 4,094 and none twice, the rest of
ARG3 zero. -/
def bindTags (e : SubEntry) : List Nat :=
  (List.range (min e.arg1 4)).map (fun k => entByte e (2 * k) + 256 * entByte e (2 * k + 1))

def bindTagsOk (e : SubEntry) : Bool :=
  let l := bindTags e
  l.all (fun t => Nat.ble 1 t && Nat.ble t 4094) && decide l.Nodup
    && (e.arg3.drop (2 * l.length)).all (fun b => b == 0#8)

/-- The arguments of a KEY_OP (R411). -/
def keyArgsOk (e : SubEntry) : Bool :=
  let z2 := e.arg2 == 0
  let z3 := arg3Zero e
  match e.arg0 with
  | 1 => Nat.blt e.arg1 16 && noBuf e && (natBit e.arg1 3 || z2)
  | 2 => Nat.blt e.arg1 2 && e.bufLen == 48 && z3 && (e.arg1 == 1 || z2)
  | 3 => Nat.blt e.arg1 256 && noBuf e && z2 && z3
  | 4 => bits e.arg1 3 5 == 0 && Nat.blt e.arg1 65536 && e.bufLen == 48 && z3
  | 5 => bits e.arg1 0 8 == 0 && Nat.blt e.arg1 65536 && e.bufLen == 48 && z3
  | 6 => Nat.blt e.arg1 256 && noBuf e && z2 && z3
  | 7 => e.arg1 == 0 && Nat.ble 17 e.bufLen && Nat.ble e.bufLen 65552
  | 8 => e.arg1 == 0 && Nat.ble 17 e.bufLen && Nat.ble e.bufLen 65552
  | 9 => e.arg1 == 0 && noBuf e && z2 && z3
  | 10 => e.arg1 == 0 && (e.bufLen == 2592 || e.bufLen == 7347) && z2 && z3
  | 11 => e.arg1 == 0 && e.bufLen == 4755 && z2 && z3
  | 12 => e.arg1 == 0 && noBuf e && z2 && z3
  | 13 => e.arg1 == 0 && e.bufLen == 32 && z3
  | _ => false

/-- The argument ranges of an entry that do not depend on a slot (R83 step 2, R84). A reserved type code 8 to 15 passes here and
fails step 5 (log entry 212). -/
def argsOk (e : SubEntry) : Bool :=
  match e.opcode with
  | 0x00 => e.arg0 == 0 && e.arg1 == 0 && e.arg2 == 0 && arg3Zero e && noBuf e
  | 0x01 => Nat.blt e.arg1 2048 && rangeOk e && e.arg2 == 0 && arg3Zero e
      && (if e.bufLen = 0 then ptCount e == 1 && noBuf e else Nat.ble (32 * ptCount e) e.bufLen)
  | 0x02 => Nat.blt e.arg0 262144 && Nat.blt e.arg1 16 && arg3Zero e && noBuf e
  | 0x03 => bits e.arg1 11 20 == 0 && rangeOk e && e.arg2 == 0 && arg3Zero e && noBuf e
  | 0x04 => Nat.blt e.arg0 262144 && Nat.blt e.arg1 16 && arg3Zero e && noBuf e
  | 0x05 => Nat.blt e.arg0 262144 && e.arg1 == 0 && e.arg2 == 0 && arg3Zero e && noBuf e
  | 0x10 => e.arg0 == 0 && e.arg1 == 0 && e.arg2 == 0 && arg3Zero e
  | 0x11 => (e.arg0 == 1 || e.arg0 == 2) && e.arg1 == 0 && e.arg2 == 0 && arg3Zero e
  | 0x12 => (Nat.blt e.arg0 96 || e.arg0 == 255) && Nat.ble 1 e.arg1 && Nat.ble e.arg1 13
      && arg3Zero e && noBuf e && (e.arg1 == 8 || e.arg1 == 9 || e.arg1 == 13 || e.arg2 == 0)
  | 0x20 => Nat.blt e.arg0 2 && Nat.ble 1 e.arg2 && Nat.ble e.arg2 131072 && Nat.ble (32 * e.arg2) e.bufLen
      && arg3Zero e
  | 0x21 => e.arg0 == 0 && e.arg1 == 0 && e.arg2 == 0 && arg3Zero e
  | 0x28 => Nat.blt e.arg0 262144 && e.arg1 == 0 && e.arg2 == 0 && arg3Zero e && Nat.ble 128 e.bufLen
  | 0x30 => Nat.blt e.arg0 16 && Nat.ble 1 e.arg2 && Nat.ble e.arg2 16384 && Nat.ble (16 * e.arg2) e.bufLen
      && arg3Zero e
  | 0x40 => (Nat.ble e.arg0 2 || (Nat.ble 256 e.arg0 && Nat.blt e.arg0 767)) && Nat.blt e.arg1 2 && e.arg2 == 0
      && arg3Zero e
  | 0x41 => Nat.blt e.arg1 2 && arg3Zero e && noBuf e
  | 0x48 => keyArgsOk e
  | 0x49 => e.arg0 == 0 && e.arg1 == 0 && e.arg2 == 0 && Nat.ble 7491 e.bufLen
  | 0x50 => Nat.ble 1 e.arg0 && Nat.ble e.arg0 255 && Nat.ble e.arg1 4 && e.arg2 == 0 && bindTagsOk e
  | _ => false

/-- The opcodes of R84. -/
def opcodes : List Nat :=
  [0x00, 0x01, 0x02, 0x03, 0x04, 0x05, 0x10, 0x11, 0x12, 0x20, 0x21, 0x28, 0x30, 0x40, 0x41, 0x48, 0x49, 0x50]

/-- The opcodes that a tenant context may use (R84). -/
def tenantOpcodes : List Nat := [0x00, 0x01, 0x02, 0x03, 0x28, 0x49]

/-- The opcodes that recovery executes (R440). -/
def recoveryOpcodes : List Nat := [0x00, 0x40, 0x41, 0x49]

/-- Steps 1 to 3 of R83: the status of the first check that fails. FW_BLOCK has an ARG1 in recovery only (R428, R440). -/
def entryCheck (recovery : Bool) (ctx : Nat) (e : SubEntry) : Option Nat :=
  if !opcodes.contains e.opcode then some 1
  else if bits e.flags 4 4 ≠ 0 ∨ (natBit e.flags 3 ∧ e.opcode ≠ 0x11) ∨ e.bufAddr % 8 ≠ 0
      ∨ 4194304 < e.bufLen ∨ !argsOk e ∨ (e.opcode = 0x40 ∧ e.arg1 ≠ 0 ∧ !recovery) then some 2
  else if ctx ≠ 0 ∧ !tenantOpcodes.contains e.opcode ∨ recovery ∧ !recoveryOpcodes.contains e.opcode then some 3
  else none

/-- ENTRY_FETCH (R76, R77, R83, R89): port `p` fetches the next pending entry, whose 64 bytes are `entry`; none: the
fetch fails and stops the SQ. -/
def execEntryFetch (p : Fin 2) (entry : Option (List Byte)) (s : State) : Host.Outcome State Fault Refusal :=
  if !s.mayFetch p then .next s
  else match s.nextSq p with
    | none => .next s
    | some n =>
      let q := s.port p
      let s1 := s.setPort p { q with served := tset q.served 63 (s.g (F.HP_SQ_CFG_PRIO p n)) n }
      match entry with
      | none => .next ((s1.p (F.HP_SQ_STATUS_FETCH_ERR p n) 1).p (F.HP_SQ_STATUS_STOPPED p n) 1)
      | some l =>
        let e := subEntry l
        let head := (s.sqHead p n + 1) % s.sqSize p n
        let s2 := s1.p (F.HP_SQ_HEAD_INDEX p n) head
        let o : Op := ⟨s.free, n, e, s.sqCtx p n, head, false, none⟩
        let o1 := match entryCheck s2.fwu.recovery o.ctx e with
          | some st => { o with started := true, done := some (o.comp st s2.fresh) }
          | none => o
        let q2 := s2.port p
        .next ((s2.freshen.setPort p { q2 with ops := q2.ops ++ [o1] }).count (257 + 32 * p))

/-! ## Completions (R78 to R80, R89, R91) -/

/-- The 16 bytes of a completion entry (R78). -/
def compBytes (c : Comp) (phase : Bool) : List Byte :=
  natLE 2 c.cid ++ [BitVec.ofNat 8 (c.sq % 64 + 64 * b2n c.notify + 128 * b2n phase), BitVec.ofNat 8 c.status]
    ++ natLE 4 (c.head + c.quality * 2 ^ 20 + c.flags * 2 ^ 24 + b2n c.coalesced * 2 ^ 31)
    ++ natLE 8 c.result

/-- The CQ can take an entry: it is enabled, not stopped, and not full (R80, R89). -/
def State.cqRoom (s : State) (p n : Nat) : Bool :=
  s.cqOn p n && s.g (F.HP_CQ_STATUS_STOPPED p n) == 0 && (s.cqTail p n + 1) % s.cqSize p n != s.cqHead p n

/-- A raise of the CQ's vector (R91). -/
def State.cqRaise (s : State) (p n : Nat) : State :=
  let q := s.port p
  let x := tget q.cq {} n
  let s1 := s.setPort p { q with cq := tset q.cq {} n { x with counted := 0, timer := false } }
  if s.g (F.HP_CQ_CFG_IEN p n) = 1 then s1.msix p (s.g (F.HP_CQ_CFG_IV p n)) else s1

/-- A counting completion has been written (R91). -/
def State.cqCount (s : State) (p n : Nat) : State :=
  let count := s.g (F.HP_CQ_COAL_COUNT p n)
  let time := s.g (F.HP_CQ_COAL_TIME_US p n)
  if s.g (F.HP_CQ_CFG_IEN p n) = 0 then s
  else if count = 0 ∧ time = 0 then s.cqRaise p n
  else
    let q := s.port p
    let x := tget q.cq {} n
    if count ≠ 0 ∧ count ≤ x.counted + 1 then s.cqRaise p n
    else s.setPort p { q with cq := tset q.cq {} n { x with counted := x.counted + 1, timer := time != 0 } }

/-- An entry written into the CQ at its tail (R79, R80); `counts`: it counts toward the interrupt. -/
def State.cqPut (s : State) (p n : Nat) (c : Comp) (counts : Bool) : State :=
  let q := s.port p
  let x := tget q.cq {} n
  let t := s.cqTail p n
  let base := s.rn (R.HP_CQ_BASE_LO p n) + s.rn (R.HP_CQ_BASE_HI p n) * 2 ^ 32
  let t1 := (t + 1) % s.cqSize p n
  let s1 := s.setPort p { q with cq := tset q.cq {} n { x with phase := if t1 = 0 then !x.phase else x.phase } }
  let s2 := { s1 with out := s1.out ++ [Out.hostWrite p (base + 16 * t) (compBytes c x.phase)] }
  let s3 := s2.p (F.HP_CQ_TAIL_INDEX p n) t1
  if counts then s3.cqCount p n else s3

/-- The CQ stopped by an entry that cannot be written (R89). -/
def State.cqStop (s : State) (p n : Nat) : State :=
  (s.p (F.HP_CQ_STATUS_WRITE_ERR p n) 1).p (F.HP_CQ_STATUS_STOPPED p n) 1

/-- The operation whose completion CQ `n` writes next (R81): the first in order of fetch that has finished
and is the oldest of its SQ in flight; the CQ is the one that the SQ's CFG.CQID now names (log entry 216). -/
def State.nextDone (s : State) (p n : Nat) : Option Op :=
  let ops := (s.port p).ops
  ops.find? (fun o => s.sqCq p o.sq == n && o.done.isSome
    && (match ops.find? (fun b => b.sq == o.sq) with | some b => decide (b = o) | none => false))

/-- The waiting CANCELLED entry that CQ `n` writes next (R87). -/
def State.nextCancel (s : State) (p n : Nat) : Option (Nat × OpRef × Comp) :=
  (s.port p).cancels.find? (fun c => c.1 == n)

/-- COMPLETION_WRITE (R78 to R81, R89): CQ `n` of port `p` writes its next entry, a CANCELLED entry before
the completion of its cancel; `ok` false: the write fails and stops the CQ. -/
def execCompletionWrite (p : Fin 2) (n : Fin 64) (ok : Bool) (s : State) : Host.Outcome State Fault Refusal :=
  if !s.linkUp p || !s.cqRoom p n then .next s
  else match s.nextCancel p n with
    | some c =>
      if !ok then .next (s.cqStop p n)
      else
        let q := s.port p
        .next (((s.setPort p { q with cancels := q.cancels.erase c }).cqPut p n c.2.2 true).count (258 + 32 * p))
    | none =>
      match s.nextDone p n with
      | none => .next s
      | some o =>
        match o.done with
        | none => .next s
        | some c =>
          if !ok then .next (s.cqStop p n)
          else
            let q := s.port p
            .next (((s.setPort p { q with ops := q.ops.erase o }).cqPut p n c (!natBit o.entry.flags 2)).count (258 + 32 * p))

/-- SUBSCRIPTION_NOTIFY (R87): CQ `n` of port `p` writes its oldest waiting notification. -/
def execSubscriptionNotify (p : Fin 2) (n : Fin 64) (ok : Bool) (s : State) :
    Host.Outcome State Fault Refusal :=
  if !s.linkUp p || !s.cqRoom p n then .next s
  else
    let q := s.port p
    match q.notes.find? (fun m => m.cq == n.val) with
    | none => .next s
    | some m =>
      if !ok then .next (s.cqStop p n)
      else .next ((((s.setPort p { q with notes := q.notes.erase m }).cqPut p n m.comp true).count (259 + 32 * p)).count
        (260 + 32 * p) (b2n m.comp.coalesced))

/-- COALESCING_TIMER (R91): TIME_US has passed since the first counting completion of CQ `n`. -/
def execCoalescingTimer (p : Fin 2) (n : Fin 64) (s : State) : Host.Outcome State Fault Refusal :=
  .next (if (tget (s.port p).cq {} n).timer then s.cqRaise p n else s)

/-- IRQ_SOURCE_EDGE (R92): a rising edge of source `src` reaches the interrupt routing block and raises the
vectors of IRT_ROUTE. -/
def execIrqSourceEdge (src : Fin 64) (s : State) : Host.Outcome State Fault Refusal :=
  if !s.edges.contains src.val then .next s
  else
    let s1 := { s with edges := s.edges.erase src.val }
    let s2 := if s.g (F.IRT_ROUTE_ENA src) = 1 then s1.msix 0 (s.g (F.IRT_ROUTE_VECA src)) else s1
    .next (if s.g (F.IRT_ROUTE_ENB src) = 1 then s2.msix 1 (s.g (F.IRT_ROUTE_VECB src)) else s2)

/-! ## Port resets (R57, R58, R90, R99, R465) -/

/-- Every register of the block HPA or HPB but the live link fields of ID at its Reset column. -/
def State.hpReset (s : State) (p : Nat) : State :=
  let lo := R.HP_ID p
  { s with regs := s.regs.filter (fun e => Nat.blt e.1 (lo + 4) || Nat.ble (lo + 0x10000) e.1) }

/-- The gates that port `p` holds released (R94). -/
def State.releasePort (s : State) (p : Nat) : State :=
  (List.range 64).foldl (fun t n => if t.holds p n then t.releaseGate n else t) s

/-- The reset of one port's rings, MSI-X state, operations, subscriptions, gates and per-port registers. -/
def State.portReset (s : State) (p : Nat) : State := ((s.hpReset p).setPort p {}).releasePort p

/-- The link of a port down (R62). -/
def State.linkDown (s : State) (p : Nat) : State :=
  ((s.p (F.HP_ID_LINK_UP p) 0).p (F.HP_ID_WIDTH p) 0).p (F.HP_ID_SPEED p) 0

/-- The PCIe PLL of port `p` follows its reference clock, in every phase (R47). -/
def State.refClock (s : State) (p : Nat) (on : Bool) : State :=
  (s.setBit R.PCR_PLL_STATUS (6 + p) on).setBit R.PCR_PLL_STATUS (22 + p) on

/-- The reference clock that a port reset leaves (R47): PERST_N and a link-down state may come with its loss. -/
def State.resetClock (s : State) (p : Nat) : PortResetKind → State
  | .perst clock => s.refClock p clock
  | .hot => s
  | .linkDown clock => s.refClock p clock

/-- PORT_RESET (R57, R62, R90): PERST_N, a hot reset or a link-down state of port `p`. -/
def execPortReset (p : Fin 2) (kind : PortResetKind) (s : State) : Host.Outcome State Fault Refusal :=
  .next (if s.pwr.railsOff then s else ((s.portReset p).linkDown p).resetClock p kind)

/-- FUNCTION_LEVEL_RESET (R57): as a port reset, with the link kept up. -/
def execFunctionLevelReset (p : Fin 2) (s : State) : Host.Outcome State Fault Refusal :=
  .next (if s.linkUp p then s.portReset p else s)

/-- HOST_LINK_UP (R62, R99, R47): the link of port `p` reaches L0 at a width of ×2 or ×1 and a speed code
from 1 to 4; the port's PCIe PLL is locked. -/
def execHostLinkUp (p : Fin 2) (wide : Bool) (speed : Fin 4) (s : State) : Host.Outcome State Fault Refusal :=
  if s.pwr.railsOff then .next s
  else
    let s1 := ((s.p (F.HP_ID_LINK_UP p) 1).p (F.HP_ID_WIDTH p) (if wide then 2 else 1)).p
      (F.HP_ID_SPEED p) (speed.val + 1)
    .next (s1.refClock p true)

end Sys2Proof.Machine
end

