-- ==== Sys2Proof/Machine/Gates.lean ====
section
/-! DEFINITION. The lock gates and the denials of tenant contexts (R93 to R100). -/

namespace Sys2Proof.Machine

/-- The lease left of gate `n` in whole ms, rounded up (R100). -/
def State.gateRemain (s : State) (n : Nat) : Nat :=
  let g := s.gate n
  if g.holder.isSome then min 1023 ((g.endNs - s.clk.upNs + 999999) / 1000000) else 0

/-- HOLDER of GATEnn_TAKE and GATEnn_STATUS: 0 none, 1 port A, 2 port B. -/
def State.gateHolder (s : State) (n : Nat) : Nat :=
  match (s.gate n).holder with
  | none => 0
  | some p => p + 1

/-- The value of GATEnn_STATUS; with `granted`, of GATEnn_TAKE (R93, R100). -/
def State.gateWord (s : State) (n : Nat) (granted : Bool) : Nat :=
  b2n granted * 2 ^ 31 + s.gateHolder n * 2 ^ 29 + (s.gate n).gen * 2 ^ 12 + s.gateRemain n

/-- The lease that a TAKE read of port `p` grants (R99): 0 is taken as 1, above 1,000 as 1,000. -/
def State.takeLease (s : State) (p : Nat) : Nat := clampN 1 1000 (s.g (F.HP_CTL_GATE_LEASE_MS p))

/-- A lease of `ms` for port `p` from now on. -/
def State.lease (s : State) (n p ms gen : Nat) : State :=
  s.setGate n { s.gate n with holder := some p, leaseMs := ms, endNs := s.clk.upNs + ms * 1000000, gen := gen }

/-- The effect of a TAKE read (R93): a free gate is granted. -/
def State.take (s : State) (p n : Nat) : State :=
  if (s.gate n).holder.isNone then s.lease n p (s.takeLease p) (((s.gate n).gen + 1) % 256) else s

/-- A write of GATEnn_LEASE by port `p` (R94); in recovery the block does not respond (R440). -/
def State.leaseWrite (s : State) (p n v : Nat) : State :=
  if s.fwu.recovery then s.rsvWrite p (R.GATE_LEASE n)
  else if s.holds p n then
    if v % 1024 = 0 then s.releaseGate n else s.lease n p (min (v % 1024) 1000) (s.gate n).gen
  else s.inc (R.GATE_DROPS n)

/-- Data returned by a read of port `p`. -/
def State.answer (s : State) (p a v : Nat) : State := { s with out := s.out ++ [.readData p a v] }

/-- GATE_TAKE (R93, R95): port `p` reads GATEnn_TAKE. -/
def execGateTake (p : Fin 2) (n : Fin 64) (s : State) : Host.Outcome State Fault Refusal :=
  if !s.linkUp p then .next s
  else if s.fwu.recovery then .next (s.answer p (R.GATE_TAKE n) 0)
  else
    let s1 := s.take p n
    .next (s1.answer p (R.GATE_TAKE n) (s1.gateWord n (s1.holds p n)))

/-- GATE_RENEW (R94): port `p` writes a LEASE_MS of 1 to 1,000 to GATEnn_LEASE; a value above 1,000 is
taken as 1,000. -/
def execGateRenew (p : Fin 2) (n : Fin 64) (ms : Fin 1024) (s : State) : Host.Outcome State Fault Refusal :=
  .next (if s.linkUp p then s.leaseWrite p n ms else s)

/-- GATE_RELEASE (R94): port `p` writes 0 to GATEnn_LEASE. -/
def execGateRelease (p : Fin 2) (n : Fin 64) (s : State) : Host.Outcome State Fault Refusal :=
  .next (if s.linkUp p then s.leaseWrite p n 0 else s)

/-- LEASE_EXPIRE (R94): the lease of gate `n` ends; the clock is then at its end. -/
def execLeaseExpire (n : Fin 64) (s : State) : Host.Outcome State Fault Refusal :=
  .next (if (s.gate n).holder.isSome then (s.advanceToUp (s.gate n).endNs).releaseGate n else s)

/-- GATE_AUDIT_SECOND (R96): the second after an audit record of gate `n` ends. -/
def execGateAuditSecond (n : Fin 64) (s : State) : Host.Outcome State Fault Refusal :=
  let g := s.gate n
  if !g.audited then .next s
  else if g.unreported = 0 then .next (s.setGate n { g with audited := false })
  else .next ((s.setGate n { g with unreported := 0 }).post 0x1002 38 n n g.unreported)

/-- CTX_DENY_SECOND (R98): the second after a record of context `c` ends. -/
def execCtxDenySecond (c : Fin 256) (s : State) : Host.Outcome State Fault Refusal :=
  let d := tget s.deny {} c
  if !d.reported then .next s
  else
    match d.first with
    | none => .next { s with deny := tset s.deny {} c { d with reported := false } }
    | some f =>
      .next (({ s with deny := tset s.deny {} c { d with first := none, unreported := 0 } }).post
        0x1003 38 c c f d.unreported)

end Sys2Proof.Machine
end

