-- ==== Sys2Proof/Machine/Island.lean ====
section
/-! DEFINITION. The loop islands (chapter 10, R243 to R263). -/

namespace Sys2Proof.Machine

/-! ## State of an island -/

def State.isl (s : State) (n : Nat) : IslS := tget s.fio.isl {} n

def State.setIsl (s : State) (n : Nat) (x : IslS) : State :=
  { s with fio := { s.fio with isl := tset s.fio.isl {} n x } }

/-- The low and the high alarm level in codes (R250). -/
def almLow : Nat := 6800
def almHigh : Nat := 42100

/-- The strap that sets the direction of island `n`: 0 TIED_LOW, 1 TIED_HIGH, 2 OPEN, 3 FAULT (R38, R250). -/
def State.almStrap (s : State) (n : Nat) : Nat :=
  if n < 8 then s.g F.MOD_STRAP_ALM0 else if n < 16 then s.g F.MOD_STRAP_ALM1 else s.g F.MOD_STRAP_ALM2

/-- The alarm direction in force (R250): true is high. -/
def State.almDir (s : State) (n : Nat) : Bool :=
  match s.almStrap n with
  | 0 => false
  | 1 => true
  | _ => s.g (F.LI_CFG_ALM_HI n) == 1

def State.almCode (s : State) (n : Nat) : Nat := if s.almDir n then almHigh else almLow

/-- The configuration that an island works from: LInn_CFG, and while its data link is silent what LInn_CFG held when the
link was lost (DEDUCED, log entry 199: R259 has a silent link's island go on without its module). -/
def State.islCfg (s : State) (n : Nat) : Nat := if (s.isl n).link then s.rn (R.LI_CFG n) else (s.isl n).cfg

/-- MODE of an island with 3 taken as OFF (R244). -/
def State.islMode (s : State) (n : Nat) : Nat := if s.islCfg n % 4 = 3 then 0 else s.islCfg n % 4

/-- The current of a ramp now, in codes (R259: updated every 1 µs). -/
def State.rampNow (s : State) (r : Ramp) : Nat :=
  let t := (s.clk.upNs - r.startNs) / 1000 * 1000
  if r.durNs ≤ t then r.dst
  else ((r.src : Int) + ((r.dst : Int) - r.src) * t / r.durNs).toNat

/-- A ramp runs. -/
def State.ramping (s : State) (n : Nat) : Bool :=
  match (s.isl n).ramp with
  | some r => Nat.blt s.clk.upNs (r.startNs + r.durNs)
  | none => false

/-- Rows 4 to 8 of R249: the target of a driving island; in a retry window row 8 (R252). An island that is AUTONOMOUS or
has no data link keeps its code (R259). -/
def State.islDriven (s : State) (n : Nat) : Nat :=
  let x := s.isl n
  let bit := fun f => s.g f == 1
  if !x.link || x.st == .autonomous then x.held
  else if bit (F.LI_STATUS_RETRYING n) then x.code.getD 0
  else if bit (F.LI_STATUS_FALLBACK n) then almLow
  else if (bit (F.LI_STATUS_SENSE_FAULT n) || bit (F.LI_STATUS_STAGE_FAULT n)) && !s.dpx.fitted then s.almCode n
  else if bit (F.LI_STATUS_BIND_ERR n) then s.almCode n
  else if (x.qual == 6 || x.qual == 7 || x.qual == 8) && bit (F.LI_CFG_QUAL_ALARM n) then s.almCode n
  else x.code.getD 0

/-- The target of R249. -/
def State.islTarget (s : State) (n : Nat) : Nat :=
  let x := s.isl n
  if s.islMode n = 0 ∨ x.st = .off then 0
  else match x.ramp with
    | some r => if s.ramping n then s.rampNow r else if x.st = .standby then 0 else s.islDriven n
    | none => if x.st = .standby then 0 else s.islDriven n

/-- The code that the regulator drives (R251, R254): the target less the derating; where the loop is short of compliance or
open, no more than the current it has been found to take. -/
def State.islApplied (s : State) (n : Nat) : Nat :=
  let t := s.islTarget n - (s.isl n).derate
  match (s.isl n).short with
  | some k => min t k
  | none => t

/-- The sequencer clock of R245 at a regulated current of `i` codes: 0 32 kHz to 3 1 MHz. -/
def State.islClockAt (s : State) (n i : Nat) : Nat :=
  if s.islMode n = 0 then 0
  else if s.islMode n = 1 then 3
  else if i < 1000 then 0 else if i < 3000 then 1 else if i < 6400 then 2 else 3

/-- The sequencer clock (R245). -/
def State.islClock (s : State) (n : Nat) : Nat := s.islClockAt n (s.islApplied n)

/-- The converter's voltage in units of 10 mV at the measured terminal voltage `v`, a 16-bit pattern (R246, R253 to R255): 0 in
SINK mode and in OFF, 24.0 V under PROT 0 and while OPEN is set, else the terminal voltage and HEADROOM within 4.0 V to
24.0 V, in STANDBY too. -/
def State.islSupply (s : State) (n v : Nat) : Nat :=
  if s.islMode n ≠ 1 ∨ (s.isl n).st = .off then 0
  else if s.g (F.LI_CFG_PROT n) = 0 ∨ s.g (F.LI_STATUS_OPEN n) = 1 then 2400
  else (max 400 (min 2400 (toSigned 16 v + 10 * (s.g (F.LI_CFG_HEADROOM n) : Int)))).toNat

/-- OWN as the island acts on it: the position-B rule of R258. -/
def State.actsOwn (s : State) (own peer : Bool) : Bool :=
  own && !(peer && s.g F.MOD_STRAP_DPX_POS == 1)

/-- The code of STATE (R263). -/
def islStCode : IslSt → Nat
  | .off => 0 | .driving => 1 | .standby => 2 | .yieldIn => 3 | .yieldOut => 4 | .autonomous => 5

/-- STATE, CLOCK, PEER and OWN of LInn_STATUS as the island reports them (R263). -/
def State.liReport (s : State) (n : Nat) : Nat :=
  let x := s.isl n
  islStCode x.st * 2 ^ 29 + s.islClock n * 2 ^ 26 + b2n x.peer * 2 + b2n x.own

/-- The value of LInn_STATUS: the flags held, and what the island's state shows, as last reported while its link is silent
(R263). -/
def State.liStatus (s : State) (n : Nat) : Nat :=
  let x := s.isl n
  (if x.link then s.liReport n else x.shown) + b2n (s.almDir n) * 2 ^ 13 + b2n x.link * 2 ^ 12
    + bits (s.rn (R.LI_STATUS n)) 2 10 * 4

/-- What the island goes on with when its link falls silent (R259, R263). -/
def State.islCut (s : State) (n : Nat) : IslS :=
  let x := s.isl n
  if x.link then { x with link := false, cfg := s.rn (R.LI_CFG n), held := s.islDriven n, shown := s.liReport n } else x

/-! ## Conversion and commits (R247, R259) -/

/-- The conversion of R247 in binary64: the code and whether RANGE is set. -/
def liConvert (lo hi v alarm : Nat) : Nat × Bool :=
  if b64.isNan v then (alarm, true)
  else
    let x := b64.div (b64.sub v (widen lo)) (b64.sub (widen hi) (widen lo))
    let i := b64.add (b64.ofInt 4) (b64.mul (b64.ofInt 16) x)
    let lim := fun k => b64.ofRat k 10
    let low := b64.lt i (lim 38)
    let i1 := if low then lim 38 else i
    let high := b64.lt (lim 205) i1
    let i2 := if high then lim 205 else i1
    match b64.toInt .nearest (b64.div i2 (b64.ofRat 5 10000)) with
    | some k => (k.toNat, low || high)
    | none => (alarm, true)

/-- The binding of an island cannot be served (R247). -/
def State.liBindErr (s : State) (n typ : Nat) : Bool :=
  let lo := s.rn (R.LI_SCALE_LO n)
  let hi := s.rn (R.LI_SCALE_HI n)
  (typ != 3 && typ != 4) || b32.eq lo hi || !b32.finite lo || !b32.finite hi

/-- A ramp to `dst` over `dur` ns that begins at the island's present current. -/
def State.rampFrom (s : State) (n src dst dur : Nat) : State :=
  s.setIsl n { s.isl n with ramp := some ⟨src, dst, s.clk.upNs, dur⟩ }

/-- A commit that writes the island's bound slot (R243, R247, R249, R259): taken through the data link while it is
up and the island is not AUTONOMOUS. -/
def State.islandCommit (s : State) (n typ v qual : Nat) : State :=
  let x := s.isl n
  if s.islMode n = 0 ∨ x.st = .off ∨ x.st = .autonomous ∨ !x.link then s
  else
    let err := s.liBindErr n typ
    let v64 := if typ = 3 then widen (v % 2 ^ 32) else v % 2 ^ 64
    let c := if err then (x.code.getD 0, s.g (F.LI_STATUS_RANGE n) == 1)
      else liConvert (s.rn (R.LI_SCALE_LO n)) (s.rn (R.LI_SCALE_HI n)) v64 (s.almCode n)
    let s1 := ((s.p (F.LI_STATUS_BIND_ERR n) (b2n err)).p (F.LI_STATUS_RANGE n) (b2n c.2)).count (448 + n)
    let first := x.code.isNone
    let s2 := s1.setIsl n { x with code := some c.1, qual := qual }
    let left := match x.ramp with | some r => r.startNs + r.durNs - s.clk.upNs | none => 0
    if x.st = .yieldIn ∨ (x.st = .driving ∧ s.ramping n) then
      s2.rampFrom n (s.islTarget n) (s2.islDriven n) left
    else if x.st = .driving ∧ first then s2.rampFrom n 0 (s2.islDriven n) 1000000
    else s2

/-! ## Configuration (R262) -/

/-- An island that has left the loop (R259). -/
def IslS.gone (x : IslS) : IslS :=
  { x with st := .off, code := none, ramp := none, derate := 0, hot := false, short := none, recheck := false }

/-- The island leaves the loop: the conditions of a driven current end, and their flags with them while the link is up. -/
def State.islOff (s : State) (n : Nat) : State :=
  let x := s.isl n
  let s1 := s.setIsl n x.gone
  if x.link then s1.wn (R.LI_STATUS n) (s1.rn (R.LI_STATUS n) &&& (2 ^ 32 - 1 - 0x17C)) else s1

/-- MODE set to SOURCE or SINK (R259, first two rows). -/
def State.islOn (s : State) (n : Nat) : State :=
  let x := s.isl n
  s.setIsl n { x with st := if s.actsOwn x.own x.peer then .driving else .standby, code := none, ramp := none }

/-- MODE or PROT of an island goes from `old` to `v`, two values of LInn_CFG (R262). -/
def State.islTake (s : State) (n old v : Nat) : State :=
  let off := fun m => m % 4 == 0 || m % 4 == 3
  if off old && !off v then s.islOn n
  else if !off old && off v then s.islOff n
  else if bits old 0 3 != bits v 0 3 && !off v then (s.islOff n).islOn n
  else s

/-- A write of LInn_CFG (R262, R263); it reaches the island while the data link is up. -/
def State.liCfgWrite (s : State) (n v : Nat) : State :=
  let old := s.rn (R.LI_CFG n)
  let off := fun m => m % 4 == 0 || m % 4 == 3
  let change := bits v 0 3 != bits old 0 3
  let ok := !change || off old || off v
  let low := if ok then bits v 0 3 else bits old 0 3
  let w := low + bits v 3 3 * 8 + clampN 10 30 (bits v 8 5) * 256
  let s1 := s.wn (R.LI_CFG n) w
  let s2 := if ok then s1 else s1.raise (evLI n) 8
  let s3 := if natBit w 5 then s2 else s2.p (F.LI_STATUS_FALLBACK n) 0
  if ok && (s.isl n).link then s3.islTake n old v else s3

/-- ISLAND_CFG_WRITE (R262): port `p` writes LInn_CFG. -/
def execIslandCfgWrite (p : Fin 2) (n : Fin 24) (v : Word) (s : State) : Host.Outcome State Fault Refusal :=
  .next (if s.linkUp p then s.regWrite p (R.LI_CFG n) (fun t => t.liCfgWrite n v.toNat) else s)

/-! ## Conditions (R251 to R254) -/

/-- The measurements of an island: over its link they reach the registers of R263, and a loop that is short takes the
current measured. -/
def State.measure (s : State) (n : Nat) (m : IslMeas) : State :=
  let x := s.isl n
  let s1 := s.setIsl n { x with
    short := x.short.map (fun _ => m.primary % 2 ^ 16), measNs := if x.link then some s.clk.upNs else x.measNs }
  if x.link then
    ((s1.wn (R.LI_MEAS n) (m.primary % 2 ^ 16 + m.shadow % 2 ^ 16 * 2 ^ 16)).wn (R.LI_VOLT n)
      (m.terminal % 2 ^ 16 + s.islSupply n (m.terminal % 2 ^ 16) * 2 ^ 16)).wn (R.LI_TEMP n) (ofSigned 16 m.stage)
  else s1

/-- The island carries a regulated current. -/
def State.islCarries (s : State) (n : Nat) : Bool :=
  s.islMode n != 0 && (s.isl n).st != .off && (s.isl n).st != .standby

/-- A flag of LInn_STATUS set at the rising edge of its condition, with its event. -/
def State.liFlag (s : State) (n : Nat) (f : Fld) (ev : Nat) : State :=
  if s.g f = 1 then s else (s.p f 1).raise (evLI n) ev

/-- The limit that a loop which is short of current puts on it. -/
def State.setShort (s : State) (n : Nat) (k : Option Nat) : State := s.setIsl n { s.isl n with short := k }

/-- HEADROOM (R245, R251): the warning is looked for from 500 kHz up; nothing is reported while the link is silent. -/
def execHeadroom (n : Fin 24) (low : Bool) (m : IslMeas) (s : State) : Host.Outcome State Fault Refusal :=
  let s1 := s.measure n m
  .next (if !(s.isl n).link then s1
    else if !low then s1.p (F.LI_STATUS_HEADROOM n) 0
    else if s.islCarries n && Nat.ble 2 (s.islClock n) && s1.g (F.LI_STATUS_OPEN n) == 0 then
      s1.liFlag n (F.LI_STATUS_HEADROOM n) 9
    else s1)

/-- Compliance fallback entered (R252). -/
def State.fallback (s : State) (n : Nat) : State :=
  if (s.isl n).link ∧ s.g (F.LI_STATUS_COMPLY n) = 1 ∧ s.g (F.LI_CFG_COMPLY_LOW n) = 1 ∧ s.g (F.LI_STATUS_OPEN n) = 0 then
    s.liFlag n (F.LI_STATUS_FALLBACK n) 2
  else s

/-- COMPLY (R245, R251, R252): looked for from 500 kHz up. The island then delivers the most it can. -/
def execComply (n : Fin 24) (short : Bool) (m : IslMeas) (s : State) : Host.Outcome State Fault Refusal :=
  let s1 := s.measure n m
  let limit := some (m.primary % 2 ^ 16)
  .next (if !short then
      (if s1.g (F.LI_STATUS_OPEN n) = 1 then s1
      else
        let s2 := s1.setShort n none
        if (s.isl n).link then s2.p (F.LI_STATUS_COMPLY n) 0 else s2)
    else if !s.islCarries n then s1
    else if !(s.isl n).link then s1.setShort n limit
    else if s1.g (F.LI_STATUS_OPEN n) == 1 || s1.g (F.LI_STATUS_COMPLY n) == 1 || Nat.blt (s.islClock n) 2 then s1
    else
      let s2 := ((s1.setShort n limit).liFlag n (F.LI_STATUS_COMPLY n) 1).incHold (F.LI_FAULTS_COMPLY n)
      if s2.g (F.LI_COMPLY_COMPLY_TIME_MS n) = 0 then s2.fallback n else s2)

/-- FALLBACK (R252): COMPLY has been set for COMPLY_TIME_MS. -/
def execFallback (n : Fin 24) (s : State) : Host.Outcome State Fault Refusal := .next (s.fallback n)

/-- A retry window opens (R252). -/
def State.liRetry (s : State) (n : Nat) : State :=
  if (s.isl n).link ∧ s.g (F.LI_STATUS_FALLBACK n) = 1 then s.p (F.LI_STATUS_RETRYING n) 1 else s

/-- ISLAND_TIMED_RETRY (R252). -/
def execIslandTimedRetry (n : Fin 24) (s : State) : Host.Outcome State Fault Refusal :=
  .next (if s.g (F.LI_COMPLY_RETRY_S n) = 0 then s else s.liRetry n)

/-- RETRY_WINDOW_END (R252): `good`: for the last 100 ms the current lay within 0.05 mA of the target. -/
def execRetryWindowEnd (n : Fin 24) (good : Bool) (s : State) : Host.Outcome State Fault Refusal :=
  .next (if s.g (F.LI_STATUS_RETRYING n) = 0 ∨ (s.isl n).link = false then s
    else
      let s1 := s.p (F.LI_STATUS_RETRYING n) 0
      if good then ((s1.p (F.LI_STATUS_FALLBACK n) 0).p (F.LI_STATUS_COMPLY n) 0).setShort n none else s1)

/-- OPEN (R253): the loop carries no current, or carries its target again. A loop that carries no current has no clock of its
own to choose: the clock that R245 asks for is the target's (DEDUCED, log entry 200). -/
def execOpenLoop (n : Fin 24) (open_ : Bool) (m : IslMeas) (s : State) : Host.Outcome State Fault Refusal :=
  let s1 := s.measure n m
  let limit := some (m.primary % 2 ^ 16)
  .next (if !open_ then
      let s2 := s1.setShort n none
      if (s.isl n).link then s2.p (F.LI_STATUS_OPEN n) 0 else s2
    else if !s.islCarries n then s1
    else if !(s.isl n).link then s1.setShort n limit
    else if s1.g (F.LI_STATUS_OPEN n) == 1 || Nat.blt (s.islClockAt n (s.islTarget n)) 2 then s1
    else if s.islMode n = 1 ∧ s.islTarget n < 6800 then s1
    else ((((s1.setShort n limit).liFlag n (F.LI_STATUS_OPEN n) 0).incHold (F.LI_FAULTS_OPEN n)).p
      (F.LI_STATUS_COMPLY n) 0).p (F.LI_STATUS_HEADROOM n) 0)

/-- THERMAL (R254): the 10 ms step of the current derating. -/
def execThermal (n : Fin 24) (m : IslMeas) (s : State) : Host.Outcome State Fault Refusal :=
  let s1 := s.measure n m
  let x := s1.isl n
  let hot := natBit (s.islCfg n) 2 && s.islCarries n &&
    (decide (1400 < m.stage) || (x.hot && decide (1300 < m.stage)))
  let derate := if hot then min (s.islTarget n) (x.derate + 1000) else x.derate - 1000
  let s2 := s1.setIsl n { x with hot := hot, derate := derate }
  .next (if !x.link then s2
    else if !hot then s2.p (F.LI_STATUS_THERMAL n) 0
    else if s2.g (F.LI_STATUS_THERMAL n) = 0 then
      (s2.liFlag n (F.LI_STATUS_THERMAL n) 3).incHold (F.LI_FAULTS_THERMAL n)
    else s2)

/-! ## Latched faults (R257) -/

/-- A fault latched: counted, recorded, reported; `kind` 1 SENSE, 2 STAGE. -/
def State.liLatch (s : State) (n kind : Nat) : State :=
  let s1 := s.liFlag n (if kind = 1 then F.LI_STATUS_SENSE_FAULT n else F.LI_STATUS_STAGE_FAULT n) (3 + kind)
  ((s1.incHold (F.LI_FAULTS_SENSE n)).post 0x3001 (8 + n / 8) n n kind (s1.g (F.LI_MEAS_PRIMARY n))
    (s1.g (F.LI_MEAS_SHADOW n))).report 11 (8 + n / 8) n 0

/-- Faults of the island's stage can be found and reported: it carries a current at 1 MHz, and its link is up (R245, R257). -/
def State.liWatches (s : State) (n : Nat) : Bool :=
  (s.isl n).link && s.islCarries n && s.islClock n == 3

/-- SENSE_FAULT (R257): three comparisons at 1 MHz differed by more than 0.1 mA. -/
def execSenseFault (n : Fin 24) (m : IslMeas) (s : State) : Host.Outcome State Fault Refusal :=
  let s1 := s.measure n m
  .next (if s.liWatches n ∧ s1.g (F.LI_STATUS_SENSE_FAULT n) = 0 then s1.liLatch n 1 else s1)

/-- STAGE_FAULT (R257): the current differed from the target by more than 0.2 mA for 1 ms with headroom. -/
def execStageFault (n : Fin 24) (m : IslMeas) (s : State) : Host.Outcome State Fault Refusal :=
  let s1 := s.measure n m
  .next (if s.liWatches n ∧ s1.g (F.LI_STATUS_OPEN n) = 0 ∧ s1.g (F.LI_STATUS_STAGE_FAULT n) = 0 then s1.liLatch n 2
    else s1)

/-- The fault bits of an island cleared. -/
def State.liUnlatch (s : State) (n : Nat) : State :=
  (s.p (F.LI_STATUS_SENSE_FAULT n) 0).p (F.LI_STATUS_STAGE_FAULT n) 0

/-- A write of LInn_CMD (R252, R257); it reaches the island while the data link is up. -/
def State.liCmdWrite (s : State) (n v : Nat) : State :=
  let s1 := if natBit v 0 then s.liRetry n else s
  if natBit v 1 && (s.isl n).link && (s1.g (F.LI_STATUS_SENSE_FAULT n) == 1 || s1.g (F.LI_STATUS_STAGE_FAULT n) == 1) then
    if s1.islCarries n then s1.setIsl n { s1.isl n with recheck := true } else s1.liUnlatch n
  else s1

/-- ISLAND_RETRY (R252): port `p` writes LInn_CMD with RETRY 1. -/
def execIslandRetry (p : Fin 2) (n : Fin 24) (s : State) : Host.Outcome State Fault Refusal :=
  .next (if s.linkUp p then s.regWrite p (R.LI_CMD n) (fun t => t.liCmdWrite n 1) else s)

/-- ISLAND_CLEAR (R257): port `p` writes LInn_CMD with CLEAR 1. -/
def execIslandClear (p : Fin 2) (n : Fin 24) (s : State) : Host.Outcome State Fault Refusal :=
  .next (if s.linkUp p then s.regWrite p (R.LI_CMD n) (fun t => t.liCmdWrite n 2) else s)

/-- RECHECK_END (R257): what the 30 ms recheck found. -/
def execRecheckEnd (n : Fin 24) (sense stage : Bool) (m : IslMeas) (s : State) :
    Host.Outcome State Fault Refusal :=
  let s1 := s.measure n m
  if !(s1.isl n).recheck then .next s1
  else
    let s2 := s1.setIsl n { s1.isl n with recheck := false }
    let s3 := if sense then s2.liLatch n 1 else s2
    let s4 := if stage then s3.liLatch n 2 else s3
    .next (if !(s.isl n).link then s2 else if sense || stage then s4 else s4.liUnlatch n)

/-! ## Link and release path (R258, R259) -/

/-- LINK_LOST (R259): the data link has been silent for 50 µs. -/
def execLinkLost (n : Fin 24) (s : State) : Host.Outcome State Fault Refusal :=
  let x := s.isl n
  if !x.link then .next s
  else
    let y := s.islCut n
    let z := if x.st = .driving then (if s.dpx.fitted then { y with st := .autonomous } else y.gone) else y
    .next ((s.setIsl n { z with recheck := false }).raise (evLI n) 6)

/-- ISLAND_LINK_RETURN (R259, R262): the island takes the configuration that it has missed, and reports again. -/
def execIslandLinkReturn (n : Fin 24) (s : State) : Host.Outcome State Fault Refusal :=
  let x := s.isl n
  .next (if x.link || s.pwr.railsOff || !s.pwr.domainsUp then s
    else
      let s1 := s.setIsl n { x with
        link := true, measNs := none
        st := if x.st = .autonomous ∧ s.actsOwn x.own x.peer then .driving else x.st }
      let s2 := s1.p (F.LI_STATUS_THERMAL n) (b2n x.hot)
      let s3 := if x.short.isSome then s2 else (s2.p (F.LI_STATUS_COMPLY n) 0).p (F.LI_STATUS_OPEN n) 0
      s3.islTake n x.cfg (s.rn (R.LI_CFG n)))

/-- A ramp of `dur` ns to `dst` begins at the current that the island holds now, derating included (R259). -/
def State.yield (s : State) (n : Nat) (x : IslS) (st : IslSt) (dst dur : Nat) : IslS :=
  { x with st := st, derate := 0, ramp := some ⟨s.islApplied n, dst, s.clk.upNs, dur⟩ }

/-- How long the island's ramp has run. -/
def State.ran (s : State) (n : Nat) : Nat := match (s.isl n).ramp with | some r => s.clk.upNs - r.startNs | none => 0

/-- ISLAND_RELEASE_EDGE (R258, R259): an edge of the release lines reaches island `n`. -/
def execIslandReleaseEdge (n : Fin 24) (s : State) : Host.Outcome State Fault Refusal :=
  let x := s.isl n
  let own := s.dpx.releaseOut
  let peer := s.g F.DPX_STATUS_RELEASE_IN == 1
  let was := s.actsOwn x.own x.peer
  let is := s.actsOwn own peer
  let y := { x with own := own, peer := peer }
  let s1 := s.setIsl n y
  let go := fun (st : IslSt) (dst dur : Nat) => s.setIsl n (s.yield n y st dst dur)
  match x.st with
  | .driving => .next (if peer && !x.peer && !is then go .yieldOut 0 1000000 else s1)
  | .autonomous => .next (if peer && !x.peer then go .yieldOut 0 1000000 else s1)
  | .standby => .next (if is && !was then go .yieldIn (s1.islDriven n) 1000000 else s1)
  | .yieldOut =>
    .next (if x.peer && !peer then go (if x.link then .driving else .autonomous) (s1.islDriven n) (s.ran n) else s1)
  | .yieldIn => .next (if was && !is then go .standby 0 (s.ran n) else s1)
  | .off => .next s1

/-- HANDOVER_DONE (R259): the yield ramp of island `n` ends. An island that took the loop with its link silent goes on as a
DRIVING island whose link is silent does (DEDUCED, log entry 201). -/
def execHandoverDone (n : Fin 24) (s : State) : Host.Outcome State Fault Refusal :=
  let x := s.isl n
  let done := fun (y : IslS) =>
    let s1 := match x.ramp with | some r => s.advanceToUp (r.startNs + r.durNs) | none => s
    let s2 := s1.setIsl n { y with ramp := none }
    if s.pwr.railsOff || !s.pwr.domainsUp then s2 else (s2.inc (R.LI_HANDOVERS n)).raise (evLI n) 7
  match x.st with
  | .yieldOut => .next (done { x with st := .standby, derate := 0, hot := false, short := none })
  | .yieldIn =>
    .next (done (if x.link then { x with st := .driving } else if s.dpx.fitted then { x with st := .autonomous } else x.gone))
  | _ => .next s

/-- STORE_SPENT (R246, R259): the store or the loop voltage of an island without its module is gone. -/
def execStoreSpent (n : Fin 24) (s : State) : Host.Outcome State Fault Refusal :=
  .next (if s.islCarries n && !(s.isl n).link then s.islOff n else s)

end Sys2Proof.Machine
end

