-- ==== Sys2Proof/Machine/Fio.lean ====
section
/-! DEFINITION. The universal inputs and the discrete outputs (chapter 11, R264 to R271, R280, R281). -/

namespace Sys2Proof.Machine

/-! ## Universal inputs -/

def State.ui (s : State) (n : Nat) : UiS := tget s.fio.ui {} n

def State.setUi (s : State) (n : Nat) (x : UiS) : State :=
  { s with fio := { s.fio with ui := tset s.fio.ui {} n x } }

/-- TYPE of a channel with 6 and 7 taken as OFF (R264). -/
def State.uiType (s : State) (n : Nat) : Nat := if 5 < s.g (F.UI_CFG_TYPE n) then 0 else s.g (F.UI_CFG_TYPE n)

/-- A tenth as binary32. -/
def tenths (i : Int) : Nat := b32.ofRat i 10

/-- x < y for binary32 patterns. -/
def lt32 (x y : Nat) : Bool := b32.lt x y

/-- The value taken into a range. -/
def clamp32 (lo hi x : Nat) : Nat := if lt32 x lo then lo else if lt32 hi x then hi else x

/-- The fault that a conversion shows (R267): 0 none, 1 OPEN, 2 SHORT, 3 RANGE, 4 OVERCURRENT. -/
def uiFault (typ : Nat) (liveZero shuntOff : Bool) (m : UiMeas) : Nat :=
  match typ with
  | 1 => if 4000 < m.ohms ∨ m.compliance then 1 else if m.ohms < 500 then 2
    else if lt32 m.x (tenths (-550)) || lt32 (tenths 1550) m.x then 3 else 0
  | 2 => if 400000 < m.ohms then 1 else if m.ohms < 100 then 2
    else if lt32 m.x (tenths (-450)) || lt32 (tenths 1300) m.x then 3 else 0
  | 3 => if lt32 m.x (tenths (-5)) || lt32 (tenths 105) m.x then 3 else 0
  | 4 => if shuntOff || lt32 (tenths 250) m.x then 4
    else if liveZero && (lt32 m.x (tenths 36) || lt32 (tenths 210) m.x) then 3 else 0
  | _ => 0

/-- The filter of R266 in binary64, rounded to binary32: y + (x − y) / (FILT + 1). -/
def uiFilter (filt : Nat) (y : Option Nat) (x : Nat) : Nat :=
  match y with
  | none => x
  | some y0 =>
    if filt = 0 then x
    else fconv b64 b32 (b64.add (widen y0)
      (b64.div (b64.sub (widen x) (widen y0)) (b64.ofInt (filt + 1))))

/-- The contact's state that a conversion shows (R264): between 1 kΩ and 10 kΩ the previous. -/
def uiContact (ohms : Nat) (prev : Bool) : Bool :=
  if ohms ≤ 1000 then true else if 10000 ≤ ohms then false else prev

/-- A good conversion taken into the channel's value: analogue, or the contact after debouncing (R266). -/
def uiGood (typ filt deb : Nat) (m : UiMeas) (x : UiS) : UiS :=
  if typ = 5 then
    let prev := x.contact.getD false
    let c := uiContact m.ohms (if x.contact.isNone then false else if x.agree = 0 then prev else x.cand)
    match x.contact with
    | none => { x with contact := some c, cand := c, agree := 0 }
    | some p =>
      if c == p then { x with cand := p, agree := 0 }
      else
        let k := (if x.cand == c then x.agree else 0) + 1
        if deb ≤ k then { x with contact := some c, cand := c, agree := 0 } else { x with cand := c, agree := k }
  else { x with y := some (uiFilter filt x.y m.x) }

/-- The value of a channel after a good conversion (R264, R266): the contact's state, or the filtered value. -/
def UiS.value (u : UiS) (inv : Bool) : Nat := if u.typ = 5 then b2n (u.contact.getD false != inv) else u.y.getD 0

/-- The write of a channel's slot after a conversion (R264 to R267): a fault keeps the last good value. -/
def uiPut (typ fault : Nat) (inv : Bool) (m : UiMeas) (u : UiS) (x : Slot) : Slot :=
  let types := if typ = 5 then [0] else [3]
  if fault = 0 then putAs types (fun _ => some (u.value inv)) 1 x
  else if fault = 3 ∧ typ = 1 then putAs types (fun _ => some (clamp32 (tenths (-500)) (tenths 1500) m.x)) 6 x
  else if fault = 3 ∧ typ = 2 then putAs types (fun _ => some (clamp32 (tenths (-400)) (tenths 1250) m.x)) 6 x
  else match u.good with
    | some v => putAs types (fun _ => some v) 6 x
    | none => putQual types 6 x

/-- Where channel `n`'s position ends in a frame of conversions, in ns (R265). -/
def uiOff (n : Nat) : Nat := 12500000 * (n % 8 + 1)

/-- When the conversion of channel `n` that is next to complete does (R265): at the end of the position that has just passed,
where that one has not been taken, else at the end of its position in the coming frame. -/
def State.uiEnd (s : State) (n : Nat) : Nat :=
  let ns := s.ptpNs
  let off := uiOff n
  let last := (ns - off) / 100000000 * 100000000 + off
  if ns < off then off
  else if ns < last + 12500000 ∧ (s.ui n).conv ≠ some last then last
  else last + 100000000

/-- TYPE of channel `n` at the beginning of the position that ends at `e` (R265). -/
def State.uiTypeAt (s : State) (n e : Nat) : Nat :=
  match (s.ui n).chg.find? (fun c => Nat.blt e (c.1 + 12500000)) with
  | some c => if 5 < c.2 then 0 else c.2
  | none => s.uiType n

/-- A write that changes TYPE of channel `n` from `old`: it waits for the channel's next position (R265). -/
def State.uiChange (s : State) (n old : Nat) : State :=
  if s.g (F.UI_CFG_TYPE n) = old then s else s.setUi n { s.ui n with chg := (s.ui n).chg ++ [(s.ptpNs, old)] }

/-- The channel's record for a conversion by TYPE `typ` that completes at `e`: it begins anew with a TYPE (R266). -/
def State.uiFor (s : State) (n typ e : Nat) : UiS :=
  let u := s.ui n
  { (if u.typ = typ then u else { (default : UiS) with typ := typ }) with conv := some e, chg := [] }

/-- The conversion as the channel takes it: an NTC's temperature follows from its resistance and B (R264; DESIGN CHOICE, log
entry 202: the value that the manual leaves open is a free one). -/
def State.uiMeas (s : State) (n typ : Nat) (m : UiMeas) : UiMeas :=
  if typ = 2 then { m with x := Config.ntcCelsius m.ohms (s.g (F.UI_PARAM_NTC_B n)) } else m

/-- UI_CONVERSION (R265 to R268): a conversion of channel `n` completes, at the end of its position. -/
def execUiConversion (n : Fin 32) (m0 : UiMeas) (s : State) : Host.Outcome State Fault Refusal :=
  if s.isButty || !s.pwr.domainsUp || s.phase == 7 then .next s
  else
    let e := s.uiEnd n
    let typ := s.uiTypeAt n e
    let u := s.uiFor n typ e
    let s0 := s.advanceToPtp e
    if e < s.fio.uiFrom + uiOff n then .next (s0.setUi n { s.ui n with conv := some e })
    else
      let s := s0.count 486
      if typ = 0 then
        let s1 := (s.p (F.UI_STAT_CONDITIONS n) 0).setBit R.UI_FAULTY n false
        if u.oos || (s.fieldSlots 0x10 n).isEmpty then .next (s1.setUi n u)
        else .next ((s1.setUi n { u with oos := true }).putChannel 0x10 n (fun x => { x with quality := 8 }))
      else
        let m := s.uiMeas n typ m0
        let s1 := s.p (F.UI_RAW_CODE n) m.code
        let fault := uiFault typ (s.g (F.UI_CFG_LIVE_ZERO n) == 1) u.shuntOff m
        let inv := s.g (F.UI_CFG_INVERT n) == 1
        if fault = 0 then
          let u1 := uiGood typ (min 600 (s.g (F.UI_CFG_FILT n))) (clampN 1 8 (s.g (F.UI_CFG_DEBOUNCE n))) m u
          let u2 := { u1 with good := some (u1.value inv) }
          let s2 := ((s1.p (F.UI_STAT_CONDITIONS n) 1).setBit R.UI_FAULTY n false).setUi n u2
          .next (s2.putChannel 0x10 n (uiPut typ 0 inv m u2))
        else
          let entry := !s1.bit R.UI_FAULTY n
          let u1 : UiS := { typ := typ, shuntOff := fault == 4, good := u.good, conv := u.conv }
          let s2 := ((s1.p (F.UI_STAT_CONDITIONS n) (2 ^ fault)).setBit R.UI_FAULTY n true).setUi n u1
          let s3 := if entry then (s2.incHold (F.UI_STAT_FAULTS n)).raise evUI n else s2
          .next (s3.putChannel 0x10 n (uiPut typ fault inv m u1))

/-- UI_SHUNT_RETRY (R267): 1 s after an OVERCURRENT the shunt is connected again. -/
def execUiShuntRetry (n : Fin 32) (s : State) : Host.Outcome State Fault Refusal :=
  .next (s.setUi n { s.ui n with shuntOff := false })

/-! ## Discrete outputs -/

/-- The driver's side of the DO block set; the pins follow, but for one that has been found against its command and keeps
its driver (R269, R270, R281). -/
def State.doDrive (s : State) (on : Nat) : State :=
  let d := s.fio.dout
  let stuck := d.stuck &&& (2 ^ 24 - 1 - (on ^^^ d.on) % 2 ^ 24)
  ({ s with fio := { s.fio with dout := { d with on := on, stuck := stuck } } }).wn R.DO_READBACK (on ^^^ stuck)

/-- OWN as the drivers act on it (R258, R271). -/
def State.doOwn (s : State) : Bool := s.actsOwn s.fio.dout.own s.fio.dout.peer

/-- The drivers that conduct while OWN is high: stored state, enabled, and not latched unless a retry has driven them again
(R269 to R271). -/
def State.doWanted (s : State) : Nat :=
  s.rn R.DO_STATE &&& s.rn R.DO_EN &&& ((2 ^ 24 - 1 - s.rn R.DO_SHORT % 2 ^ 24) ||| s.fio.dout.retried)

/-- Whether a retry drives latched output `n` (R270). -/
def State.doRetried (s : State) (n : Nat) (v : Bool) : State :=
  { s with fio := { s.fio with dout := { s.fio.dout with retried := setBits s.fio.dout.retried n 1 (b2n v) } } }

/-- Driver `n` follows its stored state where the duplex rules let it (R269 to R271). -/
def State.doFollow (s : State) (n : Nat) : State :=
  if s.doOwn then s.doDrive (setBits s.fio.dout.on n 1 (b2n (natBit s.doWanted n))) else s

/-- A commit of output `n` (R269). -/
def State.doCommit (s : State) (n : Nat) (v : Bool) : State := (s.setBit R.DO_STATE n v).doFollow n

/-- A write of DO_EN (R269). -/
def State.doEnWrite (s : State) (v : Nat) : State :=
  let old := s.rn R.DO_EN
  let new := v % 2 ^ 24
  let s1 := s.wn R.DO_EN new
  (List.range 24).foldl (fun t n =>
    if natBit old n == natBit new n then t
    else if natBit new n then t.doFollow n
    else t.doDrive (setBits t.fio.dout.on n 1 0)) s1

/-- DO_EN_WRITE (R269): port `p` writes DO_EN. -/
def execDoEnWrite (p : Fin 2) (v : Word) (s : State) : Host.Outcome State Fault Refusal :=
  .next (if s.linkUp p then s.regWrite p R.DO_EN (fun t => t.doEnWrite v.toNat) else s)

/-- DO_SHORT (R269, R270): driver `n` has been in current limit for 2 ms. -/
def execDoShort (n : Fin 24) (s : State) : Host.Outcome State Fault Refusal :=
  if !natBit s.fio.dout.on n then .next s
  else .next (((((s.doDrive (setBits s.fio.dout.on n 1 0)).doRetried n false).setBit R.DO_SHORT n true).raise evDO 0).post
    0x3002 12 n n 1)

/-- A write of DO_CMD (R270). -/
def State.doCmdWrite (s : State) (v : Nat) : State :=
  (List.range 24).foldl (fun t n =>
    if natBit v n && t.bit R.DO_SHORT n then ((t.setBit R.DO_SHORT n false).doRetried n false).doFollow n else t) s

/-- DO_SHORT_CLEAR (R270): port `p` writes DO_CMD. -/
def execDoShortClear (p : Fin 2) (v : Word) (s : State) : Host.Outcome State Fault Refusal :=
  .next (if s.linkUp p then s.regWrite p R.DO_CMD (fun t => t.doCmdWrite v.toNat) else s)

/-- DO_AUTO_RETRY (R270): the committed state of a latched output is re-applied; the latch stays, and the driver follows
commits again until the next short. -/
def execDoAutoRetry (n : Fin 24) (s : State) : Host.Outcome State Fault Refusal :=
  .next (if s.g F.DO_CTL_AUTO_RETRY = 1 ∧ s.bit R.DO_SHORT n ∧ s.doOwn then
      (s.doRetried n true).doFollow n
    else s)

/-- OPEN_LOAD (R270): an on output has drawn below 5 mA for 100 ms, or draws more again. -/
def execOpenLoad (n : Fin 24) (opened : Bool) (s : State) : Host.Outcome State Fault Refusal :=
  .next (if !opened then s.setBit R.DO_OPEN n false
    else if natBit s.fio.dout.on n && !s.bit R.DO_OPEN n then (s.setBit R.DO_OPEN n true).raise evDO 1 else s)

/-- VS_LOW (R270): the supplies measured, in units of 10 mV. -/
def execVsLow (v0 v1 : Fin 65536) (s : State) : Host.Outcome State Fault Refusal :=
  let s1 := s.wn R.DO_VS (v0.val + v1.val * 65536)
  .next (if v0.val < 1600 ∨ v1.val < 1600 then s1.raise evDO 2 else s1)

/-- STUCK (R270): the pin of output `n` has been `high` against its command for 10 ms. -/
def execStuck (n : Fin 24) (high : Bool) (s : State) : Host.Outcome State Fault Refusal :=
  let d := s.fio.dout
  let s0 := { s with fio := { s.fio with dout := { d with stuck := setBits d.stuck n 1 (b2n (natBit d.on n != high)) } } }
  let s1 := s0.setBit R.DO_READBACK n high
  .next (if s.bit R.DO_SHORT n || natBit s.fio.dout.on n == high then s1
    else (s1.raise evDO 3).post 0x3002 12 n n 2)

/-- DO_RELEASE_EDGE (R271): an edge of the release lines reaches the drivers. -/
def execDoReleaseEdge (s : State) : Host.Outcome State Fault Refusal :=
  let d := s.fio.dout
  let own := s.dpx.releaseOut
  let peer := s.g F.DPX_STATUS_RELEASE_IN == 1
  let was := s.doOwn
  let is := s.actsOwn own peer
  let put := fun (h : Bool) => { s with fio := { s.fio with dout := { d with own := own, peer := peer, hold := h } } }
  .next (if is && !was then (put false).doDrive (put false).doWanted
    else if peer && !d.peer && !is then put true
    else put d.hold)

/-- DO_YIELD_HOLD_END (R271): the 100 µs after PEER rose end. -/
def execDoYieldHoldEnd (s : State) : Host.Outcome State Fault Refusal :=
  if !s.fio.dout.hold then .next s
  else
    let s1 := { s with fio := { s.fio with dout := { s.fio.dout with hold := false } } }
    .next (s1.doDrive 0)

end Sys2Proof.Machine
end

