-- ==== Sys2Proof/Machine/Aes.lean ====
section
/-! DEFINITION. AES (FIPS 197) with 128-bit and 256-bit keys, AES-GCM (NIST SP 800-38D) and the AES key wrap KW (NIST SP
800-38F), which the crucible uses (R411, R412). Bytes are numbers below 256. -/

namespace Sys2Proof.Machine

/-! ## The block cipher -/

/-- Multiplication by x in GF(2^8) of AES. -/
def gfX (a : Nat) : Nat := if a < 128 then 2 * a else (2 * a) ^^^ 0x11b

/-- Multiplication in GF(2^8) of AES. -/
def gfMul (a b : Nat) : Nat :=
  ((List.range 8).foldl (fun (q : Nat × Nat) i =>
    (if natBit b i then q.1 ^^^ q.2 else q.1, gfX q.2)) (0, a)).1

/-- The inverse in GF(2^8), 0 for 0. -/
def gfInv (a : Nat) : Nat := (List.range 254).foldl (fun r _ => gfMul r a) 1

/-- A byte rotated left by `k`. -/
def rotB (a k : Nat) : Nat := (a * 2 ^ k + a / 2 ^ (8 - k)) % 256

/-- The S-box. -/
def sbox : List Nat := (List.range 256).map (fun a =>
  let b := gfInv a
  b ^^^ rotB b 1 ^^^ rotB b 2 ^^^ rotB b 3 ^^^ rotB b 4 ^^^ 0x63)

/-- The inverse S-box. -/
def sboxInv : List Nat := (List.range 256).map (fun a => sbox.idxOf a)

def subB (a : Nat) : Nat := sbox.getD a 0

/-- Byte-wise exclusive or. -/
def xorL (a b : List Nat) : List Nat := List.zipWith (fun x y => x ^^^ y) a b

/-- The words of the key schedule after the first `nk`, newest first: `n` more. -/
def keyWords (nk : Nat) : Nat → Nat → List (List Nat) → List (List Nat)
  | 0, _, l => l
  | n + 1, i, l =>
    let prev := l.headD []
    let t :=
      if i % nk = 0 then
        xorL ((prev.drop 1 ++ prev.take 1).map subB) [(List.range (i / nk - 1)).foldl (fun r _ => gfX r) 1, 0, 0, 0]
      else if nk = 8 ∧ i % 8 = 4 then prev.map subB
      else prev
    keyWords nk n (i + 1) (xorL (l.getD (nk - 1) []) t :: l)

/-- The round keys, 16 bytes each. -/
def roundKeys (key : List Nat) : List (List Nat) :=
  let nk := key.length / 4
  let rounds := nk + 6
  let first := (List.range nk).map (fun i => (key.drop (4 * i)).take 4)
  let w := (keyWords nk (4 * (rounds + 1) - nk) nk first.reverse).reverse
  (List.range (rounds + 1)).map (fun r => ((w.drop (4 * r)).take 4).flatten)

/-- The bytes of a block permuted: byte i comes from `f i`. -/
def permL (f : Nat → Nat) (b : List Nat) : List Nat := (List.range 16).map (fun i => b.getD (f i) 0)

/-- MixColumns with the column of factors `m`. -/
def mixL (m : List Nat) (b : List Nat) : List Nat :=
  (List.range 16).map (fun i =>
    (List.range 4).foldl (fun r k => r ^^^ gfMul (m.getD ((k + 4 - i % 4) % 4) 0) (b.getD (4 * (i / 4) + k) 0)) 0)

/-- The block cipher. -/
def aesBlock (key b : List Nat) : List Nat :=
  match roundKeys key with
  | [] => b
  | k0 :: ks =>
    let shift := fun b => permL (fun i => i % 4 + 4 * ((i / 4 + i % 4) % 4)) (b.map subB)
    let mid := ks.dropLast.foldl (fun b k => xorL (mixL [2, 3, 1, 1] (shift b)) k) (xorL b k0)
    xorL (shift mid) (ks.getLastD [])

/-- The inverse cipher. -/
def aesInv (key b : List Nat) : List Nat :=
  match (roundKeys key).reverse with
  | [] => b
  | kn :: ks =>
    let unshift := fun b => (permL (fun i => i % 4 + 4 * ((i / 4 + 4 - i % 4) % 4)) b).map (fun a => sboxInv.getD a 0)
    let mid := ks.dropLast.foldl (fun b k => mixL [14, 11, 13, 9] (xorL (unshift b) k)) (xorL b kn)
    xorL (unshift mid) (ks.getLastD [])

/-! ## Key wrap -/

def beBytes : Nat → Nat → List Nat
  | 0, _ => []
  | k + 1, n => beBytes k (n / 256) ++ [n % 256]

def natBE (l : List Nat) : Nat := l.foldl (fun r b => 256 * r + b) 0

/-- The 64-bit words of a byte string. -/
def words8 (l : List Nat) : List (List Nat) := (List.range (l.length / 8)).map (fun i => (l.drop (8 * i)).take 8)

/-- KW of a plaintext of whole 64-bit words. -/
def kwWrap (kek plain : List Nat) : List Nat :=
  let r0 := words8 plain
  let n := r0.length
  let q := (List.range (6 * n)).foldl (fun (q : List Nat × List (List Nat)) t =>
    let i := t % n
    let b := aesBlock kek (q.1 ++ q.2.getD i [])
    (xorL (b.take 8) (beBytes 8 (t + 1)), q.2.set i (b.drop 8))) (List.replicate 8 0xA6, r0)
  q.1 ++ q.2.flatten

/-- KW undone; none where the integrity check fails. -/
def kwUnwrap (kek blob : List Nat) : Option (List Nat) :=
  let r0 := (words8 blob).drop 1
  let n := r0.length
  let q := (List.range (6 * n)).reverse.foldl (fun (q : List Nat × List (List Nat)) t =>
    let i := t % n
    let b := aesInv kek (xorL q.1 (beBytes 8 (t + 1)) ++ q.2.getD i [])
    (b.take 8, q.2.set i (b.drop 8))) (blob.take 8, r0)
  if q.1 = List.replicate 8 0xA6 then some q.2.flatten else none

/-! ## GCM -/

/-- Multiplication in GF(2^128) of GCM. -/
def ghMul (x y : Nat) : Nat :=
  ((List.range 128).foldl (fun (q : Nat × Nat) i =>
    (if natBit x (127 - i) then q.1 ^^^ q.2 else q.1,
      if q.2 % 2 = 1 then (q.2 / 2) ^^^ (0xE1 * 2 ^ 120) else q.2 / 2)) (0, y)).1

/-- The blocks of 16 bytes of a string, the last filled with zeros. -/
def blocks16 (l : List Nat) : List (List Nat) :=
  (List.range ((l.length + 15) / 16)).map (fun i =>
    let b := (l.drop (16 * i)).take 16
    b ++ List.replicate (16 - b.length) 0)

/-- The keystream applied to `data` from counter `c` on. -/
def gcmCtr (key nonce : List Nat) (c : Nat) (data : List Nat) : List Nat :=
  let ks := (List.range ((data.length + 15) / 16)).flatMap (fun i =>
    aesBlock key (nonce ++ beBytes 4 ((c + i) % 2 ^ 32)))
  xorL data ks

/-- The tag of a ciphertext. -/
def gcmTag (key nonce aad cipher : List Nat) : List Nat :=
  let h := natBE (aesBlock key (List.replicate 16 0))
  let y := (blocks16 aad ++ blocks16 cipher ++ [beBytes 8 (8 * aad.length) ++ beBytes 8 (8 * cipher.length)]).foldl
    (fun y b => ghMul (y ^^^ natBE b) h) 0
  gcmCtr key nonce 1 (beBytes 16 y)

/-- AES-GCM encryption: ciphertext, then tag. -/
def gcmSeal (key nonce aad plain : List Nat) : List Nat :=
  let c := gcmCtr key nonce 2 plain
  c ++ gcmTag key nonce aad c

/-- AES-GCM decryption of a ciphertext followed by its tag; none where the tag fails. -/
def gcmOpen (key nonce aad data : List Nat) : Option (List Nat) :=
  let c := data.take (data.length - 16)
  if gcmTag key nonce aad c = data.drop (data.length - 16) then some (gcmCtr key nonce 2 c) else none

end Sys2Proof.Machine
end

