-- ==== Sys2Proof/Machine/Sec.lean ====
section
/-! DEFINITION. The security core: keys, the crucible, the key store, tokens, debug and tenant bindings (chapter 19). -/

namespace Sys2Proof.Machine

/-! ## Keys derived from the root (R408, R409, R419) -/

/-- The firmware signing key and the debug authority key of the boot ROM (R409). -/
def firmwareKey : List Byte := (List.range 2592).map Config.firmwareKeyByte
def debugKey : List Byte := (List.range 2592).map Config.debugKeyByte

/-- The published test root (R419). -/
def testRoot : List Byte := (sha3_512 (ascii "VOLVATHES CF-880 PUBLISHED TEST ROOT")).take 32

/-- The root in force. -/
def State.root (s : State) : List Byte :=
  if s.sec.debug then testRoot else (List.range 32).map Config.rootByte

/-- The seed of the identity key (R408). -/
def State.idSeed (s : State) : List Byte := kmac256 s.root (ascii "IDENTITY") 256 (ascii "CF880-ROOT")

/-- The identity public key. -/
def State.idKey (s : State) : List Byte := (List.range 2592).map (Config.mldsaPublicByte s.idSeed)

/-- The store KEK. -/
def State.storeKek (s : State) : List Byte := kmac256 s.root (ascii "KEY-STORE") 256 (ascii "CF880-ROOT")

/-- The partition of the key store in use (R419). -/
def State.part (s : State) : KeyPart := if s.sec.debug then s.sec.test else s.sec.prod

def State.setPart (s : State) (k : KeyPart) : State :=
  { s with sec := { s.sec with
    test := if s.sec.debug then k else s.sec.test
    prod := if s.sec.debug then s.sec.prod else k } }

/-- HMK_OP_DIGEST: the digest of the operator key, zero where none is set (R417). -/
def State.opDigest (s : State) : List Byte :=
  if s.part.opKey.isEmpty then List.replicate 64 0#8 else sha3_512 s.part.opKey

/-! ## Blobs (R412) -/

/-- A key with its attribute and length code. -/
structure KeyVal where
  key : List Byte
  attr : Nat
  len : Nat
  deriving DecidableEq, Repr

def nats (l : List Byte) : List Nat := l.map (fun b => b.toNat)
def bytesOf (l : List Nat) : List Byte := l.map (fun n => BitVec.ofNat 8 n)

/-- The plaintext of a blob. -/
def blobPlain (k : KeyVal) : List Byte :=
  k.key ++ List.replicate (32 - k.key.length) 0#8 ++ natLE 1 k.attr ++ natLE 1 k.len ++ List.replicate 6 0#8

/-- A key wrapped under `kek`: KW; with a 128-bit `kek`, which the manual does not state, free bytes. -/
def wrapKey (kek : List Byte) (k : KeyVal) : List Byte :=
  if kek.length = 32 then bytesOf (kwWrap (nats kek) (nats (blobPlain k)))
  else (List.range 48).map (Config.shortWrapByte kek (blobPlain k))

/-- The key of a plaintext that keeps the layout of R412. -/
def plainKey (l : List Byte) : Option KeyVal :=
  let attr := (l.getD 32 0#8).toNat
  let len := (l.getD 33 0#8).toNat
  let n := if len = 1 then 32 else 16
  if attr < 4 ∧ len < 2 ∧ ((l.take 32).drop n).all (fun b => b == 0#8) ∧ (l.drop 34).all (fun b => b == 0#8) then
    some ⟨l.take n, attr, len⟩
  else none

/-- A blob unwrapped under `kek`; none where the check or the layout fails. -/
def unwrapKey (kek blob : List Byte) : Option KeyVal :=
  if kek.length = 32 then
    match kwUnwrap (nats kek) (nats blob) with
    | some l => plainKey (bytesOf l)
    | none => none
  else if (Config.shortUnwrapByte kek blob 0).toNat % 2 = 1 then
    plainKey ((List.range 40).map (fun i => Config.shortUnwrapByte kek blob (i + 1)))
  else none

/-! ## The crucible (R410, R411, R413) -/

/-- "Caller" of R421. -/
def callerOf (r : OpRef) (o : Op) : Nat := o.ctx + 256 * r.port

/-- The crucible loaded by `owner` with a key, through operation `op` (R410, R421). -/
def State.loadKey (s : State) (k : KeyVal) (op owner who : Nat) : State :=
  let s1 := (({ s with sec := { s.sec with key := k.key } }).inc R.CRU_LOAD_ID).count 584
  let s2 := (((s1.p F.CRU_STATUS_LOADED 1).p F.CRU_STATUS_ATTR k.attr).p F.CRU_STATUS_LEN k.len).p F.CRU_STATUS_OWNER owner
  s2.post 0x6004 35 0 op (k.attr + 4 * k.len) (s2.rn R.CRU_LOAD_ID) who

/-- The crucible emptied. -/
def State.emptyKey (s : State) : State :=
  (((({ s with sec := { s.sec with key := [] } }).p F.CRU_STATUS_LOADED 0).p F.CRU_STATUS_ATTR 0).p F.CRU_STATUS_LEN 0)

/-- A refusal of R413: reasons 2 and 3 are counted and recorded. -/
def State.refuseKey (s : State) (r : OpRef) (o : Op) (reason : Nat) : State :=
  let s1 := if reason = 2 ∨ reason = 3 then
      ((s.inc R.CRU_REFUSALS).raise evCRU 0).post 0x6003 35 0 o.entry.arg0 reason (s.rn R.CRU_LOAD_ID) (callerOf r o)
    else s
  s1.finishWith r 0x0B reason

/-- Checks 1, 3, 4 and 5 of R413 for an operation that uses the crucible key with attribute `attr`, or with any. -/
def State.useReason (s : State) (o : Op) (attr : Option Nat) : Option Nat :=
  if !s.sec.rootOk then some 10
  else if s.g F.CRU_STATUS_LOADED = 0 then some 1
  else if o.entry.arg2 ≠ s.rn R.CRU_LOAD_ID then some 3
  else match attr with
    | some a => if s.g F.CRU_STATUS_ATTR ≠ a then some 2 else none
    | none => none

/-- The first refusal of an operation: the root, then its use of the crucible key where it makes one. -/
def State.keyReason (s : State) (o : Op) (attr : Option Nat) : Option Nat :=
  match attr with
  | some _ => s.useReason o attr
  | none => if !s.sec.rootOk then some 10 else none

/-- The key in the crucible. -/
def State.crucible (s : State) : List Byte := s.sec.key

/-- A KEY_OP of operation `op` taken up by the security core, with `pre` its refusals before the buffer transfers and
`f` the rest. -/
def State.keyOp (s : State) (r : OpRef) (op : Nat) (pre : State → Op → Option Nat) (f : Op → State → State) : State :=
  s.withOp r 0x48 (fun e => e.arg0 == op) (fun o t =>
    match pre t o with
    | some reason => t.refuseKey r o reason
    | none => f o t)

/-- As keyOp, with the buffer read next. -/
def State.keyRead (s : State) (r : OpRef) (op : Nat) (b : HostBuf) (pre : State → Op → Option Nat)
    (f : Op → List Byte → State → State) : State :=
  s.keyOp r op pre (fun o t =>
    match readStatus o.entry b with
    | 0 => f o (b.data.take o.entry.bufLen) t
    | st => t.finishWith r st 0)

/-- The operation ends with `data` written to its buffer; `f` is its effect, which a failed transfer leaves (R88). -/
def State.keyWrite (s : State) (r : OpRef) (o : Op) (b : HostBuf) (data : List Byte) (f : State → State) : State :=
  match writeStatus o.entry b with
  | 2 => s.finishWith r 2 0
  | 0 => ((f s).hostPut r.port o.entry b data).finishOpen r
  | st => (f s).finishWith r st 0

/-- A load by a host operation: RESULT is the new LOAD_ID. -/
def State.hostLoad (s : State) (r : OpRef) (o : Op) (k : KeyVal) : State :=
  let s1 := s.loadKey k o.entry.arg0 r.port (callerOf r o)
  s1.finishWith r 0 (s1.rn R.CRU_LOAD_ID)

/-- DERIVE (R408, R411). -/
def execDerive (r : OpRef) (s : State) : Host.Outcome State Fault Refusal :=
  .next (s.keyOp r 1 (fun t o => t.keyReason o (if natBit o.entry.arg1 3 then some 3 else none)) (fun o t =>
    let len := bits o.entry.arg1 2 1
    let src := natBit o.entry.arg1 3
    let key := kmac256 (if src then t.crucible else t.root) (o.entry.arg3.take 32) (if len = 1 then 256 else 128)
      (ascii (if src then "CF880-CHAIN" else "CF880-HOST"))
    t.hostLoad r o ⟨key, bits o.entry.arg1 0 2, len⟩))

/-- UNWRAP (R411, R412). -/
def execUnwrap (r : OpRef) (b : HostBuf) (s : State) : Host.Outcome State Fault Refusal :=
  .next (s.keyRead r 2 b (fun t o => t.keyReason o (if o.entry.arg1 = 1 then some 2 else none)) (fun o l t =>
    match unwrapKey (if o.entry.arg1 = 1 then t.crucible else t.storeKek) l with
    | some k => t.hostLoad r o k
    | none => t.refuseKey r o 4))

/-- LOAD_SLOT (R411, R413, R415). -/
def execLoadSlot (r : OpRef) (s : State) : Host.Outcome State Fault Refusal :=
  .next (s.keyOp r 3 (fun t o => t.keyReason o none) (fun o t =>
    match (if o.entry.arg1 < 32 then none else tget t.part.slots none o.entry.arg1) with
    | none => t.refuseKey r o 5
    | some x =>
      match unwrapKey t.storeKek x.1 with
      | some k => t.hostLoad r o k
      | none => t.refuseKey r o 4))

/-- A slot of the partition in use written with a key under the store KEK, or emptied (R415, R421). -/
def State.putSlotKey (s : State) (n : Nat) (k : Option KeyVal) (how who : Nat) : State :=
  let old := tget s.part.slots none n
  let new := k.map (fun v => (wrapKey s.storeKek v, v.attr, v.len))
  let attr := match k with
    | some v => v.attr
    | none => (old.map (fun x => x.2.1)).getD 0
  (s.setPart { s.part with slots := tset s.part.slots none n new }).post 0x6005 35 0 n how attr who

/-- Slots 0 to 31 take 128-bit ENCRYPT_ONLY keys only (R415). -/
def slotTakes (n attr len : Nat) : Bool := Nat.ble 32 n || (attr == 0 && len == 0)

/-- GENERATE (R411): a random key is written to the slot and returned wrapped under the crucible key. -/
def execGenerate (r : OpRef) (b : HostBuf) (s : State) : Host.Outcome State Fault Refusal :=
  .next (s.keyOp r 4 (fun t o => t.keyReason o (some 2)) (fun o t =>
    let attr := bits o.entry.arg1 0 2
    let len := bits o.entry.arg1 2 1
    let n := bits o.entry.arg1 8 8
    if !slotTakes n attr len then t.refuseKey r o 5
    else
      let k : KeyVal := ⟨natLE (if len = 1 then 32 else 16) t.fresh, attr, len⟩
      t.keyWrite r o b (wrapKey t.crucible k) (fun u => u.freshen.putSlotKey n (some k) 1 (callerOf r o))))

/-- STORE (R411): the blob is unwrapped under the crucible key and rewrapped into the slot. -/
def execStore (r : OpRef) (b : HostBuf) (s : State) : Host.Outcome State Fault Refusal :=
  .next (s.keyRead r 5 b (fun t o => t.keyReason o (some 2)) (fun o l t =>
    let n := bits o.entry.arg1 8 8
    match unwrapKey t.crucible l with
    | some k =>
      if slotTakes n k.attr k.len then (t.putSlotKey n (some k) 2 (callerOf r o)).finishOpen r
      else t.refuseKey r o 5
    | none => t.refuseKey r o 4))

/-- ERASE_SLOT (R411). -/
def execEraseSlot (r : OpRef) (s : State) : Host.Outcome State Fault Refusal :=
  .next (s.keyOp r 6 (fun t o => t.keyReason o none) (fun o t =>
    (t.putSlotKey o.entry.arg1 none 3 (callerOf r o)).finishOpen r))

/-- The nonce and the additional data of a cipher operation (R411). -/
def nonceOf (e : SubEntry) : List Nat := nats (e.arg3.take 12)
def aadOf (e : SubEntry) : List Nat := nats ((e.arg3.drop 12).take 20)

/-- ENCRYPT (R411): the data is encrypted in place and the tag written after it. -/
def execEncrypt (r : OpRef) (b : HostBuf) (s : State) : Host.Outcome State Fault Refusal :=
  .next (s.keyRead r 7 b (fun t o => t.keyReason o (some 0)) (fun o l t =>
    let out := bytesOf (gcmSeal (nats t.crucible) (nonceOf o.entry) (aadOf o.entry) (nats (l.take (l.length - 16))))
    t.keyWrite r o b out (fun u => u.inc R.CRU_USES)))

/-- DECRYPT (R411): the plaintext is written only where the tag verifies; else REFUSED, reason 7. -/
def execDecrypt (r : OpRef) (b : HostBuf) (s : State) : Host.Outcome State Fault Refusal :=
  .next (s.keyRead r 8 b (fun t o => t.keyReason o (some 1)) (fun o l t =>
    match gcmOpen (nats t.crucible) (nonceOf o.entry) (aadOf o.entry) (nats l) with
    | some m => t.keyWrite r o b (bytesOf m) (fun u => u.inc R.CRU_USES)
    | none => t.refuseKey r o 7))

/-- KEY_CLEAR (R411): the crucible is emptied. -/
def execKeyClear (r : OpRef) (s : State) : Host.Outcome State Fault Refusal :=
  .next (s.keyOp r 9 (fun t o => t.keyReason o none) (fun _ t => t.emptyKey.finishOpen r))

/-- EXPORT_TEST (R411, R413): outside debug, reason 9; in debug, the key in clear, padded with zeros to 32 bytes. -/
def execExportTest (r : OpRef) (b : HostBuf) (s : State) : Host.Outcome State Fault Refusal :=
  .next (s.keyOp r 13 (fun t o =>
      if !t.sec.rootOk then some 10 else if !t.sec.debug then some 9 else t.useReason o none) (fun o t =>
    t.keyWrite r o b (t.crucible ++ List.replicate (32 - t.crucible.length) 0#8) (fun u => u)))

/-- Secure Channel set-up of reader `a` of SERn (R415): its base key is loaded, by an internal user. -/
def State.loadBaseKey (s : State) (n a : Nat) : State :=
  match tget s.part.slots none (16 * n + a) with
  | none => s
  | some x =>
    match (if s.sec.rootOk then unwrapKey s.storeKek x.1 else none) with
    | some k => s.loadKey k 3 (2 + n) 512
    | none => s

/-! ## Tokens (R416, R417) -/

/-- Fields of a token. -/
def tokKind (t : List Byte) : Nat := (t.getD 4 0#8).toNat
def tokScope (t : List Byte) : Nat := (t.getD 5 0#8).toNat
def tokCounter (t : List Byte) : Nat := leNat ((t.drop 8).take 8)
def tokNotAfter (t : List Byte) : Nat := leNat ((t.drop 80).take 8)
def tokBody (t : List Byte) : List Byte := (t.drop 88).take 40

/-- The bytes of the body that a kind uses. -/
def bodyUsed (kind : Nat) : Nat :=
  match kind with
  | 1 => 10 | 2 => 1 | 3 => 1 | 4 => 32 | _ => 40

/-- Check 1 of R417. -/
def tokForm (t : List Byte) : Bool :=
  t.length == 4755 && leNat (t.take 4) == 0x4B545943 && Nat.blt (tokScope t) 2
    && ((t.drop 6).take 2).all (fun b => b == 0#8)
    && ((tokBody t).drop (bodyUsed (tokKind t))).all (fun b => b == 0#8)

/-- Check 3 of R417. -/
def State.tokTarget (s : State) (t : List Byte) : Bool :=
  let target := (t.drop 16).take 64
  if tokScope t = 0 then target == sha3_512 s.idKey
  else leNat (target.take 4) == s.rn R.REP_BUILDING && (target.drop 4).all (fun b => b == 0#8)

/-- The stored counter of a kind. -/
def State.tokenCtr (s : State) (kind : Nat) : Nat := tget s.part.ctr 0 kind

/-- The key that verifies tokens of a kind (R417); empty: there is none. -/
def State.tokenKey (s : State) (kind : Nat) : List Byte := if kind = 3 then debugKey else s.part.opKey

/-- The reason of the first check of R417 that fails; `body`: what the operation's arguments make of the body. -/
def State.tokenReason (s : State) (kind : Nat) (body t : List Byte) : Option Nat :=
  if !tokForm t then some 1
  else if tokKind t ≠ kind then some 2
  else if !s.tokTarget t || (kind == 3 && tokScope t != 0) then some 3
  else if tokNotAfter t ≠ 0 ∧ (s.g F.PTP_STATUS_VALID = 0 ∨ tokNotAfter t < s.ptpNs) then some 4
  else if tokCounter t ≤ s.tokenCtr kind then some 5
  else if (s.tokenKey kind).isEmpty then some 6
  else if !Config.mldsaVerify (s.tokenKey kind) (t.take 128) (ascii "CYNUTU-TOKEN") (t.drop 128) then some 7
  else if (tokBody t).take (bodyUsed kind) ≠ body then some 8
  else none

/-- A token refused (R417, R421). -/
def State.tokenFail (s : State) (t : List Byte) (reason who : Nat) : State :=
  ((s.inc R.CRU_TOKEN_FAILS).raise evCRU 1).post 0x6002 35 0 (tokKind t) reason who (tokCounter t)

/-- A token that passed every check (R417, R421). -/
def State.tokenPassed (s : State) (kind counter who opcode : Nat) : State :=
  (s.raise evCRU 2).post 0x6001 35 0 kind counter who opcode

/-- A token consumed when its act takes effect (R417). -/
def State.tokenUsed (s : State) (kind counter : Nat) : State :=
  let k := s.part
  s.setPart { k with ctr := tset k.ctr 0 kind counter }

/-- SET_OPERATOR (R411, R413, R417). -/
def execSetOperator (r : OpRef) (b : HostBuf) (s : State) : Host.Outcome State Fault Refusal :=
  .next (s.keyRead r 10 b (fun t o => t.keyReason o none) (fun o l t =>
    let who := callerOf r o
    let install := fun (u : State) (key : List Byte) (first : Bool) =>
      ((u.setPart { u.part with opKey := key }).raise evCRU 3).post 0x6006 35 0 (leNat ((sha3_512 key).take 4))
        (if first then 1 else 2) who
    if o.entry.bufLen = 2592 then
      if t.part.opKey.isEmpty then (install t l true).finishOpen r else t.refuseKey r o 8
    else
      let tok := l.take 4755
      let key := l.drop 4755
      match t.tokenReason 4 ((sha3_512 key).take 32) tok with
      | some reason => (t.tokenFail tok reason who).finishWith r 0x0A 0
      | none => ((install (t.tokenPassed 4 (tokCounter tok) who 0x48) key false).tokenUsed 4 (tokCounter tok)).finishOpen r))

/-- DEBUG_UNLOCK (R411, R419). -/
def execDebugUnlock (r : OpRef) (b : HostBuf) (s : State) : Host.Outcome State Fault Refusal :=
  .next (s.keyRead r 11 b (fun t o => t.keyReason o none) (fun o l t =>
    let who := callerOf r o
    match t.tokenReason 3 [1#8] l with
    | some reason => (t.tokenFail l reason who).finishWith r 0x0A 0
    | none =>
      let t1 := (t.tokenPassed 3 (tokCounter l) who 0x48).tokenUsed 3 (tokCounter l)
      let t2 := { t1 with sec := { t1.sec with debugNext := true } }
      ((t2.raise evCRU 4).post 0x6007 35 0 1 who).finishOpen r))

/-- DEBUG_LOCK (R411, R419). -/
def execDebugLock (r : OpRef) (s : State) : Host.Outcome State Fault Refusal :=
  .next (s.keyOp r 12 (fun t o => t.keyReason o none) (fun o t =>
    ((({ t with sec := { t.sec with debugNext := false } }).raise evCRU 4).post 0x6007 35 0 2 (callerOf r o)).finishOpen r))

/-! ## Tenant contexts (R97) -/

/-- A ring of either port that is enabled names context `c`. -/
def State.ctxNamed (s : State) (c : Nat) : Bool :=
  [0, 1].any (fun p => (List.range 64).any (fun n => s.sqOn p n && s.sqCtx p n == c))

/-- The tags of context `c` in the partition in use. -/
def State.bindCtx (s : State) (c : Nat) (tags : List Nat) : State :=
  { s with sec := { s.sec with
    ctx0 := if s.sec.debug then s.sec.ctx0 else tset s.sec.ctx0 [] c tags
    ctx1 := if s.sec.debug then tset s.sec.ctx1 [] c tags else s.sec.ctx1 } }

/-- CTX_BIND (R97, R417): a tenant context is bound or unbound. -/
def execCtxBind (r : OpRef) (b : HostBuf) (s : State) : Host.Outcome State Fault Refusal :=
  .next (s.withOp r 0x50 (fun _ => true) (fun o t =>
    let e := o.entry
    let who := callerOf r o
    if !t.sec.rootOk then t.finishWith r 0x0B 10
    else match readStatus e b with
      | 0 =>
        let tok := b.data.take e.bufLen
        match t.tokenReason 1 (natLE 1 e.arg0 ++ natLE 1 e.arg1 ++ e.arg3.take 8) tok with
        | some reason => (t.tokenFail tok reason who).finishWith r 0x0A 0
        | none =>
          let t1 := t.tokenPassed 1 (tokCounter tok) who 0x50
          if t1.ctxNamed e.arg0 then t1.finishWith r 0x0C 0
          else ((t1.bindCtx e.arg0 (bindTags e)).tokenUsed 1 (tokCounter tok)).finishWith r 0 0
      | st => t.finishWith r st 0))

end Sys2Proof.Machine
end

