-- ==== Sys2Proof/Machine/DaliSer.lean ====
section
/-! DEFINITION. The DALI-2 masters and the RS-485 ports (chapter 11, R272 to R279, R282, R283). -/

namespace Sys2Proof.Machine

/-! ## DALI -/

def State.dali (s : State) (n : Nat) : DaliS := tget s.fio.dali {} n

/-- A DALI master's state set, with the fields of DALIn_STATUS that show it (R282). -/
def State.setDali (s : State) (n : Nat) (x : DaliS) : State :=
  let s1 := { s with fio := { s.fio with dali := tset s.fio.dali {} n x } }
  (s1.p (F.DALI_STATUS_PENDING n) ((x.pend.filter (fun e => e.2.isSome)).length)).p
    (F.DALI_STATUS_RAW_BUSY n) (b2n x.raw.isSome)

/-- The level of a committed number (R273): rounded to nearest, ties to even, clamped to 0 to 254; none for
a NaN. -/
def daliLevel (x : FVal) : Option Nat :=
  match x with
  | .nan => none
  | .inf n => some (if n then 0 else 254)
  | .fin n m e =>
    let i := roundInt .nearest n m e
    some (if i < 0 then 0 else min i.toNat 254)

/-- A commit of output channel `dest` of DALI master `n` (R273): only the motor transmits (R275). The level of a
NaN, which only a force can bring, is a free value. -/
def State.daliCommit (s : State) (n dest typ v : Nat) : State :=
  let l := (daliLevel (slotNum typ v)).getD (s.fresh % 255)
  let s1 := if (daliLevel (slotNum typ v)).isSome then s else s.freshen
  let x := s1.dali n
  let pend := if s1.isButty then x.pend
    else tset x.pend none dest (if tget x.sent none dest = some l then none else some l)
  s1.setDali n { x with done := tset x.done none dest (some l), pend := pend }

/-- The order of pending levels (R273): broadcast, groups ascending, short addresses ascending. -/
def daliOrder : List Nat := [255] ++ (List.range 16).map (fun k => 64 + k) ++ List.range 64

/-- The pending level that goes next. -/
def DaliS.nextLevel (x : DaliS) : Option (Nat × Nat) :=
  daliOrder.findSome? (fun d => (tget x.pend none d).map (fun l => (d, l)))

/-- The 16 bits of DAPC to a destination, and of QUERY ACTUAL LEVEL to short address `a` (R272 to R274; PRESUMED, log entry
203: the frames of IEC 62386-102). -/
def dapcFrame (dest lvl : Nat) : Nat :=
  (if dest < 64 then 2 * dest else if dest < 80 then 128 + 2 * (dest - 64) else 254) * 256 + lvl
def queryFrame (a : Nat) : Nat := (2 * a + 1) * 256 + 0xA0

/-- A forward frame of master `n` goes out on its bus. -/
def State.daliOut (s : State) (n : Nat) (long : Bool) (frame : Nat) : State := s.emit (.dali n long frame)

/-- A master may start a frame: enabled, motor, its network core running (R8), bus up and idle. -/
def State.daliFree (s : State) (n : Nat) : Bool :=
  s.g (F.DALI_CTL_ENABLE n) == 1 && s.isMotor && s.core 1 && s.g (F.DALI_STATUS_BUS_DOWN n) == 0 && (s.dali n).tx.isNone
    && !(s.dali n).resend

/-- The queued raw frame goes where it may: no level pending, or it has waited 500 ms (R273). -/
def State.daliRaw (s : State) (n : Nat) : State :=
  let x := s.dali n
  match x.raw with
  | some r =>
    if s.daliFree n && (x.due || x.nextLevel.isNone) then
      ((s.setDali n { x with tx := some (.raw false), due := false }).count (480 + n)).daliOut n r.long
        (r.frame % 2 ^ (if r.long then 24 else 16))
    else s
  | none => s

/-- DALI_LEVEL_SEND (R273). -/
def execDaliLevelSend (n : Fin 4) (s : State) : Host.Outcome State Fault Refusal :=
  if !s.daliFree n || ((s.dali n).raw.isSome && (s.dali n).due) then .next s
  else match (s.dali n).nextLevel with
    | none => .next s
    | some (d, l) =>
      let x := s.dali n
      .next (((s.setDali n { x with
        pend := tset x.pend none d none, sent := tset x.sent none d (some l), tx := some (.level d l) }).count
        (480 + n)).daliOut n false (dapcFrame d l))

/-- The short addresses that input channels of master `n` are bound to (R274). -/
def State.daliBound (s : State) (n : Nat) : List Nat :=
  (List.range 64).filter (fun a => !(s.fieldSlots (0x20 + n) a).isEmpty)

/-- DALI_POLL (R274): a QUERY ACTUAL LEVEL to the next bound address. -/
def execDaliPoll (n : Fin 4) (s : State) : Host.Outcome State Fault Refusal :=
  let x := s.dali n
  let l := s.daliBound n
  if !s.daliFree n then .next s
  else match (l.find? (fun a => Nat.blt x.last a)).or l.head? with
    | none => .next s
    | some a =>
      .next (((s.setDali n { x with last := a, tx := some (.poll a false) }).count (480 + n)).daliOut n false (queryFrame a))

/-- The end of a raw frame with a RESULT (R282). -/
def State.daliRawEnd (s : State) (n result answer ev : Nat) : State :=
  ((((s.setDali n { s.dali n with raw := none, due := false }).p (F.DALI_RAW_RX_RESULT n) result).p
    (F.DALI_RAW_RX_ANSWER n) answer)).raise (evDALI n) ev

/-- DALI_FRAME_RECEIVE (R274, R282): a backward frame, or an event message of a control device. -/
def execDaliFrameReceive (n : Fin 4) (f : DaliRx) (s : State) : Host.Outcome State Fault Refusal :=
  if s.g (F.DALI_CTL_ENABLE n) = 0 ∨ s.g (F.DALI_STATUS_BUS_DOWN n) = 1 then .next s
  else
    let x := s.dali n
    match f with
    | .event a frame =>
      .next (if s.isButty then s
        else s.putChannel (0x20 + n) (64 + a % 64) (putAs [1] (fun _ => some (frame % 2 ^ 24)) 1))
    | .answer b =>
      match x.tx with
      | some (.poll a false) =>
        let s1 := s.setDali n { x with tx := some (.poll a true), miss := tset x.miss 0 a 0 }
        .next (s1.putChannel (0x20 + n) a
          (if b % 256 = 255 then putQual [1] 6 else putAs [1] (fun _ => some (b % 256)) 1))
      | some (.raw false) =>
        .next (if x.raw.any (fun r => r.expect) then
          (s.setDali n { x with tx := some (.raw true) }).daliRawEnd n 2 (b % 256) 2 else s)
      | _ => .next s

/-- DALI_FRAME_DONE (R273 to R275, R282): the forward frame ends with its settling or answer window, `coll`
collisions having repeated it. -/
def execDaliFrameDone (n : Fin 4) (e : DaliEnd) (coll : Nat) (s : State) : Host.Outcome State Fault Refusal :=
  let x := s.dali n
  let s0 := s.inc (R.DALI_COLLISIONS n) coll
  let s1 := s0.setDali n { x with tx := none }
  match x.tx with
  | none => .next s
  | some (.level d l) =>
    .next ((if e = .collisionLimit ∧ (tget x.pend none d).isNone then
      s1.setDali n { s1.dali n with pend := tset x.pend none d (some l) } else s1).daliRaw n)
  | some (.poll _ true) => .next (s1.daliRaw n)
  | some (.poll a false) =>
    let k := tget x.miss 0 a + 1
    let s2 := (s1.setDali n { s1.dali n with miss := tset x.miss 0 a k }).inc (R.DALI_NOANSWER n)
    let s3 := if 2 ≤ k then s2.putChannel (0x20 + n) a (putQual [1] 5) else s2
    .next (s3.daliRaw n)
  | some (.raw true) => .next (s1.daliRaw n)
  | some (.raw false) =>
    .next (if e = .collisionLimit then s1.daliRawEnd n 4 0 2
      else if x.raw.any (fun r => r.expect) then (s1.inc (R.DALI_NOANSWER n)).daliRawEnd n 3 0 3
      else s1.daliRawEnd n 1 0 2)

/-- DALI_RAW_WAIT_EXPIRE (R273): a queued raw frame has waited 500 ms. -/
def execDaliRawWaitExpire (n : Fin 4) (s : State) : Host.Outcome State Fault Refusal :=
  let x := s.dali n
  .next (if x.raw.isSome && x.tx != some (.raw false) then (s.setDali n { x with due := true }).daliRaw n else s)

/-- A write of DALIn_RAW_TX (R282). -/
def State.daliRawWrite (s : State) (n v : Nat) : State :=
  if !natBit v 31 then s.wn (R.DALI_RAW_TX n) v
  else if (s.dali n).raw.isSome then s.p (F.DALI_RAW_RX_RESULT n) 5
  else
    let s1 := s.wn (R.DALI_RAW_TX n) v
    if 2 ≤ bits v 28 2 then s1.p (F.DALI_RAW_RX_RESULT n) 5
    else (s1.setDali n { s1.dali n with
      raw := some ⟨natBit v 28, natBit v 30, bits v 0 24⟩, due := false }).daliRaw n

/-- DALI_RAW_SEND (R282): port `p` writes DALIn_RAW_TX with SEND 1. -/
def execDaliRawSend (p : Fin 2) (n : Fin 4) (v : Word) (s : State) : Host.Outcome State Fault Refusal :=
  .next (if s.linkUp p then s.regWrite p (R.DALI_RAW_TX n) (fun t => t.daliRawWrite n (setBits v.toNat 31 1 1))
    else s)

/-- DALI_BUS_DOWN (R275). -/
def execDaliBusDown (n : Fin 4) (s : State) : Host.Outcome State Fault Refusal :=
  if s.g (F.DALI_STATUS_BUS_DOWN n) = 1 then .next s
  else
    let s1 := (s.p (F.DALI_STATUS_BUS_DOWN n) 1).raise (evDALI n) 0
    let x := s1.dali n
    let s2 := s1.setDali n { x with tx := none }
    let s3 := if x.raw.isSome then s2.daliRawEnd n 6 0 2 else s2
    .next (if s3.isButty then s3
      else (List.range 128).foldl (fun t c => t.putChannel (0x20 + n) c (putQual [1] 5)) s3)

/-- Every last committed level pending again (R275). -/
def State.daliResend (s : State) (n : Nat) : State :=
  let x := s.dali n
  s.setDali n { x with pend := x.done, resend := false }

/-- DALI_BUS_UP (R275): 100 ms of bus voltage. -/
def execDaliBusUp (n : Fin 4) (s : State) : Host.Outcome State Fault Refusal :=
  if s.g (F.DALI_STATUS_BUS_DOWN n) = 0 then .next s
  else
    let s1 := (s.p (F.DALI_STATUS_BUS_DOWN n) 0).raise (evDALI n) 1
    .next (if s1.isMotor then (s1.setDali n { s1.dali n with miss := [] }).daliResend n else s1)

/-- DALI_TAKEOVER_RESEND (R275): a new motor after 100 ms of bus idle. -/
def execDaliTakeoverResend (n : Fin 4) (s : State) : Host.Outcome State Fault Refusal :=
  .next (if (s.dali n).resend && s.isMotor then (s.daliResend n).daliRaw n else s)

/-! ## Serial ports -/

def State.ser (s : State) (n : Nat) : SerS := tget s.fio.ser {} n

/-- A serial port's state set, with the fields of SERn_STATUS that show it. -/
def State.setSer (s : State) (n : Nat) (x : SerS) : State :=
  let s1 := { s with fio := { s.fio with ser := tset s.fio.ser {} n x } }
  (s1.p (F.SER_STATUS_ONLINE n) (min 255 x.online.length)).p (F.SER_STATUS_BUSY n) (b2n x.txn.isSome)

/-- PROTO with 3 taken as OFF. -/
def State.serProto (s : State) (n : Nat) : Nat := if s.g (F.SER_CFG_PROTO n) = 3 then 0 else s.g (F.SER_CFG_PROTO n)

def State.serRetries (s : State) (n : Nat) : Nat := min 5 (s.g (F.SER_CFG_RETRIES n))

/-- The Modbus entries and the OSDP readers of port `n`. -/
def State.mbEntries (s : State) (n : Nat) : List MbEntry := tget s.set.mb [] n
def State.readers (s : State) (n : Nat) : List OsdpReader := tget s.set.osdp [] n

/-- The device or reader of a transaction: device d as d, reader a as 256 + a. -/
def State.serDevice (s : State) (n : Nat) : SerKind → Nat
  | .mbPoll c => ((s.mbEntries n)[c]?.map (fun e => e.dev)).getD 0
  | .mbWrite c _ _ => ((s.mbEntries n)[c]?.map (fun e => e.dev)).getD 0
  | .osdpPoll a => 256 + a
  | .osdpSend a _ => 256 + a

/-- The remote station of a transaction; 255 none. -/
def State.serStation (s : State) (n : Nat) : SerKind → Nat
  | .mbPoll c => ((s.mbEntries n)[c]?.map (fun e => e.station)).getD 255
  | .mbWrite c _ _ => ((s.mbEntries n)[c]?.map (fun e => e.station)).getD 255
  | .osdpPoll a => ((s.readers n)[a]?.map (fun e => e.station)).getD 255
  | .osdpSend a _ => ((s.readers n)[a]?.map (fun e => e.station)).getD 255

/-- A port may begin a transaction: the motor polls, its network core runs (R8), no transaction runs, no takeover wait. -/
def State.serFree (s : State) (n : Nat) : Bool := s.isMotor && s.core 1 && (s.ser n).txn.isNone && !(s.ser n).wait

/-- The words of a value in the format of a write entry, in the order in which they go (R277); none where the format has no
such value. -/
def mbWords (e : MbEntry) (typ v : Nat) : Option (List Nat) :=
  let two := fun (d : Nat) => if e.highFirst then [d / 65536, d % 65536] else [d % 65536, d / 65536]
  if e.fmt = 4 then some (two (b32.enc 0 (slotNum typ v)))
  else match slotNum typ v with
    | .fin n m x =>
      let i := roundInt .nearest n m x
      let (lo, hi, w) := match e.fmt with
        | 0 => ((0 : Int), (65535 : Int), 16)
        | 1 => (-32768, 32767, 16)
        | 2 => (0, 4294967295, 32)
        | _ => (-2147483648, 2147483647, 32)
      if i < lo ∨ hi < i then none else some (if w = 16 then [ofSigned 16 i] else two (ofSigned 32 i))
    | _ => none

/-- A word as Modbus sends it, the high byte first. -/
def mbBytes (w : Nat) : List Byte := [BitVec.ofNat 8 (w / 256), BitVec.ofNat 8 w]

/-- A Modbus RTU frame: its bytes and their CRC, the low byte first. -/
def mbFrame (l : List Byte) : List Byte := l ++ natLE 2 (crc16modbus l)

/-- The request of an entry (R276, R277; PRESUMED, log entry 204: the frames of the Modbus protocol): a poll, or a write of the
words given. -/
def mbRequest (e : MbEntry) (l : Option (List Nat)) : List Byte :=
  let head := [BitVec.ofNat 8 e.dev, BitVec.ofNat 8 e.fn] ++ mbBytes e.addr
  mbFrame (match l with
    | none => head ++ mbBytes e.count
    | some ws =>
      if e.fn = 5 then head ++ mbBytes (if ws.any (fun w => w != 0) then 0xFF00 else 0)
      else if e.fn = 6 then head ++ mbBytes (ws.getLast?.getD 0)
      else head ++ mbBytes ws.length ++ [BitVec.ofNat 8 (2 * ws.length)] ++ ws.flatMap mbBytes)

/-- The baud and the parity of port `n`, the values that the register takes for others done (R283). -/
def State.serBaud (s : State) (n : Nat) : Nat := if 4 < s.g (F.SER_CFG_BAUD n) then 0 else s.g (F.SER_CFG_BAUD n)
def State.serParity (s : State) (n : Nat) : Nat := if s.g (F.SER_CFG_PARITY n) = 3 then 0 else s.g (F.SER_CFG_PARITY n)

/-- The request of a transaction goes out. The words of a value that the entry's format does not have are free ones (DESIGN
CHOICE, log entry 205). -/
def State.serSend (s : State) (n : Nat) (k : SerKind) : State :=
  let frame := fun (b : List Byte) => Out.serial n (s.serBaud n) (s.serParity n) b
  let reader := fun (a : Nat) => ((s.readers n)[a]?.map (fun r => r.addr)).getD 0
  match k with
  | .mbPoll c =>
    (match (s.mbEntries n)[c]? with
      | some e => s.emit (frame (mbRequest e none))
      | none => s)
  | .mbWrite c typ v =>
    (match (s.mbEntries n)[c]? with
      | some e =>
        (match mbWords e typ v.toNat with
          | some l => s.emit (frame (mbRequest e (some l)))
          | none =>
            let d := s.fresh % 2 ^ 32
            s.freshen.emit (frame (mbRequest e (some (if e.fmt < 2 then [d % 65536] else [d / 65536, d % 65536])))))
      | none => s)
  | .osdpPoll a => s.emit (.osdp n (s.serBaud n) (reader a) none)
  | .osdpSend a v => s.emit (.osdp n (s.serBaud n) (reader a) (some v))

/-- A transaction begun. -/
def State.serStart (s : State) (n : Nat) (k : SerKind) : State :=
  (((s.setSer n { s.ser n with txn := some (k, s.serRetries n) }).inc (R.SER_TXN n)).count (484 + n)).serSend n k

/-- MODBUS_POLL (R277): entry `c` falls due. -/
def execModbusPoll (n : Fin 2) (c : Fin 256) (s : State) : Host.Outcome State Fault Refusal :=
  .next (match (s.mbEntries n)[c.val]? with
    | none => s
    | some e =>
      if s.serProto n = 1 ∧ s.serFree n ∧ (s.ser n).queue.isEmpty ∧ e.fn < 5 then
        s.serStart n (.mbPoll c)
      else s)

/-- Output channel `c` of port `n` stands for something that can be written (R277, R278): an entry of function 5, 6 or 16, or a
reader. -/
def State.serWritable (s : State) (n c : Nat) : Bool :=
  if s.serProto n = 2 then Nat.blt c (s.readers n).length
  else (s.mbEntries n)[c]?.any (fun e => [5, 6, 16].contains e.fn)

/-- A commit of output channel `c` of port `n` (R277, R278): a Modbus write entry whose value changes, or an
OSDP pattern. The butty only receives (R279). -/
def State.serCommit (s : State) (n c typ v : Nat) : State :=
  let x := s.ser n
  let w := BitVec.ofNat 64 v
  let changed := tget x.last none c != some w
  let k : SerKind := if s.serProto n = 2 then .osdpSend c v else .mbWrite c typ w
  let same := fun (q : SerKind) => match q, k with
    | .mbWrite a _ _, .mbWrite b _ _ => a == b
    | .osdpSend a _, .osdpSend b _ => a == b
    | _, _ => false
  let go := s.isMotor && s.serProto n != 0 && s.serWritable n c && (changed || s.serProto n == 2)
  s.setSer n { x with
    last := tset x.last none c (some w)
    queue := if go then x.queue.filter (fun q => !same q) ++ [k] else x.queue }

/-- MODBUS_WRITE (R277): the oldest queued write is sent. -/
def execModbusWrite (n : Fin 2) (s : State) : Host.Outcome State Fault Refusal :=
  let x := s.ser n
  if !s.serFree n || s.serProto n != 1 then .next s
  else match x.queue with
    | [] => .next s
    | k :: rest => .next ((s.setSer n { x with queue := rest }).serStart n k)

/-- OSDP_POLL (R278, R279, R415): reader `a` is polled, or sent the pattern that waits for it. `session`: a new Secure
Channel session is set up first, for which the reader's base key is loaded into the crucible; so it is at the first poll of a
reader whose session a switch-over has ended. -/
def execOsdpPoll (n : Fin 2) (a : Fin 16) (session : Bool) (s0 : State) : Host.Outcome State Fault Refusal :=
  if !s0.serFree n || s0.serProto n != 2 || !(Nat.blt a.val (s0.readers n).length) then .next s0
  else
    let y := s0.ser n
    let open_ := session || y.reopen.contains a.val
    let s := if open_ then (s0.loadBaseKey n a).setSer n { y with
        session := y.session.filter (fun r => r != a.val) ++ [a.val], reopen := y.reopen.filter (fun r => r != a.val) } else s0
    let x := s.ser n
    let mine := fun (q : SerKind) => match q with | .osdpSend b _ => b == a.val | _ => false
    match x.queue.find? mine with
    | some k => .next ((s.setSer n { x with queue := x.queue.filter (fun q => !mine q) }).serStart n k)
    | none => .next (s.serStart n (.osdpPoll a))

/-- The value of a Modbus entry decoded from its words (R277) into a slot of type `typ`; none where the type
cannot hold it. -/
def mbDecode (e : MbEntry) (l : List Nat) (typ : Nat) : Option Nat :=
  let w0 := l.getD 0 0 % 65536
  let w1 := l.getD 1 0 % 65536
  let d := if e.highFirst then w0 * 65536 + w1 else w1 * 65536 + w0
  let int := fun (i : Int) => numSlot typ (.fin (decide (i < 0)) i.natAbs 0)
  if e.fn = 1 ∨ e.fn = 2 then int (w0 % 2)
  else match e.fmt with
    | 0 => int w0
    | 1 => int (toSigned 16 w0)
    | 2 => int d
    | 3 => int (toSigned 32 d)
    | _ => numSlot typ (b32.dec d)

/-- The types of a Modbus input slot (R277). -/
def mbTypes : List Nat := [1, 2, 3]

/-- The input slots of a transaction written. -/
def State.serPut (s : State) (n : Nat) (k : SerKind) (q : Nat) : State :=
  match k with
  | .mbPoll c => s.putChannel (0x30 + n) c (putQual mbTypes q)
  | .osdpPoll a => (s.putChannel (0x30 + n) (2 * a) (putQual [2] q)).putChannel (0x30 + n) (2 * a + 1) (putQual [6] q)
  | _ => s

/-- A device answers: it is online, its failures end, and its station is declared back (R279), by whichever module of a pair it
was declared lost. -/
def State.serAlive (s : State) (n : Nat) (k : SerKind) : State :=
  let x := s.ser n
  let d := s.serDevice n k
  let st := s.serStation n k
  let s1 := s.setSer n { x with
    fails := tset x.fails 0 d 0
    online := if x.online.contains d then x.online else x.online ++ [d]
    silent := x.silent.filter (fun j => j != d)
    lost := x.lost.filter (fun j => j != st) }
  if st ≠ 255 ∧ (x.lost.contains st || s.scn.lost.contains st) then (s1.raise (evSER n) 1).stationBack st else s1

/-- A station of port `n` declared lost (R279). -/
def State.serLost (s : State) (n st : Nat) : State :=
  let x := s.ser n
  if st = 255 ∨ x.lost.contains st then s
  else ((s.setSer n { x with lost := x.lost ++ [st] }).raise (evSER n) 0).stationLost st

/-- SER_REPLY (R276 to R278): a reply completes the transaction; `framing`: it was broken. -/
def execSerReply (n : Fin 2) (r : SerReply) (framing : Bool) (s : State) : Host.Outcome State Fault Refusal :=
  match (s.ser n).txn with
  | none => .next s
  | some (k, _) =>
    if framing then .next (s.raise (evSER n) 3)
    else
      let s1 := (s.setSer n { s.ser n with txn := none }).serAlive n k
      match r, k with
      | .exception code, _ => .next ((s1.raise (evSER n) 2).serPut n k (if code = 2 then 7 else 5))
      | .words l, .mbPoll c =>
        match (s1.mbEntries n)[c]? with
        | some e => .next (s1.putChannel (0x30 + n) c (fun x =>
            match mbTypes.contains x.typ, mbDecode e l x.typ with
            | true, some v => { x with value := BitVec.ofNat 64 v, quality := 1 }
            | _, _ => { x with value := 0#64, quality := 7 }))
        | none => .next s1
      | .reader card st, .osdpPoll a =>
        let s2 := match card with
          | some v => s1.putChannel (0x30 + n) (2 * a) (putAs [2] (fun _ => some (v % 2 ^ 64)) 1)
          | none => s1
        .next (s2.putChannel (0x30 + n) (2 * a + 1) (putAs [6] (fun _ => some (st % 4 + 4)) 1))
      | _, _ => .next s1

/-- SER_TIMEOUT (R276, R277, R279): no reply within TIMEOUT_MS. -/
def execSerTimeout (n : Fin 2) (s : State) : Host.Outcome State Fault Refusal :=
  let x := s.ser n
  match x.txn with
  | none => .next s
  | some (k, t + 1) => .next ((s.setSer n { x with txn := some (k, t) }).serSend n k)
  | some (k, 0) =>
    let d := s.serDevice n k
    let f := tget x.fails 0 d + 1
    let s1 := (s.setSer n { x with
      txn := none, fails := tset x.fails 0 d f, online := x.online.filter (fun j => j != d) }).inc (R.SER_FAILED n)
    let s2 := match k with
      | .mbPoll _ => s1.serPut n k 5
      | _ => s1
    .next (if 3 ≤ f then s2.serLost n (s2.serStation n k) else s2)

/-- OSDP_READER_SILENT (R278, R279): reader `a` has been silent for 8 s. -/
def execOsdpReaderSilent (n : Fin 2) (a : Fin 16) (s : State) : Host.Outcome State Fault Refusal :=
  let x := s.ser n
  let k := SerKind.osdpPoll a
  let d := s.serDevice n k
  if s.serProto n ≠ 2 ∨ !(Nat.blt a.val (s.readers n).length) ∨ x.silent.contains d ∨ s.isButty then .next s
  else
    let s1 := s.setSer n { x with silent := x.silent ++ [d], online := x.online.filter (fun j => j != d) }
    .next ((s1.serPut n k 5).serLost n (s1.serStation n k))

/-- A write of SERn_CFG (R283): applied while PROTO is 0, or when it sets PROTO to 0. -/
def State.serCfgWrite (s : State) (n v : Nat) : State :=
  let off := fun m => m % 4 == 0 || m % 4 == 3
  if off (s.rn (R.SER_CFG n)) || off v then
    let w := bits v 0 11 + clampN 10 2000 (bits v 16 16) * 65536
    let s1 := s.wn (R.SER_CFG n) w
    if off v then s1.setSer n { s1.ser n with txn := none, queue := [], online := [] } else s1
  else s

/-- SER_CFG_WRITE (R283): port `p` writes SERn_CFG. -/
def execSerCfgWrite (p : Fin 2) (n : Fin 2) (v : Word) (s : State) : Host.Outcome State Fault Refusal :=
  .next (if s.linkUp p then s.regWrite p (R.SER_CFG n) (fun t => t.serCfgWrite n v.toNat) else s)

/-- SER_TAKEOVER_RESUME (R279): 2 × TIMEOUT_MS after a takeover. -/
def execSerTakeoverResume (n : Fin 2) (s : State) : Host.Outcome State Fault Refusal :=
  .next (s.setSer n { s.ser n with wait := false })

/-- The field units of a new motor (R268, R275, R279): it converts from its next frame on, transactions in progress are
abandoned, and Secure Channel sessions are opened anew. -/
def State.fieldTakeover (s : State) : State :=
  let s1 := (List.range 4).foldl (fun t n => t.setDali n { t.dali n with resend := true, tx := none }) s
  let s2 := (List.range 2).foldl (fun t n =>
    let x := t.ser n
    t.setSer n { x with txn := none, wait := true, session := [], reopen := x.reopen ++ x.session }) s1
  { s2 with fio := { s2.fio with uiFrom := s2.ptpNs } }

/-- The field units of a module that is motor no more (R44, R275, R279): its frames and transactions end where they are. -/
def State.fieldYield (s : State) : State :=
  let s1 := (List.range 4).foldl (fun t n => t.setDali n { t.dali n with tx := none }) s
  (List.range 2).foldl (fun t n => t.setSer n { t.ser n with txn := none, queue := [] }) s1

end Sys2Proof.Machine
end

