-- ==== Sys2Proof/Machine/Can.lean ====
section
/-! DEFINITION. The CAN FD controllers (chapter 14, R338 to R353). -/

namespace Sys2Proof.Machine

/-! ## State -/

def State.canc (s : State) (n : Nat) : CanS := tget s.can {} n
def State.setCan (s : State) (n : Nat) (x : CanS) : State := { s with can := tset s.can {} n x }
def State.canSet (s : State) (n : Nat) : CanSet := tget s.set.can {} n
def State.txb (s : State) (n b : Nat) : TxBuf := tget (s.canc n).buf {} b
def State.setTxb (s : State) (n b : Nat) (x : TxBuf) : State :=
  s.setCan n { s.canc n with buf := tset (s.canc n).buf {} b x }

/-- Buffer `b` is MAPPED (R341). -/
def State.canMapped (s : State) (n b : Nat) : Bool := (s.canSet n).mapped.any (fun m => m.buf == b)

def State.canOn (s : State) (n : Nat) : Bool := s.g (F.CAN_CTL_ENABLE n) == 1
def State.canState (s : State) (n : Nat) : Nat := s.g (F.CAN_STATUS_STATE n)

/-- Listen-only is in effect (R348): required now, or not yet left. -/
def State.canListen (s : State) (n : Nat) : Bool :=
  s.g (F.CAN_STATUS_LISTEN n) == 1 || s.g (F.CAN_CTL_LISTEN n) == 1 || s.isButty

/-- STATUS.LISTEN set where listen-only is required (R348). -/
def State.canEnterListen (s : State) (n : Nat) : State :=
  if s.g (F.CAN_CTL_LISTEN n) == 1 || s.isButty then s.p (F.CAN_STATUS_LISTEN n) 1 else s

/-- The buffer that is ACTIVE. -/
def State.canActive (s : State) (n : Nat) : Option Nat :=
  ((s.canc n).buf.find? (fun e => e.2.st == .active)).map (fun e => e.1)

/-- A flag of a frame's control word: 4 RTR, 5 IDE, 6 FDF, 7 BRS, 8 AT. -/
def ctlBit (ctl k : Nat) : Bool := natBit ctl k

/-- Bytes of a data length code (R338). -/
def dlcLen (fdf : Bool) (dlc : Nat) : Nat :=
  if !fdf then min dlc 8
  else match dlc with
    | 9 => 12 | 10 => 16 | 11 => 20 | 12 => 24 | 13 => 32 | 14 => 48 | 15 => 64 | k => k

/-- The data bytes that a frame carries. -/
def txData (ctl data : Nat) : Nat :=
  if ctlBit ctl 4 then 0 else data % 2 ^ (8 * dlcLen (ctlBit ctl 6) (ctl % 16))

/-! ## Enable and bit timing (R340, R343) -/

/-- The checks of R340 at a write of ENABLE 1. Clocks of 80 MHz in a nominal bit: 80 to 8,000. -/
def State.canTimingOk (s : State) (n : Nat) : Bool :=
  let nom := (s.g (F.CAN_NBT_NBRP n) + 1) * (3 + s.g (F.CAN_NBT_NTSEG1 n) + s.g (F.CAN_NBT_NTSEG2 n))
  let dat := (s.g (F.CAN_DBT_DBRP n) + 1) * (3 + s.g (F.CAN_DBT_DTSEG1 n) + s.g (F.CAN_DBT_DTSEG2 n))
  Nat.ble 80 nom && Nat.ble nom 8000 && Nat.ble dat nom && Nat.ble 10 dat
    && (Nat.ble 80 dat || s.g (F.CAN_TDC_TDC_EN n) == 1)

/-- A write of CANn_CTL (R340, R343, R348). -/
def State.canCtlWrite (s : State) (n v : Nat) : State :=
  let was := s.canOn n
  let keep := bits v 1 2 * 2 + bits v 4 2 * 16 + (if was then s.g (F.CAN_CTL_FD_EN n) else bits v 3 1) * 8
  let s1 := (s.wn (R.CAN_CTL n) (keep + b2n was)).canEnterListen n
  if natBit v 0 then
    if was then s1
    else if !s1.canTimingOk n then s1.raise (evCAN n) 14
    else ((s1.wn (R.CAN_CTL n) (keep + 1)).wn (R.CAN_STATUS n) (1 + 64)).canEnterListen n
  else if was then
    (s1.wn (R.CAN_CTL n) keep).wn (R.CAN_STATUS n) (s1.rn (R.CAN_STATUS n) &&& 0xFFFF04)
  else s1

/-- CAN_ENABLE (R340): port `p` writes CANn_CTL with ENABLE 1. -/
def execCanEnable (p : Fin 2) (n : Fin 4) (v : Word) (s : State) : Host.Outcome State Fault Refusal :=
  .next (if s.linkUp p then s.regWrite p (R.CAN_CTL n) (fun t => t.canCtlWrite n (setBits v.toNat 0 1 1)) else s)

/-- CAN_BUS_JOIN (R340): 11 recessive bits have been seen. -/
def execCanBusJoin (n : Fin 4) (s : State) : Host.Outcome State Fault Refusal :=
  .next (if s.canOn n && s.g (F.CAN_STATUS_SYNCING n) == 1 then
      (s.p (F.CAN_STATUS_SYNCING n) 0).p (F.CAN_STATUS_IDLE n) 1 else s)

/-! ## Buffers (R341, R344, R345, R350) -/

/-- The frame check of a request (R341). -/
def State.canFrameOk (s : State) (n ctl : Nat) : Bool :=
  (!ctlBit ctl 6 || s.g (F.CAN_CTL_FD_EN n) == 1) && (!ctlBit ctl 7 || ctlBit ctl 6)
    && !(ctlBit ctl 4 && ctlBit ctl 6)

/-- A buffer whose content may be requested: EMPTY, SENT, CANCELLED or SENT_CANCEL_LATE. -/
def TxBuf.free (x : TxBuf) : Bool :=
  x.st == .empty || x.st == .sent || x.st == .cancelled || x.st == .sentLate

/-- A request of HOST buffer `b` (R341, R344). -/
def State.canRequest (s : State) (n b : Nat) : State :=
  let x := s.txb n b
  if s.canMapped n b || !x.free then s
  else if !s.canFrameOk n x.ctl then s.raise (evCAN n) 14
  else
    let y := { x with attempts := 0, coalesced := 0, echoed := false, late := false, cancel := false }
    if !ctlBit x.ctl 8 then s.setTxb n b { y with st := .pending }
    else if x.time ≤ s.ptpNs then (s.setTxb n b { y with st := .pending, late := true }).raise (evCAN n) 3
    else s.setTxb n b { y with st := .waitTime }

/-- A write of CANn_TX_REQ: 32 buffers from `b0`. -/
def State.canReqWrite (s : State) (n b0 v : Nat) : State :=
  (List.range 32).foldl (fun t k => if natBit v k then t.canRequest n (b0 + k) else t) s

/-- TX_REQUEST (R341): port `p` writes 1 to the request bit of buffer `b`. -/
def execTxRequest (p : Fin 2) (n : Fin 4) (b : Fin 64) (s : State) : Host.Outcome State Fault Refusal :=
  .next (if s.linkUp p then
      s.regWrite p (R.CAN_TX_REQ_LO n + 4 * (b.val / 32)) (fun t => t.canRequest n b) else s)

/-- The end of a buffer's attempt: a refill that waited applies (R341). -/
def State.canAfter (s : State) (n b : Nat) (st : TxSt) : State :=
  let x := s.txb n b
  let y := { x with st := st, cancel := false }
  if x.refill then
    let z := { y with data := x.next.getD x.data, next := none, refill := false, st := .pending }
    s.setTxb n b (if st = .pending then { z with coalesced := min 65535 (z.coalesced + 1) }
      else { z with attempts := 0, coalesced := 0, echoed := false, late := false })
  else s.setTxb n b { y with data := x.next.getD x.data, next := none }

/-- A cancel of buffer `b` (R345); `won`: an ACTIVE frame has won arbitration. -/
def State.canCancel (s : State) (n b : Nat) (won : Bool) : State :=
  let x := s.txb n b
  match x.st with
  | .waitTime => (s.setTxb n b { x with st := .cancelled }).raise (evCAN n) 1
  | .pending => (s.setTxb n b { x with st := .cancelled }).raise (evCAN n) 1
  | .active =>
    if won then s.setTxb n b { x with cancel := true } else (s.canAfter n b .cancelled).raise (evCAN n) 1
  | _ => s

/-- A write of CANn_TX_CANCEL: 32 buffers from `b0`; a frame on the wire is taken as having won arbitration. -/
def State.canCancelWrite (s : State) (n b0 v : Nat) : State :=
  (List.range 32).foldl (fun t k => if natBit v k then t.canCancel n (b0 + k) true else t) s

/-- TX_CANCEL (R345): port `p` writes 1 to the cancel bit of buffer `b`; `won`: at the CAN clock in which it
arrives an ACTIVE frame has won arbitration. -/
def execTxCancel (p : Fin 2) (n : Fin 4) (b : Fin 64) (won : Bool) (s : State) :
    Host.Outcome State Fault Refusal :=
  .next (if s.linkUp p then
      s.regWrite p (R.CAN_TX_CANCEL_LO n + 4 * (b.val / 32)) (fun t => t.canCancel n b won) else s)

/-- TX_TIME_REACHED (R344). -/
def execTxTimeReached (n : Fin 4) (b : Fin 64) (s : State) : Host.Outcome State Fault Refusal :=
  let x := s.txb n b
  .next (if x.st = .waitTime then
      let s1 := s.advanceToPtp x.time
      s1.setTxb n b { x with st := .pending, late := x.late || s1.canState n == 3 }
    else s)

/-- A forward step of the PTP clock (R344): WAIT_TIME buffers whose TIME it passes become PENDING, LATE. -/
def State.canClockStep (s : State) : State :=
  (List.range 4).foldl (fun t n =>
    ((t.canc n).buf.filter (fun e => e.2.st == .waitTime && Nat.ble e.2.time t.ptpNs)).foldl (fun u e =>
      (u.setTxb n e.1 { e.2 with st := .pending, late := true }).raise (evCAN n) 3) t) s

/-- A refill of MAPPED buffer `b` with the data `d` (R341, R350). -/
def State.canRefill (s : State) (n b d : Nat) : State :=
  let x := s.txb n b
  match x.st with
  | .active => s.setTxb n b { x with refill := true, next := some d }
  | .pending => s.setTxb n b { x with data := d, coalesced := min 65535 (x.coalesced + 1) }
  | .waitTime => s.setTxb n b { x with data := d, coalesced := min 65535 (x.coalesced + 1) }
  | _ => s.setTxb n b { x with data := d, st := .pending, attempts := 0, coalesced := 0, echoed := false, late := false }

/-- The content that the next refill of a buffer starts from. -/
def TxBuf.content (x : TxBuf) : Nat := x.next.getD x.data

/-! ## Signals (R350) -/

/-- The bits of a signal in order from its least significant: positions in a frame's data. Little-endian from
the start bit up; big-endian from the start bit, the most significant, down within a byte and on to the next
byte's bit 7. -/
def sigBits (g : CanSig) : List Nat :=
  if !g.big then (List.range g.len).map (fun k => g.start + k)
  else
    let first := g.start / 8 * 8 + (7 - g.start % 8)
    ((List.range g.len).map (fun k => let q := first + k; q / 8 * 8 + (7 - q % 8))).reverse

/-- The bits of a signal in a frame's data. -/
def sigRead (g : CanSig) (data : Nat) : Nat :=
  (sigBits g).foldr (fun p acc => 2 * acc + b2n (natBit data p)) 0

/-- The data with a signal's bits set to `v`. -/
def sigWrite (g : CanSig) (data v : Nat) : Nat :=
  ((sigBits g).foldl (fun (a : Nat × Nat) p => (setBits a.1 p 1 (a.2 % 2), a.2 / 2)) (data, v)).1

/-- The number that a signal's bits stand for. -/
def sigNum (g : CanSig) (raw : Nat) : FVal :=
  match g.fmt with
  | 0 => .fin false raw 0
  | 1 => let i := toSigned g.len raw; .fin (decide (i < 0)) i.natAbs 0
  | 2 => b32.dec (raw % 2 ^ 32)
  | _ => b64.dec (raw % 2 ^ 64)

/-- A number as a signal's bits, rounded to nearest with ties to even and clamped to the field; none for a NaN
in an integer field. -/
def sigEncode (g : CanSig) (x : FVal) : Option Nat :=
  let lo : Int := if g.fmt = 1 then -(2 ^ (g.len - 1) : Nat) else 0
  let hi : Int := if g.fmt = 1 then (2 ^ (g.len - 1) : Nat) - 1 else (2 ^ g.len : Nat) - 1
  match g.fmt, x with
  | 2, y => some (b32.enc 0 y)
  | 3, y => some (b64.enc 0 y)
  | _, .nan => none
  | _, .inf n => some (ofSigned g.len (if n then lo else hi))
  | _, .fin n m e => some (ofSigned g.len (max lo (min hi (roundInt .nearest n m e))))

/-- A commit of transmit signal `c` of controller `n` (R350). -/
def State.canCommit (s : State) (n c typ v : Nat) : State :=
  match (s.canSet n).tx[c]? with
  | none => s
  | some g =>
    let e := sigEncode g (slotNum typ v)
    let s1 := if e.isSome then s else s.freshen
    let raw := e.getD (s.fresh % 2 ^ g.len)
    let x := s1.txb n g.ref
    let old := x.content
    let new := sigWrite g old raw
    if g.onChange && new != old then s1.canRefill n g.ref new
    else if x.st = .active then s1.setTxb n g.ref { x with next := some new }
    else s1.setTxb n g.ref { x with data := new }

/-- CAN_REFILL_PERIOD (R350): a period instant of MAPPED buffer `b`. -/
def execCanRefillPeriod (n : Fin 4) (b : Fin 64) (s : State) : Host.Outcome State Fault Refusal :=
  .next (if s.canMapped n b && (s.canSet n).tx.any (fun g => g.ref == b.val && g.periodMs != 0) then
      s.canRefill n b (s.txb n b).content else s)

/-! ## Transmission (R342, R343, R346, R347) -/

/-- The arbitration field as a number that is smaller where it wins (R342): base identifier, base before
extended, extension, data before remote. -/
def arbKey (x : TxBuf) : Nat :=
  let ext := ctlBit x.ctl 5
  let base := if ext then bits x.id 18 11 else x.id % 2048
  base * 2 ^ 20 + (if ext then 2 ^ 19 + x.id % 2 ^ 18 * 2 else 0) + b2n (ctlBit x.ctl 4)

/-- The top-priority frame (R342): the least arbitration field, at equal fields the lowest buffer. -/
def State.canTop (s : State) (n : Nat) : Option (Nat × TxBuf) :=
  ((s.canc n).buf.filter (fun e => e.2.st == .pending)).foldl (fun best e =>
    match best with
    | none => some e
    | some b => if Nat.blt (arbKey e.2) (arbKey b.2) then some e else some b) none

/-- ARBITRATION_START (R342): the controller reaches a frame start point. -/
def execArbitrationStart (n : Fin 4) (s : State) : Host.Outcome State Fault Refusal :=
  if !s.canOn n || !s.served || s.g (F.CAN_STATUS_SYNCING n) == 1 || s.canState n == 3 || s.canState n == 0
      || s.g (F.CAN_STATUS_SUSPEND n) == 1 || s.canListen n || (s.canActive n).isSome then .next s
  else match s.canTop n with
    | none => .next s
    | some (b, x) =>
      .next ((s.setTxb n b { x with st := .active, attempts := min 255 (x.attempts + 1) }).p
        (F.CAN_STATUS_IDLE n) 0)

/-- ARBITRATION_LOST (R343). -/
def execArbitrationLost (n : Fin 4) (s : State) : Host.Outcome State Fault Refusal :=
  .next (match s.canActive n with
    | none => s
    | some b => (s.canAfter n b .pending).inc (R.CAN_ARB_LOST n))

/-- STATE from the error counts (R346): ERROR_PASSIVE at 128, ERROR_ACTIVE below. -/
def State.canConfine (s : State) (n : Nat) : State :=
  if s.canState n = 3 ∨ s.canState n = 0 then s
  else if 128 ≤ s.g (F.CAN_STATUS_TEC n) ∨ 128 ≤ s.g (F.CAN_STATUS_REC n) then
    if s.canState n = 2 then s else (s.p (F.CAN_STATUS_STATE n) 2).raise (evCAN n) 8
  else s.p (F.CAN_STATUS_STATE n) 1

/-- Bus-off (R347). -/
def State.canBusOff (s : State) (n : Nat) : State :=
  let s1 := ((s.wn (R.CAN_STATUS n) (3 + 255 * 256 + s.g (F.CAN_STATUS_REC n) * 65536
    + s.g (F.CAN_STATUS_LISTEN n) * 4)).inc (R.CAN_BUSOFF_CNT n)).raise (evCAN n) 9
  if s1.g (F.CAN_CTL_AUTO_RECOVER n) = 0 then s1.p (F.CAN_STATUS_RECOVERY_WAIT n) 1 else s1

/-- CAN_BUS_ERROR (R343, R346, R347): an error of `code` (R353), in the data phase or not; `heavy`: a receiver
whose error the standard weighs 8. -/
def execCanBusError (n : Fin 4) (code : Fin 7) (dataPhase heavy : Bool) (s : State) :
    Host.Outcome State Fault Refusal :=
  if code.val = 0 ∨ (!s.canOn n ∧ (s.canActive n).isNone) ∨ s.canState n = 3 then .next s
  else
    let act := s.canActive n
    let buf := act.getD 0
    let s1 := (s.wn (R.CAN_LAST_ERR n) (code.val + b2n dataPhase * 8 + b2n act.isSome * 16 + buf * 256)).inc
      (R.CAN_BUS_ERRORS n)
    let s2 := s1.raise (evCAN n) 13
    match act with
    | none =>
      if s2.canListen n then .next s2
      else .next ((s2.p (F.CAN_STATUS_REC n)
        (min 255 (s2.g (F.CAN_STATUS_REC n) + if heavy then 8 else 1))).canConfine n)
    | some b =>
      let s3 := s2.canAfter n b (if (s2.txb n b).cancel then .cancelled else .pending)
      let passive := s3.canState n == 2
      if !s3.canOn n then .next s3
      else if passive && code.val == 3 then .next (s3.p (F.CAN_STATUS_SUSPEND n) 1)
      else
        let tec := s3.g (F.CAN_STATUS_TEC n) + 8
        if 255 < tec then .next (s3.canBusOff n)
        else
          let s4 := (s3.p (F.CAN_STATUS_TEC n) tec).canConfine n
          .next (if passive then s4.p (F.CAN_STATUS_SUSPEND n) 1 else s4)

/-- TX_DONE (R341, R345, R346). -/
def execTxDone (n : Fin 4) (s : State) : Host.Outcome State Fault Refusal :=
  match s.canActive n with
  | none => .next s
  | some b =>
    let late := (s.txb n b).cancel
    let passive := s.canState n == 2
    let s1 := (((s.canAfter n b (if late then .sentLate else .sent)).inc (R.CAN_TX_FRAMES n)).count (472 + n)).raise
      (evCAN n) 0
    let s2 := if late then s1.raise (evCAN n) 2 else s1
    let s3 := (s2.p (F.CAN_STATUS_TEC n) (s2.g (F.CAN_STATUS_TEC n) - 1)).canConfine n
    .next ((s3.p (F.CAN_STATUS_SUSPEND n) (b2n passive)).p (F.CAN_STATUS_IDLE n) 1)

/-- SUSPEND_END (R346). -/
def execSuspendEnd (n : Fin 4) (s : State) : Host.Outcome State Fault Refusal :=
  .next (s.p (F.CAN_STATUS_SUSPEND n) 0)

/-- A write of CANn_CMD (R347, R349). -/
def State.canCmdWrite (s : State) (n v : Nat) : State :=
  let s1 := if natBit v 0 && s.g (F.CAN_STATUS_RECOVERY_WAIT n) == 1 then s.p (F.CAN_STATUS_RECOVERY_WAIT n) 0 else s
  let s2 := if natBit v 1 then s1.setCan n { s1.canc n with fifo0 := [] } else s1
  if natBit v 2 then s2.setCan n { s2.canc n with fifo1 := [] } else s2

/-- RECOVER (R347): port `p` writes CANn_CMD with RECOVER 1. -/
def execRecover (p : Fin 2) (n : Fin 4) (s : State) : Host.Outcome State Fault Refusal :=
  .next (if s.linkUp p then s.regWrite p (R.CAN_CMD n) (fun t => t.canCmdWrite n 1) else s)

/-- RECOVERED (R347): the count of recessive bits ends. -/
def execRecovered (n : Fin 4) (s : State) : Host.Outcome State Fault Refusal :=
  .next (if s.canState n = 3 ∧ s.g (F.CAN_STATUS_RECOVERY_WAIT n) = 0 then
      (s.wn (R.CAN_STATUS n) (1 + 32 + s.g (F.CAN_STATUS_LISTEN n) * 4)).raise (evCAN n) 10
    else s)

/-- FLUSH (R353): port `p` writes CANn_CMD with FLUSH bits for FIFO00 and FIFO01. -/
def execFlush (p : Fin 2) (n : Fin 4) (which : Fin 4) (s : State) : Host.Outcome State Fault Refusal :=
  .next (if s.linkUp p then s.regWrite p (R.CAN_CMD n) (fun t => t.canCmdWrite n (2 * which.val)) else s)

/-! ## Reception (R349 to R352) -/

/-- The FIFOs by number. -/
def CanS.fifo (x : CanS) (f : Nat) : List CanRx := if f = 0 then x.fifo0 else x.fifo1
def CanS.setFifo (x : CanS) (f : Nat) (l : List CanRx) : CanS :=
  if f = 0 then { x with fifo0 := l } else { x with fifo1 := l }

/-- A write of CANn_RXFff_POP (R349). -/
def State.canPop (s : State) (n f : Nat) : State :=
  s.setCan n ((s.canc n).setFifo f (((s.canc n).fifo f).drop 1))

/-- RXF_POP (R349): port `p` writes 1 to CANn_RXFff_POP. -/
def execRxfPop (p : Fin 2) (n : Fin 4) (f : Fin 2) (s : State) : Host.Outcome State Fault Refusal :=
  .next (if s.linkUp p then s.regWrite p (R.CAN_RXF_POP n f) (fun t => t.canPop n f) else s)

/-- ACTION of a filter with 7 taken as off. -/
def CanFilter.action (x : CanFilter) : Nat := if x.ctl % 8 = 7 then 0 else x.ctl % 8

/-- The filter that takes a frame (R349). -/
def State.canFilter (s : State) (n : Nat) (f : CanFrame) : Option (Nat × CanFilter) :=
  (s.canc n).flt.find? (fun e => e.2.action != 0 && natBit e.2.ctl 3 == natBit f.flags 5
    && (e.2.id &&& e.2.mask) == (f.id &&& e.2.mask))

/-- A frame stored in a FIFO (R349). -/
def State.canStore (s : State) (n fifo flt : Nat) (f : CanFrame) : State :=
  let x := s.canc n
  if 128 ≤ (x.fifo fifo).length then (s.inc (R.CAN_RXF_OVF n fifo)).raise (evCAN n) (6 + fifo)
  else (s.setCan n (x.setFifo fifo (x.fifo fifo ++ [⟨f.id, f.flags, flt, f.data, f.ts⟩]))).raise (evCAN n) (4 + fifo)

/-- The signals of filter `k` decoded into their slots (R350). -/
def State.canMap (s : State) (n k : Nat) (f : CanFrame) : State :=
  if s.isButty then s
  else (List.range (s.canSet n).rx.length).foldl (fun t c =>
    match (s.canSet n).rx[c]? with
    | some g => if g.ref = k then
        t.putChannel (0x40 + n) c (fun x => putAs [x.typ] (fun typ => numSlot typ (sigNum g (sigRead g f.data))) 1 x)
      else t
    | none => t) s

/-- The echo of a former motor's frame at the butty (R352). -/
def State.canEcho (s : State) (n : Nat) (f : CanFrame) : State :=
  if !s.isButty then s
  else
    let same := fun (x : TxBuf) => x.st == .pending && x.id == f.id && x.ctl % 256 == f.flags % 256
      && txData x.ctl x.data == txData f.flags f.data
    match (s.canc n).buf.find? (fun e => same e.2) with
    | some (b, x) => (s.setTxb n b { x with st := .sent, echoed := true }).inc (R.CAN_ECHO_CNT n)
    | none => s

/-- Station `k` as CANn_STN_LOST shows it. -/
def State.stnBit (s : State) (n k : Nat) : Bool := s.bit (R.CAN_STN_LOST_LO n + 4 * (k / 32)) (k % 32)
def State.setStn (s : State) (n k : Nat) (v : Bool) : State :=
  s.setBit (R.CAN_STN_LOST_LO n + 4 * (k / 32)) (k % 32) v

/-- A frame of station `k` has arrived (R351). -/
def State.canStation (s : State) (n k : Nat) : State :=
  if s.isButty || !s.stnBit n k then s
  else ((s.setStn n k false).raise (evCAN n) 12).stationBack k

/-- CAN_FRAME_RECEIVE (R349 to R352). -/
def execCanFrameReceive (n : Fin 4) (f : CanFrame) (s : State) : Host.Outcome State Fault Refusal :=
  if !s.canOn n || s.canState n == 3 || s.g (F.CAN_STATUS_SYNCING n) == 1 then .next s
  else
    let s1 := ((s.inc (R.CAN_RX_FRAMES n)).count (476 + n)).p (F.CAN_STATUS_IDLE n) 1
    let rec_ := s1.g (F.CAN_STATUS_REC n)
    let s2 := if s1.canListen n then s1
      else (s1.p (F.CAN_STATUS_REC n) (if 127 < rec_ then 127 else rec_ - 1)).canConfine n
    let s3 := s2.canEcho n f
    match s3.canFilter n f with
    | none =>
      let u := s3.g (F.CAN_CTL_UNMATCHED n)
      .next (if u = 1 then s3.canStore n 0 127 f else if u = 2 then s3.canStore n 1 127 f else s3)
    | some (k, x) =>
      let s4 := s3.setCan n { s3.canc n with flt := tset (s3.canc n).flt {} k { x with hits := (x.hits + 1) % 2 ^ 32 } }
      let a := x.action
      let s5 := if a = 1 ∨ a = 4 then s4.canStore n 0 k f else if a = 2 ∨ a = 5 then s4.canStore n 1 k f else s4
      let s6 := if natBit x.ctl 14 then s5.canStation n (bits x.ctl 8 6) else s5
      .next (if a = 3 ∨ a = 4 ∨ a = 5 then s6.canMap n k f else s6)

/-- CAN_STATION_TIMEOUT (R351): no frame of station `k` has arrived for its timeout. -/
def execCanStationTimeout (n : Fin 4) (k : Fin 64) (s : State) : Host.Outcome State Fault Refusal :=
  let known := (s.canc n).flt.any (fun e => e.2.action != 0 && natBit e.2.ctl 14 && bits e.2.ctl 8 6 == k.val)
  .next (if !known || s.isButty || s.stnBit n k || !s.canOn n then s
    else ((s.setStn n k true).raise (evCAN n) 11).stationLost k)

/-- DOMINANT_TIMEOUT (R339): the transceiver ends a continuous dominant drive. -/
def execDominantTimeout (n : Fin 4) (s : State) : Host.Outcome State Fault Refusal :=
  .next (s.raise (evCAN n) 13)

/-- A write of a register of the TXBUF window at offset `off` from CANn_TXBUF_CTL: 0 CTL, 4 ID, 8 and 12 TIME,
0x3C up DATA (R341, R353). -/
def State.txbufWrite (s : State) (n b off v : Nat) : State :=
  let x := s.txb n b
  if s.canMapped n b then s
  else if x.st = .pending ∨ x.st = .active then s.raise (evCAN n) 15
  else if off = 0 then s.setTxb n b { x with ctl := v % 512 }
  else if off = 4 then s.setTxb n b { x with id := v % 2 ^ 29 }
  else if off = 8 then s.setTxb n b { x with time := setBits x.time 0 32 v }
  else if off = 12 then s.setTxb n b { x with time := setBits x.time 32 32 v }
  else if 0x3C ≤ off ∧ off < 0x7C then s.setTxb n b { x with data := setBits x.data (8 * (off - 0x3C)) 32 v }
  else s

/-- TXBUF_WRITE (R341): port `p` writes register `k` of the window of the buffer that it has selected: 0 CTL,
1 ID, 2 and 3 TIME, 4 to 19 DATA. -/
def execTxbufWrite (p : Fin 2) (n : Fin 4) (k : Fin 20) (v : Word) (s : State) :
    Host.Outcome State Fault Refusal :=
  let off := if k.val < 4 then 4 * k.val else 0x3C + 4 * (k.val - 4)
  .next (if s.linkUp p then
      s.regWrite p (R.CAN_TXBUF_CTL n + off)
        (fun t => t.txbufWrite n (t.prd p (R.CAN_TXBUF_SEL n) % 64) off v.toNat)
    else s)

/-- LISTEN_EXIT (R348): the bus is idle and listen-only is no longer required. -/
def execListenExit (n : Fin 4) (s : State) : Host.Outcome State Fault Refusal :=
  .next (if s.g (F.CAN_CTL_LISTEN n) == 1 || s.isButty then s else s.p (F.CAN_STATUS_LISTEN n) 0)

/-- The CAN controllers of a module that is motor no more (R44, R348): each is in listen-only, and a frame under way ends and
waits again. -/
def State.canYield (s : State) : State :=
  (List.range 4).foldl (fun t n =>
    if t.canOn n then
      (match t.canActive n with | some b => t.canAfter n b .pending | none => t).p (F.CAN_STATUS_LISTEN n) 1
    else t) s

end Sys2Proof.Machine
end

