-- ==== Sys2Proof/Machine/Meter.lean ====
section
/-! DEFINITION. Energy metering: blocks, totals, journal, compensation tables and the assay rotation of the
channels (chapter 12, R284 to R312). -/

namespace Sys2Proof.Machine

def State.setMtr (s : State) (m : MtrS) : State := { s with mtr := m }

/-! ## Configuration (R285, R292) -/

/-- The value in effect, for a block that begins at `b` ns, of what stands at `key` and now has the value `now`: a write takes
effect at the first block that begins at least 100 µs after it (R285, R305). -/
def MtrS.eff (x : MtrS) (b key now : Nat) : Nat :=
  match x.old.find? (fun o => o.1 == key && Nat.blt b (o.2.2 + 100000)) with
  | some o => o.2.1
  | none => now

/-- The value of a configuration register in effect for a block that begins at `b` ns (R285). -/
def State.mtrEff (s : State) (b a : Nat) : Nat := s.mtr.eff b a (s.rn a)

/-- A configuration register written, its old value kept until the write takes effect. -/
def State.mtrWrite (s : State) (a v : Nat) : State :=
  let s1 := s.setMtr { s.mtr with old := s.mtr.old ++ [(a, s.rn a, s.clk.upNs)] }
  s1.wn a v

/-- A write of MTR_CHnn_CFG (R285): VPHASE 3 is not applied. -/
def State.mtrCfgWrite (s : State) (n v : Nat) : State :=
  if 48 ≤ n then s
  else
    let old := s.rn (R.MTR_CH_CFG n)
    let bad := bits v 2 2 == 3
    let w := if bad then setBits (v % 32) 2 2 (bits old 2 2) else v % 32
    let s1 := s.mtrWrite (R.MTR_CH_CFG n) w
    let s2 := if bad then s1.raise evMTR 7 else s1
    if w = old then s2 else s2.post 0x4004 23 n n 0 old w

/-- A write of MTR_CHnn_PRIMARY (R285): only a change of PRIMARY is recorded. -/
def State.mtrPrimaryWrite (s : State) (n v : Nat) : State :=
  if 48 ≤ n then s
  else
    let old := s.rn (R.MTR_CH_PRIMARY n)
    let w := clampN 1 10000 (bits v 0 14) + bits v 16 16 * 65536
    let s1 := s.mtrWrite (R.MTR_CH_PRIMARY n) w
    if bits w 0 14 = bits old 0 14 then s1 else s1.post 0x4004 23 n n 1 old w

/-- MTR_CH_CFG_WRITE (R285): port `p` writes MTR_CHnn_CFG, or MTR_CHnn_PRIMARY. -/
def execMtrChCfgWrite (p : Fin 2) (n : Fin 49) (primary : Bool) (v : Word) (s : State) :
    Host.Outcome State Fault Refusal :=
  .next (if !s.linkUp p then s
    else if primary then s.regWrite p (R.MTR_CH_PRIMARY n) (fun t => t.mtrPrimaryWrite n v.toNat)
    else s.regWrite p (R.MTR_CH_CFG n) (fun t => t.mtrCfgWrite n v.toNat))

/-- The member channels that a circuit's CFG names; 0x3F names none. -/
def cirMembers (w : Nat) : List Nat :=
  ([bits w 0 6, bits w 8 6, bits w 16 6].filter (fun c => c != 63)).eraseDups

/-- A write of MTR_CIRkk_CFG (R292). -/
def State.mtrCirWrite (s : State) (k v : Nat) : State :=
  let w := v &&& 0x803F3F3F
  let m := cirMembers w
  let taken := (List.range 16).any (fun j => j != k &&
    (cirMembers (s.rn (R.MTR_CIR_CFG j))).any (fun c => m.contains c))
  if m.any (fun c => Nat.blt 47 c) || taken then s.raise evMTR 7 else s.mtrWrite (R.MTR_CIR_CFG k) w

/-- MTR_CIR_CFG_WRITE (R292): port `p` writes MTR_CIRkk_CFG. -/
def execMtrCirCfgWrite (p : Fin 2) (k : Fin 16) (v : Word) (s : State) : Host.Outcome State Fault Refusal :=
  .next (if s.linkUp p then s.regWrite p (R.MTR_CIR_CFG k) (fun t => t.mtrCirWrite k v.toNat) else s)

/-! ## Totals (R291 to R294) -/

/-- The accumulator numbers in the order of the journal (R299): channel totals, then circuit totals. -/
def accOrder : List Nat :=
  ((List.range 48).flatMap (fun c => (List.range 7).map (fun q => 8 * c + q))) ++
    ((List.range 16).flatMap (fun k => (List.range 7).map (fun q => 0x200 + 8 * k + q)))

/-- A valid accumulator number (R291). -/
def accOk (a : Nat) : Bool := (Nat.blt a 0x180 || (Nat.ble 0x200 a && Nat.blt a 0x280)) && a % 8 != 7

/-- The increments of P, Q and S by quantity (R291). -/
def quantities (p q : Int) (a : Nat) : List (Nat × Nat) :=
  let imp := decide (0 ≤ p)
  let lag := decide (0 ≤ q)
  [(if imp then 0 else 1, p.natAbs),
   (match imp, lag with | true, true => 2 | false, true => 3 | false, false => 4 | true, false => 5, q.natAbs),
   (6, a)]

/-- An increment added to a total (R293, R294): a carry out of bit 127 sets WRAPPED. -/
def State.addTotal (s : State) (acc n : Nat) : State :=
  let x := s.mtr
  let v := tget x.tot 0 acc + n
  s.setMtr { x with
    tot := tset x.tot 0 acc (v % 2 ^ 192)
    wrapped := if v < 2 ^ 192 ∨ x.wrapped.contains acc then x.wrapped else x.wrapped ++ [acc] }

/-! ## Samples (R284 to R289, R304) -/

/-- The temperature T of channel `c` in 0.1 °C (R304, R306): the mean of the last ten readings of its sensor,
clamped; the other sensor's where its own is faulty. -/
def State.mtcTemp (s : State) (c : Nat) : Int :=
  let die := if c < 32 then s.bit R.MTC_SRC_LO c else s.bit R.MTC_SRC_HI (c - 32)
  let useDie := if s.g F.MTC_STATUS_DIE_FAULT = 1 then false else die || s.g F.MTC_STATUS_MODULE_FAULT == 1
  let l := if useDie then s.mtr.dieT else s.mtr.modT
  let mean := if l.isEmpty then 0 else l.foldl (fun a b => a + b) 0 / (l.length : Int)
  max (-400) (min 850 mean)

/-- The key of point `k` of the active gain tables in the list of writes not yet in effect (R305). -/
def gainKey (k : Nat) : Nat := 2 ^ 24 + k

/-- A gain of point `k` in effect for a block. -/
def State.mtcPt (s : State) (b k : Nat) : Int := toSigned 32 (s.mtr.eff b (gainKey k) (ofSigned 32 (tget s.mtr.gain 0 k)))

/-- The gain G of channel `c` in units of 2^−30 for a block, interpolated at T and rounded down (R304). -/
def State.mtcGain (s : State) (b c : Nat) : Int :=
  if s.g F.MTC_CTL_ENABLE = 0 then 0
  else
    let x := ((s.mtcTemp c + 400) * 31).toNat
    let j := min (x / 1250) 30
    let lo := s.mtcPt b (32 * c + j)
    lo + (s.mtcPt b (32 * c + j + 1) - lo) * ((x : Int) - j * 1250) / 1250

/-- The samples of converter `c` in a block, corrected in gain (R304): its table's gain, and of a channel its assay trim. -/
def State.corrected32 (s : State) (b c : Nat) (l : List Int) : List Int :=
  let g := 2 ^ 30 + s.mtcGain b c
  let t : Int := if c < 48 then 2 ^ 30 + toSigned 32 (s.mtr.eff b (R.MTR_CH_TRIM c) (s.rn (R.MTR_CH_TRIM c))) else 2 ^ 30
  (l.take 32).map (fun x => x * g * t / 2 ^ 60)

/-- The sum of the squares of samples, and of their products. -/
def sumSq (l : List Int) : Nat := l.foldl (fun a x => a + (x * x).natAbs) 0
def sumMul (l m : List Int) : Int := (List.zipWith (fun x y => x * y) l m).foldl (fun a x => a + x) 0

/-- A value added to those of the last 200 blocks. -/
def push200 {α : Type} (l : List α) (x : α) : List α := l.drop (l.length - 199) ++ [x]

/-- The sum of the last `k` values. -/
def sumLast (l : List Nat) (k : Nat) : Nat := (l.drop (l.length - k)).foldl (fun a x => a + x) 0

/-- The factor from a channel's samples to its primary current in pA, as a fraction (R285): PRIMARY / 5 in CT mode, 1 / SENS in
ROGOWSKI mode; the assay channel shows its own current. -/
def chanScale (ch cfg primary : Nat) : Nat × Nat :=
  if 48 ≤ ch then (1, 1)
  else if bits cfg 0 2 = 2 then (1, max 1 (bits primary 16 16)) else (bits primary 0 14, 5)

/-- The energy in units of 2^−96 Wh of products of samples in nV and pA taken every 31.25 µs, at a current scale. -/
def energyOf (sum : Int) (k : Nat × Nat) : Int := (sum * k.1 * (2 ^ 96 * 3125)).tdiv (k.2 * 3600 * 10 ^ 29)

/-- S of a block (R286): Vrms × Irms × 1 ms from the sums of squares of `nv` and `ni` samples. -/
def apparentOf (vv nv ii ni : Nat) (k : Nat × Nat) : Nat :=
  isqrt (vv * ii * k.1 ^ 2 * 2 ^ 192 / (nv * ni * (k.2 * 3600) ^ 2 * 10 ^ 48))

/-- The channel's state after a block (R289): 0 OFF, 1 NO_LOAD, 2 ACTIVE, from the sum of the squares of `n` samples that end at
the block: 3.5 mA and 3.0 mA on the secondary, or 0.07 % and 0.06 % of PRIMARY. -/
def chanState (cfg primary was sum n : Nat) : Nat :=
  let mode := bits cfg 0 2
  let unit := if mode = 1 then 500000000 else 100000000 * bits primary 0 14 * bits primary 16 16
  let up := 7 * unit
  let down := 6 * unit
  if mode = 0 ∨ mode = 3 then 0
  else if was = 2 then (if sum < down * down * n then 1 else 2) else if up * up * n ≤ sum then 2 else 1

/-- What a block gives a channel: its state, P, Q and S, its corrected samples' sum of squares, and Irms in units of
10^−18 A (R286, R289, R311). -/
structure ChanBlock where
  st : Nat
  p : Int
  q : Int
  s : Nat
  sq : List Nat
  irms : Nat
  deriving DecidableEq, Repr, Inhabited

/-- Channel `c` in a block that begins at `b` ns (R285, R286, R289, R304). -/
def State.chanBlock (s : State) (b : Nat) (m : MtrBlock) (c : MtrCh) : ChanBlock :=
  let n := c.ch
  let cfg := s.mtrEff b (R.MTR_CH_CFG n)
  let prim := s.mtrEff b (R.MTR_CH_PRIMARY n)
  let ph := bits cfg 2 2
  let k := chanScale n cfg prim
  let i0 := s.corrected32 b n c.i
  let i1 := if bits cfg 0 2 = 2 ∧ bits prim 16 16 = 0 then i0.map Config.coilZero else i0
  let i := if natBit cfg 4 then i1.map (fun x => -x) else i1
  let v := s.corrected32 b (49 + ph) (m.volts.getD ph [])
  let w := s.corrected32 b (49 + ph) (m.quad.getD ph [])
  let sq := push200 (tget s.mtr.sq [] n) (sumSq i)
  let vv := push200 (tget s.mtr.sq [] (49 + ph)) (sumSq v)
  let all := sumLast sq 200
  { st := chanState cfg prim (s.g (F.MTR_CH_STATUS_STATE n)) (sumLast sq 20) (32 * min 20 sq.length)
    p := energyOf (sumMul v i) k
    q := energyOf (sumMul w i) k
    s := apparentOf (sumLast vv 200) (32 * vv.length) all (32 * sq.length) k
    sq := sq
    irms := isqrt (all * k.1 ^ 2 * 10 ^ 12 / (32 * sq.length * k.2 ^ 2)) }

/-- Power in W or var, as binary32, from energies of blocks. -/
def powerOf (l : List Int) : Nat := b32.ofRat (l.foldl (fun a x => a + x) 0 * 3600000) (2 ^ 96 * l.length)

/-- A channel's part of a block: state, shown measurements, OVERRANGE (R287). -/
def State.mtrChannel (s : State) (b : Nat) (c : MtrCh) (e : ChanBlock) : State :=
  let n := c.ch
  let cfg := s.mtrEff b (R.MTR_CH_CFG n)
  let x := s.mtr
  let pw := push200 (tget x.pw [] n) e.p
  let qw := push200 (tget x.qw [] n) e.q
  let s0 := (s.setMtr { x with
    wave := tset x.wave [] n (c.i.take 32), sq := tset x.sq [] n e.sq, pw := tset x.pw [] n pw
    qw := tset x.qw [] n qw }).wn (R.MTR_CH_IRMS n) (b32.ofRat e.irms (10 ^ 18))
  if 48 ≤ n then s0
  else
    let overrange := c.overrange && bits cfg 0 2 == 1
    let s1 := (((s0.p (F.MTR_CH_STATUS_STATE n) e.st).p (F.MTR_CH_STATUS_OVERRANGE n) (b2n overrange)).wn
      (R.MTR_CH_P n) (powerOf pw)).wn (R.MTR_CH_Q n) (powerOf qw)
    if !overrange then s1
    else
      let o := tget s1.mtr.overrange (none, 0) n
      let s2 := s1.raise evMTR 8
      let again := match o.1 with | none => true | some t => Nat.ble (t + 60000000000) s2.clk.upNs
      let s3 := s2.setMtr { s2.mtr with
        overrange := tset s2.mtr.overrange (none, 0) n (if again then (some s2.clk.upNs, 0) else (o.1, o.2 + 1)) }
      if again then s3.post 0x4005 23 n n (o.2 + 1) else s3

/-- The voltages of a block: their samples, squares and rms values (R284, R311). -/
def State.mtrVolts (s : State) (b : Nat) (m : MtrBlock) : State :=
  (List.range 4).foldl (fun t k =>
    let x := t.mtr
    let l := m.volts.getD k []
    let sq := push200 (tget x.sq [] (49 + k)) (sumSq (s.corrected32 b (49 + k) l))
    (t.setMtr { x with wave := tset x.wave [] (49 + k) (l.take 32), sq := tset x.sq [] (49 + k) sq }).wn (R.MTR_V_RMS k)
      (b32.ofRat (isqrt (sumLast sq 200 * 10 ^ 12 / (32 * sq.length))) (10 ^ 15))) s

/-- The phase that the mains frequency is measured on (R287): L1, or L2 or L3 where L1 is below 45 V rms. -/
def State.freqPhase (s : State) : Nat :=
  let low := fun (k : Nat) =>
    let sq := tget s.mtr.sq [] (49 + k)
    Nat.blt (sumLast sq 200) (45000000000 ^ 2 * (32 * sq.length))
  if !low 0 then 0 else if !low 1 then 1 else 2

/-- The DSP that serves a channel in a block runs (R8, R284): MD0 for CT00 to CT23 and REF, MD1 for CT24 to CT47, and for CT48
that of the channel under assay. -/
def State.dspRuns (s : State) (ch : Nat) : Bool :=
  let up := fun (k : Nat) => !s.saf.restarting.contains (4 + k)
  if ch < 48 then up (ch / 24)
  else match s.mtr.step with
    | some p => up (if p.target < 48 then p.target / 24 else 0)
    | none => false

/-- The increments of a block, by accumulator number (R289, R291, R292), from its channels' P, Q and S. -/
def State.blockIncs (s : State) (b : Nat) (l : List (Nat × ChanBlock)) : List (Nat × Nat) :=
  let en := l.filter (fun e => e.2.st == 2 && Nat.blt e.1 48)
  let chans := en.flatMap (fun e => (quantities e.2.p e.2.q e.2.s).map (fun i => (8 * e.1 + i.1, i.2)))
  let cirs := (List.range 16).flatMap (fun k =>
    let w := s.mtrEff b (R.MTR_CIR_CFG k)
    let mine := (en.filter (fun e => (cirMembers w).contains e.1)).map (fun e => e.2)
    if natBit w 31 && !mine.isEmpty then
      (quantities (mine.foldl (fun t e => t + e.p) 0) (mine.foldl (fun t e => t + e.q) 0)
        (mine.foldl (fun t e => t + e.s) 0)).map (fun i => (0x200 + 8 * k + i.1, i.2))
    else [])
  chans ++ cirs

/-- The totals as 128-bit counts. -/
def counts128 (t : Tbl Nat) : Tbl Nat := (t.map (fun e => (e.1, e.2 / 2 ^ 64))).filter (fun e => e.2 != 0)

/-- The WRAPPED flags of a completed block shown (R294, R301). -/
def State.mtrWrapped (s : State) (w : List Nat) : State :=
  let was := s.mtr.doneWr
  let s1 := (s.setMtr { s.mtr with doneWr := w }).p F.MTR_STATUS_WRAPPED_ANY (b2n !w.isEmpty)
  if w.any (fun a => !was.contains a) then s1.raise evMTR 3 else s1

/-- The block that ends at `t` completed (R286, R298, R301): its totals become visible. -/
def State.mtrComplete (s : State) (t : Nat) (idle : List Nat) : State :=
  let x := s.mtr
  let d := counts128 x.tot
  (s.setMtr { x with
    done := d, doneTime := t, doneUp := s.clk.upNs - (s.ptpNs - t), doneIdle := idle, held := none
    sec := if t % 1000000000 = 0 then d else x.sec }).mtrWrapped x.wrapped

/-- The circuit power registers: the sums over the members. -/
def State.cirRegs (s : State) : State :=
  (List.range 16).foldl (fun t k =>
    let m := cirMembers (t.rn (R.MTR_CIR_CFG k))
    (t.wn (R.MTR_CIR_P k) (m.foldl (fun a c => b32.add a (t.rn (R.MTR_CH_P c))) 0)).wn (R.MTR_CIR_Q k)
      (m.foldl (fun a c => b32.add a (t.rn (R.MTR_CH_Q c))) 0)) s

/-- The first block after a measurement gap (R300). -/
def State.mtrGapEnd (s : State) (start : Nat) : State :=
  match s.mtr.gapFrom with
  | none => s
  | some c =>
    let len := (start - c) / 1000000000
    (((s.setMtr { s.mtr with gapFrom := none }).p F.MTR_STATUS_GAP 1).wn R.MTR_GAP_S (min len (2 ^ 32 - 1))).raise
      evMTR 1 |>.post 0x4002 23 0 (c % 2 ^ 32) (c / 2 ^ 32) len

/-- The end of the next block (R286): the next multiple of 1 ms of PTP time. -/
def State.blockEnd (s : State) : Nat :=
  let t := s.ptpNs / 1000000 * 1000000
  if s.mtr.last < t then t else t + 1000000

/-- METERING_BLOCK (R284 to R287, R289, R291, R292, R301): a block ends. A butty that has adopted the motor's totals of the
block already does not add its own. The motor ships the totals of every block to its partner. -/
def execMeteringBlock (m : MtrBlock) (s : State) : Host.Outcome State Fault Refusal :=
  if s.g F.MTR_STATUS_STATE ≠ 1 ∨ s.g F.MTR_CTL_ENABLE = 0 then .next s
  else
    let t := s.blockEnd
    let s0 := (s.advanceToPtp t).mtrGapEnd (t - 1000000)
    let b := s0.clk.upNs - 1000000
    let l := (m.chans.filter (fun c => Nat.blt c.ch 49 && s.dspRuns c.ch)).map (fun c => (c, s0.chanBlock b m c))
    let s1 := l.foldl (fun u c => u.mtrChannel b c.1 c.2) (s0.mtrVolts b m)
    let freq := m.freq.getD s1.freqPhase 0
    let bad := Nat.blt freq 45000 || Nat.blt 65000 freq
    let s2 := s1.wn R.MTR_FREQ (freq % 2 ^ 17)
    let s3 := (if bad && s2.g F.MTR_STATUS_FREQ_RANGE == 0 then s2.raise evMTR 9 else s2).p F.MTR_STATUS_FREQ_RANGE
      (b2n bad)
    let s4 := s3.cirRegs
    let incs := s4.blockIncs b (l.map (fun c => (c.1.ch, c.2)))
    let overrange := l.any (fun c => Nat.blt c.1.ch 48 && s4.g (F.MTR_CH_STATUS_OVERRANGE c.1.ch) == 1)
    let have_ := !s4.isMotor && Nat.ble t s4.mtr.adopted
    let s5 := if have_ then s4 else incs.foldl (fun u i => u.addTotal i.1 i.2) s4
    let idle := (l.filter (fun c => c.2.st == 1)).map (fun c => c.1.ch)
    let x := s5.mtr
    let inc : Tbl Nat := incs.foldl (fun a i => tset a 0 i.1 (tget a 0 i.1 + i.2)) []
    let s6 := ((s5.count 512).count 517 (b2n overrange)).setMtr { x with
      last := t
      own := (x.own.drop (x.own.length - 7)) ++ [(t, inc)]
      old := x.old.filter (fun o => Nat.blt b (o.2.2 + 100000))
      winOwn := (incs.filter (fun i => i.1 % 8 < 2 ∧ i.1 < 0x180)).foldl (fun a i => tset a 0 i.1 (tget a 0 i.1 + i.2)) x.winOwn }
    let s7 := if s6.isMotor && s6.hasPartner then
        s6.tow (.totals t (s6.rn R.MTR_JOURNAL_ID) s6.mtr.wrapped s6.mtr.tot) else s6
    .next (if s6.synced && s6.isMotor then s7.setMtr { s7.mtr with held := some (t, idle) }
      else if have_ then s7.setMtr { s7.mtr with doneIdle := idle }
      else s7.mtrComplete t idle)

/-! ## Duplex totals (R301, R302) -/

/-- TOTALS_RECEIVE (R294, R301): the butty adopts a shipment, to which it adds its own increments of later blocks; a motor
discards it. -/
def execTotalsReceive (time id : Nat) (wrapped : List Nat) (l : List (Nat × Nat)) (s : State) :
    Host.Outcome State Fault Refusal :=
  if s.isMotor then .next s
  else
    let x := s.mtr
    let ship := accOrder.foldl (fun (a : Tbl Nat) k => tset a 0 k (tget l 0 k % 2 ^ 192)) []
    let later := x.own.filter (fun o => Nat.blt time o.1)
    let w := (x.wrapped ++ wrapped.filter accOk).eraseDups
    let s0 := s.setMtr { x with
      tot := ship, wrapped := w, adopted := time
      winBase := if x.winBase.isEmpty then ship else x.winBase, winLast := ship }
    let s1 := later.foldl (fun u o => o.2.foldl (fun v i => v.addTotal i.1 i.2) u) s0
    let s2 := (((s1.wn R.MTR_JOURNAL_ID (id % 2 ^ 32)).p F.MTR_STATUS_GAP 0).p F.MTR_STATUS_LOSS_POSSIBLE 0).p
      F.MTR_STATUS_PARTNER_TOTALS 1
    let s3 := s2.mtrComplete ((later.getLast?.map (fun o => o.1)).getD time) x.doneIdle
    .next ((s3.setMtr { s3.mtr with
      sec := if time % 1000000000 = 0 then counts128 ship else s3.mtr.sec }).tow (.totalsAck time))

/-- TOTALS_ACK_RECEIVE (R301): the motor completes the block. -/
def execTotalsAckReceive (time : Nat) (s : State) : Host.Outcome State Fault Refusal :=
  match s.mtr.held with
  | some (t, idle) => .next (if t = time then s.mtrComplete t idle else s)
  | none => .next s

/-- The voltage of phase `k` in mV, from its binary32 register. -/
def State.milliVolts (s : State) (k : Nat) : Nat :=
  match b32.toInt .nearest (b32.mul (s.rn (R.MTR_V_RMS k)) (b32.ofInt 1000)) with
  | some i => i.toNat
  | none => 0

/-- DPX_DISAGREE_WINDOW (R302): a window of 60 s ends at the butty. -/
def execDpxDisagreeWindow (s : State) : Host.Outcome State Fault Refusal :=
  if s.isMotor then .next s
  else
    let x := s.mtr
    let judge := fun (acc : Nat) =>
      let c := acc / 8
      let mot := tget x.winLast 0 acc - tget x.winBase 0 acc
      let own := tget x.winOwn 0 acc
      let mv := s.milliVolts (s.g (F.MTR_CH_CFG_VPHASE c))
      let least := mv * s.g (F.MTR_CH_PRIMARY_PRIMARY c) * 60 * 2 ^ 96 / (20 * 3600 * 1000)
      let diff := if own < mot then mot - own else own - mot
      if mot = 0 ∨ mot < least then 0 else diff * 1000000 / mot
    let ppm := fun (c : Nat) => max (judge (8 * c)) (judge (8 * c + 1))
    let worst := (List.range 48).foldl (fun (b : Nat × Nat) c => if b.2 < ppm c then (c, ppm c) else b) (0, 0)
    let s1 := s.setMtr { x with winOwn := [], winBase := x.winLast }
    let s2 := s1.wn R.MTR_DPX_DIFF (worst.1 + min worst.2 65535 * 65536)
    .next ((List.range 48).foldl (fun t c =>
      if 5000 < ppm c then (t.raise evMTR 6).post 0x4006 23 c c (ppm c) else t) s2)

/-! ## Journal (R299, R300) -/

/-- The bytes of a journal bank (R299): header, totals and WRAPPED bits. -/
def Commit.bytes (c : Commit) : List Byte :=
  let wr := (List.range 56).map (fun k => BitVec.ofNat 8 ((List.range 8).foldl (fun v j =>
    v + b2n (match accOrder[8 * k + j]? with | some a => c.wrapped.contains a | none => false) * 2 ^ j) 0))
  let body := accOrder.flatMap (fun a => natLE 16 (tget c.totals 0 a)) ++ wr ++ natLE 8 0
  let head := natLE 4 0x4A52544D ++ natLE 2 1 ++ natLE 2 448 ++ natLE 8 c.seq ++ natLE 8 c.time ++ natLE 4 c.id
    ++ natLE 1 c.kind ++ natLE 27 0 ++ natLE 4 (crc32c body)
  head ++ natLE 4 (crc32c head) ++ body

/-- The commit that a bank's bytes hold, where the bank is valid (R299): MAGIC, FORMAT, HDR_CRC and BODY_CRC are correct. -/
def bankCommit (b : List Byte) : Option Commit :=
  let u := fun (k n : Nat) => leNat ((b.drop k).take n)
  if b.length = 7296 ∧ u 0 4 = 0x4A52544D ∧ u 4 2 = 1 ∧ u 60 4 = crc32c (b.take 60) ∧ u 56 4 = crc32c (b.drop 64) then
    some ⟨u 8 8, u 16 8, u 24 4, u 28 1,
      (List.range 448).foldl (fun (t : Tbl Nat) k => tset t 0 (accOrder.getD k 0) (u (64 + 16 * k) 16)) [],
      (List.range 448).filterMap (fun k =>
        if natBit (u (7232 + k / 8) 1) (k % 8) then accOrder[k]? else none)⟩
  else none

/-- The latest valid commit and its bank. -/
def MtrS.latest (x : MtrS) : Option (Nat × Commit) :=
  match bankCommit x.bank0, bankCommit x.bank1 with
  | none, none => none
  | some a, none => some (0, a)
  | none, some b => some (1, b)
  | some a, some b => if a.seq < b.seq then some (1, b) else some (0, a)

/-- A commit of the last completed block's totals, or of `c` where given, with `kind`; its duration, 0.15 ms to
0.9 ms, is a free value. -/
def State.mtrCommit (s : State) (kind : Nat) : State :=
  let x := s.mtr
  let prev := x.latest
  let seq := match prev with | some (_, c) => (c.seq + 1) % 2 ^ 64 | none => 1
  let bank := match prev with | some (b, _) => 1 - b | none => 0
  let c : Commit := ⟨seq, x.doneTime, s.rn R.MTR_JOURNAL_ID, kind, x.done, x.doneWr⟩
  let lat := 1500 + s.fresh % 7501
  let s1 := (s.freshen.setMtr (if bank = 0 then { x with bank0 := c.bytes } else { x with bank1 := c.bytes })).count 513
  ((s1.p F.MTR_STATUS_BANK bank).wn64 R.MTR_JOURNAL_SEQ_LO seq).wn R.MTR_COMMIT_LAT lat

/-- JOURNAL_COMMIT (R300): the commit at a 1 s boundary, until metering is SEALED. One that falls in a holdup counts as the
first power-fail commit. -/
def execJournalCommit (s : State) : Host.Outcome State Fault Refusal :=
  if s.g F.MTR_STATUS_STATE = 2 ∨ !s.mtr.restored ∨ s.pwr.railsOff then .next s
  else
    let s1 := s.mtrCommit 0
    .next (if s1.phase = 6 then { s1 with pwr := { s1.pwr with committed := true } } else s1)

/-- POWER_FAIL_COMMIT (R300): at the first block completed that ends at least 100 µs after the detection. -/
def execPowerFailCommit (s : State) : Host.Outcome State Fault Refusal :=
  if s.g F.PCR_STATUS_PFAIL = 0 ∨ s.pwr.committed ∨ s.g F.MTR_STATUS_STATE ≠ 1
      ∨ s.g F.PCR_STATUS_HOLDUP_FAULT = 1 ∨ s.mtr.doneUp < s.pwr.failUp + 100000 then .next s
  else
    let s1 := s.mtrCommit 1
    .next { s1 with pwr := { s1.pwr with committed := true } }

/-- Measurement, if it runs, ended with a last commit of `kind`, and metering SEALED or STOPPED (R300). -/
def State.mtrSeal (s : State) (kind : Nat) : State :=
  if s.g F.MTR_STATUS_STATE ≠ 2 ∧ s.mtr.restored then
    (if s.g F.PCR_STATUS_HOLDUP_FAULT = 1 then s else s.mtrCommit kind).p F.MTR_STATUS_STATE (if kind = 2 then 2 else 0)
  else s

/-- The restore at DOMAIN_START (R299, R305). -/
def State.mtrRestore (s : State) : State :=
  let x := s.mtr
  let s1 : State := match x.latest with
    | none =>
      let id := s.fresh % 2 ^ 32
      let s1 := (s.freshen.setMtr { x with tot := [], wrapped := [], done := [], doneWr := [], sec := [], doneTime := s.ptpNs, gapFrom := none }).wn
        R.MTR_JOURNAL_ID id
      ((s1.mtrCommit 4).raise evMTR 0).post 0x4001 23 0 id
    | some (b, c) =>
      let s1 := s.setMtr { x with
        tot := c.totals.map (fun e => (e.1, e.2 * 2 ^ 64)), wrapped := c.wrapped, done := c.totals, doneWr := c.wrapped, sec := c.totals
        doneTime := c.time, gapFrom := some c.time }
      let s2 := (((s1.wn R.MTR_JOURNAL_ID c.id).wn64 R.MTR_JOURNAL_SEQ_LO c.seq).p F.MTR_STATUS_BANK b).p
        F.MTR_STATUS_WRAPPED_ANY (b2n !c.wrapped.isEmpty)
      if c.kind = 0 ∨ c.kind = 1 then
        ((s2.p F.MTR_STATUS_LOSS_POSSIBLE 1).raise evMTR 2).post 0x4003 23 0 c.kind c.seq
      else s2
  let s2 := s1.mtr.badTable.foldl (fun t c =>
    let y := t.mtr
    let t1 := t.setMtr { y with
      gain := (List.range 32).foldl (fun a k => tset a 0 (32 * c + k) (tget y.fgain 0 (32 * c + k))) y.gain
      phase := (List.range 32).foldl (fun a k => tset a 0 (32 * c + k) (tget y.fphase 0 (32 * c + k))) y.phase
      badTable := y.badTable.filter (fun d => d != c) }
    ((((t1.p F.MTC_STATUS_FACTORY_IN_USE 1).inc R.MTC_CRC_ERR).raise evMTC 1).post 0x4007 24 c c)) s1
  (s2.setMtr { s2.mtr with restored := true }).p F.MTR_STATUS_STATE (s2.g F.MTR_CTL_ENABLE)

/-- A write of MTR_CTL (R300, R311): ENABLE 0 stops the measurement, which counts as a gap. -/
def State.mtrCtlWrite (s : State) (v : Nat) : State :=
  let was := s.g F.MTR_CTL_ENABLE
  let s1 := s.wn R.MTR_CTL (v % 4 + clampN 5 60 (bits v 8 8) * 256)
  if was = 1 ∧ v % 2 = 0 ∧ s1.g F.MTR_STATUS_STATE = 1 then
    (s1.setMtr { s1.mtr with gapFrom := some s1.mtr.last }).p F.MTR_STATUS_STATE 0
  else if was = 0 ∧ v % 2 = 1 ∧ s1.g F.MTR_STATUS_STATE = 0 then s1.p F.MTR_STATUS_STATE 1
  else s1

/-! ## Snapshots and the display (R295 to R298) -/

/-- The member channels of an accumulator's channel or circuit, and whether it measures. -/
def State.accMembers (s : State) (acc : Nat) : List Nat × Bool :=
  if acc < 0x200 then ([acc / 8], s.g (F.MTR_CH_CFG_MODE (acc / 8)) == 1 || s.g (F.MTR_CH_CFG_MODE (acc / 8)) == 2)
  else
    let k := (acc - 0x200) / 8
    (cirMembers (s.rn (R.MTR_CIR_CFG k)), s.g (F.MTR_CIR_CFG_ENABLE k) == 1)

/-- ASSAY_FAULT on any member (R298). -/
def State.accFault (s : State) (acc : Nat) : Bool :=
  (s.accMembers acc).1.any (fun c => s.g (F.MTR_CH_STATUS_ASSAY_FAULT c) == 1)

/-- The record of R296. -/
def State.snapRecord (s : State) (acc : Nat) : List Byte :=
  let base := acc - acc % 8
  let m := (s.accMembers acc).1
  let wr := (List.range 7).any (fun q => s.mtr.doneWr.contains (base + q))
  let idle := m.all (fun c => s.mtr.doneIdle.contains c)
  let flags := b2n wr + 2 * b2n idle + 4 * s.g F.MTR_STATUS_PARTNER_TOTALS + 8 * s.g F.MTR_STATUS_GAP
    + 16 * s.g F.MTR_STATUS_LOSS_POSSIBLE + 32 * b2n (s.accFault acc)
  natLE 2 acc ++ [BitVec.ofNat 8 (if acc < 0x200 then acc / 8 else 128 + (acc - 0x200) / 8), BitVec.ofNat 8 flags]
    ++ natLE 4 (s.rn R.MTR_JOURNAL_ID) ++ natLE 8 s.mtr.doneTime
    ++ (List.range 7).flatMap (fun q => natLE 16 (tget s.mtr.done 0 (base + q)))

/-- The accumulator that a slot's binding names (R106). -/
def slotAcc (x : Slot) : Option Nat :=
  let acc := x.binding % 2 ^ 28
  if x.binding / 2 ^ 28 = 3 ∧ accOk acc then some acc else none

/-- MTR_SNAP (R295); its completion carries 0 in QUALITY and SLOT_FLAGS (log entry 217). -/
def execMtrSnap (r : OpRef) (b : HostBuf) (s : State) : Host.Outcome State Fault Refusal :=
  .next (s.withOp r 0x28 (fun _ => true) (fun o t =>
    let i := o.entry.arg0
    let t1 := (t.countDenied r.port o.ctx [i]).access o.ctx i
    let x := t1.slot i
    if !x.present || !t1.sees o.ctx x then t1.finishWith r 4 0
    else if !t1.ownsSlot i then t1.finishWith r 5 0
    else if x.typ ≠ 7 then t1.finishWith r 0x0B 1
    else match slotAcc x with
      | none => t1.finishWith r 0x0B 2
      | some acc =>
        if !(t1.accMembers acc).2 then t1.finishWith r 0x0B 2
        else match writeStatus o.entry b with
          | 0 => (t1.hostPut r.port o.entry b (t1.snapRecord acc)).finishWith r 0 0
          | st => t1.finishWith r st 0))

/-- The display value of an accumulator (R103, R298): of the block that ended at the last 1 s boundary. -/
def State.display (s : State) (acc : Nat) : Nat :=
  acc % 65536 + tget s.mtr.sec 0 acc * 100 / 2 ^ 32 % 2 ^ 48 * 65536

/-- ENERGY_DISPLAY_WRITE (R298): every owned ENERGY slot, by the motor. -/
def execEnergyDisplayWrite (s : State) : Host.Outcome State Fault Refusal :=
  if s.isButty || !s.pwr.domainsUp then .next s
  else
    let l := s.pix.slots.filter (fun e => e.2.present && e.2.typ == 7 && s.ownsSlot e.1)
    .next (l.foldl (fun t e =>
      match slotAcc e.2 with
      | none => t
      | some acc =>
        let q := if !(t.accMembers acc).2 then 8 else if t.accFault acc then 6 else 1
        let x := t.slot e.1
        if x.forced then t
        else (t.arb t.ptpNs e.1 { x with value := BitVec.ofNat 64 (t.display acc), quality := q }).forward
          .display e.1) s)

/-! ## Compensation tables (R303 to R306) -/

/-- The point that port `p` has selected: 32 × channel + point; none where the channel does not exist. -/
def State.mtcPoint (s : State) (p : Nat) : Option Nat :=
  let sel := s.prd p R.MTC_SEL
  if bits sel 0 6 ≤ 52 then some (32 * bits sel 0 6 + bits sel 8 5) else none

/-- What MTC_GAIN (`g` 0) or MTC_PHASE (`g` 1) reads for port `p` (R312). -/
def State.mtcRead (s : State) (p g : Nat) : Nat :=
  match tget s.mtr.staged none (2 * p + g), s.mtcPoint p with
  | some v, _ => v
  | none, none => 0
  | none, some k =>
    let x := s.mtr
    let fac := natBit (s.prd p R.MTC_SEL) 15
    ofSigned 32 (if g = 0 then (if fac then tget x.fgain 0 k else tget x.gain 0 k)
      else (if fac then tget x.fphase 0 k else tget x.phase 0 k))

/-- A staged value written by port `p` (R305). -/
def State.mtcStage (s : State) (p g v : Nat) : State :=
  s.setMtr { s.mtr with staged := tset s.mtr.staged none (2 * p + g) (some (v % 2 ^ 32)) }

/-- A write of MTC_CMD by port `p` (R305). -/
def State.mtcCmdWrite (s : State) (p v : Nat) : State :=
  let sel := s.prd p R.MTC_SEL
  if v % 4 = 1 then
    let g := toSigned 32 (s.mtcRead p 0)
    let f := toSigned 32 (s.mtcRead p 1)
    match s.mtcPoint p with
    | none => s.raise evMTC 3
    | some k =>
      if natBit sel 15 || Nat.blt 53687091 g.natAbs || Nat.blt 5000000 f.natAbs then s.raise evMTC 3
      else
        let x := s.mtr
        (s.setMtr { x with
          old := x.old ++ [(gainKey k, ofSigned 32 (tget x.gain 0 k), s.clk.upNs)]
          gain := tset x.gain 0 k g, phase := tset x.phase 0 k f
          staged := tset (tset x.staged none (2 * p) none) none (2 * p + 1) none }).raise evMTC 2
  else if v % 4 = 2 then
    match s.mtcPoint p with
    | none => s
    | some k =>
      let x := s.mtr
      let c := k / 32
      s.setMtr { x with
        gain := (List.range 32).foldl (fun a j => tset a 0 (32 * c + j) (tget x.fgain 0 (32 * c + j))) x.gain
        phase := (List.range 32).foldl (fun a j => tset a 0 (32 * c + j) (tget x.fphase 0 (32 * c + j))) x.phase }
  else s

/-- MTC_COMMIT (R305): port `p` writes MTC_CMD with ACTION COMMIT. -/
def execMtcCommit (p : Fin 2) (s : State) : Host.Outcome State Fault Refusal :=
  .next (if s.linkUp p then s.regWrite p R.MTC_CMD (fun t => t.mtcCmdWrite p 1) else s)

/-- MTC_RESTORE (R305): port `p` writes MTC_CMD with ACTION RESTORE. -/
def execMtcRestore (p : Fin 2) (s : State) : Host.Outcome State Fault Refusal :=
  .next (if s.linkUp p then s.regWrite p R.MTC_CMD (fun t => t.mtcCmdWrite p 2) else s)

/-- MTC_TEMP_READ (R304, R306): the sensors are read, in units of 0.1 °C. -/
def execMtcTempRead (die mod : Int) (s : State) : Host.Outcome State Fault Refusal :=
  if !s.pwr.domainsUp then .next s
  else
    let bad := fun (t : Int) => decide (t < -500) || decide (1300 < t)
    let far := !bad die && !bad mod && decide (400 < (die - mod).natAbs)
    let hold := (bad die && bad mod) || far
    let s1 := (s.wn R.MTC_TEMP (ofSigned 16 die + ofSigned 16 mod * 65536)).wn R.MTC_STATUS
      (b2n (bad die) + 2 * b2n (bad mod) + 4 * s.g F.MTC_STATUS_FACTORY_IN_USE + 8 * b2n hold)
    let was := s.rn R.MTC_STATUS
    let s2 := if (bad die && !natBit was 0) || (bad mod && !natBit was 1) || (hold && !natBit was 3) then
        s1.raise evMTC 0 else s1
    let keep := fun (l : List Int) (t : Int) => if bad t || hold then l else (l.drop (l.length - 9)) ++ [t]
    .next (s2.setMtr { s2.mtr with dieT := keep s2.mtr.dieT die, modT := keep s2.mtr.modT mod })

/-! ## The assay rotation (R307 to R310) -/

/-- ASSAY_POS, IN_ASSAY and the queue shown for a step. -/
def State.mtrShow (s : State) : State :=
  let x := s.mtr
  let s1 := (List.range 48).foldl (fun t c =>
    (t.p (F.MTR_CH_STATUS_IN_ASSAY c) (b2n (x.step.any (fun p => p.target == c)))).p (F.MTR_CH_STATUS_CAL_PENDING c)
      (b2n (x.queue.any (fun q => q.1 == c) || x.again.contains c))) s
  let s2 := s1.p F.MTR_CAL_STATUS_QUEUED
    (min 48 ((x.queue.map (fun q => q.1)) ++ x.again.filter (fun c => !x.queue.any (fun q => q.1 == c))).length)
  match x.step with
  | none => s2.wn R.MTR_ASSAY_POS 63
  | some p => s2.wn R.MTR_ASSAY_POS (p.target + b2n p.cal * 64)

/-- The next channel of the regular rotation after `pos`, skipping channels that are OFF; REF at the end. -/
def State.rotNext (s : State) (pos : Nat) : Nat :=
  let from_ := if pos = 48 then 0 else pos + 1
  ((List.range 48).find? (fun c => Nat.ble from_ c && (s.accMembers (8 * c)).2)).getD 48

/-- The next step begins: a queued channel, with a REF step first where the last ended more than 600 s ago, or
the regular rotation. -/
def State.mtrNext (s : State) : State :=
  let x := s.mtr
  let len := clampN 5 60 (s.g F.MTR_CTL_ASSAY_STEP_S) * 1000000000
  let now := s.clk.upNs
  let stale := match x.refNs with | none => true | some t => Nat.blt (t + 600000000000) now
  if s.g F.MTR_CTL_ASSAY_EN = 0 ∨ !s.inService then (s.setMtr { x with step := none }).mtrShow
  else match x.queue with
    | (c, cal) :: rest =>
      if stale then (s.setMtr { x with step := some ⟨48, false, true, now + len⟩ }).mtrShow
      else (s.setMtr { x with queue := rest, step := some ⟨c, cal, true, now + (if cal then 2 * len else len)⟩ }).mtrShow
    | [] =>
      let cal := x.again.contains x.rot
      (s.setMtr { x with
        step := some ⟨x.rot, cal, false, now + (if cal then 2 * len else len)⟩ }).mtrShow

/-- The rotation starts or resumes. -/
def State.mtrStart (s : State) : State := if s.mtr.step.isNone then s.mtrNext else s

/-- The step in progress abandoned without a result (R307). -/
def State.mtrAbandon (s : State) : State :=
  match s.mtr.step with
  | some p =>
    let x := s.mtr
    (s.setMtr { x with step := none
                       queue := if p.queued && p.target != 48 then (p.target, p.cal) :: x.queue else x.queue }).mtrShow
  | none => s

/-- A result of a channel's visit (R308, R309): `code` as LAST_RESULT. -/
def State.mtrResult (s : State) (c code : Nat) (queued : Bool) : State :=
  let s1 := (s.p (F.MTR_CH_STATUS_LAST_RESULT c) code).incHold (F.MTR_CH_STATUS_VISITS c)
  let s2 := if queued then (s1.p F.MTR_CAL_STATUS_LAST_CHANNEL c).p F.MTR_CAL_STATUS_LAST_CODE code else s1
  let bad := code == 2 || code == 3
  let k := if bad then tget s2.mtr.fails 0 c + 1 else if code = 4 then tget s2.mtr.fails 0 c else 0
  let s3 := s2.setMtr { s2.mtr with fails := tset s2.mtr.fails 0 c k }
  if bad ∧ 2 ≤ k ∧ s3.g (F.MTR_CH_STATUS_ASSAY_FAULT c) = 0 then
    ((s3.p (F.MTR_CH_STATUS_ASSAY_FAULT c) 1).raise evMTR 4).post 0x4008 23 c c code
  else s3

/-- The result code of a verification (R308). -/
def verifyCode (m : AssayMeas) : Nat :=
  if m.noSignal then 4 else if 1000 < m.gain.natAbs then 2 else if 50 < m.phase.natAbs then 3 else 1

/-- The rotation goes on after the step `p`. -/
def State.mtrAfter (s0 : State) (p : MtrStep) : State :=
  let s := s0.count 514
  let x := s.mtr
  let pos := if p.queued then x.rot else s.rotNext x.rot
  (s.setMtr { x with rot := pos, step := none }).mtrNext

/-- ASSAY_STEP_END (R307 to R309): a REF or verify step ends. -/
def execAssayStepEnd (m : AssayMeas) (s : State) : Host.Outcome State Fault Refusal :=
  match s.mtr.step with
  | none => .next s
  | some p =>
    if p.cal then .next s
    else
      let s1 := s.advanceToUp p.endNs
      if p.target = 48 then .next ((s1.setMtr { s1.mtr with refNs := some s1.clk.upNs }).mtrAfter p)
      else .next ((s1.mtrResult p.target (verifyCode m) p.queued).mtrAfter p)

/-- CAL_STEP_END (R310): a calibration step ends. -/
def execCalStepEnd (m : AssayMeas) (s : State) : Host.Outcome State Fault Refusal :=
  match s.mtr.step with
  | none => .next s
  | some p =>
    if !p.cal then .next s
    else
      let s1 := s.advanceToUp p.endNs
      let c := p.target
      let g := toSigned 32 (s1.rn (R.MTR_CH_TRIM c)) + m.trim
      let f := toSigned 32 (s1.rn (R.MTR_CH_TRIMPH c)) + m.trimPh
      let x := s1.mtr
      let ended := s1.setMtr { x with again := x.again.filter (fun d => d != c) }
      if m.noSignal then
        .next (((s1.setMtr { x with again := if x.again.contains c then x.again else x.again ++ [c] }).mtrResult
          c 4 p.queued).mtrAfter p)
      else if 5368709 < g.natAbs ∨ 500000 < f.natAbs then .next ((ended.mtrResult c 6 p.queued).mtrAfter p)
      else if !m.checkOk then
        .next ((ended.mtrResult c (if 1000 < m.gain.natAbs then 2 else 3) p.queued).mtrAfter p)
      else
        let keep := ended.setMtr { ended.mtr with
          old := ended.mtr.old ++ [(R.MTR_CH_TRIM c, s1.rn (R.MTR_CH_TRIM c), s1.clk.upNs - 100000)] }
        let s2 := ((keep.wn (R.MTR_CH_TRIM c) (ofSigned 32 g)).wn (R.MTR_CH_TRIMPH c) (ofSigned 32 f)).raise evMTR 5
        .next ((s2.mtrResult c 5 p.queued).mtrAfter p)

/-- The channels that MTR_CAL_CMD names: one, or all with 63. -/
def calChannels (c : Nat) : List Nat := if c = 63 then List.range 48 else if c < 48 then [c] else []

/-- A write of MTR_CAL_CMD (R309, R310). -/
def State.mtrCalWrite (s : State) (v : Nat) : State :=
  let l := calChannels (bits v 0 6)
  match bits v 30 2 with
  | 1 => (l.foldl (fun t c =>
      let x := t.mtr
      let again := x.again.filter (fun d => d != c)
      t.setMtr { x with again := again
                        queue := if x.queue.any (fun q => q.1 == c) then x.queue else x.queue ++ [(c, false)] }) s).mtrShow
  | 2 => (l.foldl (fun t c =>
      let x := t.mtr
      t.setMtr { x with
        queue := if x.queue.any (fun q => q.1 == c) then x.queue.map (fun q => if q.1 == c then (c, true) else q)
          else x.queue ++ [(c, true)] }) s).mtrShow
  | 3 => l.foldl (fun t c =>
      (t.p (F.MTR_CH_STATUS_ASSAY_FAULT c) 0).setMtr { t.mtr with fails := tset t.mtr.fails 0 c 0 }) s
  | _ => s

/-- VERIFY (R310): port `p` writes MTR_CAL_CMD with ACTION VERIFY and channel `c`. -/
def execVerify (p : Fin 2) (c : Fin 64) (s : State) : Host.Outcome State Fault Refusal :=
  .next (if s.linkUp p then s.regWrite p R.MTR_CAL_CMD (fun t => t.mtrCalWrite (c.val + 1 * 2 ^ 30)) else s)

/-- CALIBRATE (R310): port `p` writes MTR_CAL_CMD with ACTION CALIBRATE and channel `c`. -/
def execCalibrate (p : Fin 2) (c : Fin 64) (s : State) : Host.Outcome State Fault Refusal :=
  .next (if s.linkUp p then s.regWrite p R.MTR_CAL_CMD (fun t => t.mtrCalWrite (c.val + 2 * 2 ^ 30)) else s)

/-- CLEAR_FAULT (R309): port `p` writes MTR_CAL_CMD with ACTION CLEAR_FAULT and channel `c`. -/
def execClearFault (p : Fin 2) (c : Fin 64) (s : State) : Host.Outcome State Fault Refusal :=
  .next (if s.linkUp p then s.regWrite p R.MTR_CAL_CMD (fun t => t.mtrCalWrite (c.val + 3 * 2 ^ 30)) else s)

end Sys2Proof.Machine
end

