-- ==== Sys2Proof/Machine/LoopPar.lean ====
section
/-! DEFINITION. Loop parameters: their numbers and ranges (R227), and the LOOPCFG section with its checks
(R232, R240, R241). -/

namespace Sys2Proof.Machine

/-! ## Reading bytes -/

def u8 (l : List Byte) (o : Nat) : Nat := (l.getD o 0#8).toNat

/-- `n` bytes at `o` as a number. -/
def un (l : List Byte) (o n : Nat) : Nat := leNat ((l.drop o).take n)

/-- The `n` bytes at `o` are zero. -/
def zeros (l : List Byte) (o n : Nat) : Bool := ((l.drop o).take n).all (fun b => b == 0#8)

/-- `n` pieces of `size` bytes. -/
def chunks (size : Nat) : Nat → List Byte → List (List Byte)
  | 0, _ => []
  | n + 1, l => l.take size :: chunks size n (l.drop size)

/-! ## Parameters (R227) -/

/-- The binary64 nearest to p / q. -/
def r64 (p : Int) (q : Nat := 1) : Nat := b64.ofRat p q

def le64 (x y : Nat) : Bool := b64.le x y
def lt64 (x y : Nat) : Bool := b64.lt x y

/-- lo ≤ x ≤ hi for binary64 patterns. -/
def in64 (lo hi x : Nat) : Bool := le64 lo x && le64 x hi

/-- A time that may be 0 or from 0.001 s to 10^6 s. -/
def timeOk (x : Nat) : Bool := b64.eq x 0 || in64 (r64 1 1000) (r64 1000000) x

/-- The range of a real parameter, where `lo` and `hi` are OUT_LO and OUT_HI as they will stand. -/
def paramOk (k lo hi x : Nat) : Bool :=
  match k with
  | 12 => in64 lo hi x
  | 13 => in64 0 (r64 1000000) x
  | 14 => timeOk x
  | 15 => in64 0 (r64 100000) x
  | 16 => in64 (r64 1) (r64 100) x
  | 17 => in64 0 (r64 1) x
  | 18 => in64 0 (r64 1) x
  | 19 => in64 (r64 (-1000000)) (r64 1000000) x
  | 20 => in64 (r64 (-1000000000)) (r64 1000000000) x && le64 x hi
  | 21 => in64 (r64 (-1000000000)) (r64 1000000000) x && le64 lo x
  | 22 => in64 0 (r64 1000000000) x
  | 23 => in64 0 (r64 1000000000) x
  | 24 => in64 0 (r64 1000000000) x
  | 25 => in64 0 (r64 1000000000) x
  | 26 => in64 0 (r64 1000000000) x
  | 27 => in64 0 (r64 3600) x
  | 30 => timeOk x
  | 31 => in64 (r64 (-100)) (r64 100) x
  | _ => false

/-- K can be written (W of R227). -/
def kWrites (k : Nat) : Bool := (Nat.ble 11 k && Nat.ble k 28) || k == 30 || k == 31

/-- K can be read (R of R227). -/
def kReads (k : Nat) : Bool := k != 28

/-- K is of type DINT. -/
def kDint (k : Nat) : Bool := k == 9 || k == 10 || k == 11 || k == 28

/-- K is scheduled by region where NREG is 2 or more. -/
def kScheduled (k : Nat) : Bool := k == 13 || k == 14 || k == 15 || k == 19

/-- The parameter number of a region field (0 KP, 1 TI, 2 TD, 3 KFF). -/
def regionK (f : Nat) : Nat := match f with | 0 => 13 | 1 => 14 | 2 => 15 | _ => 19

/-- The parameter numbers of PARAMS, in order (R240). -/
def cfgKs : List Nat := [12, 16, 17, 18, 20, 21, 22, 23, 24, 25, 26, 27, 30, 31]

/-! ## LOOPCFG (R240) -/

/-- A LOOPCFG entry. -/
def parseLoopCfg (b : List Byte) : LoopCfgRec :=
  { task := u8 b 0, loc := u8 b 1, flags := u8 b 2, feAction := u8 b 3, sched := u8 b 4, nreg := u8 b 5, mem := u8 b 6
    hyst := un b 8 4
    params := (List.range 14).map (fun k => un b (16 + 4 * k) 4)
    thresholds := (List.range 7).map (fun k => un b (72 + 4 * k) 4)
    regions := (List.range 8).map (fun r => (List.range 4).map (fun f => un b (104 + 16 * r + 4 * f) 4))
    memRec := [un b 232 4, un b 236 2, u8 b 238, un b 240 4, un b 244 4, un b 248 4, un b 252 4] }

/-- The value of parameter K in PARAMS, as binary64. -/
def LoopCfgRec.par (r : LoopCfgRec) (k : Nat) : Nat :=
  match cfgKs.findIdx? (fun j => j == k) with
  | some i => widen (r.params.getD i 0)
  | none => 0

/-- A memory's settings are in range (R234, R240). -/
def memRecOk (l : List Nat) : Bool :=
  let period := l.getD 0 0
  let gain := widen (l.getD 5 0)
  let q := widen (l.getD 6 0)
  Nat.ble 20 period && Nat.ble period 86400000 && Nat.ble 16 (l.getD 1 0) && Nat.ble (l.getD 1 0) 4096
    && Nat.blt (l.getD 3 0) period && Nat.blt (l.getD 4 0) period
    && (match l.getD 2 0 with
        | 0 => in64 0 (r64 1) gain && b64.eq q 0
        | 1 => in64 0 (r64 1000) gain && in64 0 (r64 1) q
        | _ => false)

/-- Each value of a list is below the next, with a gap of more than `h`. -/
def risingBy (h : Nat) : List Nat → Bool
  | a :: b :: t => lt64 a b && lt64 h (b64.sub b a) && risingBy h (b :: t)
  | _ => true

/-- Items 3 to 6 of R241: the entry on its own. -/
def cfgFieldsOk (b : List Byte) (r : LoopCfgRec) : Bool :=
  let thr := (r.thresholds.take (r.nreg - 1)).map widen
  let lo := r.par 20
  let hi := r.par 21
  Nat.blt r.flags 8 && zeros b 7 1 && zeros b 12 4 && zeros b 100 4 && zeros b 239 1
    && Nat.ble (r.feAction % 16) 4 && Nat.ble (r.feAction / 16) 2 && Nat.ble r.sched 3
    && Nat.ble 1 r.nreg && Nat.ble r.nreg 8 && (Nat.blt r.mem 64 || r.mem == 255)
    && (r.regions.drop r.nreg).all (fun g => g.all (fun x => x == 0))
    && (r.thresholds.drop (r.nreg - 1)).all (fun x => x == 0)
    && (if r.mem = 255 then zeros b 232 24 else memRecOk r.memRec)
    && cfgKs.all (fun k => paramOk k lo hi (r.par k))
    && thr.all (fun x => in64 (r64 (-1000000000)) (r64 1000000000) x)
    && le64 0 (widen r.hyst) && b32.finite r.hyst && risingBy (b64.mul (r64 2) (widen r.hyst)) thr
    && (r.regions.take r.nreg).all (fun g => (List.range 4).all (fun f => paramOk (regionK f) 0 0 (widen (g.getD f 0))))

/-! ## Checks against the image (R241) -/

/-- The binding of an entry of a task: DIR 0 input, 1 output. -/
def Image.bind (m : Image) (dir task e : Nat) : Option BindEnt :=
  m.binds.find? (fun b => b.task == task && b.dir == dir && b.entry == e)

/-- The task table entry of a task. -/
def Image.taskEnt (m : Image) (t : Nat) : Option TaskEnt := m.tasks.find? (fun e => e.task == t)

/-- The LAYOUT entry of a task. -/
def Image.layoutOf (m : Image) (t : Nat) : LayoutEnt := (m.layout.find? (fun e => e.task == t)).getD default

/-- The LOOPCFG entry of a task's loop. -/
def Image.cfgOf (m : Image) (task loc : Nat) : Option LoopCfgRec :=
  m.loopcfg.find? (fun c => c.task == task && c.loc == loc)

/-- An entry is of type REAL or LREAL. -/
def Image.realEnt (m : Image) (dir task e : Nat) : Bool :=
  match m.bind dir task e with | some b => b.typ == 3 || b.typ == 4 | none => false

/-- The evaluations of a task's loop per 10^6 s, as a period in µs (R212). -/
def TaskEnt.loopPeriod (t : TaskEnt) : Nat := if t.kind = 1 then max 250 t.period else t.period

/-- Items 2, 7 and 8 of R241: a loop with its configuration against the image. -/
def Image.loopFits (m : Image) (l : LoopEnt) (c : LoopCfgRec) : Bool :=
  m.realEnt 0 l.task l.pv && m.realEnt 0 l.task l.sp && m.realEnt 1 l.task l.out
    && (l.ff == 0xFFFF || m.realEnt 0 l.task l.ff)
    && (!(c.feAction % 16 == 2 || c.feAction / 16 == 1)
        || (match m.bind 1 l.task l.out with | some b => b.hasSafe | none => false))
    && (c.sched != 2 || l.ff != 0xFFFF)

/-- The group of a memory: the loops that name it on its engine, with their configurations (R232). -/
def Image.memGroup (m : Image) (engine mem : Nat) : List (LoopEnt × LoopCfgRec) :=
  m.loops.filterMap (fun l => if l.engine == engine then
    (match m.cfgOf l.task l.loc with
     | some c => if c.mem == mem && mem != 255 then some (l, c) else none
     | none => none) else none)

/-- Item 9 of R241 for one loop: its group is of one cyclic task with identical settings. -/
def Image.groupFits (m : Image) (l : LoopEnt) (c : LoopCfgRec) : Bool :=
  c.mem == 255 ||
    (match m.taskEnt l.task with
     | some t => t.kind == 0 && Nat.ble (t.period * c.memRec.getD 1 0) (c.memRec.getD 0 0 * 1000)
         && (m.memGroup l.engine c.mem).all (fun x => x.1.task == l.task && decide (x.2.memRec = c.memRec))
     | none => false)

/-- The evaluations per second of a list of loops as a fraction. -/
def Image.loadOf (m : Image) (l : List LoopEnt) : Nat × Nat :=
  l.foldl (fun (x : Nat × Nat) e =>
    match m.taskEnt e.task with
    | some t => (x.1 * t.loopPeriod + x.2 * 1000000, x.2 * t.loopPeriod)
    | none => x) (0, 1)

/-- Item 10 of R241: the load of loop `i`'s engine up to it is within 2,500,000 evaluations per second. -/
def Image.loadFits (m : Image) (i : Nat) : Bool :=
  match m.loops[i]? with
  | some l =>
    let x := m.loadOf ((m.loops.take (i + 1)).filter (fun e => e.engine == l.engine))
    Nat.ble x.1 (2500000 * x.2)
  | none => true

/-- Items 1 to 10 of R241: the index of the first LOOPCFG entry at fault. -/
def Image.cfgFault (m : Image) (raw : List (List Byte)) : Option Nat :=
  if m.loopcfg.length ≠ m.loops.length then some (min m.loopcfg.length m.loops.length)
  else
    (List.range m.loopcfg.length).find? (fun i =>
      match m.loopcfg[i]? with
      | none => true
      | some c =>
        match m.loops.find? (fun l => l.task == c.task && l.loc == c.loc) with
        | none => true
        | some l =>
          let j := (m.loops.findIdx? (fun e => decide (e = l))).getD 0
          !(!(m.loopcfg.take i).any (fun d => d.task == c.task && d.loc == c.loc)
            && cfgFieldsOk (raw.getD i []) c && m.loopFits l c && m.groupFits l c && m.loadFits j))

end Sys2Proof.Machine
end

