-- ==== Sys2Proof/Machine/Image.lean ====
section
/-! DEFINITION. The program image: its sections, the checks on loading and the identity of its parts (R137, R138, R169,
R171, R180 to R188). -/

namespace Sys2Proof.Machine

/-! ## Sections (R180 to R185) -/

/-- A directory entry (R181). -/
structure Sect where
  kind : Nat
  pad : Nat
  off : Nat
  len : Nat
  count : Nat
  deriving DecidableEq, Repr

/-- The directory of an image. -/
def directory (b : List Byte) : List Sect :=
  (chunks 16 (un b 12 2) (b.drop 128)).map (fun e => ⟨un e 0 2, un e 2 2, un e 4 4, un e 8 4, un e 12 4⟩)

/-- The bytes of the section of a kind, and its COUNT. -/
def part? (b : List Byte) (kind : Nat) : List Byte × Nat :=
  match (directory b).find? (fun x => x.kind == kind) with
  | some x => ((b.drop x.off).take x.len, x.count)
  | none => ([], 0)

/-- The entries of a section of fixed-size entries, no more than its bytes hold. -/
def entries (b : List Byte) (kind size : Nat) : List (List Byte) :=
  let x := part? b kind
  chunks size (min x.2 (x.1.length / size)) x.1

/-- Entry size, least and greatest COUNT of a section kind (R181); size 0: of no fixed size. -/
def sectBounds (kind : Nat) : Option (Nat × Nat × Nat) :=
  match kind with
  | 1 => some (32, 1, 96)
  | 2 => some (24, 0, 262144)
  | 3 => some (4, 1, 262144)
  | 4 => some (8, 0, 8192)
  | 5 => some (8, 0, 65536)
  | 6 => some (0, 0, 65536)
  | 7 => some (24, 0, 16384)
  | 8 => some (32, 0, 8192)
  | 9 => some (16, 0, 2048)
  | 10 => some (24, 0, 65536)
  | 11 => some (256, 0, 2048)
  | _ => none

/-- The task table entry in 32 bytes (R137); a cyclic WDOG of 0 is 12. -/
def parseTask (e : List Byte) : TaskEnt :=
  let kind := u8 e 1 % 2
  { task := u8 e 0, kind := kind, safety := natBit (u8 e 1) 1, prio := u8 e 2 % 32, pair := u8 e 3 % 4
    period := un e 4 4
    wdog := if kind = 0 ∧ un e 8 4 = 0 then 12 else un e 8 4
    entry := un e 12 4, instBase := un e 16 4, inCount := un e 20 2, outCount := un e 22 2
    trigKind := un e 24 4 / 2 ^ 28, trigRef := un e 24 4 % 2 ^ 28, phase := un e 28 4 }

/-- The length of an INIT record with its padding (R182). -/
def initLen (l : List Byte) : Nat := (12 + un l 8 4 + 7) / 8 * 8

/-- `n` INIT records; none where they run past the section or a reserved byte is set. -/
def parseInits : Nat → List Byte → Option (List InitRec × List Byte)
  | 0, l => some ([], l)
  | n + 1, l =>
    if l.length < 12 ∨ l.length < initLen l ∨ !zeros l 1 3 then none
    else match parseInits n (l.drop (initLen l)) with
      | some (r, rest) => some (⟨u8 l 0, un l 4 4, (l.drop 12).take (un l 8 4)⟩ :: r, rest)
      | none => none

/-- The first of `n` INIT records that is not whole or sets a reserved byte; `n` where bytes are left after them (R182). -/
def initFault : Nat → List Byte → Option Nat
  | 0, l => if l.isEmpty then none else some 0
  | n + 1, l =>
    if l.length < 12 ∨ l.length < initLen l ∨ !zeros l 1 3 then some 0
    else (initFault n (l.drop (initLen l))).map (fun i => i + 1)

/-- The image that the bytes spell, whatever the checks say of it. -/
def parseImage (b : List Byte) : Image :=
  { digest := (b.drop 64).take 64, origin := u8 b 6, node := un b 28 4, building := un b 32 4
    tasks := (entries b 1 32).map parseTask
    layout := (entries b 2 24).map (fun e => ⟨u8 e 0, u8 e 1, un e 4 4, un e 8 4, un e 12 4, un e 16 4⟩)
    code := (entries b 3 4).map leNat
    funcs := (entries b 4 8).map (fun e => ⟨un e 0 4, un e 4 4⟩)
    consts := (entries b 5 8).map leNat
    inits := match parseInits (part? b 6).2 (part? b 6).1 with | some (l, _) => l | none => []
    binds := (entries b 7 24).map (fun e =>
      { task := u8 e 0, dir := u8 e 1, entry := un e 2 2, index := un e 4 4, typ := u8 e 8 % 16
        hasSafe := natBit (u8 e 8) 4, station := u8 e 9, fieldOut := un e 10 2, safe := un e 16 8 })
    slots := (entries b 8 32).map (fun e =>
      { index := un e 0 4, tag := un e 4 2 % 4096, typ := un e 4 2 / 4096, retained := natBit (u8 e 6) 5
        event := natBit (u8 e 6) 7, quality := u8 e 7, binding := un e 8 4, initial := un e 16 8, symbol := un e 24 8 })
    loops := (entries b 9 16).map (fun e =>
      { task := u8 e 0, loc := u8 e 1, engine := u8 e 2, slot := un e 4 2, pv := un e 6 2, sp := un e 8 2
        ff := un e 10 2, out := un e 12 2 })
    syms := (entries b 10 24).map (fun e =>
      { hash := un e 0 8, typ := u8 e 8, task := u8 e 9, cls := u8 e 10, off := un e 12 4, size := un e 16 4 })
    loopcfg := (entries b 11 256).map parseLoopCfg }

/-! ## The checks (R187) -/

/-- The first refusal: reason, section KIND, entry or instruction index (R188). -/
abbrev Verdict := Option (Nat × Nat × Nat)

/-- The refusal `reason`, `kind` with the index of the first element that fails. -/
def firstBad {α : Type} (reason kind : Nat) (l : List α) (ok : α → Bool) : Verdict :=
  (l.findIdx? (fun x => !ok x)).map (fun i => (reason, kind, i))

/-- The first element that is wrong on its own or repeats an earlier one. -/
def badAfter {α : Type} (wrong : α → Bool) (again : α → α → Bool) (l : List α) : Option Nat :=
  (List.range l.length).find? (fun i => match l[i]? with
    | none => false
    | some x => wrong x || (l.take i).any (again x))

/-- A refusal unless the condition holds. -/
def need (reason kind idx : Nat) (ok : Bool) : Verdict := if ok then none else some (reason, kind, idx)

/-- Check 2: the header (R180). -/
def check2 (bufLen : Nat) (b : List Byte) : Verdict :=
  need 2 0 0 (bufLen == un b 8 4 && b.length == un b 8 4 && un b 0 4 == 0x4B425943 && un b 4 2 == 1 && Nat.blt (u8 b 6) 2
    && u8 b 7 == 0 && un b 8 4 % 8 == 0 && Nat.ble 256 (un b 8 4) && Nat.ble (un b 8 4) 4194304
    && Nat.ble 3 (un b 12 2) && Nat.ble (un b 12 2) 11 && zeros b 14 2 && zeros b 36 28)

/-- Check 3: DIGEST. -/
def check3 (b : List Byte) : Verdict := need 3 0 0 (sha3_512 (b.drop 128) == (b.drop 64).take 64)

/-- Check 5: the directory (R181). -/
def check5 (b : List Byte) : Verdict :=
  let d := directory b
  let n := un b 8 4
  let dend := 128 + 16 * un b 12 2
  let fits := fun (x : Sect) => match sectBounds x.kind with
    | some (size, lo, hi) => x.pad == 0 && x.off % 8 == 0 && Nat.ble dend x.off && Nat.ble (x.off + x.len) n
        && Nat.ble lo x.count && Nat.ble x.count hi && (size == 0 || x.len == size * x.count)
    | none => false
  let clear := fun (x y : Sect) =>
    y.kind != x.kind && (Nat.ble (x.off + x.len) y.off || Nat.ble (y.off + y.len) x.off)
  need 5 0 0 (Nat.ble dend n)
    <|> (badAfter (fun x => !fits x) (fun x y => !clear x y) d).map
        (fun i => (5, (d.getD i ⟨0, 0, 0, 0, 0⟩).kind % 256, i))
    <|> ([1, 2, 3].find? (fun k => !d.any (fun x => x.kind == k))).map (fun k => (5, k, 0))
    <|> (initFault (part? b 6).2 (part? b 6).1).map (fun i => (5, 6, i))

/-- A task table entry is in range (R137). -/
def taskOk (e : List Byte) : Bool :=
  let t := parseTask e
  Nat.blt t.task 96 && t.kind == (if t.task < 32 then 0 else 1) && Nat.blt (u8 e 1) 4 && Nat.blt (u8 e 2) 32
    && Nat.blt (u8 e 3) 4 && Nat.ble t.inCount 4096 && Nat.ble t.outCount 2048
    && (if t.kind = 0 then
          Nat.ble 250 t.period && Nat.ble t.period 10000000 && Nat.ble 8 t.wdog && Nat.ble t.wdog 64
            && un e 24 4 == 0 && Nat.blt t.phase t.period
        else
          Nat.ble t.period 10000000 && Nat.ble 250 t.wdog && Nat.ble t.wdog 10000000 && t.phase == 0
            && (match t.trigKind with
                | 1 => Nat.blt t.trigRef 262144
                | 2 => t.trigRef == 0
                | 3 => t.trigRef == 0
                | 4 => Nat.blt t.trigRef 64
                | _ => false))

/-- Check 6: the task table. -/
def check6 (b : List Byte) : Verdict :=
  let l := entries b 1 32
  firstBad 6 1 (List.range l.length) (fun i =>
    taskOk (l.getD i []) && (i == 0 || Nat.blt (u8 (l.getD (i - 1) []) 0) (u8 (l.getD i []) 0)))

/-- Two ranges of bytes overlap; empty ranges overlap nothing. -/
def overlap (a la b lb : Nat) : Bool := la != 0 && lb != 0 && Nat.blt a (b + lb) && Nat.blt b (a + la)

/-- The areas of tasks: LAYOUT index, pair, start, length. -/
def Image.areas (m : Image) : List (Nat × Nat × Nat × Nat) :=
  (List.range m.layout.length).flatMap (fun i =>
    match m.layout[i]? with
    | none => []
    | some y => match m.taskEnt y.task with
      | none => []
      | some t => [(i, t.pair, t.instBase, y.instSize), (i, t.pair, y.frameBase, 528 * y.depth)])

/-- Check 7: LAYOUT, areas, retained ranges, INIT (R182). -/
def check7 (b : List Byte) (m : Image) : Verdict :=
  let raw := entries b 2 24
  let ar := m.areas
  need 7 2 (min m.layout.length m.tasks.length) (m.layout.length == m.tasks.length)
    <|> firstBad 7 2 (List.range m.layout.length) (fun i =>
          match m.layout[i]? with
          | none => false
          | some y => (m.taskEnt y.task).isSome && !(m.layout.take i).any (fun z => z.task == y.task)
              && Nat.ble 1 y.depth && Nat.ble y.depth 32 && zeros (raw.getD i []) 2 2 && zeros (raw.getD i []) 20 4
              && y.instSize % 8 == 0 && y.frameBase % 8 == 0 && y.retOff % 8 == 0 && y.retSize % 8 == 0
              && Nat.ble (y.retOff + y.retSize) y.instSize)
    <|> (ar.find? (fun x => !Nat.ble (x.2.2.1 + x.2.2.2) 524288)).map (fun x => (7, 2, x.1))
    <|> ((List.range ar.length).find? (fun i => match ar[i]? with
          | none => false
          | some x => (ar.take i).any (fun y => y.2.1 == x.2.1 && overlap x.2.2.1 x.2.2.2 y.2.2.1 y.2.2.2))).map
        (fun i => (7, 2, (ar.getD i (0, 0, 0, 0)).1))
    <|> need 7 2 0 (Nat.ble (m.layout.foldl (fun n y => n + y.retSize) 0
          + 32 * (m.slots.filter (fun c => c.retained)).length) 2097152)
    <|> firstBad 7 6 m.inits (fun r => (m.taskEnt r.task).isSome
          && Nat.ble (r.off + r.data.length) (m.layoutOf r.task).instSize)

/-- Check 8 (R138). -/
def check8 (m : Image) : Verdict :=
  need 8 1 0 (Nat.ble (m.tasks.foldl (fun n t => n + t.inCount + t.outCount) 0) 16384)

/-! ### Code -/

def wOp (w : Nat) : Nat := w / 2 ^ 25 % 128
def wD (w : Nat) : Nat := bits w 19 6
def wA (w : Nat) : Nat := bits w 13 6
def wB (w : Nat) : Nat := bits w 7 6
def wSub (w : Nat) : Nat := bits w 0 7
def wImm (w : Nat) : Nat := bits w 0 19
def wIdx (w : Nat) : Nat := bits w 0 12
def wLoc (w : Nat) : Nat := bits w 11 8
def wK (w : Nat) : Nat := bits w 6 5

/-- The word is an instruction: OP, zero fields and sub-fields (R169 to R171). -/
def legalWord (w : Nat) : Bool :=
  let op := wOp w
  if [0x00, 0x05].contains op then bits w 0 25 == 0
  else if op = 0x01 then wD w == 0
  else if op = 0x07 then Nat.blt (wImm w) 8
  else if [0x08, 0x3C, 0x3D, 0x47].contains op then wB w == 0 && wSub w == 0
  else if [0x0B, 0x30, 0x37, 0x38].contains op then bits w 6 1 == 0
  else if [0x13, 0x14, 0x15, 0x16, 0x17].contains op then bits w 12 7 == 0
  else if op = 0x42 then bits w 12 7 == 0 && wD w % 2 == 0
  else if [0x18, 0x19].contains op then bits w 0 6 == 0
  else if [0x1F, 0x25, 0x26, 0x29, 0x2E, 0x35].contains op then Nat.ble (wSub w) 5
  else if [0x2F, 0x36].contains op then Nat.ble (wSub w) 18 && (Nat.blt 14 (wSub w) || wB w == 0)
  else if op = 0x41 then bits w 0 3 == 0 && Nat.ble (bits w 9 4) 6 && Nat.ble (bits w 5 4) 6
  else if op = 0x43 then wD w % 2 == 0 && wA w % 2 == 0 && wB w % 2 == 0 && wSub w == 0
  else if op = 0x44 then wA w % 2 == 0 && wB w == 0 && wSub w == 0
  else if (Nat.ble 0x1A op && Nat.ble op 0x40) then wSub w == 0
  else Nat.ble op 0x47

/-- The indices an instruction at index `i` can go on to; negative or large ones lie outside CODE. -/
def Image.nexts (m : Image) (i : Nat) : List Int :=
  let w := m.code.getD i 0
  let here : Int := i
  match wOp w with
  | 0x01 => [here + toSigned 19 (wImm w)]
  | 0x02 => [here + 1, here + toSigned 19 (wImm w)]
  | 0x03 => [here + 1, here + toSigned 19 (wImm w)]
  | 0x04 => match m.funcs[wImm w]? with
    | some f => [here + 1, ((f.off / 4 : Nat) : Int)]
    | none => [here + 1]
  | 0x05 => []
  | 0x45 => (List.range (wImm w + 1)).map (fun (k : Nat) => here + 1 + (k : Int))
  | _ => [here + 1]

/-- The reachable indices: `n` rounds from a frontier. -/
def Image.reach (m : Image) : Nat → List Nat → List Nat → List Nat
  | 0, _, seen => seen
  | n + 1, front, seen =>
    let next := (front.flatMap m.nexts).filterMap (fun (j : Int) =>
      if 0 ≤ j ∧ j < m.code.length then some j.toNat else none)
    let new := (next.filter (fun j => !seen.contains j)).eraseDups
    if new.isEmpty then seen else m.reach n new (seen ++ new)

/-- The instructions reachable from a task's ENTRY (R168, R187): indices. -/
def Image.reachable (m : Image) (t : TaskEnt) : List Nat :=
  if t.entry % 4 = 0 ∧ t.entry / 4 < m.code.length then m.reach m.code.length [t.entry / 4] [t.entry / 4] else []

/-- A reachable instruction is right for a task (check 9 of R187). -/
def Image.instrOk (m : Image) (t : TaskEnt) (i : Nat) : Bool :=
  let w := m.code.getD i 0
  let n := m.code.length
  let inside := (m.nexts i).all (fun j => decide (0 ≤ j ∧ j < n))
  match wOp w with
  | 0x01 => inside
  | 0x02 => inside
  | 0x03 => inside
  | 0x04 => Nat.blt (wImm w) m.funcs.length
  | 0x45 => inside
  | 0x13 => Nat.blt (wIdx w) t.inCount
  | 0x14 => Nat.blt (wIdx w) t.inCount
  | 0x15 => Nat.blt (wIdx w) t.inCount
  | 0x42 => Nat.blt (wIdx w) t.inCount
      && (match m.bind 0 t.task (wIdx w) with | some b => b.typ == 7 | none => false)
  | 0x16 => Nat.blt (wIdx w) t.outCount && !m.loops.any (fun l => l.task == t.task && l.out == wIdx w)
  | 0x17 => Nat.blt (wIdx w) t.outCount && !m.loops.any (fun l => l.task == t.task && l.out == wIdx w)
  | 0x18 => m.loops.any (fun l => l.task == t.task && l.loc == wLoc w)
  | 0x19 => m.loops.any (fun l => l.task == t.task && l.loc == wLoc w)
  | _ => true

/-- Check 9: the code. -/
def check9 (m : Image) : Verdict :=
  firstBad 9 3 m.code legalWord
    <|> need 9 3 (m.code.length - 1) ([0x01, 0x05, 0x45].contains (wOp (m.code.getD (m.code.length - 1) 0)))
    <|> m.tasks.findSome? (fun t => ((m.reachable t).find? (fun i => !m.instrOk t i)).map (fun i => (9, 3, i)))

/-- Check 10: entry points and constants. -/
def check10 (m : Image) : Verdict :=
  let inCode := fun (o : Nat) => o % 4 == 0 && Nat.blt o (4 * m.code.length)
  firstBad 10 4 m.funcs (fun f => inCode f.off && f.size % 8 == 0)
    <|> firstBad 10 1 m.tasks (fun t => inCode t.entry)
    <|> firstBad 10 3 m.code (fun w => wOp w != 0x0A || Nat.blt (wImm w) m.consts.length)
    <|> need 10 5 0 (Nat.ble (4 * m.code.length + 8 * m.consts.length) 1048576)

/-! ### Bindings, slots, loops and symbols -/

/-- The units of FIELD_OUT (R183). -/
def outUnits : List Nat := [0x50, 0x52, 0x20, 0x21, 0x22, 0x23, 0x30, 0x31, 0x40, 0x41, 0x42, 0x43]

/-- The units of a field input channel (R106). -/
def inUnits : List Nat := [0x10, 0x20, 0x21, 0x22, 0x23, 0x30, 0x31, 0x40, 0x41, 0x42, 0x43]

/-- FIELD_OUT names an output, of a type that it takes (R183, R269, R273). -/
def fieldOutOk (fo typ : Nat) : Bool :=
  fo == 0 || (outUnits.contains (fo / 256) && (fo / 256 != 0x50 || Nat.blt (fo % 256) 24)
    && (fo / 256 != 0x52 || (Nat.blt (fo % 256) 24 && typ == 0))
    && (fo / 256 / 16 != 2 || ((Nat.blt (fo % 256) 80 || fo % 256 == 255) && [1, 3, 6].contains typ)))

/-- BINDING is valid (R106). -/
def bindingOk (b : Nat) : Bool :=
  let ref := b % 2 ^ 28
  match b / 2 ^ 28 with
  | 0 => ref == 0
  | 1 => Nat.blt ref 96
  | 2 => Nat.blt ref 65536 && inUnits.contains (ref / 256)
  | 3 => Nat.blt ref 65536 && accOk ref
  | _ => false

/-- A BINDINGS entry on its own (R183). -/
def bindOk (m : Image) (raw : List Byte) (b : BindEnt) : Bool :=
  (match m.taskEnt b.task with
   | some t => Nat.blt b.entry (if b.dir = 0 then t.inCount else t.outCount)
   | none => false)
    && Nat.blt b.dir 2 && Nat.blt b.index 262144 && Nat.blt b.typ 8 && Nat.blt (u8 raw 8) 32 && zeros raw 12 4
    && (Nat.blt b.station 64 || b.station == 255)
    && (if b.hasSafe then b.dir == 1 && encodedAs b.typ b.safe else b.safe == 0)
    && (if b.dir = 0 then b.fieldOut == 0 else fieldOutOk b.fieldOut b.typ)

/-- Check 11: bindings; `owned` says which slots lie in owned blocks. -/
def check11 (owned : Nat → Bool) (b : List Byte) (m : Image) : Verdict :=
  let raw := entries b 7 24
  firstBad 11 7 (List.range m.binds.length) (fun i =>
      match m.binds[i]? with
      | none => false
      | some x =>
        let before := m.binds.take i
        let outs := before.filter (fun y => y.dir == 1)
        bindOk m (raw.getD i []) x
          && !before.any (fun c => c.task == x.task && c.dir == x.dir && c.entry == x.entry)
          && (if x.dir = 1 then
                owned x.index
                  && (match m.slots.find? (fun c => c.index == x.index) with
                      | some c => c.binding == 2 ^ 28 + x.task
                      | none => false)
                  && !outs.any (fun y => y.index == x.index || (x.fieldOut != 0 && y.fieldOut == x.fieldOut))
              else x.typ != 7 ||
                (owned x.index && m.slots.any (fun c => c.index == x.index && c.typ == 7))))
    <|> need 11 7 m.binds.length (m.binds.length == m.tasks.foldl (fun n t => n + t.inCount + t.outCount) 0)
    <|> need 11 7 m.binds.length (Nat.ble (m.binds.filter (fun x => x.dir == 0 && x.typ == 7)).length 256)

/-- Check 12: slots (R184). -/
def check12 (owned : Nat → Bool) (b : List Byte) (m : Image) : Verdict :=
  let raw := entries b 8 32
  firstBad 12 8 (List.range m.slots.length) (fun i =>
    match m.slots[i]? with
    | none => false
    | some c =>
      let r := raw.getD i []
      Nat.blt c.index 262144 && owned c.index && !(m.slots.take i).any (fun d => d.index == c.index)
        && Nat.blt c.typ 8 && u8 r 6 == 32 * b2n c.retained + 128 * b2n c.event
        && [1, 3, 8].contains c.quality && zeros r 12 4 && bindingOk c.binding && encodedAs c.typ c.initial
        && (c.retained || c.symbol == 0)
        && (c.binding / 2 ^ 28 != 1 ||
            (m.binds.filter (fun x => x.dir == 1 && x.index == c.index && x.task == c.binding % 2 ^ 28)).length == 1))

/-- Check 13: loops (R185). -/
def check13 (b : List Byte) (m : Image) : Verdict :=
  let raw := entries b 9 16
  firstBad 13 9 (List.range m.loops.length) (fun i =>
    match m.loops[i]? with
    | none => false
    | some l =>
      let r := raw.getD i []
      (match m.taskEnt l.task with
       | some t => Nat.blt l.pv t.inCount && Nat.blt l.sp t.inCount && (l.ff == 0xFFFF || Nat.blt l.ff t.inCount)
           && Nat.blt l.out t.outCount
       | none => false)
        && Nat.blt l.engine 4 && Nat.blt l.slot 512 && zeros r 3 1 && zeros r 14 2
        && !(m.loops.take i).any (fun k =>
          (k.engine == l.engine && k.slot == l.slot) || (k.task == l.task && k.loc == l.loc)))

/-- Check 14: symbols (R185). -/
def check14 (b : List Byte) (m : Image) : Verdict :=
  let raw := entries b 10 24
  firstBad 14 10 (List.range m.syms.length) (fun i =>
    match m.syms[i]? with
    | none => false
    | some y =>
      let r := raw.getD i []
      (Nat.ble y.typ 6 || y.typ == 8) && zeros r 11 1 && zeros r 20 4
        && !(m.syms.take i).any (fun z => z.task == y.task && z.cls == y.cls && z.hash == y.hash)
        && (let lay := m.layoutOf y.task
            match y.cls with
            | 0 => (m.taskEnt y.task).isSome && Nat.ble (y.off + y.size) lay.instSize
            | 1 => (m.taskEnt y.task).isSome && Nat.ble lay.retOff y.off
                && Nat.ble (y.off + y.size) (lay.retOff + lay.retSize)
            | 2 => Nat.blt y.off m.consts.length && y.size == 8
            | 3 => y.task == 255 && y.size == 8 && m.slots.any (fun c => c.index == y.off && c.typ == y.typ)
            | _ => false))

/-- An STLP or LDLP meets R227 (item 11 of R241). -/
def Image.loopInstrOk (m : Image) (t : TaskEnt) (i : Nat) : Bool :=
  let w := m.code.getD i 0
  match wOp w with
  | 0x18 => kReads (wK w)
  | 0x19 => kWrites (wK w) && !(kScheduled (wK w) &&
      (match m.cfgOf t.task (wLoc w) with | some c => Nat.ble 2 c.nreg | none => false))
  | _ => true

/-- Check 15: LOOPCFG (R241). -/
def check15 (b : List Byte) (m : Image) : Verdict :=
  (m.cfgFault (entries b 11 256)).map (fun i => (15, 11, i))
    <|> m.tasks.findSome? (fun t => ((m.reachable t).find? (fun i => !m.loopInstrOk t i)).map (fun i => (15, 3, i)))

/-- Checks 2 to 16 of R187 in order; `bankOk`: the bank was written and read back without error. -/
def State.imageChecks (s : State) (bufLen : Nat) (b : List Byte) (bankOk : Bool) : Verdict :=
  let m := parseImage b
  check2 bufLen b <|> check3 b <|> need 4 0 0 (m.node == s.node && m.building == s.rn R.REP_BUILDING)
    <|> check5 b <|> check6 b <|> check7 b m <|> check8 m <|> check9 m <|> check10 m
    <|> check11 s.ownsSlot b m <|> check12 s.ownsSlot b m <|> check13 b m <|> check14 b m <|> check15 b m
    <|> need 16 0 0 bankOk

/-- RESULT of a refusal (R188); `partner`: it came from the duplex partner. -/
def verdictResult (v : Nat × Nat × Nat) (partner : Bool) : Nat :=
  v.1 + v.2.1 * 2 ^ 8 + v.2.2 % 2 ^ 32 * 2 ^ 16 + b2n partner * 2 ^ 63

/-- The image with its DIGEST recomputed over the bytes (R202). -/
def redigest (b : List Byte) : List Byte := b.take 64 ++ sha3_512 (b.drop 128) ++ b.drop 128

/-- The bytes with `new` at offset `o`. -/
def patchBytes (b : List Byte) (o : Nat) (new : List Byte) : List Byte := b.take o ++ new ++ b.drop (o + new.length)

/-- The file offset of a section. -/
def sectionOff (b : List Byte) (kind : Nat) : Option Nat := ((directory b).find? (fun x => x.kind == kind)).map (fun x => x.off)

end Sys2Proof.Machine
end

