-- ==== Sys2Proof/Machine/BlockCode.lean ====
section
/-! DEFINITION. Block code: registers, instance data, frames and the 72 instructions (R162 to R178). -/

namespace Sys2Proof.Machine

/-! ## Registers (R162, R163) -/

/-- The value of AR[n]; AR00 reads as zero. -/
def TaskRun.ar (r : TaskRun) (n : Nat) : Word64 := if n = 0 then 0#64 else tget r.regs 0#64 n

/-- AR[n] set; a write to AR00 is discarded. -/
def TaskRun.setAr (r : TaskRun) (n : Nat) (v : Word64) : TaskRun :=
  if n = 0 then r else { r with regs := tset r.regs 0#64 n v }

/-- The program counter at the next instruction. -/
def TaskRun.adv (r : TaskRun) : TaskRun := { r with pc := r.pc + 4 }

/-- The bits of a register that a type takes (R163). -/
def typeBits (typ : Nat) (v : Word64) : Word64 :=
  match typ with
  | 0 => v &&& 1#64
  | 1 => (v.setWidth 32).signExtend 64
  | 3 => (v.setWidth 32).setWidth 64
  | 6 => (v.setWidth 32).setWidth 64
  | _ => v

/-- What an instruction does: it goes on with a state and the task's run state, traps with a code and the code of
an ASSERT (R178), or waits. -/
inductive BcRes where
  | next (s : State) (r : TaskRun)
  | trap (code imm : Nat)
  | wait

/-- An instruction, of the state, the task and its run state. -/
abbrev BcFun := State → TaskEnt → TaskRun → BcRes

/-- An instruction that writes one register from the others. -/
def bcReg (d : Nat) (f : TaskRun → Word64) : BcFun := fun s _ r => .next s ((r.setAr d (f r)).adv)

/-- An instruction that writes one register or traps. -/
def bcRegTrap (d code : Nat) (f : TaskRun → Option Word64) : BcFun := fun s _ r =>
  match f r with
  | some v => .next s ((r.setAr d v).adv)
  | none => .trap code 0

/-- A branch of `n` instructions from the branch itself where `c` holds. -/
def bcBranch (c : TaskRun → Bool) (disp : Nat) : BcFun := fun s _ r =>
  if c r then .next s { r with pc := ((r.pc : Int) + 4 * toSigned 19 disp).toNat } else .next s r.adv

/-- 1 or 0 in a register. -/
def boolWord (b : Bool) : Word64 := if b then 1#64 else 0#64

/-! ## Integer arithmetic (R172) -/

def lowD (v : Word64) : BitVec 32 := v.setWidth 32
def sextD (v : BitVec 32) : Word64 := v.signExtend 64

/-- The condition SUB of a comparison on an order; none: a NaN operand. -/
def cmpHolds (sub : Nat) (o : Option Ordering) : Bool :=
  match o, sub with
  | none, 1 => true
  | none, _ => false
  | some x, 0 => x == .eq
  | some x, 1 => x != .eq
  | some x, 2 => x == .lt
  | some x, 3 => x != .gt
  | some x, 4 => x == .gt
  | some x, _ => x != .lt

def cmpInt (sub : Nat) (x y : Int) : Word64 :=
  boolWord (cmpHolds sub (some (if x < y then .lt else if x = y then .eq else .gt)))

/-- A 64-bit signed value saturated. -/
def satWord (i : Int) : Word64 :=
  if i < -(2 ^ 63 : Int) then BitVec.ofNat 64 (2 ^ 63)
  else if (2 ^ 63 : Int) ≤ i then BitVec.ofNat 64 (2 ^ 63 - 1)
  else BitVec.ofInt 64 i

def divWord {w : Nat} (x y : BitVec w) : Option (BitVec w) := if y = 0#w then none else some (x.sdiv y)
def modWord {w : Nat} (x y : BitVec w) : Option (BitVec w) := if y = 0#w then none else some (x.srem y)

/-- min(max(a, lo), hi) of signed values. -/
def limInt (a lo hi : Word64) : Word64 :=
  let m := if a.slt lo then lo else a
  if hi.slt m then hi else m

/-! ## Real arithmetic (R172) -/

def real (w : Nat) : Fmt := if w = 32 then b32 else b64

/-- A real operand of a register. -/
def realOf (w : Nat) (v : Word64) : Nat := v.toNat % 2 ^ w

def realWord (w n : Nat) : Word64 := BitVec.ofNat 64 (n % 2 ^ w)

/-- Function SUB of FUN.R and FUN.LR (R171, R172). -/
def funReal (w sub x y : Nat) : Nat :=
  let f := real w
  match sub with
  | 0 => f.abs x
  | 1 => f.negate x
  | 2 => f.sqrt x
  | 12 => f.integral .down x
  | 13 => f.integral .up x
  | 14 => f.integral .zero x
  | 16 => f.minNum x y
  | 17 => f.maxNum x y
  | _ => elemFun f sub (funOff sub w x (if sub < 15 then 0 else y)) x y

/-- LIM of reals (R172): a NaN value stands, a NaN limit is omitted, a lower limit above the upper gives the upper. -/
def limReal (w a lo hi : Nat) : Nat :=
  let f := real w
  if f.isNan a then a
  else
    let m := if f.isNan lo then a else f.maxNum a lo
    if f.isNan hi then m else f.minNum m hi

/-! ## CVT (R173) -/

def rndOf (n : Nat) : Rnd :=
  match n with | 0 => .nearest | 1 => .zero | 2 => .down | _ => .up

/-- The integer of a register under an integer type. -/
def intOf (typ : Nat) (v : Word64) : Int :=
  match typ with
  | 0 => (v.toNat % 2 : Nat)
  | 1 => (lowD v).toInt
  | 6 => ((lowD v).toNat : Nat)
  | _ => v.toInt

/-- The register value of an integer in a destination type; none where it lies outside the range. -/
def intTo (typ : Nat) (i : Int) : Option Word64 :=
  match typ with
  | 0 => some (boolWord (i != 0))
  | 1 => if -(2 ^ 31 : Int) ≤ i ∧ i < 2 ^ 31 then some (BitVec.ofInt 64 i) else none
  | 6 => if 0 ≤ i ∧ i < 2 ^ 32 then some (BitVec.ofInt 64 i) else none
  | _ => if -(2 ^ 63 : Int) ≤ i ∧ i < 2 ^ 63 then some (BitVec.ofInt 64 i) else none

def isReal (typ : Nat) : Bool := typ == 3 || typ == 4
def realWidth (typ : Nat) : Nat := if typ = 3 then 32 else 64

/-- CVT of a value. -/
def cvt (src dst rnd : Nat) (v : Word64) : Option Word64 :=
  if isReal src then
    let w := realWidth src
    match (real w).dec (realOf w v) with
    | .nan => if isReal dst then some (realWord (realWidth dst) ((real (realWidth dst)).nan 0 (realOf w v) 0))
        else if dst = 0 then some 1#64 else none
    | .inf n => if isReal dst then some (realWord (realWidth dst) ((real (realWidth dst)).infBits n))
        else if dst = 0 then some 1#64 else none
    | .fin n m e =>
      if isReal dst then some (realWord (realWidth dst) ((real (realWidth dst)).roundBy (rndOf rnd) n m e))
      else if dst = 0 then some (boolWord (m != 0))
      else intTo dst (roundInt (rndOf rnd) n m e)
  else
    let i := intOf src v
    if isReal dst then
      some (realWord (realWidth dst) ((real (realWidth dst)).roundBy (rndOf rnd) (decide (i < 0)) i.natAbs 0))
    else intTo dst i

/-! ## Instance data (R165, R196) -/

/-- The address of an access of `size` bytes: IB + AR[A] + OFF × size, exactly. -/
def bcAddr (r : TaskRun) (a off size : Nat) : Int := (r.ib : Int) + (r.ar a).toInt + (off * size : Nat)

/-- The trap of an access, none where it is right. -/
def accessTrap (m : Image) (t : TaskEnt) (size : Nat) (x : Int) : Option Nat :=
  if x < t.instBase ∨ ((t.instBase + (m.layoutOf t.task).instSize : Nat) : Int) < x + size then some 2
  else if 1 < size ∧ x % size ≠ 0 then some 3
  else none

/-- The image loaded; the empty image where there is none. -/
def State.img (s : State) : Image := s.scn.img.getD default

/-- `n` bytes of a pair's instance data at `x`. -/
def State.instBytes (s : State) (pair x n : Nat) : List Byte :=
  (List.range n).map (fun k => tget s.scn.inst 0#8 (524288 * pair + x + k))

/-- Bytes put into a pair's instance data. -/
def State.putInst (s : State) (pair x : Nat) (l : List Byte) : State :=
  { s with scn := { s.scn with inst :=
      (List.range l.length).foldl (fun t k => tset t 0#8 (524288 * pair + x + k) (l.getD k 0#8)) s.scn.inst } }

/-- The size of a variable's type in bytes: BOOL 1, DINT, REAL and ENUM 4, others 8. -/
def typeSize (typ : Nat) : Nat :=
  match typ with | 0 => 1 | 1 => 4 | 3 => 4 | 6 => 4 | _ => 8

/-- The variable of a task with a hash and a type (R196): CLASS 0 or 1, TYPE 0 to 6, SIZE that of the type. -/
def Image.variable? (m : Image) (task hash typ : Nat) : Option SymEnt :=
  m.syms.find? (fun y => y.task == task && y.hash == hash && y.typ == typ && Nat.blt y.cls 2 && Nat.blt y.typ 7
    && y.size == typeSize y.typ)

/-- The bytes of a task's forced variables, as offsets in its pair's instance data. -/
def State.forcedBytes (s : State) (t : TaskEnt) : List Nat :=
  s.forces.flatMap (fun e => match e.2.key with
    | .var k h z => if k = t.task then
        (match s.img.variable? k h z with
         | some y => (List.range y.size).map (fun j => t.instBase + y.off + j)
         | none => []) else []
    | .slot _ => [])

/-- A store of block code: bytes of a forced variable stay (R196). -/
def State.bcStore (s : State) (t : TaskEnt) (x : Nat) (l : List Byte) : State :=
  let forced := s.forcedBytes t
  { s with scn := { s.scn with inst := (List.range l.length).foldl (fun m k =>
      if forced.contains (x + k) then m else tset m 0#8 (524288 * t.pair + x + k) (l.getD k 0#8)) s.scn.inst } }

/-! ## Frames (R166) -/

/-- The frame at depth `d` of a task, in its pair's instance memory: the registers, RET_PC, CALLER_IB and FUNC. Beyond
FRAME_DEPTH there is none. -/
def State.putFrame (s : State) (t : TaskEnt) (d : Nat) (regs : Tbl Word64) (fr : Frame) : State :=
  let y := s.img.layoutOf t.task
  if y.depth < d then s
  else
    let a := 524288 * t.pair + y.frameBase + 528 * (d - 1)
    let free := s.scn.inst.filter (fun e => Nat.blt e.1 a || Nat.ble (a + 528) e.1)
    let put := fun (m : Tbl Byte) (o : Nat) (l : List Byte) =>
      (List.range l.length).foldl (fun u k => tset u 0#8 (a + o + k) (l.getD k 0#8)) m
    let words := (regs.filter (fun e => Nat.blt 0 e.1 && Nat.blt e.1 64)).foldl (fun m e => put m (8 * e.1) (natLE 8 e.2.toNat)) free
    { s with scn := { s.scn with
        inst := put words 512 (natLE 4 fr.retPc ++ natLE 4 fr.callerIb ++ natLE 4 fr.func) } }

/-- The current frame of a cycle saved: what CALL left of it, which at depth 1 is RET_PC 0, the task's INST_BASE and FUNC
0xFFFFFFFF, with the registers as they stand. -/
def State.saveFrame (s : State) (t : TaskEnt) (r : TaskRun) : State :=
  s.putFrame t (r.frames.length + 1) r.regs (r.frames.headD ⟨[], 0, t.instBase, 0xFFFFFFFF⟩)

/-- A load of `size` bytes. -/
def bcLoad (d a off size : Nat) (f : Nat → Word64) : BcFun := fun s t r =>
  let x := bcAddr r a off size
  match accessTrap s.img t size x with
  | some c => .trap c 0
  | none => .next s ((r.setAr d (f (leNat (s.instBytes t.pair x.toNat size)))).adv)

/-- A store of `size` bytes. -/
def bcSave (src a off size : Nat) : BcFun := fun s t r =>
  let x := bcAddr r a off size
  match accessTrap s.img t size x with
  | some c => .trap c 0
  | none => .next (s.bcStore t x.toNat (natLE size (r.ar src).toNat)) r.adv

/-! ## Loops of a task (R176, R227) -/

/-- The place of a task's loop: 512 × engine + slot. -/
def Image.loopKey (m : Image) (task loc : Nat) : Option Nat :=
  (m.loops.find? (fun l => l.task == task && l.loc == loc)).map (fun l => 512 * l.engine + l.slot)

/-- Loop slot `key`, where a loop is bound to it. -/
def State.loop? (s : State) (key : Nat) : Option LoopSlot := tget s.le.slot none key

/-- Loop slot `key` given the state `x`. -/
def State.setLoop (s : State) (key : Nat) (x : LoopSlot) : State :=
  { s with le := { s.le with slot := tset s.le.slot none key (some x) } }

/-- The gain K of a loop: its parameter, or that of its region. -/
def LoopSlot.gain (x : LoopSlot) (k : Nat) : Nat :=
  if 2 ≤ x.nreg ∧ kScheduled k then
    tget x.reg 0 (4 * x.region + (match k with | 13 => 0 | 14 => 1 | 15 => 2 | _ => 3))
  else tget x.par 0 k

/-- Quantity K of a loop as at the end of its last evaluation, in the encoding of its type (R227, R242). -/
def LoopSlot.qty (x : LoopSlot) (k : Nat) : Nat := if k = 28 then 0 else tget x.q 0 k

/-- The present value of K, as a READ copies it (R229): a parameter or MODE as it stands, another quantity as at the end of the
last evaluation. -/
def LoopSlot.present (x : LoopSlot) (k : Nat) : Nat :=
  if k = 28 then 0
  else if k = 11 then b2n x.auto
  else if k < 11 ∨ k = 29 then tget x.q 0 k
  else x.gain k

/-- The values written by STLP that are to be applied, and after them the host's (R228). -/
def LoopSlot.coming (x : LoopSlot) (host : Option (Nat × Nat)) : List (Nat × Nat) := x.due ++ x.stlp ++ host.toList

/-- A limit as it will stand at the boundary: the last value that comes for it, else the present one. -/
def LoopSlot.willBe (x : LoopSlot) (host : Option (Nat × Nat)) (k : Nat) : Nat :=
  match (x.coming host).reverse.find? (fun p => p.1 == k) with
  | some p => p.2
  | none => tget x.par 0 k

/-- The host write of a parameter of loop slot `l` that stands at the boundary at which a value of the task's present cycle
applies (R227, R228): for a cyclic task one that is due by the next release, for another one whose instant has come and that
waits for the cycle's end (log entry 209). -/
def State.hostComing (s : State) (t : TaskEnt) (r : TaskRun) (e slot : Nat) : Option (Nat × Nat) :=
  match tget s.le.wr none e with
  | some w =>
    let inTime := if w.atRelease then Nat.ble w.due (r.release + t.period * 1000) else Nat.ble w.due s.ptpNs
    if w.kind = 0 ∧ w.target = slot ∧ w.task = t.task ∧ inTime then some (w.index, w.value) else none
  | none => none

/-- A value that STLP writes is in the range of K (R227); `host`: the host's value that comes at the same boundary. -/
def stlpOk (x : LoopSlot) (host : Option (Nat × Nat)) (k : Nat) (v : Word64) : Bool :=
  if k = 11 then Nat.blt (lowD v).toNat 2
  else if k = 28 then true
  else paramOk k (x.willBe host 20) (x.willBe host 21) v.toNat

/-! ## The instructions (R170) -/

def bcNop : BcFun := fun s _ r => .next s r.adv
def bcBr (disp : Nat) : BcFun := bcBranch (fun _ => true) disp
def bcBrt (a disp : Nat) : BcFun := bcBranch (fun r => r.ar a != 0#64) disp
def bcBrf (a disp : Nat) : BcFun := bcBranch (fun r => r.ar a == 0#64) disp

/-- The registers that CALL passes and RET returns: AR01 to AR08 (R167). -/
def argRegs (t : Tbl Word64) : Tbl Word64 := t.filter (fun p => Nat.blt 0 p.1 && Nat.ble p.1 8)

/-- CALL (R166, R167): the caller's frame is saved and the callee's opened. -/
def bcCall (a f : Nat) : BcFun := fun s t r =>
  match s.img.funcs[f]? with
  | none => .wait
  | some fn =>
    let y := s.img.layoutOf t.task
    let base : Int := (r.ib : Int) + (r.ar a).toInt
    if y.depth < r.frames.length + 2 then .trap 4 0
    else if base % 8 ≠ 0 then .trap 3 0
    else if base < t.instBase ∨ ((t.instBase + y.instSize : Nat) : Int) < base + fn.size then .trap 2 0
    else
      let r1 := { r with
        frames := ⟨r.regs, r.pc + 4, r.ib, f⟩ :: r.frames
        regs := argRegs r.regs
        ib := base.toNat
        pc := fn.off }
      .next ((s.saveFrame t r).saveFrame t r1) r1

/-- RET (R167, R168). -/
def bcRet : BcFun := fun s _ r =>
  match r.frames with
  | [] => .next s { r with ended := true }
  | fr :: rest => .next s { r with
      frames := rest
      regs := (List.range 9).foldl (fun t n => if n = 0 then t else tset t 0#64 n (r.ar n)) fr.regs
      ib := fr.callerIb
      pc := fr.retPc }

def bcAssert (a imm : Nat) : BcFun := fun s _ r => if r.ar a = 0#64 then .trap 10 imm else .next s r.adv

/-- The system value IMM (R171). -/
def State.sysValue (s : State) (t : TaskEnt) (r : TaskRun) (imm : Nat) : Word64 :=
  match imm with
  | 0 => BitVec.ofNat 64 r.first
  | 1 => BitVec.ofNat 64 t.task
  | 2 => BitVec.ofNat 64 r.release
  | 3 => BitVec.ofNat 64 (t.period * 1000)
  | 4 => BitVec.ofNat 64 (s.rn64 (R.SCN_T_CYC_LO t.task))
  | 5 => BitVec.ofNat 64 (s.rn64 (R.SCN_T_LOST_LO t.task))
  | 6 => BitVec.ofNat 64 (s.rn R.REP_NODE)
  | _ => BitVec.ofNat 64 (s.g F.SCN_STATUS_MODE)

def bcSys (d imm : Nat) : BcFun := fun s t r => .next s ((r.setAr d (s.sysValue t r imm)).adv)
def bcMov (d a : Nat) : BcFun := bcReg d (fun r => r.ar a)
def bcLdi (d imm : Nat) : BcFun := bcReg d (fun _ => BitVec.ofInt 64 (toSigned 19 imm))

/-- Constant `i` as a task sees it: a SET_CONST in progress takes effect for each task at its own boundary (R200). -/
def State.constAt (s : State) (task i : Nat) : Nat :=
  match s.olc.change with
  | some (.values _ items left _ _) =>
    match (items.filter (fun x => x.op == 2 && x.const == i)).getLast? with
    | some x => if left.contains task then s.img.consts.getD i 0 else x.value
    | none => s.img.consts.getD i 0
  | _ => s.img.consts.getD i 0

def bcLdk (d imm : Nat) : BcFun := fun s t r => .next s ((r.setAr d (BitVec.ofNat 64 (s.constAt t.task imm))).adv)
def bcSel (d a b c : Nat) : BcFun := bcReg d (fun r => if r.ar c != 0#64 then r.ar a else r.ar b)
def bcLdb (d a off : Nat) : BcFun := bcLoad d a off 1 (BitVec.ofNat 64)
def bcLdw (d a off : Nat) : BcFun := bcLoad d a off 4 (fun n => sextD (BitVec.ofNat 32 n))
def bcLdwu (d a off : Nat) : BcFun := bcLoad d a off 4 (BitVec.ofNat 64)
def bcLdd (d a off : Nat) : BcFun := bcLoad d a off 8 (BitVec.ofNat 64)
def bcStb (src a off : Nat) : BcFun := bcSave src a off 1
def bcStw (src a off : Nat) : BcFun := bcSave src a off 4
def bcStd (src a off : Nat) : BcFun := bcSave src a off 8

/-- Input entry `i` of the latched image. -/
def TaskRun.inEnt (r : TaskRun) (i : Nat) : InEnt := tget r.inImg {} i

def bcLdin (d i : Nat) : BcFun := bcReg d (fun r => (r.inEnt i).value)
def bcLdiq (d i : Nat) : BcFun := bcReg d (fun r => BitVec.ofNat 64 (r.inEnt i).qual)
def bcLdit (d i : Nat) : BcFun := bcReg d (fun r => BitVec.ofNat 64 (r.inEnt i).time)
def bcLdinx (d a : Nat) : BcFun := fun s t r =>
  if (r.ar a).toNat < t.inCount then .next s ((r.setAr d (r.inEnt (r.ar a).toNat).value).adv) else .trap 7 0

/-- Output entry `i` as the cycle has written it. -/
def TaskRun.outEnt (r : TaskRun) (i : Nat) : OutEnt := tget r.outImg {} i
def TaskRun.setOut (r : TaskRun) (i : Nat) (x : OutEnt) : TaskRun := { r with outImg := tset r.outImg {} i x }

/-- The type of an output entry. -/
def State.outType (s : State) (task i : Nat) : Nat := match s.img.bind 1 task i with | some b => b.typ | none => 2

/-- STOUT (R175). -/
def bcStout (src i : Nat) : BcFun := fun s t r =>
  let typ := s.outType t.task i
  let v := typeBits typ (r.ar src)
  if isReal typ && !(real (realWidth typ)).finite v.toNat then .trap 6 0
  else .next s (r.setOut i { r.outEnt i with value := some v }).adv

/-- STOQ (R175). -/
def bcStoq (src i : Nat) : BcFun := fun s _ r =>
  let n := (r.ar src).toNat
  if [1, 3, 6, 7, 8].contains (n % 16) then
    .next s (r.setOut i { r.outEnt i with qual := some (n % 16, natBit n 6) }).adv
  else .trap 8 0

/-- LDLP (R176): it waits for the loop's evaluation. -/
def bcLdlp (d loc k : Nat) : BcFun := fun s t r =>
  match s.img.loopKey t.task loc with
  | none => .wait
  | some key => match s.loop? key with
    | none => .wait
    | some x => if r.loops.contains loc then .next s ((r.setAr d (BitVec.ofNat 64 (x.qty k))).adv) else .wait

/-- STLP (R176). -/
def bcStlp (src loc k : Nat) : BcFun := fun s t r =>
  match s.img.loopKey t.task loc with
  | none => .wait
  | some key => match s.loop? key with
    | none => .wait
    | some x =>
      if stlpOk x (s.hostComing t r (key / 512) (key % 512)) k (r.ar src) then
        .next (s.setLoop key { x with stlp := x.stlp ++ [(k, (r.ar src).toNat)] }) r.adv
      else .trap 9 0

def bcAddD (d a b : Nat) : BcFun := bcReg d (fun r => sextD (lowD (r.ar a) + lowD (r.ar b)))
def bcSubD (d a b : Nat) : BcFun := bcReg d (fun r => sextD (lowD (r.ar a) - lowD (r.ar b)))
def bcMulD (d a b : Nat) : BcFun := bcReg d (fun r => sextD (lowD (r.ar a) * lowD (r.ar b)))
def bcDivD (d a b : Nat) : BcFun := bcRegTrap d 1 (fun r => (divWord (lowD (r.ar a)) (lowD (r.ar b))).map sextD)
def bcModD (d a b : Nat) : BcFun := bcRegTrap d 1 (fun r => (modWord (lowD (r.ar a)) (lowD (r.ar b))).map sextD)
def bcCmpD (d a b sub : Nat) : BcFun := bcReg d (fun r => cmpInt sub (lowD (r.ar a)).toInt (lowD (r.ar b)).toInt)
def bcAddL (d a b : Nat) : BcFun := bcReg d (fun r => r.ar a + r.ar b)
def bcSubL (d a b : Nat) : BcFun := bcReg d (fun r => r.ar a - r.ar b)
def bcMulL (d a b : Nat) : BcFun := bcReg d (fun r => r.ar a * r.ar b)
def bcDivL (d a b : Nat) : BcFun := bcRegTrap d 1 (fun r => divWord (r.ar a) (r.ar b))
def bcModL (d a b : Nat) : BcFun := bcRegTrap d 1 (fun r => modWord (r.ar a) (r.ar b))
def bcCmpL (d a b sub : Nat) : BcFun := bcReg d (fun r => cmpInt sub (r.ar a).toInt (r.ar b).toInt)
def bcCmpE (d a b sub : Nat) : BcFun := bcReg d (fun r => cmpInt sub (lowD (r.ar a)).toNat (lowD (r.ar b)).toNat)
def bcAddT (d a b : Nat) : BcFun := bcReg d (fun r => satWord ((r.ar a).toInt + (r.ar b).toInt))
def bcSubT (d a b : Nat) : BcFun := bcReg d (fun r => satWord ((r.ar a).toInt - (r.ar b).toInt))
def bcCmpT (d a b sub : Nat) : BcFun := bcReg d (fun r => cmpInt sub (r.ar a).toInt (r.ar b).toInt)

/-- A real operation of two registers. -/
def bcReal (w d a b : Nat) (f : Nat → Nat → Nat) : BcFun :=
  bcReg d (fun r => realWord w (f (realOf w (r.ar a)) (realOf w (r.ar b))))

def bcAddR (w d a b : Nat) : BcFun := bcReal w d a b (real w).add
def bcSubR (w d a b : Nat) : BcFun := bcReal w d a b (real w).sub
def bcMulR (w d a b : Nat) : BcFun := bcReal w d a b (real w).mul
def bcDivR (w d a b : Nat) : BcFun := bcReal w d a b (real w).div
def bcCmpR (w d a b sub : Nat) : BcFun :=
  bcReg d (fun r => boolWord (cmpHolds sub ((real w).cmp (realOf w (r.ar a)) (realOf w (r.ar b)))))
def bcFunR (w d a b sub : Nat) : BcFun := bcReal w d a b (funReal w sub)
def bcLimR (w d a b c : Nat) : BcFun :=
  bcReg d (fun r => realWord w (limReal w (realOf w (r.ar a)) (realOf w (r.ar b)) (realOf w (r.ar c))))
def bcLimL (d a b c : Nat) : BcFun := bcReg d (fun r => limInt (r.ar a) (r.ar b) (r.ar c))
def bcAnd (d a b : Nat) : BcFun := bcReg d (fun r => r.ar a &&& r.ar b)
def bcOr (d a b : Nat) : BcFun := bcReg d (fun r => r.ar a ||| r.ar b)
def bcXor (d a b : Nat) : BcFun := bcReg d (fun r => r.ar a ^^^ r.ar b)
def bcNot (d a : Nat) : BcFun := bcReg d (fun r => ~~~ r.ar a)
def bcNotb (d a : Nat) : BcFun := bcReg d (fun r => boolWord (r.ar a == 0#64))
def bcShl (d a b : Nat) : BcFun := bcReg d (fun r => r.ar a <<< ((r.ar b).toNat % 64))
def bcShr (d a b : Nat) : BcFun := bcReg d (fun r => r.ar a >>> ((r.ar b).toNat % 64))
def bcSar (d a b : Nat) : BcFun := bcReg d (fun r => (r.ar a).sshiftRight ((r.ar b).toNat % 64))
def bcCvt (d a src dst rnd : Nat) : BcFun := bcRegTrap d 5 (fun r => cvt src dst rnd (r.ar a))

/-- An energy pair: AR[n] and AR[n+1] (R163). -/
def TaskRun.pair (r : TaskRun) (n : Nat) : Nat := (r.ar n).toNat + (r.ar (n + 1)).toNat * 2 ^ 64
def TaskRun.setPair (r : TaskRun) (n v : Nat) : TaskRun :=
  (r.setAr n (BitVec.ofNat 64 v)).setAr (n + 1) (BitVec.ofNat 64 (v / 2 ^ 64))

def bcEsnap (d i : Nat) : BcFun := fun s _ r => .next s (r.setPair d (r.inEnt i).snap).adv
def bcEsub (d a b : Nat) : BcFun := fun s _ r =>
  .next s (r.setPair d ((r.pair a + 2 ^ 128 - r.pair b) % 2 ^ 128)).adv
def bcEcvt (d a : Nat) : BcFun :=
  bcReg d (fun r => BitVec.ofNat 64 (b64.ofRat ((r.pair a : Nat) : Int) (2 ^ 32 * 1000)))
def bcBrx (a n : Nat) : BcFun := fun s _ r =>
  .next s { r with pc := r.pc + 4 * (1 + (if (r.ar a).toNat < n then (r.ar a).toNat else n)) }
def bcAddi (d a imm : Nat) : BcFun := bcReg d (fun r => r.ar a + BitVec.ofInt 64 (toSigned 13 imm))

/-- The instruction that a word of CODE spells (R169, R170). -/
def decodeBc (w : Nat) : BcFun :=
  let d := wD w
  let a := wA w
  let b := wB w
  let sub := wSub w
  let imm := wImm w
  let off := bits w 0 13
  let i := wIdx w
  match wOp w with
  | 0x01 => bcBr imm | 0x02 => bcBrt d imm | 0x03 => bcBrf d imm
  | 0x04 => bcCall d imm | 0x05 => bcRet | 0x06 => bcAssert d imm | 0x07 => bcSys d imm
  | 0x08 => bcMov d a | 0x09 => bcLdi d imm | 0x0A => bcLdk d imm | 0x0B => bcSel d a b (w % 64)
  | 0x0C => bcLdb d a off | 0x0D => bcLdw d a off | 0x0E => bcLdwu d a off | 0x0F => bcLdd d a off
  | 0x10 => bcStb d a off | 0x11 => bcStw d a off | 0x12 => bcStd d a off
  | 0x13 => bcLdin d i | 0x14 => bcLdiq d i | 0x15 => bcLdit d i | 0x16 => bcStout d i | 0x17 => bcStoq d i
  | 0x18 => bcLdlp d (wLoc w) (wK w) | 0x19 => bcStlp d (wLoc w) (wK w)
  | 0x1A => bcAddD d a b | 0x1B => bcSubD d a b | 0x1C => bcMulD d a b | 0x1D => bcDivD d a b
  | 0x1E => bcModD d a b | 0x1F => bcCmpD d a b sub
  | 0x20 => bcAddL d a b | 0x21 => bcSubL d a b | 0x22 => bcMulL d a b | 0x23 => bcDivL d a b
  | 0x24 => bcModL d a b | 0x25 => bcCmpL d a b sub | 0x26 => bcCmpE d a b sub
  | 0x27 => bcAddT d a b | 0x28 => bcSubT d a b | 0x29 => bcCmpT d a b sub
  | 0x2A => bcAddR 32 d a b | 0x2B => bcSubR 32 d a b | 0x2C => bcMulR 32 d a b | 0x2D => bcDivR 32 d a b
  | 0x2E => bcCmpR 32 d a b sub | 0x2F => bcFunR 32 d a b sub | 0x30 => bcLimR 32 d a b (w % 64)
  | 0x31 => bcAddR 64 d a b | 0x32 => bcSubR 64 d a b | 0x33 => bcMulR 64 d a b | 0x34 => bcDivR 64 d a b
  | 0x35 => bcCmpR 64 d a b sub | 0x36 => bcFunR 64 d a b sub | 0x37 => bcLimR 64 d a b (w % 64)
  | 0x38 => bcLimL d a b (w % 64) | 0x39 => bcAnd d a b | 0x3A => bcOr d a b | 0x3B => bcXor d a b
  | 0x3C => bcNot d a | 0x3D => bcNotb d a | 0x3E => bcShl d a b | 0x3F => bcShr d a b | 0x40 => bcSar d a b
  | 0x41 => bcCvt d a (bits w 9 4) (bits w 5 4) (bits w 3 2)
  | 0x42 => bcEsnap d i | 0x43 => bcEsub d a b | 0x44 => bcEcvt d a | 0x45 => bcBrx d imm
  | 0x46 => bcAddi d a off | 0x47 => bcLdinx d a
  | _ => bcNop

end Sys2Proof.Machine
end

