-- ==== Sys2Proof/Machine/LoopOps.lean ====
section
/-! DEFINITION. Loop slots, repetitive-control memories and trace buffers apart from their evaluation: initialisation at
loads and starts, parameter writes and their application (R218, R226 to R231, R235, R238). -/

namespace Sys2Proof.Machine

/-! ## Controller and tasks, as the loop engines see them -/

/-- MODE of SCN_STATUS: 0 STOP, 1 RUN, 2 HOLD, 3 HOLD halted. -/
def State.mode (s : State) : Nat := s.g F.SCN_STATUS_MODE

/-- The run state of a task. -/
def State.task (s : State) (t : Nat) : TaskRun := tget s.scn.task {} t

/-- A task given a run state. -/
def State.setTask (s : State) (t : Nat) (r : TaskRun) : State :=
  { s with scn := { s.scn with task := tset s.scn.task {} t r } }

/-- A cycle of the task is in progress: READY, RUNNING, PREEMPTED or HALTED. -/
def TaskRun.inCycle (r : TaskRun) : Bool :=
  r.st == .ready || r.st == .running || r.st == .preempted || r.st == .halted

/-! ## Initialisation (R231, R232, R235, R240) -/

/-- A loop slot as LOOPCFG sets it (R240). -/
def loopInit (l : LoopEnt) (c : LoopCfgRec) : LoopSlot :=
  let base := cfgKs.foldl (fun (t : Tbl Nat) k => tset t 0 k (c.par k)) []
  let g := fun (r f : Nat) => widen ((c.regions.getD r []).getD f 0)
  { task := l.task, loc := l.loc, pv := l.pv, sp := l.sp, ff := l.ff, out := l.out
    direct := natBit c.flags 0, initAuto := natBit c.flags 1, forceTrack := natBit c.flags 2
    feAction := c.feAction % 16, pvBadAction := c.feAction / 16, sched := c.sched, nreg := c.nreg
    mem := if c.mem = 255 then none else some c.mem
    hyst := widen c.hyst
    par := if c.nreg = 1 then (List.range 4).foldl (fun t f => tset t 0 (regionK f) (g 0 f)) base else base
    reg := if c.nreg = 1 then [] else (List.range (4 * c.nreg)).foldl (fun t n => tset t 0 n (g (n / 4) (n % 4))) []
    thr := (List.range (c.nreg - 1)).foldl (fun t n => tset t 0 n (widen (c.thresholds.getD n 0))) []
    auto := natBit c.flags 1 }

/-- The loop of an image with its configuration. -/
def Image.loopStart (m : Image) (l : LoopEnt) : LoopSlot := loopInit l ((m.cfgOf l.task l.loc).getD default)

/-- Every loop of the image initialised as at a cold start; slots that no loop names are idle. -/
def State.loopsCold (s : State) : State :=
  let l := s.img.loops.foldl (fun (t : Tbl (Option LoopSlot)) l =>
    tset t none (512 * l.engine + l.slot) (some (s.img.loopStart l))) []
  { s with le := { s.le with slot := l } }

/-- A loop slot at a warm restart: the integrator will be aligned, timer and latch clear, re-entry. -/
def LoopSlot.warm (x : LoopSlot) : LoopSlot :=
  { x with align := true, fresh := true, reentry := true, feTimer := 0, feLatch := false, stlp := [], due := [] }

/-- Every loop as at a warm restart by TASK_CTL. -/
def State.loopsWarm (s : State) : State :=
  { s with le := { s.le with slot := s.le.slot.map (fun e => (e.1, e.2.map LoopSlot.warm)) } }

/-- A memory as the LOOPCFG settings give it, with its bins. -/
def memInit (l : List Nat) (bins : Tbl Nat) : MemS :=
  { period := l.getD 0 0, nbins := l.getD 1 0, mode := l.getD 2 0, offset := l.getD 3 0, lead := l.getD 4 0
    gain := widen (l.getD 5 0), qf := widen (l.getD 6 0), bins := bins }

/-- The memories that the image names: key 64 × engine + memory, and settings. -/
def Image.mems (m : Image) : List (Nat × List Nat) :=
  (m.loops.filterMap (fun l => match m.cfgOf l.task l.loc with
    | some c => if c.mem = 255 then none else some (64 * l.engine + c.mem, c.memRec)
    | none => none)).eraseDups

/-- The saved copy fits a memory's settings (R235). -/
def savedFits (v : MemSaved) (l : List Nat) : Bool :=
  v.period == l.getD 0 0 && v.nbins == l.getD 1 0 && v.mode == l.getD 2 0

/-- One memory restored from its saved copy, or reset with its record and event (R235). -/
def State.memRestore (s : State) (key : Nat) (l : List Nat) : State :=
  let v := tget s.le.saved {} key
  let frozen := (tget s.le.mem {} key).frozen
  if savedFits v l then
    { s with le := { s.le with mem := tset s.le.mem {} key { memInit l v.bins with frozen := frozen } } }
  else
    (({ s with le := { s.le with
        mem := tset s.le.mem {} key { memInit l [] with frozen := frozen }
        saved := tset s.le.saved {} key ⟨l.getD 0 0, l.getD 1 0, l.getD 2 0, []⟩ } }).raise (evLE (key / 64)) 8).post
      0x200A (4 + key / 64) 0 (key / 64) (key % 64)

/-- FROZEN of every memory, which stays until UNFREEZE or a module reset (R236). -/
def State.memsFrozen (s : State) : Tbl MemS :=
  s.le.mem.foldl (fun t e => tset t {} e.1 { frozen := e.2.frozen }) []

/-- Every memory of the image restored at a restart or a start. -/
def State.memsRestore (s : State) : State :=
  s.img.mems.foldl (fun t e => t.memRestore e.1 e.2) { s with le := { s.le with mem := s.memsFrozen } }

/-- The memories after a load: the new settings, with the saved bins where they fit. -/
def State.memsLoad (s : State) : State :=
  let l := s.img.mems.foldl (fun (t : Tbl MemS) e =>
    let v := tget s.le.saved {} e.1
    let bins := if savedFits v e.2 then v.bins else []
    tset t {} e.1 { memInit e.2 bins with frozen := (tget s.le.mem {} e.1).frozen }) s.memsFrozen
  { s with le := { s.le with mem := l } }

/-- Every trace buffer emptied (R238); CFG_ERR stays until an ARM is accepted, and the commands that wait stay (R242). -/
def State.tracesEmpty (s : State) : State :=
  { s with le := { s.le with trace := s.le.trace.foldl (fun t e =>
    tset t {} e.1 { cfgErr := e.2.cfgErr, cmds := e.2.cmds }) [] } }

/-! ## Parameter values taken by a loop (R218, R226, R228) -/

/-- A loop slot changes to MANUAL with MAN_OUT at u_prev (R218), which after a load or restart is the OUT slot's value at the
latch of the first evaluation (R217). -/
def LoopSlot.toManual (x : LoopSlot) : LoopSlot :=
  if x.fresh then { x with auto := false, manOpen := true }
  else { x with auto := false, par := tset x.par 0 12 x.uPrev }

/-- One value of a parameter taken by a loop slot; `man`: MAN_OUT is written at the same boundary. -/
def LoopSlot.take (man : Bool) (x : LoopSlot) (p : Nat × Nat) : LoopSlot :=
  if p.1 = 11 then
    let auto := p.2 % 2 == 1
    if x.auto && !auto && !man then x.toManual else { x with auto := auto }
  else if p.1 = 28 then
    if p.2 % 2 ^ 32 = 0 then x else { x with feLatch := false, feTimer := 0 }
  else { x with par := tset x.par 0 p.1 p.2, manOpen := x.manOpen && p.1 != 12 }

/-- Of several values of one parameter the last (R228). -/
def lastOfEach : List (Nat × Nat) → List (Nat × Nat)
  | [] => []
  | p :: rest => if rest.any (fun q => q.1 == p.1) then lastOfEach rest else p :: lastOfEach rest

/-- The values of one boundary taken: of several of one parameter the last (R228). -/
def LoopSlot.takeAll (x : LoopSlot) (l : List (Nat × Nat)) : LoopSlot :=
  (lastOfEach l).foldl (LoopSlot.take (l.any (fun p => p.1 == 12))) x

/-- The boundary of an evaluation: the values due, and with them the host's (R228). -/
def LoopSlot.atBoundary (x : LoopSlot) (host : Option (Nat × Nat)) : LoopSlot :=
  let l := x.due ++ host.toList
  { x.takeAll l with due := [], manNow := x.manNow || l.any (fun p => p.1 == 12) }

/-! ## Writes into the running program image bank (R202, R230) -/

/-- The bytes of the running program image bank. -/
def State.bank (s : State) : List Byte := if s.scn.curBank then s.scn.bank1 else s.scn.bank0

/-- The DIGEST shown in OLC_DIGEST00 to OLC_DIGEST15 (R209). -/
def State.showDigest (s : State) (d : List Byte) : State :=
  (List.range 16).foldl (fun t k => t.wn (R.OLC_DIGEST k) (leNat ((d.drop (4 * k)).take 4))) s

/-- A half of a retained area tagged with a new digest where it carried the old. -/
def RetHalf.retag (old new : List Byte) (h : RetHalf) : RetHalf := if h.digest = old then { h with digest := new } else h

/-- The running bank given new bytes with its DIGEST recomputed; the retained banks follow (R202). -/
def State.rewriteBank (s : State) (b : List Byte) : State :=
  let nb := redigest b
  let d := (nb.drop 64).take 64
  let old := s.img.digest
  let c := s.scn
  let ret := c.ret.map (fun (e : Nat × RetArea) =>
    (e.1, { e.2 with half0 := e.2.half0.retag old d, half1 := e.2.half1.retag old d }))
  let img := c.img.map (fun m => { m with digest := d })
  let b0 := if c.curBank then c.bank0 else nb
  let b1 := if c.curBank then nb else c.bank1
  ({ s with scn := { c with bank0 := b0, bank1 := b1, img := img, ret := ret } }).showDigest d

/-- `new` at offset `o` of entry `i` of a section of the running bank, of entries of `size` bytes. -/
def State.patchEntry (s : State) (kind size i o : Nat) (new : List Byte) : State :=
  match sectionOff s.bank kind with
  | some off => s.rewriteBank (patchBytes s.bank (off + size * i + o) new)
  | none => s

/-! ## Host writes of loop state (R229, R230) -/

/-- Memory `key`, where the image names it. -/
def State.mem? (s : State) (key : Nat) : Option MemS :=
  if s.img.mems.any (fun e => e.1 == key) then some (tget s.le.mem {} key) else none

/-- Memory `key` given the state `x`. -/
def State.setMem (s : State) (key : Nat) (x : MemS) : State := { s with le := { s.le with mem := tset s.le.mem {} key x } }

/-- A magnitude of at most 10^9. -/
def bounded64 (v : Nat) : Bool := in64 (r64 (-1000000000)) (r64 1000000000) v

/-- The thresholds of a loop rise by more than twice HYST (R241). -/
def thrOk (x : LoopSlot) : Bool :=
  let l := (List.range (x.nreg - 1)).map (fun n => tget x.thr 0 n)
  l.all bounded64 && le64 0 x.hyst && risingBy (b64.mul (r64 2) x.hyst) l

/-- A write of loop state made to a loop slot; none where the target cannot be written. -/
def loopWrite (x : LoopSlot) (kind index v : Nat) : Option LoopSlot :=
  match kind with
  | 0 => if kWrites index && !(2 ≤ x.nreg && kScheduled index) then some (x.takeAll [(index, v)]) else none
  | 1 =>
    if index / 4 < x.nreg then
      some (if x.nreg = 1 then { x with par := tset x.par 0 (regionK (index % 4)) v }
        else { x with reg := tset x.reg 0 index v })
    else none
  | 2 =>
    if index = 7 then some { x with hyst := v }
    else if index + 1 < x.nreg then some { x with thr := tset x.thr 0 index v }
    else none
  | _ => none

/-- A value written to a loop slot is in range (R227, R241). -/
def loopValueOk (x : LoopSlot) (kind index v : Nat) : Bool :=
  match kind with
  | 0 => if index = 11 then Nat.blt (v % 2 ^ 32) 2 else index == 28 || paramOk index (x.willBe none 20) (x.willBe none 21) v
  | 1 => paramOk (regionK (index % 4)) 0 0 v
  | _ => match loopWrite x kind index v with | some y => b64.finite v && thrOk y | none => false

/-- A write made to a memory; none where the target cannot be written. A bin's write discards its open samples. -/
def memWrite (x : MemS) (kind index v : Nat) : Option MemS :=
  match kind, index with
  | 3, _ =>
    if index < x.nbins then
      some { x with
        bins := tset x.bins 0 index (fconv b64 b32 v)
        unsaved := if x.unsaved.contains index then x.unsaved else x.unsaved ++ [index]
        sum := if x.cur = some index then 0 else x.sum
        count := if x.cur = some index then 0 else x.count
        nsum := if x.ncur = some index then 0 else x.nsum
        ncount := if x.ncur = some index then 0 else x.ncount }
    else none
  | 4, 0 => some { x with offset := v }
  | 4, 1 => some { x with lead := v }
  | 4, 2 => some { x with gain := v }
  | 4, 3 => some { x with qf := v }
  | _, _ => none

/-- A value written to a memory is in range. -/
def memValueOk (x : MemS) (kind index v : Nat) : Bool :=
  match kind, index with
  | 3, _ => bounded64 v
  | 4, 0 => Nat.blt v x.period
  | 4, 1 => Nat.blt v x.period
  | 4, 2 => if x.mode = 0 then in64 0 (r64 1) v else in64 0 (r64 1000) v
  | 4, 3 => if x.mode = 0 then b64.eq v 0 else in64 0 (r64 1) v
  | _, _ => false

/-- The place of a loop-state target in LOOPCFG: entry offset and 4 bytes (R230, R240); none: not held there. -/
def persistAt (nreg kind index v : Nat) : Option (Nat × List Byte) :=
  let f := natLE 4 (fconv b64 b32 v)
  match kind with
  | 0 =>
    if kScheduled index then
      (if nreg = 1 then some (104 + 4 * (match index with | 13 => 0 | 14 => 1 | 15 => 2 | _ => 3), f) else none)
    else (cfgKs.findIdx? (fun k => k == index)).map (fun i => (16 + 4 * i, f))
  | 1 => some (104 + 4 * index, f)
  | 2 => if index = 7 then some (8, f) else some (72 + 4 * index, f)
  | 4 => match index with
    | 0 => some (240, natLE 4 v)
    | 1 => some (244, natLE 4 v)
    | 2 => some (248, f)
    | _ => some (252, f)
  | _ => none

/-- The LOOPCFG entries that hold a target: the loop's, or those of every loop of the memory's group. -/
def Image.cfgEntries (m : Image) (e kind target : Nat) : List Nat :=
  let named := if kind < 3 then (m.loops.filter (fun l => l.engine == e && l.slot == target)) else
    (m.memGroup e target).map (fun x => x.1)
  (List.range m.loopcfg.length).filter (fun i => match m.loopcfg[i]? with
    | some c => named.any (fun l => l.task == c.task && l.loc == c.loc)
    | none => false)

/-- The configuration held in the state follows the bank: LOOPCFG entry `i` with 4 bytes replaced. -/
def State.persist (s : State) (e kind target index v : Nat) : State :=
  let nreg := match s.loop? (512 * e + target) with | some x => x.nreg | none => 1
  match persistAt nreg kind index v with
  | none => s
  | some (o, bytes) =>
    (s.img.cfgEntries e kind target).foldl (fun t i =>
      let t1 := t.patchEntry 11 256 i o bytes
      let raw := (entries t1.bank 11 256).getD i []
      { t1 with scn := { t1.scn with img := t1.scn.img.map (fun m =>
          { m with loopcfg := m.loopcfg.set i (parseLoopCfg raw) }) } }) s

/-- Whether a target is present and writable: 0, or CODE 4; then PERSIST: CODE 6; then the range: CODE 3 (R229, R230). -/
def State.leWriteCode (s : State) (e : Nat) (w : LeWrite) : Nat :=
  if w.kind < 3 then
    match s.loop? (512 * e + w.target) with
    | none => 4
    | some x =>
      if (loopWrite x w.kind w.index w.value).isNone then 4
      else if w.persist && (persistAt x.nreg w.kind w.index w.value).isNone then 6
      else if loopValueOk x w.kind w.index w.value then 0 else 3
  else
    match s.mem? (64 * e + w.target) with
    | none => 4
    | some x =>
      if 63 < w.target ∨ (memWrite x w.kind w.index w.value).isNone then 4
      else if w.persist && (persistAt 1 w.kind w.index w.value).isNone then 6
      else if memValueOk x w.kind w.index w.value then 0 else 3

/-- The last command of engine `e` ends with a CODE; `ev`: 6 WR_DONE or 7 WR_REFUSED (R242). -/
def State.wrCode (s : State) (e code ev : Nat) : State := (s.p (F.LE_WR_RESULT_CODE e) code).raise (evLE e) ev

/-- A write of loop state made (R229, R230): CODE 2, or 4 where the target is gone. -/
def State.leApply (s : State) (e : Nat) (w : LeWrite) : State :=
  let done := fun (t : State) =>
    (if w.persist then t.persist e w.kind w.target w.index w.value else t).wrCode e 2 6
  if w.kind < 3 then
    match s.loop? (512 * e + w.target) with
    | none => s.wrCode e 4 7
    | some x => match loopWrite x w.kind w.index w.value with
      | some y =>
        let s1 := s.setLoop (512 * e + w.target) y
        done (if x.auto = y.auto then s1 else s1.raise (evLE e) 4)
      | none => s.wrCode e 4 7
  else
    match s.mem? (64 * e + w.target) with
    | none => s.wrCode e 4 7
    | some x => match memWrite x w.kind w.index w.value with
      | some y => done (s.setMem (64 * e + w.target) y)
      | none => s.wrCode e 4 7

/-- The pending write of engine `e`. -/
def State.leWr (s : State) (e : Nat) : Option LeWrite := tget s.le.wr none e

/-- The pending write of engine `e` replaced. -/
def State.setLeWr (s : State) (e : Nat) (w : Option LeWrite) : State :=
  { s with le := { s.le with wr := tset s.le.wr none e w } }

/-- The pending write of engine `e` on loop slot `slot` as a value of a parameter, where it is one and can be made. -/
def LoopSlot.hostValue (x : LoopSlot) (w : LeWrite) : Option (Nat × Nat) :=
  if w.kind = 0 ∧ (loopWrite x 0 w.index w.value).isSome then some (w.index, w.value) else none

/-- The pending write of engine `e`, due at a release, applied before the evaluations of that cycle, after the values due of
its loop slot (R228, R229). -/
def State.leBoundary (s : State) (e : Nat) (w : LeWrite) : State :=
  let key := 512 * e + w.target
  let s1 := match s.loop? key with
    | some x => if w.kind = 0 then s.setLoop key (x.atBoundary (x.hostValue w)) else s
    | none => s
  (s1.setLeWr e none).leApply e w

/-- The pending write of engine `e` applied now. -/
def State.leFlush (s : State) (e : Nat) : State :=
  match s.leWr e with
  | some w => (s.setLeWr e none).leApply e w
  | none => s

/-- The pending writes of every engine applied (R229: entry into STOP, halt in HOLD). -/
def State.leFlushAll (s : State) : State := [0, 1, 2, 3].foldl (fun t e => t.leFlush e) s

/-- The pending writes that concern a task applied (R229: it becomes SUSPENDED). -/
def State.leFlushTask (s : State) (task : Nat) : State :=
  [0, 1, 2, 3].foldl (fun t e => match t.leWr e with
    | some w => if w.task = task then t.leFlush e else t
    | none => t) s

end Sys2Proof.Machine
end

