-- ==== Sys2Proof/Machine/Change.lean ====
section
/-! DEFINITION. Variables of the running image: their bytes, their forces, and the items of a VALUES record at a task's
boundary (R196, R200 to R202, R207, R208). -/

namespace Sys2Proof.Machine

/-- The bytes of a variable written with a value of its type. -/
def State.putVar (s : State) (task : Nat) (y : SymEnt) (v : Nat) : State :=
  match s.img.taskEnt task with
  | some t => s.putInst t.pair (t.instBase + y.off) (natLE y.size v)
  | none => s

/-- The forced variables hold their forced values (R196), after their instance data was initialised. -/
def State.reforceVars (s : State) : State :=
  s.forces.foldl (fun t e => match e.2.key with
    | .var k h y => match t.img.variable? k h y with
      | some v => t.putVar k v e.2.value.toNat
      | none => t
    | .slot _ => t) s

/-- A force of a variable applied (R196, R198). -/
def State.forceVar (s : State) (task hash typ v : Nat) : State :=
  let f : Force := ⟨.var task hash typ, typ, BitVec.ofNat 64 v⟩
  let what := if (s.forceOf f.key).isSome then 2 else 1
  match s.img.variable? task hash typ with
  | some y => ((s.putVar task y v).setForce f).forceRecord f what
  | none => s

/-- One item at the boundary of its task, and whether it was applied (R200, R201). -/
def State.valueItem (s : State) (x : ValItem) : State × Bool :=
  match x.op with
  | 1 =>
    if (s.forceOf (.var x.task x.hash x.typ)).isSome then ((s.inc R.OLC_ITEMS_FORCED).raise evOLC 4, false)
    else match s.img.variable? x.task x.hash x.typ with
      | some y => (s.putVar x.task y x.value, true)
      | none => (s, true)
  | 3 => (s.forceVar x.task x.hash x.typ x.value, true)
  | _ => (s.dropForce (.var x.task x.hash x.typ), true)

/-- The outcome of an IMG_CHANGE in OLC_LAST_RESULT (R209). -/
def State.changeResult (s : State) (kind result : Nat) : State :=
  s.wn R.OLC_LAST_RESULT (kind * 2 ^ 24 + result / 256 % 256 * 2 ^ 16 + result % 256)

/-- An IMG_CHANGE that ends refused (R207). -/
def State.changeRefused (s : State) (r : OpRef) (kind result : Nat) : State :=
  ((({ s with olc := { s.olc with change := none } }).p F.OLC_STATUS_STATE 0).changeResult kind result).raise evOLC 1
    |>.finishWith r 0x0B result

/-- An IMG_CHANGE that ends with success (R208). -/
def State.changeDone (s : State) (r : OpRef) (kind result : Nat) : State :=
  ((((({ s with olc := { s.olc with change := none } }).p F.OLC_STATUS_STATE 0).changeResult kind 0).inc R.OLC_CHANGES).raise
    evOLC 0).finishWith r 0 result

/-- The SET_CONST items in the image and in the running bank (R202). -/
def State.setConsts (s : State) (items : List ValItem) : State :=
  (items.filter (fun x => x.op == 2)).foldl (fun t x =>
    let t1 := { t with scn := { t.scn with img := t.scn.img.map (fun (m : Image) => { m with consts := m.consts.set x.const x.value }) } }
    t1.patchEntry 5 8 x.const 0 (natLE 8 x.value)) s

/-- The items of the VALUES record in progress that name a task take effect together (R200); with the last task the
change completes. -/
def State.valuesAt (s : State) (task : Nat) : State :=
  match s.olc.change with
  | some (.values r items left a k) =>
    if !left.contains task then s
    else
      let x := (items.filter (fun i => i.op != 2 && i.task == task)).foldl
        (fun (u : State × Nat × Nat) i => match u.1.valueItem i with
          | (v, true) => (v, u.2.1 + 1, u.2.2)
          | (v, false) => (v, u.2.1, u.2.2 + 1)) (s, a, k)
      let rest := left.filter (fun j => j != task)
      let s1 := x.1
      if rest.isEmpty then
        let consts := (items.filter (fun i => i.op == 2)).length
        (s1.setConsts items).changeDone r 1 ((x.2.1 + consts) * 2 ^ 16 + x.2.2 * 2 ^ 32)
      else { s1 with olc := { s1.olc with change := some (.values r items rest x.2.1 x.2.2) } }
  | _ => s

/-- Every task that is not in a cycle takes the items at once (R200). -/
def State.valuesIdle (s : State) : State :=
  match s.olc.change with
  | some (.values _ _ left _ _) => (left.filter (fun t => !(s.task t).inCycle)).foldl (fun u t => u.valuesAt t) s
  | _ => s

end Sys2Proof.Machine
end

