-- ==== Sys2Proof/Machine/FwImage.lean ====
section
/-! DEFINITION. Firmware images, the part map and the state of an update, as other units see them (R423 to R427, R431,
R435). -/

namespace Sys2Proof.Machine

/-- Bytes `k` to `k + n - 1` of a list as a number. -/
def fwNum (l : List Byte) (k n : Nat) : Nat := leNat ((l.drop k).take n)

/-- Four interface entries of 4 bytes (R426): those with an ID, as (ID, MAJOR, MINOR). -/
def fwIfaces (l : List Byte) (k : Nat) : List (Nat × Nat × Nat) :=
  ((List.range 4).map (fun j => (fwNum l (k + 4 * j) 2, fwNum l (k + 4 * j + 2) 1, fwNum l (k + 4 * j + 3) 1))).filter
    (fun e => e.1 != 0)

/-- Part `p` as a header describes it (R426). -/
def fwPart (h : List Byte) (p : Nat) : FwPart :=
  let b := 32 + 64 * p
  { cls := fwNum h (b + 1) 1, first := fwNum h (b + 2) 2, count := fwNum h (b + 4) 2, format := fwNum h (b + 6) 2
    version := fwNum h (b + 8) 4, provides := fwIfaces h (b + 16), requires := fwIfaces h (b + 32) }

/-- BLOCK_COUNT of a header (R425). -/
def fwBlocks (h : List Byte) : Nat := fwNum h 6 2

/-- The header that a bank holds. -/
def FwBank.head (b : FwBank) : List Byte := if b.factory then (List.range 512).map Config.factoryHeaderByte else b.header

/-- The block table that a bank holds. -/
def FwBank.tab (b : FwBank) : List Byte :=
  if b.factory then (List.range (64 * fwBlocks b.head)).map Config.factoryTableByte else b.table

/-- The blocks of a bank that have been accepted. -/
def FwBank.received (b : FwBank) : Nat := if b.factory then fwBlocks b.head else (b.blocks.filter (fun e => e.2.isSome)).length

/-- The bank holds a complete image. -/
def FwBank.complete (b : FwBank) : Bool :=
  b.factory
    || (b.hallOk && !b.header.isEmpty && (List.range (fwBlocks b.header)).all (fun k => (tget b.blocks none k).isSome))

/-- The map copy in force (R424): the valid copy with the higher sequence. -/
def State.map1Now (s : State) : Bool := s.fwu.map1.ok && (!s.fwu.map0.ok || Nat.blt s.fwu.map0.seq s.fwu.map1.seq)

/-- PART_BANK: bit p is the bank of part p. -/
def State.partBanks (s : State) : Nat := (if s.map1Now then s.fwu.map1 else s.fwu.map0).banks

/-- The bank of part `p`. -/
def State.partBank (s : State) (p : Nat) : Nat := bits s.partBanks p 1

/-- The part map written to the copy not in force (R424). -/
def State.putMap (s : State) (banks : Nat) : State :=
  let seq := (if s.map1Now then s.fwu.map1 else s.fwu.map0).seq + 1
  let m : PartMap := ⟨seq, banks % 32, true⟩
  if s.map1Now then { s with fwu := { s.fwu with map0 := m } } else { s with fwu := { s.fwu with map1 := m } }

/-- A firmware bank. -/
def State.fwBank (s : State) (b : Nat) : FwBank := if b = 0 then s.fwu.bank0 else s.fwu.bank1

/-- A firmware bank replaced. -/
def State.setFwBank (s : State) (b : Nat) (x : FwBank) : State :=
  if b = 0 then { s with fwu := { s.fwu with bank0 := x } } else { s with fwu := { s.fwu with bank1 := x } }

/-- The staging bank (R424): the bank from which no part runs. -/
def State.stageBank (s : State) : Option Nat :=
  if s.partBanks = 0 then some 1 else if s.partBanks = 31 then some 0 else none

/-- Part `p` as it runs. -/
def State.runPart (s : State) (p : Nat) : FwPart := fwPart (s.fwBank (s.partBank p)).head p

/-- The interfaces that the running control-class parts provide, with their MAJOR (R431). -/
def State.ctrlProvides (s : State) : List (Nat × Nat) :=
  [0, 1, 2, 4].flatMap (fun p => (s.runPart p).provides.map (fun e => (e.1, e.2.1)))

/-- Two modules' control-class interfaces agree across the towline (R431). -/
def sameMajors (a b : List (Nat × Nat)) : Bool := a.all (fun x => b.all (fun y => x.1 != y.1 || x.2 == y.2))

/-- STATE with no activation armed: STAGED, STAGING or IDLE (R428, R430). -/
def State.fwuRest (s : State) : Nat :=
  match s.stageBank with
  | none => 0
  | some b => if (s.fwBank b).complete then 2 else if (s.fwBank b).head.isEmpty then 0 else 1

/-- The stage that record 0x6106 names (R441). -/
def ArmStage.code : ArmStage → Nat
  | .gap => 1 | .net => 0 | .islands _ _ => 1 | .soak => 2 | .switch => 3 | .former => 4 | .back => 2

/-- An armed activation ends refused or abandoned with a reason (R433, R435, R441): its record, event and FWU_LAST. -/
def State.fwuAbandon (s : State) (a : Armed) (reason stage state : Nat) : State :=
  let s1 := { s with fwu := { s.fwu with armed := none } }
  let s2 := (s1.p F.FWU_STATUS_STATE state).wn R.FWU_LAST (a.mask * 2 ^ 16 + 0x41 * 2 ^ 8 + reason)
  (s2.post 0x6106 36 0 a.mask reason stage a.caller).raise evFWU 4

/-- The sequence of R434 is broken (R435): a butty that already runs the new code goes back at its next gap. -/
def State.pairBreak (s : State) : State :=
  match s.fwu.armed with
  | some a =>
    if a.pair && a.stage != .back then
      let s1 := s.fwuAbandon a 13 a.stage.code 0
      let moved := match a.stage with
        | .soak => a.mask
        | .switch => a.mask
        | .islands _ 1 => a.mask % 16
        | _ => 0
      if s.isButty && moved != 0 then
        { s1 with fwu := { s1.fwu with armed := some { a with mask := moved, stage := .back, since := s.clk.upNs } } }
      else s1
    else s
  | none => s

/-- The planned switch of the sequence has been made (R434): the former motor waits for its gap. -/
def State.pairSwitched (s : State) : State :=
  match s.fwu.armed with
  | some a =>
    if a.pair && a.stage == .switch then
      { s with fwu := { s.fwu with armed := some { a with stage := .former, since := s.clk.upNs } } }
    else s
  | none => s

end Sys2Proof.Machine
end

