-- ==== Sys2Proof/Machine/Scan.lean ====
section
/-! DEFINITION. The controller: modes, tasks, scheduling, stops, starts, the control cycle and the block-code step
(chapter 6, R189, R321). -/

namespace Sys2Proof.Machine

/-! ## Modes and images -/

/-- The controller enters a mode (R150). -/
def State.setMode (s : State) (m : Nat) : State := if s.mode = m then s else (s.p F.SCN_STATUS_MODE m).raise evSCN 0

/-- The loaded image's task table. -/
def State.taskEnts (s : State) : List TaskEnt := s.img.tasks

/-- A task's tables entry. -/
def State.ent (s : State) (t : Nat) : Option TaskEnt := s.img.taskEnt t

/-- The loops of a task. -/
def State.loopsOf (s : State) (t : Nat) : List LoopEnt := s.img.loops.filter (fun l => l.task == t)

/-- Every loop of the task has been evaluated in the cycle. -/
def State.loopsDone (s : State) (t : Nat) (r : TaskRun) : Bool := (s.loopsOf t).all (fun l => r.loops.contains l.loc)

/-- The word of CODE at an offset. -/
def State.wordAt (s : State) (pc : Nat) : Nat := s.img.code.getD (pc / 4) 0

/-- The task waits for a loop engine (R146): its block code has ended with loops outstanding, or stands at an LDLP of a
loop not yet evaluated. -/
def State.waits (s : State) (t : Nat) (r : TaskRun) : Bool :=
  r.latched && r.shipped &&
    (if r.ended then !s.loopsDone t r
     else wOp (s.wordAt r.pc) == 0x18 && !r.loops.contains (wLoc (s.wordAt r.pc)))

/-- The output bindings of a task in entry order. -/
def State.outBinds (s : State) (t : Nat) : List BindEnt :=
  (List.range ((s.ent t).map (fun e => e.outCount) |>.getD 0)).filterMap (fun i => s.img.bind 1 t i)

/-- The input bindings of a task in entry order. -/
def State.inBinds (s : State) (t : Nat) : List BindEnt :=
  (List.range ((s.ent t).map (fun e => e.inCount) |>.getD 0)).filterMap (fun i => s.img.bind 0 t i)

/-! ## Scheduling on a pair (R146) -/

/-- The pair is well: a pair that has halted under a fault runs nothing (R134). -/
def State.pairRuns (s : State) (k : Nat) : Bool := s.bit R.SCN_STATUS (8 + k)

/-- The tasks of a pair that contend for it: released, and not past their commit. -/
def State.contenders (s : State) (k : Nat) : List TaskEnt :=
  s.taskEnts.filter (fun t => t.pair == k &&
    (let r := s.task t.task
     (r.st == .ready || r.st == .running || r.st == .preempted) && !r.commit))

/-- The task that runs on a pair. -/
def State.runningOn (s : State) (k : Nat) : Option TaskEnt :=
  (s.contenders k).find? (fun t => (s.task t.task).st == .running)

/-- `a` goes before `b`: it does not wait while `b` waits, or has the higher priority, or at equal priority the
earlier release. -/
def State.goesBefore (s : State) (a b : TaskEnt) : Bool :=
  let ra := s.task a.task
  let rb := s.task b.task
  let wa := s.waits a.task ra
  let wb := s.waits b.task rb
  if wa != wb then wb
  else if a.prio ≠ b.prio then Nat.blt a.prio b.prio
  else Nat.blt ra.order rb.order

/-- The first of a list of tasks in the order of the pair. -/
def State.firstTask (s : State) : List TaskEnt → Option TaskEnt
  | [] => none
  | a :: t => match s.firstTask t with
    | none => some a
    | some b => if s.goesBefore b a then some b else some a

/-- The pair takes up the task that it must run (R146): a higher priority pre-empts, an equal one does not, and a task that
waits for a loop engine holds the pair while no other is READY. The frame of a task that is pre-empted takes its registers
(R166). A halted pair takes up none (R134). -/
def State.resched (s : State) (k : Nat) : State :=
  if !s.pairRuns k then s
  else match s.firstTask (s.contenders k), s.runningOn k with
  | some b, some c =>
    let ready := (s.contenders k).any (fun t => (s.task t.task).st == .ready)
    let stay := b.task == c.task || (Nat.ble c.prio b.prio && (!s.waits c.task (s.task c.task) || !ready))
    if stay then s
    else (((s.saveFrame c (s.task c.task)).count (32 * k + 6)).setTask c.task
      { s.task c.task with st := .preempted }).setTask b.task { s.task b.task with st := .running }
  | some b, none => s.setTask b.task { s.task b.task with st := .running }
  | none, _ => s

/-! ## Releases (R139, R140, R147) -/

/-- A cycle of the task is released at PTP time `ns` (R143, R166, R168). -/
def State.releaseTask (s : State) (t : TaskEnt) (ns : Nat) : State :=
  let r := s.task t.task
  let r1 : TaskRun := { r with
    st := .ready, release := ns, relUp := some s.clk.upNs, order := s.scn.order, wdExt := 0
    latched := false, shipped := false, ended := false, commit := false, skipBreak := false
    loops := [], inImg := [], outImg := [], outVal := [], outForce := [], regs := [], frames := []
    pc := t.entry, ib := t.instBase }
  ((({ s with scn := { s.scn with order := s.scn.order + 1 } }).saveFrame t r1).setTask t.task r1).resched t.pair

/-- The controller releases tasks: RUN, or HOLD not halted, in a phase in which the scheduler runs. -/
def State.releases (s : State) : Bool := s.running && (s.mode == 1 || s.mode == 2) && s.scn.stopping.isNone

/-- The least interval of an event task has passed since its last release (R140). -/
def State.intervalOver (s : State) (t : TaskEnt) : Bool :=
  match (s.task t.task).relUp with
  | some u => Nat.ble (u + t.period * 1000) s.clk.upNs
  | none => true

/-- A trigger of an event task arrives (R140, R154). -/
def State.trigArrive (s : State) (t : TaskEnt) : State :=
  let r := s.task t.task
  if r.st = .absent ∨ t.kind = 0 then s
  else if r.suspend ∨ r.pend then (s.inc (R.SCN_T_OVERFLOW t.task)).raise evSCN 9
  else if s.releases && r.st == .idle && s.intervalOver t then s.releaseTask t s.ptpNs
  else s.setTask t.task { r with pend := true }

/-- The first instant of a cyclic task's alignment after `a` (R139). -/
def nextAligned (t : TaskEnt) (a : Nat) : Nat :=
  let p := t.period * 1000
  let ph := t.phase * 1000
  if p = 0 then a + 1
  else if a < ph then ph
  else ph + ((a - ph) / p + 1) * p

/-- The PTP clock is valid (R109). -/
def State.ptpValid (s : State) : Bool := s.g F.PTP_STATUS_VALID == 1

/-- The next release instant of a cyclic task (R139): with `true` in ns since the start, counted on from the last instant
while the PTP clock is not valid, else in PTP ns. A task that realigns takes no instant within half a period of its last. -/
def State.nextInstant (s : State) (t : TaskEnt) : Bool × Nat :=
  let r := s.task t.task
  let p := t.period * 1000
  let up := s.clk.upNs
  let aligned := nextAligned t (max (r.slotNs.getD 0) (s.ptpNs - 1))
  match r.slotUp with
  | none => (false, aligned)
  | some u =>
    if !s.ptpValid then (true, u + max 1 ((up - u + p - 1) / p) * p)
    else if r.freeRun then (false, nextAligned t (s.ptpNs + (u + p / 2 - up) - 1))
    else (false, aligned)

/-- How far the next release instant of a cyclic task lies ahead, in ns. -/
def State.toNextRelease (s : State) (t : TaskEnt) : Nat :=
  let x := s.nextInstant t
  x.2 - (if x.1 then s.clk.upNs else s.ptpNs)

/-- The state at the next release instant of a cyclic task, and whether that release realigns the task (R139). -/
def State.toRelease (s : State) (t : TaskEnt) : State × Bool :=
  let x := s.nextInstant t
  (if x.1 then s.advanceToUp x.2 else s.advanceToPtp x.2, s.ptpValid && (s.task t.task).freeRun)

/-- The release instants up to now passed over (R139, R150): the next is the first that lies after now. -/
def State.passOver (s : State) (t : TaskEnt) (r : TaskRun) : TaskRun :=
  let p := t.period * 1000
  { r with
    slotNs := some (max (r.slotNs.getD 0) s.ptpNs)
    slotUp := r.slotUp.map (fun u => u + (s.clk.upNs - u) / p * p) }

/-- EVENT_TRIGGER (R140): the trigger of event task `n` that has come is taken up. -/
def execEventTrigger (n : Fin 96) (s : State) : Host.Outcome State Fault Refusal :=
  .next (match s.ent n with
    | none => s
    | some t =>
      if s.scn.trigs.contains n then
        ({ s with scn := { s.scn with trigs := s.scn.trigs.erase n } }).trigArrive t
      else s)

/-- TIME_TRIGGER_FIRE (R140): the PTP clock reaches the armed time of task `n`. -/
def execTimeTriggerFire (n : Fin 96) (s : State) : Host.Outcome State Fault Refusal :=
  .next (match s.ent n, (s.task n).armed with
    | some t, some a =>
      let s1 := s.advanceToPtp a
      (s1.setTask n { s1.task n with armed := none }).trigArrive t
    | _, _ => s)

/-- EVENT_RELEASE (R140): a pending trigger of task `n` is released once the least interval has passed. -/
def execEventRelease (n : Fin 96) (s : State) : Host.Outcome State Fault Refusal :=
  .next (match s.ent n with
    | none => s
    | some t =>
      let r := s.task n
      if s.releases && r.pend && r.st == .idle && !r.suspend then
        let s1 := match r.relUp with | some u => s.advanceToUp (u + t.period * 1000) | none => s
        (s1.setTask n { r with pend := false }).releaseTask t s1.ptpNs
      else s)

/-! ## Field outputs -/

/-- A committed value driven to the field output that FIELD_OUT names (R143, R183). -/
def State.driveOut (s : State) (fo typ v qual : Nat) : State :=
  let c := fo % 256
  match fo / 256 with
  | 0x50 => s.islandCommit c typ v qual
  | 0x52 => s.doCommit c (v % 2 == 1)
  | 0x20 => s.daliCommit 0 c typ v
  | 0x21 => s.daliCommit 1 c typ v
  | 0x22 => s.daliCommit 2 c typ v
  | 0x23 => s.daliCommit 3 c typ v
  | 0x30 => s.serCommit 0 c typ v
  | 0x31 => s.serCommit 1 c typ v
  | 0x40 => s.canCommit 0 c typ v
  | 0x41 => s.canCommit 1 c typ v
  | 0x42 => s.canCommit 2 c typ v
  | 0x43 => s.canCommit 3 c typ v
  | _ => s

/-- The output bindings of the image. -/
def State.outputs (s : State) : List BindEnt := s.img.binds.filter (fun b => b.dir == 1)

/-- The output binding of a slot in the loaded image. -/
def State.outBindOf (s : State) (i : Nat) : Option BindEnt := s.outputs.find? (fun b => b.index == i)

/-- The slot of an output is bound to its task (R13, R106): the slots of a block that has been gained are not. -/
def State.bound (s : State) (b : BindEnt) : Bool := (s.slot b.index).binding == 2 ^ 28 + b.task

/-- The field output of a binding driven with its slot as it stands. -/
def State.driveSlot (s : State) (b : BindEnt) : State :=
  s.driveOut b.fieldOut b.typ (s.slot b.index).value.toNat (s.slot b.index).quality

/-- The forced outputs that the image `old` drove elsewhere or not at all driven with their forced values (R193). -/
def State.driveForced (s : State) (old : Image) : State :=
  (s.outputs.filter (fun b => (s.slot b.index).forced
    && !old.binds.any (fun o => o.dir == 1 && o.index == b.index && o.fieldOut == b.fieldOut))).foldl
    (fun t b => t.driveSlot b) s

/-- The field outputs brought to their safe values, or back to the last committed ones, a STEP's among them (R150, R152); the
output of a forced slot keeps the forced value (R193). -/
def State.fieldOuts (s : State) (safe : Bool) : State :=
  if safe then
    { (s.outputs.filter (fun b => b.hasSafe && !(s.slot b.index).forced)).foldl (fun t b => t.driveOut b.fieldOut b.typ b.safe 3) s with
      scn := { s.scn with outsSafe := true } }
  else
    let due := s.outputs.filter (fun b => (s.scn.outsSafe && b.hasSafe) || s.scn.held.contains b.index)
    let s1 := due.foldl (fun t b => t.driveSlot b) s
    { s1 with scn := { s1.scn with outsSafe := false, held := [] } }

/-- The outputs that a STEP committed and that have no safe value driven, before a fault stop (R148, R152). -/
def State.driveHeld (s : State) : State :=
  let s1 := (s.outputs.filter (fun b => s.scn.held.contains b.index && !b.hasSafe)).foldl (fun t b => t.driveSlot b) s
  { s1 with scn := { s1.scn with held := [] } }

/-- The safe-value commit (R148): every output that has a safe value takes it, with one SLOT_TIME. -/
def State.safeCommit (s : State) : State :=
  let t0 := s.ptpNs
  (s.outputs.filter (fun b => b.hasSafe && s.ownsSlot b.index && s.bound b)).foldl (fun t b =>
    let x := t.slot b.index
    if x.forced then t
    else (t.arb t0 b.index { x with value := BitVec.ofNat 64 b.safe, quality := 3 }).driveOut b.fieldOut b.typ b.safe 3) s

/-! ## Stops (R148, R150, R470) -/

/-- The state of a task that no cycle holds: SUSPENDED, or IDLE while the controller runs, or STOPPED. -/
def State.restState (s : State) (r : TaskRun) : TaskSt :=
  if r.suspend then .suspended else if s.mode = 0 then .stopped else .idle

/-- Task `t`'s cycle abandoned without commit: the values STLP wrote in it are dropped. -/
def State.abandon (s : State) (t : Nat) : State :=
  let r := s.task t
  let s1 := s.setTask t { r with st := s.restState r, latched := false, shipped := false, ended := false, commit := false }
  (s1.loopsOf t).foldl (fun u l => match u.loop? (512 * l.engine + l.slot) with
    | some x => u.setLoop (512 * l.engine + l.slot) { x with stlp := [] }
    | none => u) s1

/-- Every cycle in progress abandoned (R148, R150). -/
def State.abandonAll (s : State) : State :=
  (s.taskEnts.filter (fun t => (s.task t.task).inCycle)).foldl (fun u t => u.abandon t.task) s

/-- The state of every task that is in no cycle brought to what the mode gives it. -/
def State.restTasks (s : State) : State :=
  (s.taskEnts.filter (fun t => !(s.task t.task).inCycle)).foldl (fun u t =>
    u.setTask t.task { u.task t.task with st := u.restState (u.task t.task) }) s

/-- The restarts that wait for a stop to complete end with a status and their result. -/
def State.endWaits (s : State) (status : Nat) (refused : Bool) : State :=
  match s.scn.stopping with
  | none => s
  | some (_, ops) =>
    ops.foldl (fun t o => t.finishWith o.2 status (if refused then 2 else o.1))
      { s with scn := { s.scn with stopping := none } }

/-- The TASK_CTL operations that wait for a release boundary end with a stop, after which no release comes: a STOP has its
effect, the others are refused (R151, log entry 207). -/
def State.ctlDrop (s : State) : State :=
  s.scn.ctl.foldl (fun t c => match c.op with
    | some r => if c.action = 2 then t.finishWith r 0 t.mode else t.finishWith r 0x0B 2
    | none => t) { s with scn := { s.scn with ctl := [] } }

/-- A stop that abandons every cycle: the mode, the cause, pending loop-state writes and VALUES items. -/
def State.hardStop (s : State) (cause : Nat) : State :=
  let s1 := (((s.endWaits 0x0B true).ctlDrop).setMode 0).p F.SCN_STATUS_STOP_CAUSE cause
  let s2 := ({ s1 with scn := { s1.scn with byCmd := false } }).p F.SCN_STATUS_HALT_TASK 0xFF
  s2.abandonAll.restTasks.leFlushAll.valuesIdle

/-- The controller has something to stop: a mode other than STOP, or cycles that complete after a stop by command. -/
def State.active (s : State) : Bool := s.mode != 0 || s.scn.stopping.isSome

/-- A fault stop (R148, R470): `who` gives task, pair, offset and cycles; none: the fault arose in no task's work. -/
def State.faultStop (s : State) (cause : Nat) (who : Option (Nat × Nat × Nat)) : State :=
  if !s.active then s
  else
    let s1 := match who with
      | some (t, k, pc) =>
        ((s.wn R.SCN_FAULT_TASK (k % 4 * 256 + t % 256)).wn R.SCN_FAULT_PC pc).wn64 R.SCN_FAULT_CYC_LO
          (if t < 96 then s.rn64 (R.SCN_T_CYC_LO t) else 0)
      | none => ((s.wn R.SCN_FAULT_TASK 0xFF).wn R.SCN_FAULT_PC 0).wn64 R.SCN_FAULT_CYC_LO 0
    ((s1.hardStop cause).driveHeld).safeCommit

/-- The stop of the power-fail sequence (R51, R150): cycles abandoned, outputs hold. -/
def State.powerStop (s : State) : State := if s.active then s.hardStop 4 else s

/-- A trap of task `t` at `pc` (R178): record 0x2003 and the fault stop. -/
def State.trapStop (s : State) (t : TaskEnt) (pc code imm : Nat) : State :=
  (s.faultStop 5 (some (t.task, t.pair, pc))).post 0x2003 0 t.task t.task pc code imm

/-- TASK_WATCHDOG_EXPIRE (R147, R148): the watchdog of task `n`'s cycle expires before its commit. -/
def execTaskWatchdogExpire (n : Fin 96) (s : State) : Host.Outcome State Fault Refusal :=
  .next (match s.ent n with
    | none => s
    | some t =>
      let r := s.task n
      if r.inCycle && !r.commit && s.mode != 3 && s.running then
        let limit := if t.kind = 0 then t.wdog * t.period * 125 else t.wdog * 1000
        let s1 := s.advanceToUp (r.relUp.getD 0 + limit + r.wdExt)
        ((s1.faultStop 2 (some (t.task, t.pair, r.pc))).raise evSCN 1).post 0x2001 0 n n t.pair r.pc
          (s1.rn (R.SCN_T_CYC_LO n))
      else s)

/-- The task that a pair was executing when it halted (R470): the running one, or the one that a halt in HOLD has stopped
since. -/
def State.faultTask (s : State) (k : Nat) : Option TaskEnt :=
  s.taskEnts.find? (fun t => t.pair == k &&
    (let r := s.task t.task
     (r.st == .running || (r.st == .halted && r.was == .running)) && !r.commit))

/-- PAIR_COMPARE_MISMATCH (R134, R135): pair `k` halts and its fault is told to the safety manager, whose declaration
makes the stop. -/
def execPairCompareMismatch (k : Fin 4) (s : State) : Host.Outcome State Fault Refusal :=
  let count := bits (s.rn R.SCN_PAIR_MISMATCH) (8 * k) 8
  let pc := match s.faultTask k with | some t => (s.task t.task).pc | none => 0
  .next (((s.wn R.SCN_PAIR_MISMATCH (setBits (s.rn R.SCN_PAIR_MISMATCH) (8 * k) 8 (min 255 (count + 1)))).setBit
    R.SCN_STATUS (8 + k) false).report 1 0 k pc)

/-- The fault stop for a declared fault of pair `k` (R135, R470), with its event and record 0x2002. A test of the pair that
already runs is not the one that the fault starts. -/
def State.pairStop (s : State) (k pc : Nat) : State :=
  let task := match s.faultTask k with | some t => t.task | none => 0xFF
  let cyc := if task < 96 then s.rn (R.SCN_T_CYC_LO task) else 0
  let s1 := ((s.faultStop 3 (some (task, k, pc))).raise evSCN 2).post 0x2002 0 task k task pc cyc
  let older := (tget s1.saf.targets {} k).st == 2
  { s1 with scn := { s1.scn with pairTest := setBits (setBits s1.scn.pairTest k 1 1) (4 + k) 1 (b2n older) } }

/-! ## Starts (R155 to R157) -/

/-- A task's retained half that its bank pointer names. -/
def RetArea.now (a : RetArea) : RetHalf := if a.cur then a.half1 else a.half0

/-- The tasks whose current retained bank fails its CRC (R156). -/
def State.badRetained (s : State) : List Nat :=
  (s.taskEnts.filter (fun t => (s.img.layoutOf t.task).retSize != 0 && !(tget s.scn.ret {} t.task).now.crcOk)).map (fun t => t.task)

/-- Instance data at its initial values (R182): zero but for the INIT records. -/
def State.instInit (s : State) : State :=
  let s1 := { s with scn := { s.scn with inst := [] } }
  s1.img.inits.foldl (fun u r => match u.ent r.task with
    | some t => u.putInst t.pair (t.instBase + r.off) r.data
    | none => u) s1

/-- The image of a bank whose DIGEST is `d` (R156, R186). -/
def State.imageOf (s : State) (d : List Byte) : Option Image :=
  if (s.scn.bank0.drop 64).take 64 = d then some (parseImage s.scn.bank0)
  else if (s.scn.bank1.drop 64).take 64 = d then some (parseImage s.scn.bank1)
  else none

/-- The retained data of a task laid over its initial values: whole where it was written under the loaded image, else
by symbol where hash and type match (R156). -/
def State.retRestore (s : State) (t : TaskEnt) : State :=
  let h := (tget s.scn.ret {} t.task).now
  let y := s.img.layoutOf t.task
  let byteAt := fun (k : Nat) => tget h.data 0#8 k
  if y.retSize = 0 ∨ h.digest = [] then s
  else if h.digest = s.img.digest then s.putInst t.pair (t.instBase + y.retOff) ((List.range y.retSize).map byteAt)
  else match s.imageOf h.digest with
    | none => s
    | some old =>
      let oldOff := (old.layoutOf t.task).retOff
      (s.img.syms.filter (fun x => x.cls == 1 && x.task == t.task)).foldl (fun u x =>
        match old.syms.find? (fun o => o.cls == 1 && o.task == t.task && o.hash == x.hash && o.typ == x.typ) with
        | some o => u.putInst t.pair (t.instBase + x.off)
            ((List.range (min o.size x.size)).map (fun k => byteAt (o.off - oldOff + k)))
        | none => u) s

/-- A configured slot at its initial value (R105, R155, R184). -/
def SlotCfg.initial? (c : SlotCfg) (x : Slot) : Slot :=
  { x with value := BitVec.ofNat 64 c.initial, quality := c.quality, alarm := false, forced := false }

/-- The owned unbound slots at a start (R155): a retained one keeps its last journalled write on a warm start, where
symbol and type match; every other takes its initial value. A forced slot keeps its force. -/
def State.startSlots (s : State) (warm : Bool) : State :=
  let t0 := s.ptpNs
  (s.img.slots.filter (fun c => c.binding == 0 && s.ownsSlot c.index)).foldl (fun t c =>
    let x := t.slot c.index
    if x.forced then t
    else match (if warm ∧ c.retained then tget t.scn.retSlots none c.index else none) with
      | some j =>
        if j.symbol = c.symbol ∧ j.typ = c.typ then t.arb t0 c.index { x with value := j.value, quality := j.quality }
        else t.arb t0 c.index (c.initial? x)
      | none => t.arb t0 c.index (c.initial? x)) s

/-- Every force of the table released (R155), each with its record. A forced slot takes quality SUBSTITUTED and keeps its
value (R195). -/
def State.dropForces (s : State) : State :=
  let t0 := s.ptpNs
  s.forces.foldl (fun t e =>
    let t1 := t.dropForce e.2.key
    match e.2.key with
    | .slot i =>
      let x := t1.slot i
      if x.present && t1.ownsSlot i then t1.arb t0 i { x with quality := 3, forced := false } else t1
    | .var _ _ _ => t1) s

/-- The counters and LOST words of a task cleared (R155, cold). -/
def State.clearCounters (s : State) (t : Nat) : State :=
  [R.SCN_T_CYC_LO t, R.SCN_T_CYC_HI t, R.SCN_T_EXEC_LAST t, R.SCN_T_EXEC_MAX t, R.SCN_T_LATE t, R.SCN_T_OVERFLOW t,
    R.SCN_T_LOST_LO t, R.SCN_T_LOST_HI t, R.SCN_T_DROP t].foldl (fun u a => u.wn a 0) s

/-- The run state of a task at a start: `first` 1 warm, 2 cold, 3 resume. A cycle that a stop by command has left in progress
goes on at a resume, and FIRST shows the resume in the cycle after it (log entry 206). -/
def State.startTask (s : State) (first : Nat) (t : TaskEnt) : State :=
  let r := s.task t.task
  if first = 3 ∧ r.inCycle then s.setTask t.task (s.passOver t { r with pend := false, armed := none, firstNext := 3 })
  else
    let keep : TaskRun := { suspend := r.suspend, release := r.release, relUp := r.relUp, slotUp := r.slotUp }
    s.setTask t.task (s.passOver t { keep with
      st := if r.suspend then .suspended else .idle
      first := first
      cold := first == 2 || (first == 3 && r.cold) })

/-- The controller enters RUN (R150, R155): `first` 1 warm, 2 cold, 3 resume; `last` is LAST_START. -/
def State.enterRun (s : State) (first last : Nat) : State :=
  let s1 := s.taskEnts.foldl (fun t e => t.startTask first e) s
  let s2 := { s1 with scn := { s1.scn with trigs := [], outsSafe := false, held := [], byCmd := false } }
  ((s2.p F.SCN_STATUS_STOP_CAUSE 0).p F.SCN_STATUS_LAST_START last).setMode 1

/-- A cold start (R155). -/
def State.coldStart (s : State) (last : Nat) : State :=
  let s1 := s.taskEnts.foldl (fun t e => t.clearCounters e.task) (s.dropForces.instInit.startSlots false)
  (({ s1 with scn := { s1.scn with breaks := [] } }).loopsCold.memsRestore.tracesEmpty.fieldOuts false).enterRun 2 last

/-- A warm start (R155, R156); `boot`: at SERVICE, where the loops start from LOOPCFG (R231). A retained bank that fails
its CRC makes it a cold start. -/
def State.warmStart (s : State) (boot : Bool) : State :=
  let bad := s.badRetained
  if !bad.isEmpty then
    let m := bad.foldl (fun n t => n + 2 ^ t) 0
    ((s.raise evSCN 8).post 0x2005 0 0 m (m / 2 ^ 32) (m / 2 ^ 64)).coldStart 4
  else
    let s1 := s.taskEnts.foldl (fun t e => t.retRestore e) s.instInit
    let s2 := (s1.reforceVars).startSlots true
    let s3 := { s2 with scn := { s2.scn with breaks := [] } }
    let s4 := if boot then s3.loopsCold.loopsWarm else s3.loopsWarm
    (s4.memsRestore.tracesEmpty.fieldOuts false).enterRun 1 1

/-- A resume by RUN (R150, R155), which ends a stop by command whose cycles still complete. -/
def State.resumeRun (s : State) : State := ({ s with scn := { s.scn with stopping := none } }).enterRun 3 3

/-- The stop by command completes once no cycle is in progress (R150): the outputs take the state of STOP_OUT, or the
restart that waits is made. -/
def State.stopCheck (s : State) : State :=
  match s.scn.stopping with
  | none => s
  | some (after, _) =>
    if s.taskEnts.any (fun t => (s.task t.task).inCycle) then s
    else
      match after with
      | .stop => ((s.endWaits 0 false).restTasks.valuesIdle).fieldOuts (s.g F.SCN_CTL_STOP_OUT == 1)
      | .warm =>
        let s1 := { s with scn := { s.scn with stopping := none } }
        (({ s1.warmStart false with scn := { (s1.warmStart false).scn with stopping := s.scn.stopping } }).endWaits 0 false)
      | .cold =>
        let s1 := { s with scn := { s.scn with stopping := none } }
        (({ s1.coldStart 2 with scn := { (s1.coldStart 2).scn with stopping := s.scn.stopping } }).endWaits 0 false)

/-- The halt in HOLD ends: the cycles go on, with the halted time added to their watchdogs, and releases that fell in
the halt are passed over (R150, R152). -/
def State.unhalt (s : State) : State :=
  let halted := s.g F.SCN_STATUS_HALT_TASK
  let s1 := s.taskEnts.foldl (fun t e =>
    let r := t.task e.task
    let r1 := if r.st = .halted then
        { r with st := r.was, wdExt := r.wdExt + (t.clk.upNs - t.scn.haltUp), skipBreak := e.task == halted }
      else r
    t.setTask e.task (t.passOver e r1)) s
  let s2 := (s1.p F.SCN_STATUS_HALT_TASK 0xFF).fieldOuts false
  [0, 1, 2, 3].foldl (fun t k => t.resched k) s2

/-- A stop by command begins (R150): from a halt, the halted cycle is abandoned and the others go on. -/
def State.beginStop (s : State) (after : AfterStop) (ops : List (Nat × OpRef)) : State :=
  let halted := s.g F.SCN_STATUS_HALT_TASK
  let s1 := if s.mode = 3 then (s.abandon halted).unhalt else s
  let s2 := (s1.setMode 0).p F.SCN_STATUS_STOP_CAUSE 1
  let s3 := { s2 with scn := { s2.scn with byCmd := true, stopping := some (after, ops) } }
  (s3.restTasks.leFlushAll).stopCheck

/-- A restart by command (R150): in STOP at once, else when the cycles in progress have completed. One that finds another
stop or restart waiting takes its place, and the operations of both complete with it (log entry 206). -/
def State.restart (s : State) (cold : Bool) (ops : List (Nat × OpRef)) : State :=
  let after : AfterStop := if cold then .cold else .warm
  match s.scn.stopping with
  | some (_, l) => { s with scn := { s.scn with stopping := some (after, l ++ ops) } }
  | none => if s.mode ≠ 0 then s.beginStop after ops else if cold then s.coldStart 2 else s.warmStart false

/-- A restart by command waits for the cycles in progress. -/
def State.restartWaits (s : State) : Bool := match s.scn.stopping with | some (a, _) => a != .stop | none => false

/-! ## TASK_CTL (R150 to R154) -/

/-- Every pair that the loaded image uses shows PAIR_OK 1 (R135). -/
def State.pairsOk (s : State) : Bool := s.taskEnts.all (fun t => s.bit R.SCN_STATUS (8 + t.pair))

/-- The module is paired for HOLD and STEP (R151): it transfers or executes in step. -/
def State.paired (s : State) : Bool := s.synced || s.g F.DPX_STATUS_PAIR_STATE == 2

/-- `pc` is an instruction boundary of the task (R168). -/
def State.boundary (s : State) (t : TaskEnt) (pc : Nat) : Bool :=
  pc % 4 == 0 && (s.img.reachable t).contains (pc / 4)

/-- The reason of R153 for which an action is refused: 0 none, 100 for BUSY (R190). -/
def State.taskRefusal (s : State) (target action arg : Nat) : Nat :=
  let ctl := [1, 2, 3, 4, 5, 7].contains action
  let busy := s.olc.change.isSome
  if ctl ≠ (target == 0xFF) then 1
  else if s.scn.img.isNone then 5
  else if ctl then
    if action = 3 ∧ s.paired then 3
    else if action = 3 ∧ s.taskEnts.any (fun t => t.safety) then 4
    else if busy ∧ [1, 3, 4, 5].contains action then 100
    else match action with
      | 1 =>
        if s.mode = 0 then (if s.restartWaits ∨ !s.scn.byCmd then 2 else if s.pairsOk then 0 else 10)
        else if s.mode = 1 then 2 else 0
      | 2 => 0
      | 3 => if s.mode = 1 then 0 else 2
      | 7 => if s.mode = 3 then 0 else 2
      | _ => if s.pairsOk then 0 else 10
  else match s.ent target with
    | none => 6
    | some t =>
      match action with
      | 6 => if s.paired then 3 else if s.mode ≠ 3 then 2
          else if s.g F.SCN_STATUS_HALT_TASK = target then 0 else 1
      | 8 => if !s.boundary t arg then 8
          else if 8 ≤ s.scn.breaks.length ∧ !s.scn.breaks.contains (target, arg) then 7 else 0
      | 9 => 0
      | 10 => if t.safety then 4 else 0
      | 11 => 0
      | 12 => if t.kind = 0 then 1 else if t.trigKind = 2 then 0 else 9
      | _ => if t.kind = 0 then 1 else if t.trigKind = 3 then 0 else 9

/-- The code of a task state in SCN_Tnn_STATE (R161). -/
def taskStCode : TaskSt → Nat
  | .absent => 0 | .idle => 1 | .ready => 2 | .running => 3 | .preempted => 4 | .halted => 5 | .suspended => 6
  | .stopped => 7

/-- RESULT of a TASK_CTL that succeeds (R153). -/
def State.taskResult (s : State) (target : Nat) : Nat :=
  s.mode + 16 * (if target = 0xFF then 0 else taskStCode (s.task target).st)

/-- One instruction of a task (R146, R178). -/
def State.bcRun (s : State) (t : TaskEnt) (f : BcFun) : State :=
  let r := s.task t.task
  match f s t r with
  | .next u v => ((u.count (32 * t.pair + 1)).setTask t.task { v with skipBreak := false }).resched t.pair
  | .trap code imm => s.trapStop t r.pc code imm
  | .wait => s

/-- STEP (R150, R152): one instruction of the halted task. -/
def State.stepTask (s : State) (n : Nat) : State :=
  match s.ent n with
  | none => s
  | some t =>
    let r := s.task n
    if r.st = .halted ∧ r.latched ∧ !r.ended ∧ s.pairRuns t.pair then
      let s1 := s.bcRun t (decodeBc (s.wordAt r.pc))
      if s1.mode = 3 then s1.wn R.SCN_BREAK_PC (s1.task n).pc else s1
    else s

/-- The effect of an action that is not refused; `ops` are the operations that complete with a restart. -/
def State.taskDo (s : State) (target action arg : Nat) (ops : List (Nat × OpRef)) : State :=
  match action with
  | 1 => if s.mode = 0 then s.resumeRun else ((if s.mode = 3 then s.unhalt else s).setMode 1)
  | 2 => if s.mode = 0 then s else s.beginStop .stop []
  | 3 => s.setMode 2
  | 4 => s.restart false ops
  | 5 => s.restart true ops
  | 6 => s.stepTask target
  | 7 => s.unhalt.setMode 2
  | 8 => if s.scn.breaks.contains (target, arg) then s
      else { s with scn := { s.scn with breaks := s.scn.breaks ++ [(target, arg)] } }
  | 9 =>
    let l := s.scn.breaks.filter (fun b => !(b.1 == target && (arg == 0xFFFFFFFF || b.2 == arg)))
    { s with scn := { s.scn with breaks := l } }
  | 10 =>
    let r := s.task target
    let s1 := s.setTask target { r with suspend := true, st := if r.inCycle then r.st else .suspended }
    if r.inCycle then s1 else s1.leFlushTask target
  | 11 =>
    let r := s.task target
    if r.suspend then
      let r1 := match s.ent target with
        | some t => s.passOver t { r with suspend := false }
        | none => { r with suspend := false }
      s.setTask target { r1 with st := if r.inCycle then r.st else s.restState r1 }
    else s
  | 12 => match s.ent target with | some t => s.trigArrive t | none => s
  | 13 => s.setTask target { s.task target with armed := some arg }
  | _ => s

/-- A TASK_CTL carried out, and completed where it is of this module's rings; a restart that waits for cycles completes when
it has taken effect (R153). -/
def State.ctlDo (s : State) (target action arg : Nat) (op : Option OpRef) : State :=
  let res := s.taskResult target
  let late := (action == 4 || action == 5) && (s.mode != 0 || s.scn.stopping.isSome)
  match op with
  | none => s.taskDo target action arg []
  | some r =>
    if late then s.taskDo target action arg [(res, r)] else (s.taskDo target action arg []).finishWith r 0 res

/-- The release boundary at which both modules of a pair carry out a TASK_CTL (R151): the first release, 50 µs from now or
later, of a task that is not SUSPENDED (log entry 207); none where no release comes. -/
def State.ctlInstant (s : State) : Option Nat :=
  if s.synced && s.releases then
    ((s.taskEnts.filter (fun t => t.kind == 0 && !(s.task t.task).suspend)).map (fun t => nextAligned t (s.ptpNs + 49999))).min?
  else none

/-- A TASK_CTL that waits for a release boundary. -/
def State.ctlHold (s : State) (c : HeldCtl) : State := { s with scn := { s.scn with ctl := s.scn.ctl ++ [c] } }

/-- The TASK_CTL operations whose release boundary has come, or after which no release comes, judged again and carried out in
their order (R151). -/
def State.ctlRun (s : State) : State :=
  s.scn.ctl.foldl (fun t c =>
    if Nat.blt t.ptpNs c.due && t.releases then t
    else
      let t1 := { t with scn := { t.scn with ctl := t.scn.ctl.erase c } }
      match t1.taskRefusal c.target c.action c.arg, c.op with
      | 0, op => t1.ctlDo c.target c.action c.arg op
      | 100, some r => t1.finishWith r 0x0C 0
      | n, some r => t1.finishWith r 0x0B n
      | _, none => t1) s

/-- A TASK_CTL of this module's rings: checked, and carried out at once, or while a SYNCED pair releases tasks at the release
boundary that the partner is told too (R151). -/
def State.taskCtl (s : State) (r : OpRef) (action : Nat) : State :=
  s.withOp r 0x12 (fun e => e.arg1 == action) (fun o t =>
    let target := o.entry.arg0
    let arg := o.entry.arg2
    match t.taskRefusal target action arg with
    | 0 =>
      let t1 := if t.synced then t.tow (.taskCtl target action arg t.ctlInstant) else t
      match t.ctlInstant with
      | some a => t1.ctlHold ⟨a, target, action, arg, some r⟩
      | none => (t1.ctlDo target action arg (some r)).ctlRun
    | 100 => t.finishWith r 0x0C 0
    | c => t.finishWith r 0x0B c)

/-- CYCLIC_RELEASE (R139, R147, R151, R152, R154): the next release instant of task `n` comes, with the TASK_CTL operations of
that boundary. A start or a RESUME that falls in this clock leaves the instant out (R150). -/
def execCyclicRelease (n : Fin 32) (s : State) : Host.Outcome State Fault Refusal :=
  .next (match s.ent n with
    | none => s
    | some t =>
      if !(s.running && s.scn.stopping.isNone && s.mode != 0) then s
      else
        let x := s.toRelease t
        let s1 := if x.2 then x.1.raise evSCN 10 else x.1
        let r1 := s1.task n
        let s2 := s1.setTask n { r1 with slotNs := some s1.ptpNs, slotUp := some s1.clk.upNs, freeRun := !s1.ptpValid }
        let skip := s2.scn.ctl.any (fun c => Nat.ble c.due s2.ptpNs &&
          (c.target == 0xFF || (c.action == 11 && c.target == n.val)))
        let s3 := s2.ctlRun
        let r := s3.task n
        if skip ∨ s3.mode = 3 ∨ r.suspend then s3
        else if r.inCycle then (s3.inc (R.SCN_T_LATE n)).raise evSCN 4
        else if r.st = .idle then s3.releaseTask t s3.ptpNs
        else s3)

/-- TASK_RUN (R150). -/
def execTaskRun (r : OpRef) (s : State) : Host.Outcome State Fault Refusal := .next (s.taskCtl r 1)
/-- TASK_STOP (R150). -/
def execTaskStop (r : OpRef) (s : State) : Host.Outcome State Fault Refusal := .next (s.taskCtl r 2)
/-- TASK_HOLD (R150). -/
def execTaskHold (r : OpRef) (s : State) : Host.Outcome State Fault Refusal := .next (s.taskCtl r 3)
/-- WARM_RESTART (R150, R155). -/
def execWarmRestart (r : OpRef) (s : State) : Host.Outcome State Fault Refusal := .next (s.taskCtl r 4)
/-- COLD_RESTART (R150, R155). -/
def execColdRestart (r : OpRef) (s : State) : Host.Outcome State Fault Refusal := .next (s.taskCtl r 5)
/-- STEP (R150, R152). -/
def execStepTask (r : OpRef) (s : State) : Host.Outcome State Fault Refusal := .next (s.taskCtl r 6)
/-- CONTINUE (R150). -/
def execContinueTasks (r : OpRef) (s : State) : Host.Outcome State Fault Refusal := .next (s.taskCtl r 7)
/-- SET_BREAK (R153). -/
def execSetBreak (r : OpRef) (s : State) : Host.Outcome State Fault Refusal := .next (s.taskCtl r 8)
/-- CLEAR_BREAK (R153). -/
def execClearBreak (r : OpRef) (s : State) : Host.Outcome State Fault Refusal := .next (s.taskCtl r 9)
/-- SUSPEND (R154). -/
def execSuspendTask (r : OpRef) (s : State) : Host.Outcome State Fault Refusal := .next (s.taskCtl r 10)
/-- RESUME (R154). -/
def execResumeTask (r : OpRef) (s : State) : Host.Outcome State Fault Refusal := .next (s.taskCtl r 11)
/-- TRIGGER (R140). -/
def execRingTrigger (r : OpRef) (s : State) : Host.Outcome State Fault Refusal := .next (s.taskCtl r 12)
/-- ARM_TIME (R140). -/
def execArmTime (r : OpRef) (s : State) : Host.Outcome State Fault Refusal := .next (s.taskCtl r 13)

/-- BREAKPOINT_HIT (R150, R152): task `n` reaches a breakpoint in HOLD. -/
def execBreakpointHit (n : Fin 96) (s : State) : Host.Outcome State Fault Refusal :=
  let r := s.task n
  .next (if s.mode = 2 ∧ r.st = .running ∧ r.latched ∧ r.shipped ∧ !r.ended ∧ !r.skipBreak
      ∧ s.scn.breaks.contains (n.val, r.pc) then
      let s1 := (s.taskEnts.filter (fun t => (s.task t.task).inCycle)).foldl (fun u t =>
        u.setTask t.task { u.task t.task with st := .halted, was := (u.task t.task).st }) s
      let s2 := { s1 with scn := { s1.scn with haltUp := s1.clk.upNs } }
      let s3 : State := (((s2.p F.SCN_STATUS_HALT_TASK n.val).wn R.SCN_BREAK_PC r.pc).setMode 3).raise evSCN 3
      let s4 := s3.leFlushAll
      if s4.g F.SCN_CTL_HOLD_OUT = 1 then s4.fieldOuts true else s4
    else s)

/-! ## Latch, commit and completion (R142 to R144, R158 to R160, R174, R177, R471) -/

/-- An input entry as the latch reads it from its slot (R174, R177, R471). -/
def State.latchEnt (s : State) (b : BindEnt) : InEnt :=
  let x := s.slot b.index
  let byte := x.quality + 16 * x.flags
  let snap := match slotAcc x with | some a => tget s.mtr.done 0 a | none => 0
  if !x.present then ⟨0#64, x.time, byte, 0⟩
  else if x.typ ≠ b.typ then ⟨0#64, x.time, 7 + 16 * x.flags, 0⟩
  else if b.typ = 7 then
    if s.ownsSlot b.index then ⟨x.value, x.time, byte, snap⟩ else ⟨x.value, x.time, 7 + 16 * x.flags, 0⟩
  else ⟨x.value, x.time, byte, 0⟩

/-- The task's image of its inputs and of its loops' OUT slots. -/
def State.latchImage (s : State) (n : Nat) (r : TaskRun) : TaskRun :=
  let ins := (s.inBinds n).foldl (fun (t : Tbl InEnt) b => tset t {} b.entry (s.latchEnt b)) []
  let outs := (s.loopsOf n).filterMap (fun l => s.img.bind 1 n l.out)
  { r with
    inImg := ins
    outVal := outs.foldl (fun (t : Tbl Word64) b => tset t 0#64 b.entry (s.slot b.index).value) []
    outForce := outs.foldl (fun (t : Tbl (Option Word64)) b =>
      tset t none b.entry (if (s.slot b.index).forced then some (s.slot b.index).value else none)) [] }

/-- The input image as shipped to the partner (R319). -/
def TaskRun.shipped? (r : TaskRun) (t : TaskEnt) : List ShipEnt :=
  (List.range t.inCount).map (fun i => let e := r.inEnt i; ⟨e.value, e.time, e.qual, e.snap⟩)

/-- CRC-64 over an input image (R329): VALUE, SLOT_TIME and byte 19 of each entry. -/
def imageCrc (t : TaskEnt) (r : TaskRun) : Nat :=
  crc64xz ((List.range t.inCount).flatMap (fun i =>
    let e := r.inEnt i
    natLE 8 e.value.toNat ++ natLE 8 e.time ++ [BitVec.ofNat 8 e.qual]))

/-- The task goes on with a latched image: its CRC is kept for a cross-check. -/
def State.latched (s : State) (t : TaskEnt) (r : TaskRun) (shipped : Bool) : State :=
  let s1 := (s.count 193).setTask t.task { r with latched := true, shipped := shipped }
  { s1 with dpx := { s1.dpx with inCrc := tset s1.dpx.inCrc (0, 0) t.task (r.release, imageCrc t r) } }

/-- The latch of a task from the module's own image: each slot's CRC is checked (R131). -/
def State.latchLocal (s : State) (t : TaskEnt) (ship : Bool) : State :=
  let s1 := (s.valuesAt t.task).checkSlots ((s.inBinds t.task).map (fun b => b.index))
  let r := s1.latchImage t.task (s1.task t.task)
  let s2 := s1.latched t r (!ship)
  if ship then
    let outs := r.outForce.map (fun (e : Nat × Option Word64) => (e.1, e.2))
    let s3 := s2.tow (.inputs t.task r.release (r.shipped? t) outs)
    { s3 with dpx := { s3.dpx with shipUp := tset s3.dpx.shipUp none t.task (some s3.clk.upNs) } }
  else s2

/-- The image shipped by the motor taken for a cycle (R319): the input entries and the forced OUT slots. -/
def State.latchShipped (s : State) (t : TaskEnt) (b : InBuf) : State :=
  let s1 := s.valuesAt t.task
  let r := s1.latchImage t.task (s1.task t.task)
  let ins := (List.range b.entries.length).foldl (fun (m : Tbl InEnt) i =>
    match b.entries[i]? with
    | some e => tset m {} i ⟨e.value, e.time % 2 ^ 64, e.qual % 256, e.snap⟩
    | none => m) []
  let force := b.outs.foldl (fun (m : Tbl (Option Word64)) e => tset m none e.1 e.2) []
  let s2 := s1.latched t { r with inImg := ins, outForce := force } true
  { s2 with dpx := { s2.dpx with inbuf := tset s2.dpx.inbuf none t.task none } }

/-- The shipped image of task `t`'s present cycle, where it has come. -/
def State.shipment (s : State) (t : TaskEnt) : Option InBuf :=
  match tget s.dpx.inbuf none t.task with
  | some b => if b.ref = (s.task t.task).release then some b else none
  | none => none

/-- INPUT_LATCH (R142, R319): task `n` latches. A SYNCED butty never latches from its own image but takes the shipped
one; a SYNCED motor ships what it latched. -/
def execInputLatch (n : Fin 96) (s : State) : Host.Outcome State Fault Refusal :=
  .next (match s.ent n with
    | none => s
    | some t =>
      let r := s.task n
      if r.st = .running ∧ !r.latched ∧ s.running ∧ s.pairRuns t.pair then
        if s.synced && s.isButty then
          match s.shipment t with | some b => s.latchShipped t b | none => s
        else s.latchLocal t s.synced
      else s)

/-- The field output of a committed entry: driven, or while halted in HOLD held back (R152). -/
def State.commitOut (s : State) (b : BindEnt) (v q : Nat) : State :=
  if s.mode ≠ 3 then s.driveOut b.fieldOut b.typ v q
  else if s.scn.held.contains b.index then s
  else { s with scn := { s.scn with held := s.scn.held ++ [b.index] } }

/-- One output entry applied at a commit at time `t0` (R143, R155, R158, R160, R175); the count of drops by block. A forced
slot drops it and drives its output with the forced value (R193, R194); an owned slot that is not bound takes nothing (R13). -/
def State.commitEnt (s : State) (n t0 : Nat) (r : TaskRun) (drops : List Nat) (b : BindEnt) : State × List Nat :=
  let o := r.outEnt b.entry
  let x := s.slot b.index
  let written := o.value.isSome || o.qual.isSome
  let init := if r.cold && !written then s.img.slots.find? (fun c => c.index == b.index) else none
  if !written && init.isNone then (s, drops)
  else
    let v := match init with
      | some c => BitVec.ofNat 64 c.initial
      | none => o.value.getD x.value
    let q := match init with
      | some c => c.quality
      | none => match o.qual with | some p => p.1 | none => 1
    let alarm := match o.qual with | some p => p.2 | none => false
    let gone := Nat.blt b.station 64 && s.scn.lost.contains b.station
    if !s.ownsSlot b.index then ((s.inc (R.SCN_T_DROP n)).raise evSCN 7, drops ++ [b.index / 1024])
    else if !s.bound b then (s, drops)
    else if x.forced then (if gone then s else s.commitOut b x.value.toNat x.quality, drops)
    else if gone then ((s.inc (R.SCN_T_DROP n)).arb t0 b.index { x with value := v, quality := 5, alarm := alarm }, drops)
    else ((s.arb t0 b.index { x with value := v, quality := q, alarm := alarm }).commitOut b v.toNat q, drops)

/-- Record 0x2007 of the first commit that drops an output of a task to a block since its loss (R160). -/
def State.dropRecord (s : State) (n : Nat) (drops : List Nat) (b : Nat) : State :=
  if s.rep.dropSeen.contains (n, b) then s
  else
    let s1 := { s with rep := { s.rep with dropSeen := s.rep.dropSeen ++ [(n, b)] } }
    s1.post 0x2007 0 n n b (drops.filter (fun c => c == b)).length (s1.ownOf b).gen

/-- The stations of a task's bindings that are lost, as a bit map (R159). -/
def State.lostMap (s : State) (n : Nat) : Nat :=
  ((List.range 64).filter (fun k => s.scn.lost.contains k && s.img.binds.any (fun b => b.task == n && b.station == k))).foldl
    (fun m k => m + 2 ^ k) 0

/-- The output hash of a task's output image (R197, R321). -/
def State.outHash (s : State) (n : Nat) (r : TaskRun) : Nat :=
  crc64xz ((s.outBinds n).flatMap (fun b =>
    let o := r.outEnt b.entry
    let written := o.value.isSome || o.qual.isSome
    let q := match o.qual with | some p => p.1 + 64 * b2n p.2 | none => if written then 1 else 0
    natLE 8 (o.value.getD 0#64).toNat ++ [BitVec.ofNat 8 q, BitVec.ofNat 8 (b2n written)] ++ List.replicate 6 0#8))

/-- A planned switch is cancelled (R331). -/
def State.switchOff (s : State) : State :=
  ({ s with dpx := { s.dpx with switchAt := none } }).p F.DPX_STATUS_SWITCH_PENDING 0

/-- The cross-check of a cycle begins: the CRC of the input image that it used goes to the partner (R329). The mismatch
cancels a planned switch (R331). -/
def State.xcheckStart (s : State) (n ref : Nat) : State :=
  let s1 := ({ s with dpx := { s.dpx with xc := some (n, ref), xcPeer := none } }).p F.DPX_STATUS_XCHECK_ACTIVE 1
  s1.switchOff.pairBreak.tow (.xcheck n ref (tget s1.dpx.inCrc (0, 0) n).2)

/-- A hash mismatch of a task's cycle, or a missing hash (R321, R329): counted, and the cross-check starts or is joined. -/
def State.hashDiffers (s : State) (n ref : Nat) : State :=
  let s1 := ((s.inc R.DPX_MISMATCH).raise evDPX 6).pairBreak
  if s1.dpx.xc.isSome then s1 else s1.xcheckStart n ref

/-- The own hash of a cycle beside the partner's (R321): compared where that has come, else kept. -/
def State.ownHash (s : State) (n ref h : Nat) : State :=
  match tget s.dpx.peer none n with
  | some (pr, ph) =>
    let s1 := { s with dpx := { s.dpx with peer := tset s.dpx.peer none n none } }
    if pr = ref ∧ ph = h then s1 else s1.hashDiffers n ref
  | none => { s with dpx := { s.dpx with own := tset s.dpx.own none n (some (ref, h)) } }

/-- The values STLP wrote in the cycle become due at the loops' next evaluations (R176, R228). -/
def State.stlpDue (s : State) (n : Nat) : State :=
  (s.loopsOf n).foldl (fun t l => match t.loop? (512 * l.engine + l.slot) with
    | some x => t.setLoop (512 * l.engine + l.slot) { x with due := x.due ++ x.stlp, stlp := [] }
    | none => t) s

/-- OUTPUT_COMMIT (R143, R148, R158 to R160, R321): the written entries of task `n` are committed. -/
def execOutputCommit (n : Fin 96) (s : State) : Host.Outcome State Fault Refusal :=
  .next (match s.ent n with
    | none => s
    | some t =>
      let r := s.task n
      let runs := r.st = .running ∨ (r.st = .halted ∧ s.mode = 3 ∧ s.g F.SCN_STATUS_HALT_TASK = n.val)
      if runs ∧ s.running ∧ s.pairRuns t.pair ∧ r.ended ∧ !r.commit ∧ s.loopsDone n r then
        let x := (s.outBinds n).foldl (fun (u : State × List Nat) b => u.1.commitEnt n s.ptpNs r u.2 b) (s, [])
        let s1 := x.2.eraseDups.foldl (fun u b => u.dropRecord n x.2 b) x.1
        let s2 := (s1.wn64 (R.SCN_T_LOST_LO n) (s1.lostMap n)).stlpDue n
        let s3 := (s2.count 194).setTask n { s2.task n with commit := true }
        let h := s3.outHash n r
        let s4 := if s3.synced then (s3.tow (.hash n r.release h)).ownHash n r.release h else s3
        s4.resched t.pair
      else s)

/-- RETAINED_BANK_SWITCH (R144, R147, R157): the cycle of task `n` is complete. -/
def execRetainedBankSwitch (n : Fin 96) (s : State) : Host.Outcome State Fault Refusal :=
  .next (match s.ent n with
    | none => s
    | some t =>
      let r := s.task n
      if r.inCycle ∧ r.commit then
        let y := s.img.layoutOf n
        let a := tget s.scn.ret {} n.val
        let bytes := s.instBytes t.pair (t.instBase + y.retOff) y.retSize
        let data := (List.range y.retSize).foldl (fun (m : Tbl Byte) k => tset m 0#8 k (bytes.getD k 0#8)) []
        let half : RetHalf := ⟨s.img.digest, true, data⟩
        let area : RetArea := if a.cur then ⟨half, a.half1, false⟩ else ⟨a.half0, half, true⟩
        let s1 := if y.retSize = 0 then s else { s with scn := { s.scn with ret := tset s.scn.ret {} n.val area } }
        let time := min ((s1.clk.upNs - r.relUp.getD 0) / 100) 0xFFFFFFFF
        let s2 := (s1.wn64 (R.SCN_T_CYC_LO n) (s1.rn64 (R.SCN_T_CYC_LO n) + 1)).wn (R.SCN_T_EXEC_LAST n) time
        let s3 := s2.wn (R.SCN_T_EXEC_MAX n) (max time (s2.rn (R.SCN_T_EXEC_MAX n)))
        let s4 := s3.setTask n { r with
          st := s3.restState r, first := r.firstNext, firstNext := 0, cold := false
          latched := false, shipped := false, ended := false, commit := false }
        ((if r.suspend then s4.leFlushTask n else s4).count (32 * t.pair + 7)).stopCheck
      else s)

/-! ## Block code on a pair -/

/-- Pair `k` executes an instruction of the task that runs on it, where the task has latched, stands at no breakpoint in
HOLD and has not ended, and the pair is well (R134, R146, R152). -/
def State.bc (s : State) (k : Nat) (f : BcFun) : State :=
  match s.runningOn k with
  | none => s
  | some t =>
    let r := s.task t.task
    if s.running && r.latched && r.shipped && !r.ended && s.pairRuns k
        && !(s.mode == 2 && s.scn.breaks.contains (t.task, r.pc) && !r.skipBreak) then s.bcRun t f
    else s

/-! ## Installing an image (R105, R189) -/

/-- An owned slot configured (R105, R184, R189): a force stays where the type is the same. -/
def State.configSlot (s : State) (c : SlotCfg) : State :=
  let x := s.slot c.index
  let y : Slot := { x with typ := c.typ, tag := c.tag, retained := c.retained, event := c.event, binding := c.binding }
  match s.forceOf (.slot c.index) with
  | some (_, f) =>
    if f.typ = c.typ then s.arbStamp s.ptpNs c.index { y with value := f.value, quality := 2, forced := true }
    else s.arbStamp s.ptpNs c.index (c.initial? y)
  | none => s.arbStamp s.ptpNs c.index (c.initial? y)

/-- The forces that an image does not keep (R189): of slots that it does not configure with the same type, and of
variables where `vars` is false or the image lacks them. -/
def State.lostForces (s : State) (m : Image) (vars : Bool) : List (Nat × Force) :=
  s.forces.filter (fun e => match e.2.key with
    | .slot i => !m.slots.any (fun c => c.index == i && c.typ == e.2.typ)
    | .var t h y => !(vars && (m.variable? t h y).isSome))

/-- The owned slots configured by the loaded image; those that it does not configure take the absent-slot pattern (R85,
R189). -/
def State.configSlots (s : State) : State :=
  let m := s.img
  let gone := (s.pix.slots.filter (fun e => e.2.present && s.ownsSlot e.1 && !m.slots.any (fun c => c.index == e.1))).map
    (fun e => e.1)
  let s1 := gone.foldl (fun t i => t.storeOwned i absentSlot) s
  (m.slots.filter (fun c => s1.ownsSlot c.index)).foldl (fun t c => t.configSlot c) s1

/-- An image installed in STOP (R105, R189, R231); `vars`: variable forces that still have their variable stay, as at a
start. Once the control cycle runs, a forced output with a new FIELD_OUT is driven (R193). -/
def State.installImage (s : State) (m : Image) (vars : Bool) : State :=
  let s1 := (s.lostForces m vars).foldl (fun t e => t.dropForce e.2.key) s
  let s2 := { s1 with scn := { s1.scn with
    img := some m, task := [], byCmd := false, trigs := [], breaks := [], stopping := none, ctl := [] } }
  let s3 := s2.instInit.configSlots.reforceVars
  let s4 := m.tasks.foldl (fun t e => t.setTask e.task { st := .stopped }) s3
  let s5 := (s4.loopsCold.memsLoad.tracesEmpty).showDigest m.digest
  if s.running then s5.driveForced s.img else s5

/-- An image written to the inactive program image bank (R187, R204). -/
def State.putInactive (s : State) (bytes : List Byte) : State :=
  let c := s.scn.curBank
  { s with scn := { s.scn with
    bank0 := if c then bytes else s.scn.bank0
    bank1 := if c then s.scn.bank1 else bytes } }

/-- The bank left by checks with this verdict: those after the fifth run on the copy in the inactive bank (R187). -/
def State.checkedBank (s : State) (bytes : List Byte) (v : Verdict) : State :=
  match v with
  | some x => if (6 ≤ x.1 ∧ x.1 ≤ 16) ∨ x.1 = 22 then s.putInactive bytes else s
  | none => s.putInactive bytes

/-- The image in the inactive bank becomes the running one and is installed in STOP (R189). -/
def State.installBank (s : State) (bytes : List Byte) : State :=
  ({ s with scn := { s.scn with curBank := !s.scn.curBank } }).installImage (parseImage bytes) false

/-- IMG_LOAD (R187 to R190): the image in the host's buffer is checked, sent to the duplex partner, and installed where both
modules accept it. `bankOk`: the bank was written and read back without error; `partner`: the refusal of the duplex partner,
as reason, section and index. -/
def execImgLoad (r : OpRef) (b : HostBuf) (bankOk : Bool) (partner : Option (Nat × Nat × Nat)) (s : State) :
    Host.Outcome State Fault Refusal :=
  .next (s.withOp r 0x10 (fun _ => true) (fun o t =>
    if t.olc.change.isSome || t.fwu.armed.isSome then t.finishWith r 0x0C 0
    else match readStatus o.entry b with
      | 0 =>
        let bytes := b.data.take o.entry.bufLen
        let v := if t.active then some (1, 0, 0) else t.imageChecks o.entry.bufLen bytes bankOk
        let t1 := t.checkedBank bytes v
        match v with
        | some x => t1.finishWith r 0x0B (verdictResult x false)
        | none =>
          let t2 := if t.synced then t1.tow (.image bytes) else t1
          match (if t.synced then partner else none) with
          | some x => t2.finishWith r 0x0B (verdictResult x true)
          | none => (t2.installBank bytes).finishWith r 0 0
      | st => t.finishWith r st 0))

end Sys2Proof.Machine
end

