-- ==== Sys2Proof/Machine/Loop.lean ====
section
/-! DEFINITION. The loop engines: evaluation of a slot, repetitive-control memories, trace buffers and the host window
(chapter 9). All arithmetic is binary64 (R213). -/

namespace Sys2Proof.Machine

def fadd (x y : Nat) : Nat := b64.add x y
def fsub (x y : Nat) : Nat := b64.sub x y
def fmul (x y : Nat) : Nat := b64.mul x y
def fdiv (x y : Nat) : Nat := b64.div x y
def fabs (x : Nat) : Nat := b64.abs x
def fneg (x : Nat) : Nat := b64.negate x
def fin64 (x : Nat) : Bool := b64.finite x
def isZero64 (x : Nat) : Bool := b64.eq x 0

/-- `x` limited to `lo` to `hi`. -/
def fclamp (lo hi x : Nat) : Nat := if lt64 x lo then lo else if lt64 hi x then hi else x

/-- The smaller, the larger of two numbers. -/
def fmin (x y : Nat) : Nat := if lt64 y x then y else x
def fmax (x y : Nat) : Nat := if lt64 x y then y else x

/-! ## The parts of an evaluation -/

/-- An entry of the latched image as a real, where its quality and value are good (R214). -/
def State.realIn (s : State) (t : Nat) (r : TaskRun) (e : Nat) : Option Nat :=
  let x := r.inEnt e
  let v := match s.img.bind 0 t e with
    | some b => if b.typ = 3 then widen (x.value.toNat % 2 ^ 32) else x.value.toNat
    | none => 0
  let q := x.qual % 16
  if (q == 1 || q == 2 || q == 3) && fin64 v then some v else none

/-- A slot's value of an OUT entry as a real. -/
def State.realOut (s : State) (t e : Nat) (v : Word64) : Nat :=
  if s.outType t e = 3 then widen (v.toNat % 2 ^ 32) else v.toNat

/-- What a set of gains gives on the present inputs: P, D and F (R216). -/
def pdf (kp td tfn b c kff sgn rp pv ff h dPrev edPrev : Nat) (reentry : Bool) : Nat × Nat × Nat :=
  let ep := fmul sgn (fsub (fmul b rp) pv)
  let ed := fmul sgn (fsub (fmul c rp) pv)
  let tf := fdiv td tfn
  let d := if isZero64 td then 0
    else if reentry then fadd (fmul (fdiv tf (fadd tf h)) 0) (fmul (fdiv (fmul kp td) (fadd tf h)) 0)
    else fadd (fmul (fdiv tf (fadd tf h)) dPrev) (fmul (fdiv (fmul kp td) (fadd tf h)) (fsub ed edPrev))
  (fmul kp ep, d, fmul kff ff)

/-- The set-point profile (R222): r_p, vel and acc. -/
def profile (vmax amax jmax h sp pv rp vel acc : Nat) (follow : Bool) : Nat × Nat × Nat :=
  if isZero64 vmax then (sp, 0, 0)
  else if follow then (pv, 0, 0)
  else
    let d := fsub sp rp
    if isZero64 amax then
      let step := fclamp (fneg (fmul vmax h)) (fmul vmax h) d
      (fadd rp step, fdiv step h, 0)
    else
      let sg := if isZero64 d then 0 else if lt64 d 0 then r64 (-1) else r64 1
      let vcmd := fmul sg (fmin vmax (b64.sqrt (fmul (fmul (r64 2) amax) (fabs d))))
      let ta := if lt64 0 jmax then fdiv amax jmax else h
      let acmd := fclamp (fneg amax) amax (fdiv (fsub vcmd vel) (fmax ta h))
      let acc1 := if lt64 0 jmax then
          fadd acc (fclamp (fneg (fmul jmax h)) (fmul jmax h) (fsub acmd acc)) else acmd
      let vel1 := fclamp (fneg vmax) vmax (fadd vel (fmul acc1 h))
      let step := fmul vel1 h
      if isZero64 sg ∨ le64 (fmul sg (fsub d step)) 0 then (sp, 0, 0) else (fadd rp step, vel1, acc1)

/-- The thresholds of a loop at or below `s`, each moved by `m` of HYST. -/
def thrCount (x : LoopSlot) (m : Nat → Nat) (s : Nat) : Nat :=
  ((List.range (x.nreg - 1)).filter (fun n => le64 (m (tget x.thr 0 n)) s)).length

/-- The region of an evaluation (R223). -/
def schedule (x : LoopSlot) (reentry : Bool) (s : Nat) : Nat :=
  if x.nreg < 2 then 0
  else
    let c := thrCount x id s
    let j := x.region
    if reentry then c
    else if j < c then max j (thrCount x (fun t => fadd t x.hyst) s)
    else if c < j then min j (thrCount x (fun t => fsub t x.hyst) s)
    else j

/-- Phase of a memory at PTP time `t` ns, moved by `lead` ms, in ns (R233). -/
def MemS.phase (m : MemS) (t lead : Nat) : Nat :=
  let p : Int := (m.period * 1000000 : Nat)
  ((((t : Int) - (m.offset * 1000000 : Nat)) % p + (lead * 1000000 : Nat)) % p).toNat

/-- The current bin (R233). -/
def MemS.bin (m : MemS) (t : Nat) : Nat := m.phase t 0 * m.nbins / (m.period * 1000000)

/-- The memory's value at the led phase: linear interpolation between the two nearest bin centres (R233). -/
def MemS.value (m : MemS) (t : Nat) : Nat :=
  let p := m.period * 1000000
  let num : Int := (2 * m.phase t m.lead * m.nbins : Nat) - (p : Int)
  let i : Int := num / (2 * p : Nat)
  let f := b64.ofRat (num - i * (2 * p : Nat)) (2 * p)
  let b0 := widen (tget m.bins 0 (i % m.nbins).toNat)
  let b1 := widen (tget m.bins 0 ((i + 1) % m.nbins).toNat)
  fadd b0 (fmul f (fsub b1 b0))

/-- The open bin of a memory closed with the samples it holds (R234): the memory, and 0 nothing, 1 updated, 2 the
update was not finite or out of range. -/
def MemS.close (m : MemS) : MemS × Nat :=
  match m.cur with
  | none => (m, 0)
  | some j =>
    if m.count = 0 then (m, 0)
    else
      let mean := fdiv m.sum (b64.ofInt m.count)
      let old := widen (tget m.bins 0 j)
      let new := if m.mode = 0 then fadd old (fmul m.gain (fsub mean old)) else fmul m.qf (fadd old (fmul m.gain mean))
      if fin64 new && bounded64 new then
        ({ m with
          bins := tset m.bins 0 j (fconv b64 b32 new)
          unsaved := if m.unsaved.contains j then m.unsaved else m.unsaved ++ [j] }, 1)
      else (m, 2)

/-- A sample of a group's loop in a cycle (R234): `first` of the group in the cycle, `last` of it. -/
def MemS.sample (m : MemS) (bin : Nat) (z : Option Nat) (first last : Bool) : MemS × Nat :=
  let m1 := if first then
      { m with ncur := some bin
               nsum := if m.cur = some bin then m.sum else 0
               ncount := if m.cur = some bin then m.count else 0 }
    else m
  let m2 := match z with
    | some v => { m1 with nsum := fadd m1.nsum v, ncount := m1.ncount + 1 }
    | none => m1
  if last then
    let x := if m2.cur = some bin then (m2, 0) else m2.close
    ({ x.1 with cur := some bin, sum := m2.nsum, count := m2.ncount }, x.2)
  else (m2, 0)

/-! ## Trace buffers (R237, R238) -/

/-- Trace buffer `b` of engine `e`. -/
def State.trace (s : State) (e b : Nat) : TraceS := tget s.le.trace {} (4 * e + b)

/-- Trace buffer `b` of engine `e` given the state `x`. -/
def State.setTrace (s : State) (e b : Nat) (x : TraceS) : State :=
  { s with le := { s.le with trace := tset s.le.trace {} (4 * e + b) x } }

/-- The nodes of a buffer. -/
def State.traceNodes (s : State) (e b : Nat) : List Nat :=
  let lo := s.rn (R.LE_TR_NODES_LO e b)
  let hi := s.rn (R.LE_TR_NODES_HI e b)
  ((List.range 8).map (fun k => if k < 4 then bits lo (8 * k) 5 else bits hi (8 * (k - 4)) 5)).take
    (s.g (F.LE_TR_CFG_NNODES e b))

/-- A quantity as a trace sample stores it: binary16, or bits 15:0 of a DINT. -/
def sample16 (k v : Nat) : Nat := if kDint k then v % 2 ^ 16 else fconv b64 b16 v

/-- A quantity as a number for the level comparison. -/
def levelOf (k v : Nat) : Nat := if kDint k then b64.ofInt (toSigned 64 v) else v

/-- The trigger condition of SOURCE at a sample; the flags are following-error latch, region change, mode change and
entry into PV_BAD of the evaluation. -/
def traceTrig (source level : Nat) (prev : Option Nat) (now : Nat) (flags : List Bool) : Bool :=
  let up := match prev with | some p => lt64 p level && le64 level now | none => false
  let down := match prev with | some p => lt64 level p && le64 now level | none => false
  match source with
  | 1 => up
  | 2 => down
  | 3 => up || down
  | 4 => flags.getD 0 false
  | 5 => flags.getD 1 false
  | 6 => flags.getD 2 false
  | 7 => flags.getD 3 false
  | _ => false

/-- A capture is under way. -/
def TraceS.captures (t : TraceS) : Bool := t.st == .armed || t.st == .triggered

/-- A command of LEn_TRbb_CMD acts on buffer `b` (R238): 1 ARM, 2 TRIGGER, 3 ABORT. -/
def State.traceDo (s : State) (e b v : Nat) : State :=
  let x := s.trace e b
  match v % 4 with
  | 1 =>
    if x.captures then s
    else
      let n := s.g (F.LE_TR_CFG_NNODES e b)
      let ok := Nat.ble 1 n && Nat.ble n 8 && (s.traceNodes e b).all (fun k => k != 28)
        && (s.loop? (512 * e + s.g (F.LE_TR_CFG_SLOT e b))).isSome
      if ok then
        (s.setTrace e b { st := .armed, cfg := s.rn (R.LE_TR_CFG e b), cmds := x.cmds }).wn (R.LE_TR_GAPS e b) 0
      else s.setTrace e b { x with cfgErr := true }
  | 2 => if x.st = .armed then s.setTrace e b { x with force := true } else s
  | 3 =>
    if x.st = .armed then s.setTrace e b { x with st := .idle, samples := [], force := false }
    else if x.st = .triggered then (s.setTrace e b { x with st := .done }).raise (evLE e) 5
    else s
  | _ => s

/-- The waiting commands of buffer `b` act in the order in which they came. -/
def State.traceDoAll (s : State) (e b : Nat) : State :=
  let x := s.trace e b
  x.cmds.foldl (fun t c => t.traceDo e b c.1) (s.setTrace e b { x with cmds := [] })

/-- A TRACE_FETCH of buffer `b` is in flight: fetched and not finished. -/
def State.traceFetching (s : State) (e b : Nat) : Bool :=
  [0, 1].any (fun p => (s.port p).ops.any (fun o =>
    o.entry.opcode == 0x30 && o.entry.arg0 == 4 * e + b && o.done.isNone))

/-- The slot that buffer `b` follows: that of the configuration in force. -/
def State.traceSlot (s : State) (e b : Nat) : Nat :=
  let x := s.trace e b
  (if x.captures then x.cfg else s.rn (R.LE_TR_CFG e b)) % 512

/-- A sample taken by buffer `b`, whose configuration is that of LEn_TRbb_CFG. -/
def State.traceSample (s : State) (e b rel : Nat) (x : LoopSlot) (flags : List Bool) : State :=
  let t := s.trace e b
  let s1 := s.count (134 + 16 * e)
  let smp := (s.traceNodes e b).map (fun k => sample16 k (x.qty k))
  let tn := s.g (F.LE_TR_TRIG_TNODE e b)
  let now := levelOf tn (x.qty tn)
  let pre := s.g (F.LE_TR_TRIG_PRE e b)
  let level := widen (s.rn (R.LE_TR_LEVEL e b))
  let trig := t.force || traceTrig (s.g (F.LE_TR_TRIG_SOURCE e b)) level t.prev now flags
  let full := fun (u : State) (y : TraceS) =>
    if 16384 ≤ y.samples.length then (u.setTrace e b { y with st := .done }).raise (evLE e) 5
    else u.setTrace e b y
  if t.st = .triggered then full s1 { t with samples := t.samples ++ [smp], decim := 0, prev := some now, force := false }
  else if trig then
    let kept := t.samples.drop (t.samples.length - pre)
    full (s1.wn64 (R.LE_TR_TIME_LO e b) rel)
      { t with st := .triggered, samples := kept ++ [smp], trigIdx := kept.length, decim := 0, prev := some now
               force := false }
  else
    let l := t.samples ++ [smp]
    s1.setTrace e b { t with samples := l.drop (l.length - (pre + 1)), decim := 0, prev := some now }

/-- A sample point of buffer `b` on loop slot `slot` (R238): the waiting commands and LEn_TRbb_CFG act, unless a TRACE_FETCH
holds the commands; then the sample is taken, where a capture follows the slot. -/
def State.tracePoint (s : State) (e b slot rel : Nat) (x : LoopSlot) (flags : List Bool) : State :=
  let s1 := if s.traceFetching e b then s else s.traceDoAll e b
  let y := s1.trace e b
  if !y.captures then s1
  else
    let s2 := s1.setTrace e b { y with cfg := s1.rn (R.LE_TR_CFG e b), decim := 0 }
    if s2.traceSlot e b = slot then s2.traceSample e b rel x flags else s2

/-- An evaluation of loop slot `slot` as buffer `b` sees it (R237): gaps, and a sample point at every DECIM-th of a capture and
at every one without a capture. -/
def State.traceEval (s : State) (e b slot rel missed : Nat) (x : LoopSlot) (flags : List Bool) : State :=
  let t := s.trace e b
  if s.traceSlot e b ≠ slot then s
  else if t.captures then
    let s1 := s.inc (R.LE_TR_GAPS e b) missed
    if t.decim + 1 < max 1 (bits t.cfg 16 8) then s1.setTrace e b { t with decim := t.decim + 1 }
    else s1.tracePoint e b slot rel x flags
  else s.tracePoint e b slot rel x flags

/-! ## The evaluation (R216) -/

/-- The control law on one slot: everything that depends on numbers alone. `pv` is the value used, `bad` that the PV
is bad; `force` the forced OUT value tracked; `safe` the SAFE value of the OUT entry; `rep` the repetitive term. -/
structure LawIn where
  h : Nat
  reentry : Bool
  pv : Nat
  sp : Nat
  ff : Nat
  bad : Bool
  force : Option Nat
  outAt : Nat
  safe : Nat
  rep : Nat
  deriving DecidableEq, Repr

/-- What the control law finds beside the slot's new state. -/
structure LawOut where
  x : LoopSlot
  sub : Bool
  numeric : Bool
  feNow : Bool
  dev : Nat
  hiLim : Bool
  loLim : Bool
  rateLim : Bool
  regionNew : Bool
  excluded : Bool
  deriving DecidableEq, Repr

/-- One evaluation of the control law (R214 to R225) on a slot whose pending parameters have been applied. -/
def law (x0 : LoopSlot) (i : LawIn) : LawOut :=
  let uPrev := if x0.fresh then i.outAt else x0.uPrev
  let toMan := i.bad && x0.pvBadAction == 2 && x0.auto
  let x1 := { x0 with
    auto := x0.auto && !toMan, manOpen := false, manNow := false
    par := if (toMan && !x0.manNow) || (x0.fresh && x0.manOpen) then tset x0.par 0 12 uPrev else x0.par }
  let par := fun k => tget x1.par 0 k
  let rp0 := if x1.fresh && !isZero64 (par 23) then i.pv else x1.rp
  let pr := profile (par 23) (par 24) (par 25) i.h i.sp i.pv rp0 x1.vel x1.acc (!x1.auto || i.bad)
  let rp := pr.1
  let sgn := if x1.direct then r64 (-1) else r64 1
  let e := fmul sgn (fsub rp i.pv)
  let sv := match x1.sched with | 0 => i.pv | 1 => rp | 2 => i.ff | _ => uPrev
  let region := schedule x1 i.reentry sv
  let x2 := { x1 with region := region }
  let kp := x2.gain 13
  let ti := x2.gain 14
  let td := x2.gain 15
  let kff := x2.gain 19
  let tfn := par 16
  let b := par 17
  let c := par 18
  let ed := fmul sgn (fsub (fmul c rp) i.pv)
  let new := pdf kp td tfn b c kff sgn rp i.pv i.ff i.h x1.dPrev x1.edPrev i.reentry
  let p := new.1
  let d := new.2.1
  let f := new.2.2
  let gains := [kp, td, tfn, b, c, kff, region]
  let g := fun n => x1.gains.getD n 0
  let old := pdf (g 0) (g 1) (g 2) (g 3) (g 4) (g 5) sgn rp i.pv i.ff i.h x1.dPrev x1.edPrev i.reentry
  let i1 := if x1.gains = [] ∨ x1.gains = gains then x1.i
    else fsub (fadd x1.i (fadd (fadd old.1 old.2.1) old.2.2)) (fadd (fadd p d) f)
  let rest := fadd (fadd (fadd p d) f) i.rep
  let i2 := if x1.align then fsub i.outAt rest else i1
  let v := fadd (fadd (fadd (fadd p i2) d) f) i.rep
  let cand := if x1.auto then v else par 12
  let win := fmul (par 22) i.h
  let rated := if lt64 0 (par 22) then fclamp (fsub uPrev win) (fadd uPrev win) cand else cand
  let limited := fclamp (par 20) (par 21) rated
  let pvHold := i.bad && x1.pvBadAction != 2
  let feHold := x1.feLatch && (x1.feAction == 1 || x1.feAction == 2)
  let track := i.force.isSome
  let u0 := if pvHold then (if x1.pvBadAction = 1 then i.safe else uPrev)
    else if feHold then (if x1.feAction = 2 then i.safe else x1.feU) else limited
  let u := match i.force with | some fv => fv | none => u0
  let free := x1.auto && !pvHold && !feHold && !track
  let tt := if isZero64 (par 30) then ti else par 30
  let i3 := if free then
      (if lt64 0 ti then fadd (fadd i2 (fmul (fdiv (fmul kp i.h) ti) e)) (fmul (fdiv i.h tt) (fsub u v)) else i2)
    else fsub u rest
  let dev := fabs (fsub rp i.pv)
  let numeric := !([p, d, f, i.rep, i2, v, u, i3, rp].all fin64)
  if numeric then
    { x := { x2 with
        uPrev := uPrev, fresh := false, reentry := false, rp := if fin64 rp then rp else x1.rp
        vel := if fin64 pr.2.1 then pr.2.1 else 0, acc := if fin64 pr.2.2 then pr.2.2 else 0, gains := gains
        q := [(0, uPrev), (1, v), (2, p), (3, x1.i), (4, d), (5, f), (6, i.rep), (7, rp), (8, e), (29, i.pv)].foldl
          (fun t e => tset t 0 e.1 e.2) x1.q }
      sub := true, numeric := true, feNow := false, dev := dev, hiLim := false, loLim := false, rateLim := false
      regionNew := region != x1.region, excluded := true }
  else
    let wide := lt64 (par 26) dev
    let timed := free && lt64 0 (par 26)
    let timer := if !x1.auto ∨ pvHold ∨ track then 0
      else if timed then (if wide then fadd x1.feTimer i.h else 0) else x1.feTimer
    let feNow := timed && wide && !x1.feLatch && le64 (par 27) timer
    let toMan := feNow && x1.feAction == 3
    let grab := feNow && (x1.feAction == 1 || x1.feAction == 2)
    let uOut := if feNow && x1.feAction == 2 then i.safe else u
    let iOut := if grab then fsub uOut rest else i3
    { x := { x2 with
        auto := x1.auto && !toMan
        par := if toMan then tset x1.par 0 12 uOut else x1.par
        i := iOut, dPrev := d, edPrev := ed, uPrev := uOut, rp := rp, vel := pr.2.1, acc := pr.2.2
        feTimer := timer, feLatch := x1.feLatch || feNow, feU := if feNow then uOut else x1.feU
        fresh := false, reentry := false, align := false, gains := gains
        q := [(0, uOut), (1, v), (2, p), (3, iOut), (4, d), (5, f), (6, i.rep), (7, rp), (8, e), (29, i.pv)].foldl
          (fun t e => tset t 0 e.1 e.2) x1.q }
      sub := pvHold || feHold || grab, numeric := false, feNow := feNow, dev := dev
      hiLim := lt64 (par 21) rated, loLim := lt64 rated (par 20), rateLim := decide (rated ≠ cand)
      regionNew := region != x1.region
      excluded := !(x1.auto && !i.bad && !(x1.feLatch || feNow) && !track && b64.eq uOut v && !isZero64 (par 31)) }

/-- Task `a`'s slots are served before task `c`'s (R145): the higher priority first, then the earlier release, then within one
clock of 125 MHz the lower number. -/
def State.servedFirst (s : State) (a c : TaskEnt) : Bool :=
  let clock := fun (t : TaskEnt) => (s.task t.task).relUp.getD 0 / 8
  if a.prio ≠ c.prio then Nat.blt a.prio c.prio
  else if clock a ≠ clock c then Nat.blt (clock a) (clock c)
  else Nat.blt a.task c.task

/-- The next slot that engine `e` issues (R145, R211): of the tasks that have latched, the one served first; within a task
the lowest slot. -/
def State.nextLoop (s : State) (e : Nat) : Option (TaskEnt × LoopEnt) :=
  let ready := s.taskEnts.filter (fun t =>
    let r := s.task t.task
    r.inCycle && r.latched && r.shipped && !r.commit
      && (s.loopsOf t.task).any (fun l => l.engine == e && !r.loops.contains l.loc))
  let best := ready.foldl (fun (b : Option TaskEnt) t =>
    match b with
    | none => some t
    | some c => if s.servedFirst t c then some t else some c) none
  match best with
  | none => none
  | some t =>
    let l := (s.loopsOf t.task).filter (fun l => l.engine == e && !(s.task t.task).loops.contains l.loc)
    (l.foldl (fun (b : Option LoopEnt) k => match b with
      | none => some k
      | some c => if k.slot < c.slot then some k else some c) none).map (fun k => (t, k))

/-- The sample interval of an evaluation in ns, none for a re-entry (R215). -/
def sampleNs (t : TaskEnt) (x : LoopSlot) (rel : Nat) : Option Nat :=
  match x.lastRel with
  | none => none
  | some last =>
    if x.reentry ∨ rel < last ∨ (if t.kind = 0 then 4 * t.period * 1000 else 10000000000) < rel - last then none
    else some (rel - last)

/-- The boundary before the evaluation of a loop slot (R228, R229): the values due are taken, and with them the pending host
write of the slot, or of its memory, that is due at the cycle's release. -/
def State.evalBoundary (s : State) (e : Nat) (t : TaskEnt) (slot : Nat) (x : LoopSlot) (rel : Nat) : State :=
  let own := s.setLoop (512 * e + slot) (x.atBoundary none)
  match s.leWr e with
  | some w =>
    let here := if w.kind < 3 then w.target == slot else x.mem == some w.target
    if w.task = t.task ∧ w.atRelease ∧ w.due ≤ rel ∧ here then
      (if w.kind = 0 then s.leBoundary e w else (own.setLeWr e none).leApply e w)
    else own
  | none => own

/-- Every quantity of a loop slot as an evaluation leaves it (R227, R242). -/
def LoopSlot.snapshot (x : LoopSlot) : LoopSlot :=
  { x with q := ((List.range 32).filter (fun k => 11 ≤ k && k != 28 && k != 29)).foldl (fun t k => tset t 0 k (x.present k)) x.q }

/-- A memory's part in an evaluation (R234): the sample, the update of a bin that is left, its events. -/
def State.memEval (s : State) (e : Nat) (_t : TaskEnt) (l : LoopEnt) (y : LawOut) (rel : Nat) (before : List Nat) :
    State × Bool :=
  match y.x.mem with
  | none => (s, false)
  | some k =>
    let key := 64 * e + k
    match s.mem? key with
    | none => (s, false)
    | some m =>
      let group := (s.img.memGroup e k).map (fun g => g.1.loc)
      let valid := !y.excluded && s.ptpValid && s.g (F.LE_CTL_FREEZE_LEARN e) == 0 && !m.frozen
      let z := if m.mode = 0 then fdiv (fadd y.x.i (tget y.x.q 0 6)) (tget y.x.par 0 31) else tget y.x.q 0 8
      let first := group.all (fun c => !before.contains c)
      let last := group.all (fun c => c == l.loc || before.contains c)
      let r := m.sample (m.bin rel) (if valid then some z else none) first last
      let s1 := s.setMem key r.1
      let s2 := if r.2 = 1 then (s1.inc (R.LE_MEM_UPDATES e)).count (133 + 16 * e) else if r.2 = 2 then s1.raise (evLE e) 9 else s1
      (s2, !valid)

/-- The evaluations of engine `e` in the last 1 s, by when they were, in ns since the start (R242). -/
def State.recentEvals (s : State) (e : Nat) : List Nat :=
  (tget s.le.evals [] e).filter (fun t => Nat.blt s.clk.upNs (t + 1000000000))

/-- An evaluation noted for LEn_LOAD. -/
def State.noteEval (s : State) (e : Nat) : State :=
  { s with le := { s.le with evals := tset s.le.evals [] e (s.recentEvals e ++ [s.clk.upNs]) } }

/-- The evaluation of one slot (R216 to R225, R237). -/
def State.evalLoop (s0 : State) (e : Nat) (t : TaskEnt) (l : LoopEnt) : State :=
  let key := 512 * e + l.slot
  match s0.loop? key with
  | none => s0
  | some xa =>
    let r := s0.task t.task
    let s := s0.evalBoundary e t l.slot xa r.release
    match s.loop? key with
    | none => s
    | some x =>
      let pvIn := s.realIn t.task r l.pv
      let spIn := s.realIn t.task r l.sp
      let ffIn := if l.ff = 0xFFFF then some 0 else s.realIn t.task r l.ff
      let freeV := s.fresh % 2 ^ 64
      let takeFree := pvIn.isNone && x.goodPv.isNone
      let pv := pvIn.getD (x.goodPv.getD (if fin64 freeV then freeV else 0))
      let sp := spIn.getD (x.goodSp.getD pv)
      let ff := ffIn.getD (x.goodFf.getD 0)
      let s1 := if takeFree then s.freshen else s
      let ns := sampleNs t x r.release
      let period := t.loopPeriod * 1000
      let h := b64.ofRat (ns.getD period : Nat) 1000000000
      let w := tget x.par 0 31
      let rep := match x.mem with
        | some k => match s1.mem? (64 * e + k) with
          | some m => if isZero64 w then 0 else fmul w (m.value r.release)
          | none => 0
        | none => 0
      let forced := if x.forceTrack then (tget r.outForce none l.out).map (s1.realOut t.task l.out) else none
      let bind := s1.img.bind 1 t.task l.out
      let i : LawIn := {
        h := h, reentry := ns.isNone, pv := pv, sp := sp, ff := ff, bad := pvIn.isNone, force := forced
        outAt := s1.realOut t.task l.out (tget r.outVal 0#64 l.out)
        safe := match bind with | some b => s1.realOut t.task l.out (BitVec.ofNat 64 b.safe) | none => 0
        rep := rep }
      let y := law { x with
        goodPv := if pvIn.isSome then pvIn else x.goodPv
        goodSp := if spIn.isSome then spIn else x.goodSp
        goodFf := if ffIn.isSome then ffIn else x.goodFf } i
      let badNow := pvIn.isNone && !x.pvBad
      let modeNew := y.x.auto != xa.auto
      let me := s1.memEval e t l y r.release r.loops
      let status := b2n y.x.auto + 2 * b2n y.hiLim + 4 * b2n y.loLim + 8 * b2n y.rateLim + 16 * b2n pvIn.isNone
        + 32 * b2n spIn.isNone + 64 * b2n ffIn.isNone + 128 * b2n y.numeric
        + 256 * b2n (!b64.eq (tget y.x.q 0 7) sp) + 512 * b2n (lt64 0 y.x.feTimer) + 1024 * b2n y.x.feLatch
        + 2048 * b2n forced.isSome + 4096 * b2n y.regionNew
        + 8192 * b2n (x.mem.isSome && !isZero64 w) + 16384 * b2n me.2
      let recNum := y.numeric && (match y.x.numNs with | some u => Nat.ble (u + 1000000000) s1.clk.upNs | none => true)
      let z := LoopSlot.snapshot { y.x with
        status := status, pvBad := pvIn.isNone, lastRel := some r.release
        numNs := if recNum then some s1.clk.upNs else y.x.numNs
        q := tset (tset y.x.q 0 9 status) 0 10 y.x.region }
      let s2 := me.1.setLoop key z
      let u := tget z.q 0 0
      let outV := if s2.outType t.task l.out = 3 then fconv b64 b32 u else u
      let r2 := (s2.task t.task).setOut l.out ⟨some (BitVec.ofNat 64 outV), some (if y.sub then 3 else 1, false)⟩
      let s3 := s2.setTask t.task { r2 with loops := r2.loops ++ [l.loc] }
      let ev := fun (c : Bool) (b : Nat) (u : State) => if c then u.raise (evLE e) b else u
      let s4 := ev modeNew 4 (ev y.regionNew 3 (ev y.numeric 2 (ev badNow 1 (ev y.feNow 0 s3))))
      let s5 := if recNum then s4.post 0x2008 (4 + e) 0 e l.slot t.task else s4
      let s6 := if y.feNow then
          ((s5.inc (R.LE_FE_COUNT e)).wn (R.LE_FE_LAST e) l.slot).post 0x2009 (4 + e) 0 e l.slot t.task (fconv b64 b32 y.dev)
        else s5
      let missed := (match x.lastRel with
        | some last => if t.kind = 0 ∧ last < r.release then (r.release - last) / period - 1 else 0
        | none => 0) + b2n ns.isNone
      let s7 := (List.range 4).foldl (fun v b =>
        v.traceEval e b l.slot r.release missed z [y.feNow, y.regionNew, modeNew, badNow]) s6
      let s8 := [(0, true), (1, ns.isNone), (2, y.regionNew), (3, y.feNow), (4, y.numeric)].foldl
        (fun v c => v.count (128 + 16 * e + c.1) (b2n c.2)) (s7.noteEval e)
      if y.feNow && x.feAction == 4 then s8.faultStop 5 (some (t.task, t.pair, (s8.task t.task).pc))
      else s8.resched t.pair

/-- LOOP_EVALUATE (R211, R216): engine `e` evaluates the slot that it issues next. -/
def execLoopEvaluate (e : Fin 4) (s : State) : Host.Outcome State Fault Refusal :=
  .next (if !s.running then s else
    match s.nextLoop e with
    | some (t, l) => s.evalLoop e t l
    | none => s)

/-- MEMORY_SAVE (R235): the oldest bin update of memory `m` not yet saved goes to the saved copy, which takes the memory's
shape where it has another. -/
def execMemorySave (e : Fin 4) (m : Fin 64) (s : State) : Host.Outcome State Fault Refusal :=
  let key := 64 * e.val + m.val
  .next (match s.mem? key with
    | none => s
    | some x => match x.unsaved with
      | [] => s
      | j :: rest =>
        let v := tget s.le.saved {} key
        let fits := v.period == x.period && v.nbins == x.nbins && v.mode == x.mode
        let v1 : MemSaved := ⟨x.period, x.nbins, x.mode, tset (if fits then v.bins else []) 0 j (tget x.bins 0 j)⟩
        let s1 := s.setMem key { x with unsaved := rest }
        { s1 with le := { s1.le with saved := tset s1.le.saved {} key v1 } })

/-! ## The host window (R229, R230, R242) -/

/-- The task that a target concerns: the loop's, or the memory group's. -/
def State.leTask (s : State) (e kind target : Nat) : Nat :=
  if kind < 3 then (match s.loop? (512 * e + target) with | some x => x.task | none => 0)
  else match s.img.memGroup e target with | (l, _) :: _ => l.task | [] => 0

/-- The instant that R229 names for a write received now: PTP ns, and whether it is a release of the task. -/
def State.leInstant (s : State) (task : Nat) : Nat × Bool :=
  let soon := s.ptpNs + 50000
  let grid := ((soon + 99999) / 100000 * 100000, false)
  match s.ent task with
  | some t => if t.kind = 0 ∧ !(s.task task).suspend then (nextAligned t (soon - 1), true) else grid
  | none => grid

/-- A write of LEn_WR_CMD with a WRITE (R229). -/
def State.leWrite (s : State) (e v lo hi : Nat) (own : Option (Nat × Bool)) : State :=
  let kind := bits v 26 3
  let target := bits v 16 9
  let index := bits v 0 12
  let val := if kind = 4 ∧ index < 2 then lo else lo + hi * 2 ^ 32
  let task := s.leTask e kind target
  let at_ := own.getD (s.leInstant task)
  let w : LeWrite := { task := task, due := at_.1, atRelease := at_.2, kind := kind, target := target, index := index
                       value := val, persist := natBit v 29 }
  if (s.leWr e).isSome then s.wrCode e 5 7
  else match s.leWriteCode e w with
    | 0 =>
      let s1 := if s.mode = 0 ∨ s.mode = 3 then s.leApply e w
        else (s.setLeWr e (some w)).p (F.LE_WR_RESULT_CODE e) 1
      if own.isNone && s.synced then s1.tow (.loopWrite [0, e, v, lo, hi, at_.1, b2n at_.2]) else s1
    | c => s.wrCode e c 7

/-- A READ (R229): the target's present value. -/
def State.leRead (s : State) (e v : Nat) : State :=
  let kind := bits v 26 3
  let target := bits v 16 9
  let index := bits v 0 12
  let val : Option Nat :=
    if kind < 3 then
      match s.loop? (512 * e + target) with
      | none => none
      | some x => match kind with
        | 0 => if index < 32 then some (x.present index) else none
        | 1 => if index / 4 < x.nreg then
            some (if x.nreg = 1 then tget x.par 0 (regionK (index % 4)) else tget x.reg 0 index) else none
        | _ => if index = 7 then some x.hyst else if index + 1 < x.nreg then some (tget x.thr 0 index) else none
    else
      match (if target < 64 then s.mem? (64 * e + target) else none) with
      | none => none
      | some x => match kind, index with
        | 3, _ => if index < x.nbins then some (widen (tget x.bins 0 index)) else none
        | 4, 0 => some x.offset
        | 4, 1 => some x.lead
        | 4, 2 => some x.gain
        | 4, 3 => some x.qf
        | _, _ => none
  match val with
  | some n => (s.wn64 (R.LE_WR_VAL_LO e) n).wrCode e 2 6
  | none => s.wrCode e 4 7

/-- A CANCEL (R229): the pending write is withdrawn. In a duplex pair it is withdrawn only where the cancel reaches both
modules before the instant: surely 10 µs ahead of it, never after it, and in between a free value says whether (log entry
210). -/
def State.leCancel (s : State) (e : Nat) (own : Bool) : State :=
  match s.leWr e with
  | none => s
  | some w =>
    let gone := fun (t : State) => (t.setLeWr e none).p (F.LE_WR_RESULT_CODE e) 7
    if !s.synced then gone s
    else if w.due ≤ s.ptpNs then s
    else if !own then gone s
    else if s.ptpNs + 10000 ≤ w.due then (gone s).tow (.loopWrite [1, e])
    else if s.fresh % 2 = 1 then (gone s.freshen).tow (.loopWrite [1, e])
    else s.freshen

/-- A write of LEn_WR_CMD. -/
def State.leCmdWrite (s : State) (e v : Nat) : State :=
  match bits v 30 2 with
  | 1 => s.leWrite e v (s.rn (R.LE_WR_VAL_LO e)) (s.rn (R.LE_WR_VAL_HI e)) none
  | 2 => s.leRead e v
  | 3 => s.leCancel e true
  | _ => s

/-- LOOP_WRITE (R229): port `p` writes LEn_WR_CMD with ACTION 1. -/
def execLoopWrite (p : Fin 2) (e : Fin 4) (v : Word) (s : State) : Host.Outcome State Fault Refusal :=
  .next (if !s.linkUp p then s else s.regWrite p (R.LE_WR_CMD e) (fun t => t.leCmdWrite e (setBits v.toNat 30 2 1)))

/-- LOOP_READ (R229): port `p` writes LEn_WR_CMD with ACTION 2. -/
def execLoopRead (p : Fin 2) (e : Fin 4) (v : Word) (s : State) : Host.Outcome State Fault Refusal :=
  .next (if !s.linkUp p then s else s.regWrite p (R.LE_WR_CMD e) (fun t => t.leCmdWrite e (setBits v.toNat 30 2 2)))

/-- LOOP_CANCEL (R229): port `p` writes LEn_WR_CMD with ACTION 3. -/
def execLoopCancel (p : Fin 2) (e : Fin 4) (s : State) : Host.Outcome State Fault Refusal :=
  .next (if !s.linkUp p then s else s.regWrite p (R.LE_WR_CMD e) (fun t => t.leCmdWrite e (3 * 2 ^ 30)))

/-- LOOP_WRITE_APPLY (R229): the named instant of the pending write of engine `e` comes; it waits for the end of a cycle
that an event task or a SUSPENDED task then has in progress. -/
def execLoopWriteApply (e : Fin 4) (s : State) : Host.Outcome State Fault Refusal :=
  .next (match s.leWr e with
    | none => s
    | some w =>
      let s1 := s.advanceToPtp w.due
      let r := s1.task w.task
      let wait := r.inCycle && !r.commit && (!w.atRelease || Nat.blt r.release w.due || !r.loops.isEmpty)
      if wait then s1 else if w.atRelease then s1.leBoundary e w else s1.leFlush e)

/-- A memory command (R236): 1 CLEAR, 2 FREEZE, 3 UNFREEZE; on a memory that no loop names too, whose saved copy and FROZEN
are kept. -/
def State.memCmd (s : State) (e v : Nat) (own : Bool) : State :=
  let key := 64 * e + bits v 16 6
  let fwd := fun (t : State) => if own && t.synced then t.tow (.loopWrite [2, e, v]) else t
  let x := tget s.le.mem {} key
  match bits v 0 2 with
  | 1 =>
    let sv := tget s.le.saved {} key
    let s1 := s.setMem key { x with bins := [], sum := 0, count := 0, nsum := 0, ncount := 0, unsaved := [] }
    fwd { s1 with le := { s1.le with saved := tset s1.le.saved {} key { sv with bins := [] } } }
  | 2 => fwd (s.setMem key { x with frozen := true })
  | 3 => fwd (s.setMem key { x with frozen := false })
  | _ => s

/-- MEM_CLEAR (R236): port `p` writes LEn_MEM_CMD. -/
def execMemClear (p : Fin 2) (e : Fin 4) (m : Fin 64) (s : State) : Host.Outcome State Fault Refusal :=
  .next (if !s.linkUp p then s else s.regWrite p (R.LE_MEM_CMD e) (fun t => t.memCmd e (m.val * 2 ^ 16 + 1) true))

/-- MEM_FREEZE (R236). -/
def execMemFreeze (p : Fin 2) (e : Fin 4) (m : Fin 64) (s : State) : Host.Outcome State Fault Refusal :=
  .next (if !s.linkUp p then s else s.regWrite p (R.LE_MEM_CMD e) (fun t => t.memCmd e (m.val * 2 ^ 16 + 2) true))

/-- MEM_UNFREEZE (R236). -/
def execMemUnfreeze (p : Fin 2) (e : Fin 4) (m : Fin 64) (s : State) : Host.Outcome State Fault Refusal :=
  .next (if !s.linkUp p then s else s.regWrite p (R.LE_MEM_CMD e) (fun t => t.memCmd e (m.val * 2 ^ 16 + 3) true))

/-- A write of LEn_TRbb_CMD (R238): the command waits for the next sample point, or for the end of the TRACE_FETCH of the
buffer that is in flight. Where the buffer follows a slot that is not present no sample point comes, and it acts at once (log
entry 102). -/
def State.traceCmd (s : State) (e b v : Nat) : State :=
  let x := s.trace e b
  if v % 4 = 0 then s
  else if s.traceFetching e b then s.setTrace e b { x with cmds := x.cmds ++ [(v % 4, true)] }
  else if (s.loop? (512 * e + s.traceSlot e b)).isSome then s.setTrace e b { x with cmds := x.cmds ++ [(v % 4, false)] }
  else (s.traceDoAll e b).traceDo e b v

/-- A TRACE_FETCH of buffer `b` has ended: where a command came in it, the waiting commands act (R238). -/
def State.traceFetched (s : State) (e b : Nat) : State :=
  if !s.traceFetching e b && (s.trace e b).cmds.any (fun c => c.2) then s.traceDoAll e b else s

/-- TRACE_ARM (R238): port `p` writes LEn_TRbb_CMD. -/
def execTraceArm (p : Fin 2) (e b : Fin 4) (s : State) : Host.Outcome State Fault Refusal :=
  .next (if !s.linkUp p then s else s.regWrite p (R.LE_TR_CMD e b) (fun t => t.traceCmd e b 1))

/-- TRACE_TRIGGER (R238). -/
def execTraceTrigger (p : Fin 2) (e b : Fin 4) (s : State) : Host.Outcome State Fault Refusal :=
  .next (if !s.linkUp p then s else s.regWrite p (R.LE_TR_CMD e b) (fun t => t.traceCmd e b 2))

/-- TRACE_ABORT (R238). -/
def execTraceAbort (p : Fin 2) (e b : Fin 4) (s : State) : Host.Outcome State Fault Refusal :=
  .next (if !s.linkUp p then s else s.regWrite p (R.LE_TR_CMD e b) (fun t => t.traceCmd e b 3))

/-- A trace sample as TRACE_FETCH writes it: 16 bytes. -/
def traceBytes (l : List Nat) : List Byte := (List.range 8).flatMap (fun k => natLE 2 (l.getD k 0))

/-- TRACE_FETCH (R239); the commands that came while it was in flight then act (R238). -/
def execTraceFetch (r : OpRef) (b : HostBuf) (s : State) : Host.Outcome State Fault Refusal :=
  .next (s.withOp r 0x30 (fun _ => true) (fun o t =>
    let x := t.trace (o.entry.arg0 / 4) (o.entry.arg0 % 4)
    let u := if x.st ≠ .done then t.finishWith r 0x0B 1
      else
        let l := (x.samples.drop o.entry.arg1).take o.entry.arg2
        match writeStatus o.entry b with
        | 0 => (t.hostPut r.port o.entry b (l.flatMap traceBytes)).finishWith r 0 l.length
        | st => t.finishWith r st 0
    u.traceFetched (o.entry.arg0 / 4) (o.entry.arg0 % 4)))

end Sys2Proof.Machine
end

