-- ==== Sys2Proof/Machine/Points.lean ====
section
/-! DEFINITION. The host opcodes NOP, PT_READ, PT_WRITE and PT_SUBSCRIBE (R84 to R88). -/

namespace Sys2Proof.Machine

/-- The types of a slot that a host write names agree and the value is in its encoding. -/
def writeCheck (s : State) (o : Op) (bound forced : Bool) : Nat :=
  let x := s.slot o.entry.arg0
  if !x.present || !s.sees o.ctx x then 4
  else if !s.ownsSlot o.entry.arg0 then 5
  else if bound && x.binding != 0 then 6
  else if x.typ != o.entry.arg1 then 8
  else if !encodedAs x.typ o.entry.arg2 then 2
  else if forced && x.forced then 7
  else 0

/-- NOP (R84). -/
def execNop (r : OpRef) (s : State) : Host.Outcome State Fault Refusal :=
  .next (s.withOp r 0x00 (fun _ => true) (fun _ t => t.finishWith r 0 0))

/-- The slots of a read: the count of denials and the CRC check of each, seen or not (R85, R98, R131). -/
def State.readPoints (s : State) (c : Nat) (l : List Nat) : State :=
  l.foldl (fun t i => (t.access c i).checkSlot i) s

/-- An unfinished PT_WRITE of one of the points of the PT_READ `o` through the same context was fetched before it, from whatever
ring or port (R81). -/
def State.writeBefore (s : State) (o : Op) : Bool :=
  (s.hpA.ops ++ s.hpB.ops).any (fun w => w.entry.opcode == 0x02 && w.done.isNone && w.ctx == o.ctx && Nat.blt w.num o.num
    && Nat.ble o.entry.arg0 w.entry.arg0 && Nat.blt w.entry.arg0 (o.entry.arg0 + ptCount o.entry))

/-- The PT_READ `r` waits for such a write. -/
def State.readWaits (s : State) (r : OpRef) : Bool :=
  match findStart r [] (s.port r.port).ops with
  | some o => s.writeBefore o
  | none => false

/-- PT_READ (R81, R85). -/
def execPtRead (r : OpRef) (b : HostBuf) (s : State) : Host.Outcome State Fault Refusal :=
  .next (if s.readWaits r then s else s.withOp r 0x01 (fun _ => true) (fun o t =>
    let e := o.entry
    let l := (List.range (ptCount e)).map (fun k => e.arg0 + k)
    let t1 := ((t.count 195).countDenied r.port o.ctx l).readPoints o.ctx l
    let x := t1.shown o.ctx e.arg0
    if e.bufLen = 0 then t1.finishWith r 0 x.value.toNat x.quality x.flags
    else
      match writeStatus e b with
      | 0 => (t1.hostPut r.port e b (l.flatMap (fun i => (t1.shown o.ctx i).bytes))).finishWith r 0
          x.value.toNat x.quality x.flags
      | st => t1.finishWith r st 0))

/-- PT_WRITE (R86). -/
def execPtWrite (r : OpRef) (s : State) : Host.Outcome State Fault Refusal :=
  .next (s.withOp r 0x02 (fun _ => true) (fun o t =>
    let i := o.entry.arg0
    let t1 := ((t.count 196).countDenied r.port o.ctx [i]).access o.ctx i
    match writeCheck t1 o true true with
    | 0 =>
      let x := t1.slot i
      let t2 := (t1.arb t1.ptpNs i { x with value := BitVec.ofNat 64 o.entry.arg2, quality := 1 }).forward .ptWrite i
      let y := t2.slot i
      t2.finishWith r 0 y.time y.quality y.flags
    | 4 => t1.finishWith r 4 0
    | st => t1.finishWith r st 0 (t1.slot i).quality (t1.slot i).flags))

/-- The subscribed points of a port (R87). -/
def PortS.subCount (q : PortS) : Nat := q.subs.foldl (fun n b => n + b.points.length) 0

/-- PT_SUBSCRIBE (R87): registers COUNT points for notification on the ring's completion ring, also where its SQ has been
disabled since the fetch (log entry 215). -/
def execPtSubscribe (r : OpRef) (s : State) : Host.Outcome State Fault Refusal :=
  .next (s.withOp r 0x03 (fun e => !natBit e.arg1 31) (fun o t =>
    let e := o.entry
    let q := t.port r.port
    if 65536 < q.subCount + ptCount e then t.finishWith r 0x0C 0
    else
      let l := (List.range (ptCount e)).map (fun k => e.arg0 + k)
      let t1 := l.foldl (fun u i => u.access o.ctx i) (t.countDenied r.port o.ctx l)
      let q1 := t1.port r.port
      let b : Sub := ⟨o.sq, t1.sqCq r.port o.sq, e.cid, o.ctx, e.arg0, l⟩
      (t1.setPort r.port { q1 with subs := q1.subs ++ [b] }).finishWith r 0 (ptCount e)))

/-- PT_SUBSCRIBE with CANCEL 1 (R87): the points leave every subscription of the SQ, and each subscription left with no points
gets a CANCELLED entry. Notifications of the points that wait to be written are dropped (log entry 213). -/
def execPtSubscribeCancel (r : OpRef) (s : State) : Host.Outcome State Fault Refusal :=
  .next (s.withOp r 0x03 (fun e => natBit e.arg1 31) (fun o t =>
    let e := o.entry
    let q := t.port r.port
    let gone := fun i => Nat.ble e.arg0 i && Nat.blt i (e.arg0 + ptCount e)
    let mine := q.subs.filter (fun b => b.sq == o.sq)
    let n := mine.foldl (fun k b => k + (b.points.filter gone).length) 0
    let left := q.subs.map (fun b =>
      if b.sq == o.sq then { b with points := b.points.filter (fun i => !gone i) } else b)
    let ended := left.filter (fun b => b.points.isEmpty)
    let cs := ended.map (fun b => (b.cq, r,
      ({ cid := b.cid, sq := b.sq, notify := true, status := 0x0F, head := b.first, quality := 0,
         flags := 0, coalesced := false, result := 0 } : Comp)))
    (t.setPort r.port { q with
      subs := left.filter (fun b => !b.points.isEmpty)
      notes := q.notes.filter (fun m => !(m.comp.sq == o.sq && gone m.comp.head))
      cancels := q.cancels ++ cs }).finishWith r 0 n))

end Sys2Proof.Machine
end

