-- ==== Sys2Proof/Machine/Olc.lean ====
section
/-! DEFINITION. Online change and forcing: PT_FORCE, PT_UNFORCE and the two kinds of IMG_CHANGE (chapter 8). -/

namespace Sys2Proof.Machine

/-! ## Slot forces (R192 to R195) -/

/-- The slot is an output of a SAFETY task. -/
def State.safetyOut (s : State) (i : Nat) : Bool :=
  match s.outBindOf i with
  | some b => match s.ent b.task with | some t => t.safety | none => false
  | none => false

/-- The field output of a forced slot driven with the forced value (R193). -/
def State.driveForce (s : State) (i v : Nat) : State :=
  match s.outBindOf i with
  | some b => s.driveOut b.fieldOut b.typ v 2
  | none => s

/-- A slot force applied, with its entry, its record and the field output that it drives (R193, R198). -/
def State.forceSlot (s : State) (i v : Nat) : State :=
  let x := s.slot i
  let f : Force := ⟨.slot i, x.typ, BitVec.ofNat 64 v⟩
  let what := if (s.forceOf f.key).isSome then 2 else 1
  let s1 := (s.arb s.ptpNs i { x with value := BitVec.ofNat 64 v, quality := 2, forced := true }).setForce f
  ((s1.stampForce i).forceRecord f what).driveForce i v

/-- PT_FORCE (R193). -/
def execPtForce (r : OpRef) (s : State) : Host.Outcome State Fault Refusal :=
  .next (s.withOp r 0x04 (fun _ => true) (fun o t =>
    let i := o.entry.arg0
    match writeCheck t o false false with
    | 0 =>
      let x := t.slot i
      if t.safetyOut i && t.g F.OLC_CTL_SAFETY_FORCE == 0 then t.finishWith r 0x0B 25 x.quality x.flags
      else if (t.forceOf (.slot i)).isNone && !t.forceRoom (.slot i) then (t.raise evOLC 5).finishWith r 0x0B 24 x.quality x.flags
      else
        let t1 := (t.forceSlot i o.entry.arg2).forward .force i
        let y := t1.slot i
        t1.finishWith r 0 y.time y.quality y.flags
    | 4 => t.finishWith r 4 0
    | st => t.finishWith r st 0 (t.slot i).quality (t.slot i).flags))

/-- A slot force removed (R195): the value stays with quality SUBSTITUTED. -/
def State.unforceSlot (s : State) (i : Nat) : State :=
  let x := s.slot i
  ((s.dropForce (.slot i)).arb s.ptpNs i { x with quality := 3, forced := false }).stampForce i

/-- PT_UNFORCE (R195). -/
def execPtUnforce (r : OpRef) (s : State) : Host.Outcome State Fault Refusal :=
  .next (s.withOp r 0x05 (fun _ => true) (fun o t =>
    let i := o.entry.arg0
    let x := t.slot i
    if !x.present || !t.sees o.ctx x then t.finishWith r 4 0
    else if !t.ownsSlot i then t.finishWith r 5 0 x.quality x.flags
    else if !x.forced then t.finishWith r 0 0 x.quality x.flags
    else
      let t1 := (t.unforceSlot i).forward .unforce i
      let y := t1.slot i
      t1.finishWith r 0 0 y.quality y.flags))

/-! ## VALUES records (R199 to R202, R207) -/

/-- An item of a VALUES record in 24 bytes, and whether its reserved bytes are zero. -/
def parseItem (e : List Byte) : ValItem × Bool :=
  (⟨u8 e 0, u8 e 1, u8 e 2, un e 4 4, un e 8 8, un e 16 8⟩, u8 e 3 == 0)

/-- The items of a VALUES record. -/
def parseItems (b : List Byte) : List (ValItem × Bool) := (chunks 24 (un b 8 2) (b.drop 16)).map parseItem

/-- Reason 20: the item is well formed and its variable or constant exists (R196, R199). -/
def Image.itemOk (m : Image) (x : ValItem) (zeros : Bool) : Bool :=
  zeros && Nat.ble x.typ 6 &&
    (match x.op with
     | 2 => x.task == 255 && x.hash == 0 && Nat.blt x.const m.consts.length
     | 1 => x.const == 0 && (m.variable? x.task x.hash x.typ).isSome
     | 3 => x.const == 0 && (m.variable? x.task x.hash x.typ).isSome
     | 4 => x.const == 0 && (m.variable? x.task x.hash x.typ).isSome
     | _ => false)

/-- The new forces of a record: the variables that FORCE_VAR names and that are not forced. -/
def State.newForces (s : State) (l : List ValItem) : List (Nat × Nat × Nat) :=
  (((l.filter (fun x => x.op == 3)).map (fun x => (x.task, x.hash, x.typ))).eraseDups).filter
    (fun k => (s.forceOf (.var k.1 k.2.1 k.2.2)).isNone)

/-- Reason 24: the force table has room for the new forces of a record (R192). -/
def State.roomFor (s : State) (l : List ValItem) : Bool :=
  let new := s.newForces l
  Nat.ble (s.forces.length + new.length) 4096 &&
    [0, 1, 2, 3].all (fun p =>
      let old := s.forces.filter (fun e => match e.2.key with
        | .var u _ _ => s.pairOf u == p
        | .slot _ => false)
      Nat.ble (old.length + (new.filter (fun k => s.pairOf k.1 == p)).length) 64)

/-- The index of the first item that fails a check. -/
def badItem (l : List (ValItem × Bool)) (ok : ValItem × Bool → Bool) (reason : Nat) : Verdict :=
  (l.findIdx? (fun x => !ok x)).map (fun i => (reason, 0, i))

/-- The checks of a VALUES record in the order of R207. -/
def State.valuesChecks (s : State) (bufLen : Nat) (b : List Byte) : Verdict :=
  let l := parseItems b
  let count := un b 8 2
  let m := s.img
  need 17 0 0 (s.mode != 3)
    <|> need 19 0 0 (s.scn.img.isSome && b.take 8 == m.digest.take 8 && Nat.ble 1 count && Nat.ble count 1024
          && bufLen == 16 + 24 * count && zeros b 10 6)
    <|> badItem l (fun x => m.itemOk x.1 x.2) 20
    <|> badItem l (fun x => if x.1.op = 4 then x.1.value == 0 else encodedAs x.1.typ x.1.value) 21
    <|> badItem l (fun x => x.1.op != 3 || s.g F.OLC_CTL_SAFETY_FORCE == 1
          || !(match s.ent x.1.task with | some t => t.safety | none => false)) 25
    <|> need 24 0 0 (s.roomFor (l.map (fun x => x.1)))

/-- The checked items wait for the boundaries of their tasks (R200): a SET_CONST waits for every task. -/
def State.valuesStart (s : State) (r : OpRef) (l : List ValItem) : State :=
  let named := (l.filter (fun x => x.op != 2)).map (fun x => x.task)
  let left := if l.any (fun x => x.op == 2) then s.taskEnts.map (fun t => t.task) else named.eraseDups
  let s1 := { s with olc := { s.olc with change := some (.values r l left 0 0) } }
  (s1.p F.OLC_STATUS_STATE 4).valuesIdle

/-- The event of a refusal for want of room (R192). -/
def State.fullEvent (s : State) (v : Nat × Nat × Nat) : State := if v.1 = 24 then s.raise evOLC 5 else s

/-- IMG_CHANGE with ARG0 1 (R199 to R202, R207): the duplex partner is sent the record and judges it too; `partner`: its
refusal. -/
def execImgChangeValues (r : OpRef) (b : HostBuf) (partner : Option (Nat × Nat × Nat)) (s : State) :
    Host.Outcome State Fault Refusal :=
  .next (s.withOp r 0x11 (fun e => e.arg0 == 1) (fun o t =>
    if natBit o.entry.flags 3 then t.finishWith r 2 0
    else if t.olc.change.isSome || t.fwu.armed.isSome then t.finishWith r 0x0C 0
    else match readStatus o.entry b with
      | 0 =>
        let bytes := b.data.take o.entry.bufLen
        match t.valuesChecks o.entry.bufLen bytes with
        | some v => (t.fullEvent v).changeRefused r 1 (verdictResult v false)
        | none =>
          let t1 := if t.synced then t.tow (.change 1 bytes false) else t
          match (if t.synced then partner else none) with
          | some v => t1.changeRefused r 1 (verdictResult v true)
          | none => t1.valuesStart r ((parseItems bytes).map (fun x => x.1))
      | st => t.finishWith r st 0))

/-- VALUES_BOUNDARY (R200): task `n` stands between two cycles. -/
def execValuesBoundary (n : Fin 96) (s : State) : Host.Outcome State Fault Refusal :=
  .next (if (s.task n).inCycle then s else s.valuesAt n)

/-! ## SWITCH (R203 to R208) -/

/-- The entry of the running image whose force a new image would lose (R205, R207): section and index. -/
def State.lostEntry (s : State) (m : Image) : Option (Nat × Nat) :=
  match s.lostForces m true with
  | [] => none
  | e :: _ => match e.2.key with
    | .var t h z => some (10, (s.img.syms.findIdx? (fun y => y.task == t && y.hash == h && y.typ == z)).getD 0)
    | .slot i => some (8, (s.img.slots.findIdx? (fun c => c.index == i)).getD 0)

/-- The checks of a SWITCH in the order of R207. -/
def State.switchChecks (s : State) (bufLen : Nat) (b : List Byte) (release bankOk : Bool) : Verdict :=
  need 17 0 0 ((s.mode == 1 || s.mode == 2) && s.scn.stopping.isNone)
    <|> need 18 0 0 (s.img.origin == 1 && u8 b 6 == 1)
    <|> s.imageChecks bufLen b bankOk
    <|> (if release then none else (s.lostEntry (parseImage b)).map (fun e => (22, e.1, e.2)))

/-- The new image, which stands in the inactive bank, waits for a gap (R204). -/
def State.switchWait (s : State) (r : OpRef) (bytes : List Byte) (release : Bool) : State :=
  ({ s with olc := { s.olc with change := some (.switch r bytes (parseImage bytes) release s.clk.upNs) } }).p
    F.OLC_STATUS_STATE 2

/-- IMG_CHANGE with ARG0 2 (R203, R207): the duplex partner is sent the image and judges it too. `bankOk`: the inactive bank
was written and read back without error; `partner`: the partner's refusal. -/
def execImgChangeSwitch (r : OpRef) (b : HostBuf) (bankOk : Bool) (partner : Option (Nat × Nat × Nat)) (s : State) :
    Host.Outcome State Fault Refusal :=
  .next (s.withOp r 0x11 (fun e => e.arg0 == 2) (fun o t =>
    if t.olc.change.isSome || t.fwu.armed.isSome then t.finishWith r 0x0C 0
    else match readStatus o.entry b with
      | 0 =>
        let bytes := b.data.take o.entry.bufLen
        let release := natBit o.entry.flags 3
        let v := t.switchChecks o.entry.bufLen bytes release bankOk
        let t1 := t.checkedBank bytes v
        match v with
        | some x => t1.changeRefused r 2 (verdictResult x false)
        | none =>
          let t2 := if t.synced then t1.tow (.change 2 bytes release) else t1
          match (if t.synced then partner else none) with
          | some x => t2.changeRefused r 2 (verdictResult x true)
          | none => t2.switchWait r bytes release
      | st => t.finishWith r st 0))

/-- The variables carried over by a switch: old and new entry (R204). -/
def carried (old new : Image) : List (SymEnt × SymEnt) :=
  (new.syms.filter (fun y => Nat.blt y.cls 2)).filterMap (fun y =>
    let same := fun (x : SymEnt) => Nat.blt x.cls 2 && x.task == y.task && x.hash == y.hash && x.typ == y.typ && x.size == y.size
    ((old.syms.find? (fun x => same x && x.cls == y.cls)) <|> (old.syms.find? same)).map (fun x => (x, y)))

/-- D of R204 in ns: 50 µs and 1 µs per KiB of instance data carried over. -/
def switchNs (old new : Image) : Nat :=
  let n := (carried old new).foldl (fun k p => k + p.2.size) 0
  50000 + (n + 1023) / 1024 * 1000

/-- A gap of at least `d` ns (R204): no task in a cycle, and no cyclic release within the following `d`. -/
def State.gapNow (s : State) (d : Nat) : Bool :=
  s.taskEnts.all (fun t =>
    let r := s.task t.task
    !r.inCycle && (t.kind != 0 || r.suspend || s.mode == 0 || Nat.ble d (s.toNextRelease t)))

/-- A loop slot kept by a switch (R204, R231): parameters from the new image, the rest as it stands. Its first evaluation is a
re-entry (R215). -/
def LoopSlot.keep (old new : LoopSlot) : LoopSlot :=
  { old with
    task := new.task, loc := new.loc, pv := new.pv, sp := new.sp, ff := new.ff, out := new.out
    direct := new.direct, initAuto := new.initAuto, forceTrack := new.forceTrack, feAction := new.feAction
    pvBadAction := new.pvBadAction, sched := new.sched, nreg := new.nreg, mem := new.mem, hyst := new.hyst
    par := new.par, reg := new.reg, thr := new.thr, reentry := true }

/-- The loops after a switch from image `old`: a loop whose task, LOC, engine and slot are unchanged keeps its state. -/
def State.loopsSwitch (s : State) (old : Image) : State :=
  let before := s.le.slot
  let l := s.img.loops.foldl (fun (t : Tbl (Option LoopSlot)) l =>
    let key := 512 * l.engine + l.slot
    let new := s.img.loopStart l
    let kept := old.loops.any (fun k => k.task == l.task && k.loc == l.loc && k.engine == l.engine && k.slot == l.slot)
    match kept, tget before none key with
    | true, some x => tset t none key (some (x.keep new))
    | _, _ => tset t none key (some new)) []
  { s with le := { s.le with slot := l } }

/-- The memories after a switch: one that keeps its shape keeps its bins. -/
def State.memsSwitch (s : State) (old : Image) : State :=
  let before := s.le.mem
  let s1 := s.memsLoad
  s1.img.mems.foldl (fun t e =>
    let x := tget before {} e.1
    let same := old.mems.any (fun o => o.1 == e.1) && x.period == e.2.getD 0 0 && x.nbins == e.2.getD 1 0
      && x.mode == e.2.getD 2 0
    if same then
      let n := memInit e.2 x.bins
      t.setMem e.1 { x with offset := n.offset, lead := n.lead, gain := n.gain, qf := n.qf }
    else t) s1

/-- Pending loop-state writes whose target the switch removed end with CODE 4 (R229). -/
def State.leOrphans (s : State) : State :=
  [0, 1, 2, 3].foldl (fun t e => match t.leWr e with
    | some w =>
      let gone := if w.kind < 3 then (t.loop? (512 * e + w.target)).isNone else (t.mem? (64 * e + w.target)).isNone
      if gone then (t.setLeWr e none).wrCode e 4 7 else t
    | none => t) s

/-- The retained areas written under the new image (R204). -/
def State.retainAll (s : State) : State :=
  s.taskEnts.foldl (fun u t =>
    let y := u.img.layoutOf t.task
    if y.retSize = 0 then u
    else
      let a := tget u.scn.ret {} t.task
      let bytes := u.instBytes t.pair (t.instBase + y.retOff) y.retSize
      let data := (List.range y.retSize).foldl (fun (m : Tbl Byte) k => tset m 0#8 k (bytes.getD k 0#8)) []
      let half : RetHalf := ⟨u.img.digest, true, data⟩
      let area : RetArea := if a.cur then ⟨half, a.half1, false⟩ else ⟨a.half0, half, true⟩
      { u with scn := { u.scn with ret := tset u.scn.ret {} t.task area } }) s

/-- The tasks after a switch (R206): a task that stays keeps its releases, triggers and SUSPEND; FIRST reads 0. -/
def State.tasksSwitch (s : State) : State :=
  let before := s.scn.task
  let s1 := { s with scn := { s.scn with task := [] } }
  s1.taskEnts.foldl (fun u e =>
    let r := tget before {} e.task
    let r1 : TaskRun := if r.st = .absent then { slotNs := some u.ptpNs } else { r with first := 0 }
    u.setTask e.task { r1 with st := u.restState r1 }) s1

/-- The switch to image `m` (R204 to R206), with the count of forces released. -/
def State.switchTo (s : State) (m : Image) (bytes : List Byte) : State × Nat :=
  let old := s.img
  let lost := s.lostForces m true
  let s1 := lost.foldl (fun t e => t.dropForce e.2.key) s
  let vals := (carried old m).filterMap (fun p => match old.taskEnt p.1.task with
    | some t => some (p.2, s1.instBytes t.pair (t.instBase + p.1.off) p.1.size)
    | none => none)
  let s2 := { s1.putInactive bytes with scn := { (s1.putInactive bytes).scn with
    img := some m, curBank := !s1.scn.curBank } }
  let s3 := vals.foldl (fun t v => match t.ent v.1.task with
    | some e => t.putInst e.pair (e.instBase + v.1.off) v.2
    | none => t) s2.instInit
  let s4 := (s3.loopsSwitch old).memsSwitch old
  ((((s4.leOrphans.configSlots).reforceVars.tasksSwitch.retainAll).showDigest m.digest).driveForced old, lost.length)

/-- SWITCH_GAP (R204 to R206, R208): a gap is found and the change is made in `tenths` units of 0.1 µs, at most D. A force that
was made since the checks and would lose its identity refuses it, unless forces are to be released (R205). -/
def execSwitchGap (tenths : Nat) (s : State) : Host.Outcome State Fault Refusal :=
  .next (match s.olc.change with
    | some (.switch r bytes m release _) =>
      let d := switchNs s.img m
      let lost := if release then none else s.lostEntry m
      if s.gapNow d then match lost with
      | some e => s.changeRefused r 2 (verdictResult (22, e.1, e.2) false)
      | none =>
        let time := min tenths (d / 100)
        let x := ((s.p F.OLC_STATUS_STATE 3).advanceToUp (s.clk.upNs + 100 * time)).switchTo m bytes
        ((x.1.wn R.OLC_SWITCH_TIME time).raise evOLC 2).changeDone r 2 (x.2 * 2 ^ 16 + time * 2 ^ 32)
      else s
    | _ => s)

/-- SWITCH_WAIT_EXPIRE (R204): no gap within SWITCH_WAIT_MS of the end of the checks. -/
def execSwitchWaitExpire (s : State) : Host.Outcome State Fault Refusal :=
  .next (match s.olc.change with
    | some (.switch r _ _ _ since) =>
      (s.advanceToUp (since + clampN 10 10000 (s.g F.OLC_CTL_SWITCH_WAIT_MS) * 1000000)).changeRefused r 2 23
    | _ => s)

end Sys2Proof.Machine
end

