-- ==== Sys2Proof/Machine/EthQ.lean ====
section
/-! DEFINITION. What the Ethernet MACs share with the units that use them: counters, transmit rings and group-address bins
(R358, R360, R361, R366, R369). -/

namespace Sys2Proof.Machine

/-- The state of a MAC. -/
def State.mac (s : State) (n : Nat) : EthS := tget s.eth {} n

/-- A MAC given a state. -/
def State.setMac (s : State) (n : Nat) (x : EthS) : State := { s with eth := tset s.eth {} n x }

/-- Counter `k` of a MAC advanced, with its half-range bit and event (R369). -/
def State.macCount (s : State) (n k : Nat) (by_ : Nat := 1) : State :=
  let old := s.rn (R.ETH_CNT n k)
  let s1 := s.inc (R.ETH_CNT n k) by_
  if !natBit old 31 && natBit (s1.rn (R.ETH_CNT n k)) 31 then
    (if k < 32 then s1.setBit (R.ETH_CNT_HALF_LO n) k true else s1.setBit (R.ETH_CNT_HALF_HI n) (k - 32) true).raise
      (evETH n) 4
  else s1

/-- The link of a MAC is up. -/
def State.macUp (s : State) (n : Nat) : Bool := s.g (F.ETH_STATUS_LINK_UP n) == 1

/-- A frame handed to a MAC (R366): it waits in the transmit ring of 128 KiB, or is dropped where the link is down or the
ring full. -/
def State.macQueue (s : State) (n : Nat) (f : TxFrame) : State :=
  let x := s.mac n
  let used := x.tx.foldl (fun k g => k + g.len) 0
  if !s.macUp n || Nat.blt 131072 (used + f.len) then s.macCount n 47
  else s.setMac n { x with tx := x.tx ++ [f] }

/-- A Zader frame with `count` entries handed to a MAC (R112). -/
def State.macZader (s : State) (n count : Nat) : State :=
  s.macQueue n ⟨1, 98 + 32 * count, false, 1, false, none⟩

/-- The CRC-32 of IEEE 802.3 (R360). -/
def crc32 (l : List Byte) : Nat := crcRefl 32 0xEDB88320 l

/-- The hash bin of a group address (R360). -/
def hashBin (a : List Byte) : Nat := crc32 a / 2 ^ 23

/-- The six bytes of an address, the first most significant. -/
def macBytes (n : Nat) : List Byte := (natLE 6 n).reverse

/-- The bytes of ETHn_ADDR (R370). -/
def State.macAddr (s : State) (n : Nat) : List Byte :=
  natLE 4 (s.rn (R.ETH_ADDR_LO n)) ++ natLE 2 (s.rn (R.ETH_ADDR_HI n))

/-- MODE and TRANSPORT of PTP_CTL, 3 taken as 0 (R382). -/
def State.ptpMode (s : State) : Nat := s.g F.PTP_CTL_MODE % 3
def State.ptpTransport (s : State) : Nat := s.g F.PTP_CTL_TRANSPORT % 3

/-- The PTP group addresses of the transport and delay mechanism selected (R377). -/
def State.ptpGroups (s : State) : List Nat :=
  let p2p := s.g F.PTP_CTL_DELAY_MECH == 1
  let l := match s.ptpTransport with
    | 1 => (0x01005E000181, 0x01005E00006B)
    | 2 => (0x333300000181, 0x33330000006B)
    | _ => (0x011B19000000, 0x0180C200000E)
  if p2p then [l.1, l.2] else [l.1]

/-- The group addresses that the module's own protocols need on a MAC (R361, R377). -/
def State.macGroups (s : State) (n : Nat) : List (List Byte) :=
  let sol := [0x33#8, 0x33#8, 0xFF#8] ++ (s.macAddr n).drop 3
  let zader := if n < 2 then [macBytes (0x333300000000 + s.rn (R.REP_GROUP 0))] else []
  let ptp := if s.bit R.PTP_CTL (9 + n) then s.ptpGroups.map macBytes else []
  [macBytes 0x333300000001, sol] ++ zader ++ ptp

/-- The bins that the module needs set anew in every MAC (R361, R377). -/
def State.macBins (s : State) : State :=
  [0, 1, 2].foldl (fun t n =>
    let own := (t.macGroups n).foldl (fun (b : Tbl Nat) a =>
      let k := hashBin a
      tset b 0 (k / 32) (setBits (tget b 0 (k / 32)) (k % 32) 1 1)) []
    t.setMac n { t.mac n with own := own }) s

/-- The bins in force in register `k` of ETHn_HASH: those that host software has written and those that the module
needs. -/
def State.macHash (s : State) (n k : Nat) : Nat := s.rn (R.ETH_HASH n k) ||| tget (s.mac n).own 0 k

end Sys2Proof.Machine
end

