-- ==== Sys2Proof/Machine/Zader.lean ====
section
/-! DEFINITION. The bytes of Zader frames: formed when a frame is sent, parsed when one is received (R112, R113). -/

namespace Sys2Proof.Machine

/-- The destination port of a Zader frame and its hop limit (R112). -/
def zaderPort : Nat := 47120
def zaderHops : Nat := 8

/-- 28 bytes with their CRC-32C after them. -/
def withCrc (l : List Byte) : List Byte := l ++ natLE 4 (crc32c l)

/-- 32 bytes end with the CRC-32C of the 28 before it. -/
def crcEnds (l : List Byte) : Bool := leNat ((l.drop 28).take 4) == crc32c (l.take 28)

/-- The number at the bytes `k` to `k + n - 1`. -/
def leAt (l : List Byte) (k n : Nat) : Nat := leNat ((l.drop k).take n)

/-! ## Entries -/

/-- An UPDATE or RESYNC entry: the index and the slot's bytes 0 to 23. -/
def zslotBytes (e : ZSlot) : List Byte :=
  withCrc (natLE 4 (e.index % 262144) ++ natLE 8 e.value.toNat ++ natLE 8 e.time
    ++ natLE 2 (e.tag % 4096 + 4096 * (e.typ % 16)) ++ natLE 1 e.origin ++ natLE 1 (e.quality % 16 + 16 * (e.flags % 16))
    ++ natLE 4 e.seq)

def zslotAt (l : List Byte) : ZSlot where
  index := leAt l 0 4
  value := BitVec.ofNat 64 (leAt l 4 8)
  time := leAt l 12 8
  tag := leAt l 20 2 % 4096
  typ := leAt l 20 2 / 4096
  origin := leAt l 22 1
  quality := leAt l 23 1 % 16
  flags := leAt l 23 1 / 16
  seq := leAt l 24 4
  crcOk := crcEnds l

/-- An OWNERSHIP entry. -/
def zownBytes (e : ZOwn) : List Byte :=
  withCrc (natLE 1 e.block ++ natLE 1 e.action ++ natLE 1 e.former ++ natLE 1 e.newOwner ++ natLE 4 e.gen
    ++ natLE 1 (b2n e.manual) ++ natLE 19 0)

def zownAt (l : List Byte) : ZOwn where
  block := leAt l 0 1
  action := leAt l 1 1
  former := leAt l 2 1
  newOwner := leAt l 3 1
  gen := leAt l 4 4
  manual := natBit (leAt l 8 1) 0
  crcOk := crcEnds l

/-- The entry of a RESYNC_REQ. -/
def reqBytes (target n : Nat) (blocks : List Nat) : List Byte :=
  withCrc (natLE 1 target ++ natLE 1 n ++ ((blocks.take 8).map (BitVec.ofNat 8) ++ natLE (8 - blocks.length) 0)
    ++ natLE 18 0)

/-- The bytes of the entries of a frame. -/
def zbodyBytes : ZBody → List Byte
  | .none => []
  | .slots l => l.flatMap zslotBytes
  | .owns l => l.flatMap zownBytes
  | .req t n blocks _ => reqBytes t n blocks

/-! ## Frames -/

/-- The UDP payload of a frame: its header and its entries. -/
def zframeBytes (f : ZFrame) : List Byte :=
  withCrc (natLE 1 f.version ++ natLE 1 f.kind ++ natLE 1 f.origin ++ natLE 1 f.count ++ natLE 4 f.seq ++ natLE 8 f.sendTime
    ++ natLE 4 f.building ++ natLE 2 (b2n f.restart + 2 * b2n f.resyncEnd) ++ natLE 1 f.block ++ natLE 1 f.part
    ++ natLE 4 0) ++ zbodyBytes f.body

/-- The first `n` entries of 32 bytes. -/
def zentries : Nat → List Byte → List (List Byte)
  | 0, _ => []
  | n + 1, l => l.take 32 :: zentries n (l.drop 32)

/-- The entries that a frame of a kind carries; a HEARTBEAT has none that the manual describes. -/
def zbody (kind : Nat) (l : List (List Byte)) : ZBody :=
  match kind with
  | 1 => .slots (l.map zslotAt)
  | 4 => .slots (l.map zslotAt)
  | 5 => .owns (l.map zownAt)
  | 3 =>
    match l with
    | e :: _ => .req (leAt e 0 1) (leAt e 1 1) ((List.range 8).map (fun k => leAt e (2 + k) 1)) (crcEnds e)
    | [] => .none
  | _ => .none

/-- A frame read from a UDP payload. -/
def zframe (l : List Byte) : ZFrame where
  version := leAt l 0 1
  kind := leAt l 1 1
  origin := leAt l 2 1
  count := leAt l 3 1
  seq := leAt l 4 4
  sendTime := leAt l 8 8
  building := leAt l 16 4
  restart := natBit (leAt l 20 2) 0
  resyncEnd := natBit (leAt l 20 2) 1
  block := leAt l 22 1
  part := leAt l 23 1
  hdrCrcOk := crcEnds l
  formOk := leAt l 20 2 / 4 == 0 && leAt l 24 4 == 0 && l.length == 32 + 32 * leAt l 3 1
  body := zbody (leAt l 1 1) (zentries (leAt l 3 1) (l.drop 32))

end Sys2Proof.Machine
end

