-- ==== Sys2Proof/Machine/Rep.lean ====
section
/-! DEFINITION. The Zader replication engine and block ownership (R109 to R129). -/

namespace Sys2Proof.Machine

/-! ## Sending (R109, R112 to R115, R18) -/

/-- The PTP clock is valid: synchronised or in holdover (R109, R372). -/
def State.clockValid (s : State) : Bool := s.g F.PTP_STATUS_VALID == 1

/-- The engine may originate frames (R109). -/
def State.mayOriginate (s : State) : Bool :=
  s.repOn && (s.clockValid || s.g F.REP_CTL_LOCAL_TIME_OK == 1)

/-- The module sends its node's frames: it may originate and is motor (R18). -/
def State.repSends (s : State) : Bool := s.mayOriginate && s.isMotor

/-- The group address of REP_GROUP3 to REP_GROUP0, first byte first (R112, R133). -/
def State.zaderGroup (s : State) : List Byte :=
  [3, 2, 1, 0].flatMap (fun k => (natLE 4 (s.rn (R.REP_GROUP k))).reverse)

/-- A frame on a link: a UDP packet to the group (R112). -/
def State.zaderOut (s : State) (f : ZFrame) (link : Nat) : Out := .zader link s.zaderGroup zaderPort zaderHops (zframeBytes f)

/-- A frame of kind `k` built and handed to the MAC of each enabled link (R112, R114). UPDATE and OWNERSHIP frames advance
the sequence and are reported to the butty (R323); a butty sends RESYNC_REQ alone, with the last SEQ_REPORT value (R18). -/
def State.sendFrame (s : State) (k : Nat) (body : ZBody) (count : Nat) (block part : Nat := 0)
    (resyncEnd : Bool := false) : State :=
  if s.isButty && k != 3 then s else
  let adv := k == 1 || k == 5
  let seq := if adv then (s.rep.seq + 1) % 2 ^ 32 else s.rep.seq
  let butty := s.isButty
  let f : ZFrame := {
    version := 1, kind := k, origin := s.node, count := count
    seq := if butty then s.dpx.seqReport.getD seq else seq
    sendTime := s.ptpNs % 2 ^ 64, building := s.rn R.REP_BUILDING
    restart := s.rep.restart && !butty, resyncEnd := resyncEnd, block := block, part := part
    hdrCrcOk := true, formOk := true, body := body }
  let links := (if s.g F.REP_CTL_ETH0_EN = 1 then [0] else []) ++ (if s.g F.REP_CTL_ETH1_EN = 1 then [1] else [])
  let s1 := { s with
    rep := { s.rep with seq := seq, restart := s.rep.restart && butty }
    out := s.out ++ links.map (s.zaderOut f) }
  let s2 := links.foldl (fun t l => t.macZader l count) ((s1.inc R.REP_TX_FRAMES).count 320 (b2n (k == 1)))
  if adv && s2.synced then s2.tow (.seqReport seq) else s2

/-- An UPDATE or RESYNC entry of slot `i` (R113). -/
def State.zslot (s : State) (i : Nat) : ZSlot :=
  let x := s.slot i
  ⟨i, x.value, x.time, x.tag, x.typ, x.origin, x.quality, x.flags, x.seq, true⟩

/-- An OWNERSHIP frame with one entry (R113). -/
def State.sendOwn (s : State) (b action former new gen : Nat) (manual : Bool) : State :=
  s.sendFrame 5 (.owns [⟨b, action, former, new, gen, manual, true⟩]) 1

/-- An UPDATE frame of the given slots, which are then no longer dirty (R115). -/
def State.sendUpdate (s : State) (l : List Nat) : State :=
  if l.isEmpty then s
  else
    let s1 := s.checkSlots l
    let s2 := s1.sendFrame 1 (.slots (l.map s1.zslot)) l.length
    { s2 with pix := { s2.pix with dirty := s2.pix.dirty.filter (fun i => !l.contains i) } }

/-- One block service: an OWNERSHIP STATE frame and the block's 26 RESYNC frames (R115, R119). -/
def State.serveBlock (s : State) (b : Nat) : State :=
  let o := s.ownOf b
  let s1 := s.sendOwn b 3 o.owner o.owner o.gen false
  let s2 := s1.checkSlots (s1.slotsOf b)
  let s3 := (List.range 26).foldl (fun t k =>
    let n := if k = 25 then 24 else 40
    t.sendFrame 4 (.slots ((List.range n).map (fun j => t.zslot (1024 * b + 40 * k + j)))) n b k (k == 25)) s2
  let s4 := (s3.inc R.REP_RESYNC_SERVED).count 325
  { s4 with rep := { s4.rep with
      serve := s4.rep.serve.filter (fun c => c != b)
      served := tset s4.rep.served none b (some s.clk.upNs) } }

/-- Blocks queued for service as a RESYNC sweep or on request; one whose service began less than 2 ms ago is
covered by it (R119). -/
def State.queueServe (s : State) (l : List Nat) (covered : Bool) : State :=
  let fresh := l.filter (fun b => !s.rep.serve.contains b &&
    (!covered || (match tget s.rep.served none b with
      | some t => Nat.ble (t + 2000000) s.clk.upNs
      | none => true)))
  { s with rep := { s.rep with serve := s.rep.serve ++ fresh } }

/-- A RESYNC sweep of every owned block (R109, R128, R328). -/
def State.sweepAll (s : State) : State := s.queueServe (s.blocksOf s.node) false

/-- The PTP clock has become valid (R109): every present owned slot restamped, all owned blocks sent. -/
def State.clockBecameValid (s : State) : State :=
  if !s.repOn then s
  else
    let t := s.ptpNs
    let s1 := ((s.blocksOf s.node).flatMap s.slotsOf).foldl (fun u i => u.restamp t i none) s
    (s1.raise evREP 8).sweepAll

/-! ## Ownership (R125 to R129) -/

/-- A block lost (R129): its dirty marks and forces go, its slots become replicas, and a drop of outputs to it is recorded anew
(R160). -/
def State.loseBlock (s : State) (b : Nat) : State :=
  let s1 := { s with pix := { s.pix with dirty := s.pix.dirty.filter (fun i => i / 1024 != b) } }
  let s2 := { s1 with rep := { s1.rep with
    serve := s1.rep.serve.filter (fun c => c != b), dropSeen := s1.rep.dropSeen.filter (fun e => e.2 != b) } }
  let s3 := s2.dropBlockForces b
  (s3.slotsOf b).foldl (fun t i => t.putSlot i { t.slot i with binding := 0 }) s3

/-- The slots of a gained block unbound (R128), and no resync of it pending. -/
def State.gainBlock (s : State) (b : Nat) : State :=
  let s1 := (s.slotsOf b).foldl (fun t i => t.putSlot i { t.slot i with binding := 0 }) s
  { s1 with rep := { s1.rep with resync := tset s1.rep.resync none b none } }

/-- A claim of block `b` by the module's node (R126, R128). -/
def State.claim (s : State) (b : Nat) (manual : Bool) : State :=
  let o := s.ownOf b
  let gen := (o.gen + 1) % 2 ^ 32
  let s1 := (s.setOwn b { o with owner := s.node, gen := gen }).gainBlock b
  let s2 := (s1.raise evREP 3).raise evREP 5
  let s3 := s2.sendOwn b 2 o.owner s.node gen manual
  let t := s3.ptpNs
  let s4 := (s3.slotsOf b).foldl (fun u i => u.restamp t i (some 3)) s3
  (s4.takeForces b).queueServe [b] false

/-- The release of block `b` to node `n` takes effect (R125). -/
def State.releaseNow (s : State) (b n : Nat) : State :=
  let s0 := { s with rep := { s.rep with planned := s.rep.planned.filter (fun r => r.block != b) } }
  if !s0.owns b then s0.p F.REP_OWN_RESULT_CODE 3
  else
    let s2 := (List.range 26).foldl (fun t _ =>
      t.sendUpdate ((t.pix.dirty.filter (fun i => i / 1024 == b)).take 40)) s0
    let o := s2.ownOf b
    let gen := (o.gen + 1) % 2 ^ 32
    let s3 := s2.sendOwn b 1 s2.node n gen false
    let s4 := (s3.setOwn b { o with owner := n, gen := gen }).loseBlock b
    (s4.raise evREP 3).p F.REP_OWN_RESULT_CODE 1

/-! ## Receiving (R116 to R120, R127) -/

/-- What the receiver holds of an origin. -/
def State.origin (s : State) (o : Nat) : Origin := tget s.rep.origins {} o

def State.setOrigin (s : State) (o : Nat) (x : Origin) : State :=
  { s with rep := { s.rep with origins := tset s.rep.origins {} o x } }

/-- A resync of all the blocks of an origin is requested (R118, R120). -/
def State.needOrigin (s : State) (o : Nat) : State :=
  let s1 := s.needResync o true (s.blocksOf o)
  if s1.repOn && !s1.rep.whole.contains o then { s1 with rep := { s1.rep with whole := s1.rep.whole ++ [o] } } else s1

/-- A sign of life of an origin (R120). -/
def State.hear (s : State) (o : Nat) : State :=
  let x := s.origin o
  let s1 := s.setOrigin o { x with heard := true, silent := false, lastNs := s.clk.upNs }
  if x.silent then (s1.raise evREP 2).needOrigin o else s1

/-- The number of sequence `a` ahead of `b`, modulo 2^32. -/
def seqAhead (a b : Nat) : Nat := (a + 2 ^ 32 - b % 2 ^ 32) % 2 ^ 32

/-- A gap of `n` frames of an origin (R118). -/
def State.gap (s : State) (o n : Nat) : State := (((s.inc R.REP_GAPS n).count 324 n).raise evREP 0).needOrigin o

/-- Step 3 of R116 (R118): the state, and whether the frame goes on. -/
def State.judgeSeq (s : State) (f : ZFrame) : State × Bool :=
  let x := s.origin f.origin
  let hold := fun (t : State) => t.setOrigin f.origin { t.origin f.origin with seq := some f.seq }
  if f.restart then ((hold s).needOrigin f.origin, true)
  else if f.kind != 1 && f.kind != 5 && f.kind != 2 then (s, true)
  else match x.seq with
    | none => ((hold s).needOrigin f.origin, true)
    | some h =>
      let d := seqAhead f.seq h
      let newer := Nat.ble 1 d && Nat.ble d (2 ^ 31 - 1)
      if f.kind = 2 then (if newer then ((hold s).gap f.origin d, true) else (s, true))
      else if !newer then (s.inc R.REP_DUP, false)
      else if d = 1 then (hold s, true)
      else ((hold s).gap f.origin (d - 1), true)

/-- An entry replaces the held slot (R117). Sequences that lie 2^31 apart at equal times are newer in neither direction, and
the entry is discarded (log entry 194). -/
def mergeWins (x : Slot) (e : ZSlot) : Bool :=
  if e.time % 2 ^ 64 ≠ x.time then Nat.blt x.time (e.time % 2 ^ 64)
  else
    let d := seqAhead e.seq x.seq
    if d = 0 then Nat.ble e.origin x.origin else Nat.ble d (2 ^ 31 - 1)

/-- The slot that an entry carries (R113, R117): bytes 0 to 23, BINDING zero. -/
def slotOfEntry (e : ZSlot) : Slot :=
  ({ value := e.value, time := e.time % 2 ^ 64, tag := e.tag % 4096, typ := e.typ % 16
     origin := e.origin % 256, quality := e.quality % 16, seq := e.seq % 2 ^ 32 } : Slot).withFlags e.flags

/-- Steps 4 and 6 to 8 of R116 for one slot entry. -/
def State.mergeEntry (s : State) (f : ZFrame) (e : ZSlot) : State :=
  let i := e.index % 262144
  let b := i / 1024
  let owner := (s.ownOf b).owner
  if !e.crcOk then
    let s1 := s.inc R.REP_BAD
    if s1.owns b then s1 else s1.needResync owner false [b]
  else if owner != f.origin then (s.inc R.REP_FOREIGN).raise evREP 6
  else if s.clockValid && Nat.blt (s.ptpNs + s.g F.REP_REFRESH_FUTURE_MS * 1000000) (e.time % 2 ^ 64) then
    s.inc R.REP_FUTURE
  else if mergeWins (s.slot i) e then ((s.store i (slotOfEntry e)).count 197).count 322
  else (s.inc R.REP_OLDER).count 323

/-- A RESYNC frame counts toward the pending resync of its block; the block is repaired once the frame with
RESYNC_END is held and no part is missing (R119). In phase RESYNC a service that an origin has begun is
awaited (R121). -/
def State.notePart (s : State) (f : ZFrame) (whole : Bool) : State :=
  let pend := tget s.rep.resync none f.block
  let start : Option Resync := match pend with
    | some r => some r
    | none => if s.phase == 4 && (s.ownOf f.block).owner == f.origin then some ⟨[], false, 0, false⟩ else none
  match start with
  | none => s
  | some r =>
    if (s.ownOf f.block).owner != f.origin then s
    else
      let parts := if whole && !r.parts.contains f.part then r.parts ++ [f.part] else r.parts
      let ended := r.ended || (f.resyncEnd && whole)
      let done := ended && (List.range 26).all (fun k => parts.contains k)
      { s with rep := { s.rep with
          resync := tset s.rep.resync none f.block (if done then none else some { r with parts := parts, ended := ended }) } }

/-- Requests not yet sent that a request or service seen on the network covers (R119): of target `t`, 0 for
every origin, and blocks `l`, empty for all. Of a request for all of a target's blocks, those the ownership table gives it
stay until each is covered. -/
def State.coverWants (s : State) (t : Nat) (l : List Nat) : State :=
  let keep := s.rep.wants.filterMap (fun w =>
    if t != 0 && w.1 != t then some w
    else if l.isEmpty then none
    else
      let want := if w.2.isEmpty then s.blocksOf w.1 else w.2
      let rest := want.filter (fun b => !l.contains b)
      if want.length == rest.length then some w else if rest.isEmpty then none else some (w.1, rest))
  { s with rep := { s.rep with wants := keep } }

/-- A block that a service tells to belong to an origin of which all blocks are awaited is awaited too (R119). -/
def State.awaitLearned (s : State) (o b : Nat) : State :=
  if s.rep.whole.contains o && (tget s.rep.resync none b).isNone then
    { s with rep := { s.rep with resync := tset s.rep.resync none b (some ⟨[], false, 0, false⟩) } }
  else s

/-- An OWNERSHIP entry judged (R127, R128, R129). A new owner that is no node number, for which R127 states no range, is not
accepted (log entry 197). -/
def State.judgeOwn (s : State) (f : ZFrame) (e : ZOwn) : State :=
  let b := e.block % 256
  let o := s.ownOf b
  if !e.crcOk then
    let s1 := s.inc R.REP_BAD
    if s1.owns b then s1 else s1.needResync o.owner false [b]
  else if e.newOwner == o.owner && e.gen == o.gen then s
  else
    let newer := Nat.blt o.gen e.gen || (e.gen == o.gen && Nat.blt e.newOwner o.owner)
    let source := match e.action with
      | 1 => f.origin == o.owner
      | 2 => e.manual || f.origin == o.c1 || f.origin == o.c2 || f.origin == o.c3
      | 3 => f.origin == e.newOwner
      | _ => false
    if newer && source && Nat.ble 1 e.newOwner && Nat.ble e.newOwner 192 then
      let mine := s.owns b
      let s1 := (s.setOwn b { o with owner := e.newOwner, gen := e.gen }).raise evREP 3
      if mine && e.newOwner != s.node then
        ((s1.raise evREP 4).post 0x1004 3 0 b e.gen e.newOwner).loseBlock b
      else if !mine && s.node != 0 && e.newOwner == s.node then
        ((s1.raise evREP 5).gainBlock b).takeForces b
      else if e.action = 3 && e.newOwner != s.node then s1.awaitLearned e.newOwner b
      else s1
    else (s.inc R.REP_FOREIGN).raise evREP 6

/-- Step 1 of R116. -/
def State.frameForm (s : State) (f : ZFrame) : Bool :=
  f.hdrCrcOk && f.version == 1 && f.building == s.rn R.REP_BUILDING && Nat.ble 1 f.kind && Nat.ble f.kind 5
    && Nat.ble 1 f.origin && Nat.ble f.origin 192 && Nat.ble f.count 40 && (f.kind != 3 || f.count == 1) && f.formOk

/-- ZADER_FRAME_RECEIVE (R116): the UDP payload of a frame received on ETH0 or ETH1. RESYNC_REQ and OWNERSHIP frames are NC1's
work and wait in the ring while it restarts (R8, R447). -/
def execZaderFrameReceive (link : Fin 2) (payload : List Byte) (s : State) : Host.Outcome State Fault Refusal :=
  let f := zframe payload
  let on := if link.val = 0 then s.g F.REP_CTL_ETH0_EN else s.g F.REP_CTL_ETH1_EN
  if !s.repOn || on == 0 then .next s
  else
    let s1 := (s.inc R.REP_RX_FRAMES).count 321
    if (f.kind == 3 || f.kind == 5) && !s.core 1 then .next s
    else if !s1.frameForm f then .next (s1.inc R.REP_BAD)
    else if f.origin == s1.node then .next (s1.inc R.REP_OWN_ECHO)
    else
      let s2 := if f.kind = 3 then s1 else s1.hear f.origin
      match s2.judgeSeq f with
      | (s3, false) => .next s3
      | (s3, true) =>
        match f.body with
        | .none => .next s3
        | .slots l =>
          let s4 := l.foldl (fun t e => t.mergeEntry f e) s3
          if f.kind = 4 then
            .next ((s4.coverWants f.origin [f.block]).notePart f (l.all (fun e => e.crcOk)))
          else .next s4
        | .owns l => .next (l.foldl (fun t e => t.judgeOwn f e) s3)
        | .req t n blocks ok =>
          if !ok then .next (s3.inc R.REP_BAD)
          else
            let l := blocks.take (min n 8)
            let s4 := s3.coverWants t l
            if (t == 0 || t == s4.node) && s4.repSends then
              .next (s4.queueServe ((if l.isEmpty then s4.blocksOf s4.node else l).filter s4.owns) true)
            else .next s4

/-! ## The engine's own steps -/

/-- The slot was written by a commit whose hash exchange with the partner has not ended: the replication engine does not
queue it before (R17, steps 6 and 7). -/
def State.awaitsHash (s : State) (i : Nat) : Bool :=
  let n := (s.slot i).binding
  n / 2 ^ 28 == 1 && (tget s.dpx.own none (n % 128)).isSome

/-- The dirty slots that the next UPDATE frame carries (R17, R115). -/
def State.updateSlots (s : State) : List Nat := (s.pix.dirty.filter (fun i => s.ownsSlot i && !s.awaitsHash i)).take 40

/-- UPDATE_FRAME_SEND (R115). -/
def execUpdateFrameSend (s : State) : Host.Outcome State Fault Refusal :=
  if !s.repSends then .next s else .next (s.sendUpdate s.updateSlots)

/-- HEARTBEAT_SEND (R115). -/
def execHeartbeatSend (s : State) : Host.Outcome State Fault Refusal :=
  .next (if s.repSends then s.sendFrame 2 .none 0 else s)

/-- REFRESH_SWEEP (R115): the next owned block in ascending order, as one block service. -/
def execRefreshSweep (s : State) : Host.Outcome State Fault Refusal :=
  if !s.repSends || s.g F.REP_REFRESH_REFRESH_S == 0 then .next s
  else
    let l := s.blocksOf s.node
    match (l.find? (fun b => Nat.ble s.rep.sweepAt b)).or l.head? with
    | none => .next s
    | some b =>
      let s1 := s.serveBlock b
      .next { s1 with rep := { s1.rep with sweepAt := (b + 1) % 256 } }

/-- BLOCK_SERVICE (R119): the first block whose service is due; NC1 orders it (R8). -/
def execBlockService (s : State) : Host.Outcome State Fault Refusal :=
  if !s.repSends || !s.core 1 then .next s
  else match s.rep.serve with
    | [] => .next s
    | b :: rest =>
      if s.owns b then .next (s.serveBlock b) else .next { s with rep := { s.rep with serve := rest } }

/-- The frames of one request: eight blocks in each (R113). -/
def reqFrames : Nat → List Nat → List (List Nat)
  | 0, _ => []
  | n + 1, l => if l.isEmpty then [] else l.take 8 :: reqFrames n (l.drop 8)

/-- A RESYNC_REQ sent to `target` for `blocks` (R119). -/
def State.sendReq (s : State) (target : Nat) (blocks : List Nat) : State :=
  (if blocks.isEmpty then [[]] else reqFrames 32 blocks).foldl (fun t l =>
    (t.sendFrame 3 (.req target l.length l true) 1).inc R.REP_RESYNC_REQ) s

/-- RESYNC_REQ_SEND (R119): the delay of the request to `target` has passed. A request waits while NC1 restarts (R8). -/
def execResyncReqSend (target : Fin 256) (s : State) : Host.Outcome State Fault Refusal :=
  if !s.core 1 then .next s
  else match s.rep.wants.find? (fun w => w.1 == target.val) with
  | none => .next s
  | some w =>
    let s1 := { s with rep := { s.rep with wants := s.rep.wants.erase w } }
    .next (if s1.mayOriginate then s1.sendReq w.1 w.2 else s1)

/-- RESYNC_RETRY (R119): block `b` has not been repaired within its time. -/
def execResyncRetry (b : Fin 256) (s : State) : Host.Outcome State Fault Refusal :=
  if !s.core 1 then .next s
  else match tget s.rep.resync none b with
  | none => .next s
  | some r =>
    let put := fun (x : Option Resync) => { s with rep := { s.rep with resync := tset s.rep.resync none b x } }
    let owner := (s.ownOf b).owner
    if owner == 0 || s.owns b then .next (put none)
    else if r.tries < 3 then .next ((put (some { r with tries := r.tries + 1 })).needResync owner false [b.val])
    else if r.failed then .next (s.needResync owner false [b.val])
    else
      let s1 := (put (some { r with failed := true })).raise evREP 7
      .next ((s1.slotsOf b).foldl (fun t i => t.stale i) s1)

/-- ORIGIN_SILENT (R120): the silence check at ORIGIN_TIMEOUT_MS after the last frame of an origin. An origin from which no
frame has come since this module's start stays UNKNOWN (log entry 195). -/
def execOriginSilent (o : Fin 256) (s : State) : Host.Outcome State Fault Refusal :=
  let x := s.origin o
  if !s.repOn || !x.heard || x.silent then .next s
  else
    let s1 := s.advanceToUp (x.lastNs + s.g F.REP_TIMEOUT_ORIGIN_TIMEOUT_MS * 1000000)
    let s2 := s1.setOrigin o { x with silent := true, silentNs := s1.clk.upNs }
    let s3 := { s2 with rep := { s2.rep with whole := s2.rep.whole.filter (fun n => n != o.val) } }.raise evREP 1
    .next (((s3.blocksOf o).flatMap s3.slotsOf).foldl (fun t i => t.stale i) s3)

/-- The rank of the module's node among a block's candidates (R126); 0 none. -/
def State.rank (s : State) (b : Nat) : Nat :=
  let o := s.ownOf b
  if s.node = 0 then 0 else if o.c1 = s.node then 1 else if o.c2 = s.node then 2 else if o.c3 = s.node then 3 else 0

/-- AUTO_TAKEOVER (R126): the owner of block `b` has been SILENT for rank × TAKEOVER_MS. A butty's table follows its node's,
and it sends nothing (R18). -/
def execAutoTakeover (b : Fin 256) (s : State) : Host.Outcome State Fault Refusal :=
  let o := s.ownOf b
  let x := s.origin o.owner
  let k := s.rank b
  if !s.mayOriginate || !s.core 1 || !o.auto || k = 0 || o.owner == s.node || o.owner == 0 || !x.silent then .next s
  else .next ((s.advanceToUp (x.silentNs + k * s.g F.REP_TIMEOUT_TAKEOVER_MS * 1000000)).claim b false)

/-- An ownership command that comes while NC1 restarts waits for it (R8, R447). -/
def State.ownWaits (s : State) (claim : Bool) (b n : Nat) : State := { s with rep := { s.rep with waiting := some (claim, b, n) } }

/-- A write of REP_OWN_CMD with ACTION RELEASE (R125). Of several reasons for a refusal the one judged first here is given,
and code 6 says that the engine may not originate frames, as R109 has it (log entry 198). -/
def State.ownRelease (s : State) (b n : Nat) : State :=
  let s1 := s.wn R.REP_OWN_CMD (b + n * 256 + 1 * 65536)
  let at_ := s.rn64 R.REP_OWN_TIME_LO
  if !s.core 1 then s1.ownWaits false b n
  else if !s.owns b then s1.p F.REP_OWN_RESULT_CODE 3
  else if n = 0 ∨ 192 < n then s1.p F.REP_OWN_RESULT_CODE 5
  else if !s.mayOriginate then s1.p F.REP_OWN_RESULT_CODE 6
  else if at_ = 0 ∨ at_ ≤ s.ptpNs then s1.releaseNow b n
  else
    let s2 := s1.p F.REP_OWN_RESULT_CODE 2
    { s2 with rep := { s2.rep with planned := s2.rep.planned.filter (fun r => r.block != b) ++ [⟨b, n, at_⟩] } }

/-- A write of REP_OWN_CMD with ACTION CLAIM (R126), with the refusals in the order of log entry 198. -/
def State.ownClaim (s : State) (b n : Nat) : State :=
  let s1 := s.wn R.REP_OWN_CMD (b + n * 256 + 2 * 65536)
  if !s.core 1 then s1.ownWaits true b n
  else if s.owns b then s1.p F.REP_OWN_RESULT_CODE 4
  else if !s.mayOriginate then s1.p F.REP_OWN_RESULT_CODE 6
  else (s1.claim b true).p F.REP_OWN_RESULT_CODE 1

/-- The ownership command that has waited for NC1 is carried out. -/
def State.ownResume (s : State) : State :=
  let s1 := { s with rep := { s.rep with waiting := none } }
  match s.rep.waiting with
  | none => s
  | some (claim, b, n) => if claim then s1.ownClaim b n else s1.ownRelease b n

/-- OWN_RELEASE (R125): port `p` writes REP_OWN_CMD with ACTION RELEASE. -/
def execOwnRelease (p : Fin 2) (b : Fin 256) (n : Fin 256) (s : State) : Host.Outcome State Fault Refusal :=
  .next (if !s.linkUp p then s else s.regWrite p R.REP_OWN_CMD (fun t => t.ownRelease b n))

/-- OWN_RELEASE_EFFECTIVE (R125): the effective PTP time of the planned release of block `b`. Where the engine may not originate
then (R109), the release is refused. -/
def execOwnReleaseEffective (b : Fin 256) (s : State) : Host.Outcome State Fault Refusal :=
  match s.rep.planned.find? (fun r => r.block == b.val) with
  | none => .next s
  | some r =>
    let s1 := s.advanceToPtp r.time
    .next (if !s.core 1 then s else if s1.mayOriginate then s1.releaseNow r.block r.toNode
      else ({ s1 with rep := { s1.rep with planned := s1.rep.planned.filter (fun x => x.block != r.block) } }).p
        F.REP_OWN_RESULT_CODE 6)

/-- OWN_CLAIM (R126): port `p` writes REP_OWN_CMD with ACTION CLAIM. -/
def execOwnClaim (p : Fin 2) (b : Fin 256) (s : State) : Host.Outcome State Fault Refusal :=
  .next (if !s.linkUp p then s else s.regWrite p R.REP_OWN_CMD (fun t => t.ownClaim b 0))

end Sys2Proof.Machine
end

