-- ==== Sys2Proof/Machine/Dpx.lean ====
section
/-! DEFINITION. The duplex pair: lines, lanes, running in step, takeover, the cross-check, the planned switch-over and
joining (chapter 13). -/

namespace Sys2Proof.Machine

/-! ## The pair's state (R313, R325, R337) -/

/-- PAIR_STATE: 0 ALONE, 1 PAIRING, 2 TRANSFER, 3 SYNCED, 4 DETACHED, 5 REFUSED. -/
def State.pairState (s : State) : Nat := s.g F.DPX_STATUS_PAIR_STATE

/-- DPX_GRANT_OUT is high. -/
def State.grantOut (s : State) : Bool := s.g F.DPX_STATUS_GRANT_OUT == 1

/-- Both lanes are down (R317). -/
def State.lanesDown (s : State) : Bool := s.g F.DPX_STATUS_LANE0_UP == 0 && s.g F.DPX_STATUS_LANE1_UP == 0

/-- Both lanes are up. -/
def State.lanesUp (s : State) : Bool := s.g F.DPX_STATUS_LANE0_UP == 1 && s.g F.DPX_STATUS_LANE1_UP == 1

/-- The module stands at position B. -/
def State.posB (s : State) : Bool := s.g F.MOD_STRAP_DPX_POS == 1

/-- The module's faults have not cleared (R336): a core self-test or a restarted unit that a fault started still runs. -/
def State.faulty (s : State) : Bool := s.scn.pairTest != 0 || !s.saf.restarting.isEmpty

/-- A butty that may take over (R325): SYNCED, or its lanes have been down for less than 1 ms. A REFUSED one may not
(R332). -/
def State.eligible (s : State) : Bool :=
  s.isButty && (s.synced ||
    (s.lanesDown && s.pairState != 5 && s.pairState != 4 &&
      (match s.dpx.downAt with | some t => Nat.blt s.clk.upNs (t + 1000000) | none => false)))

/-- The cross-check ends (R329). -/
def State.xcheckOff (s : State) : State :=
  ({ s with dpx := { s.dpx with xc := none, xcPeer := none } }).p F.DPX_STATUS_XCHECK_ACTIVE 0

/-- A motor that no longer ships proceeds alone with the cycles that it has latched (R319). -/
def State.shipAlone (s : State) : State :=
  let s1 := (s.taskEnts.filter (fun t => (s.task t.task).latched && !(s.task t.task).shipped)).foldl (fun u t =>
    u.setTask t.task { u.task t.task with shipped := true }) s
  { s1 with dpx := { s1.dpx with shipUp := [], inbuf := [], own := [], peer := [] } }

/-- The pair takes a state with a reason (R337). Where it was SYNCED it runs in step no more: a planned switch, a
cross-check and a paired activation end (R331, R435). -/
def State.setPair (s : State) (st reason : Nat) : State :=
  let was := s.pairState
  let s1 := (s.p F.DPX_STATUS_PAIR_STATE st).p F.DPX_STATUS_REASON reason
  let s2 := if st = 4 ∧ was ≠ 4 then s1.raise evDPX 5 else if st = 3 ∧ was ≠ 3 then s1.raise evDPX 4 else s1
  if was = 3 ∧ st ≠ 3 then s2.switchOff.xcheckOff.shipAlone.pairBreak else s2

/-- A change of role recorded in the DPX registers (R337). -/
def State.roleChange (s : State) (cause latency : Nat) : State :=
  let s1 := (s.inc R.DPX_SWITCHES).wn R.DPX_LAST_SWITCH (cause * 2 ^ 24 + min latency 65535)
  (s1.wn64 R.DPX_SWITCH_TIME_LO s.ptpNs).p F.DPX_STATUS_LINE_FAULT 0

/-- The module raises GRANT_OUT, then RELEASE_OUT (R315). -/
def State.becomeMotor (s : State) (cause latency : Nat) : State :=
  let s1 := s.roleChange cause latency
  ({ s1 with dpx := { s1.dpx with
      releaseOut := true, taking := none, xcAbd := false, alone := !s1.hasPartner } }).p F.DPX_STATUS_GRANT_OUT 1

/-- The module lowers both lines (R315); its units drive no bus any more (R44). -/
def State.lowerLines (s : State) : State :=
  (({ s with dpx := { s.dpx with releaseOut := false } }).p F.DPX_STATUS_GRANT_OUT 0).fieldYield.canYield

/-- A motor with a partner gives up its role (R325, row 1). -/
def State.abdicate (s : State) : State :=
  if s.grantOut && s.hasPartner then
    (((s.lowerLines.roleChange 6 0).raise evDPX 1).tow .abdicate).setPair 4 9
  else s

/-- A butty that declares a fault of its own (R325, row 3). -/
def State.notReady (s : State) : State :=
  if s.isButty then
    let s1 := { s with dpx := { s.dpx with taking := none } }
    if s1.pairState = 4 ∨ s1.pairState = 5 then s1 else (s1.tow .notReady).setPair 4 9
  else s

/-- What the new motor does with its units (R328). -/
def State.actAsMotor (s : State) (cause latency : Nat) : State :=
  let s1 := (s.taskEnts.filter (fun t => (s.task t.task).st == .running && !(s.task t.task).latched)).foldl
    (fun u t => u.latchLocal t u.synced) s
  let s2 := s1.fieldTakeover
  let s3 := { s2 with
    pix := { s2.pix with dirty := [] }
    rep := { s2.rep with seq := s2.dpx.seqReport.getD s2.rep.seq, restart := false } }
  (s3.sweepAll).post 0x5001 29 0 cause latency (b2n (!s.posB))

/-! ## ALIVE and GRANT (R314 to R316, R325, rows 1, 2, 4, 5) -/

/-- ALIVE_SILENT (R314, R325, rows 2 and 4; R468): no ALIVE_IN edge for 100 µs. A partner that has been withdrawn is judged
like one that has failed. -/
def execAliveSilent (s : State) : Host.Outcome State Fault Refusal :=
  .next (
    let s1 := ({ s with dpx := { s.dpx with silentAt := some s.clk.upNs } }).p F.DPX_STATUS_ALIVE_OK 0
    if !s1.hasPartner ∧ s.g F.DPX_STATUS_ALIVE_OK = 0 then s1
    else if s1.grantOut then
      let s2 := s1.raise evDPX 2
      if s2.pairState = 1 ∨ s2.pairState = 2 ∨ s2.pairState = 3 then s2.setPair 4 9 else s2
    else if s1.eligible && s1.dpx.taking.isNone then
      { s1 with dpx := { s1.dpx with taking := some (2, s1.clk.upNs) } }
    else s1)

/-- ALIVE_GOOD (R314): ten successive good edges. -/
def execAliveGood (s : State) : Host.Outcome State Fault Refusal :=
  .next (
    let was := s.g F.DPX_STATUS_ALIVE_OK
    let s1 := ({ s with dpx := { s.dpx with silentAt := none } }).p F.DPX_STATUS_ALIVE_OK 1
    if was = 0 ∧ s1.hasPartner ∧ s1.grantOut then s1.raise evDPX 3 else s1)

/-- ALIVE_GENERATOR_STOP (R314): the hardware drives both lines low. -/
def execAliveGeneratorStop (s : State) : Host.Outcome State Fault Refusal :=
  .next (if s.grantOut then (s.lowerLines.roleChange 6 0).switchOff else s.lowerLines)

/-- A confirmed withdrawal of GRANT at an eligible butty (R325, row 1): the preparation of the takeover begins. -/
def State.confirmTake (s : State) : State :=
  if s.eligible && s.dpx.taking.isNone then
    { s with dpx := { s.dpx with taking := some (if s.dpx.xcAbd then 4 else 1, s.dpx.grantLow.getD s.clk.upNs) } }
  else s

/-- GRANT_IN_EDGE (R315, R325): the levels of GRANT_IN and RELEASE_IN as taken. -/
def execGrantInEdge (grant release : Bool) (s : State) : Host.Outcome State Fault Refusal :=
  .next (
    let was := s.g F.DPX_STATUS_GRANT_IN
    let s1 := (s.p F.DPX_STATUS_GRANT_IN (b2n grant)).p F.DPX_STATUS_RELEASE_IN (b2n release)
    if was = 1 ∧ !grant then
      let s2 := { s1 with dpx := { s1.dpx with grantLow := some s1.clk.upNs } }
      let near := match s2.dpx.abdAt with | some t => Nat.ble s2.clk.upNs (t + 20000) | none => false
      if near || s2.lanesDown then s2.confirmTake else s2
    else if grant then { s1 with dpx := { s1.dpx with grantLow := none } }
    else s1)

/-- ABDICATE (R325, rows 1 and 5): the motor's message. -/
def execAbdicate (s : State) : Host.Outcome State Fault Refusal :=
  .next (
    let s1 := { s with dpx := { s.dpx with abdAt := some s.clk.upNs } }
    if s1.g F.DPX_STATUS_GRANT_IN = 0 ∧ s1.dpx.grantLow.isSome then s1.confirmTake else s1)

/-- ABDICATE_WINDOW_EXPIRE (R325, row 5): 20 µs after GRANT_IN fell, with no ABDICATE and a lane up. -/
def execAbdicateWindowExpire (s : State) : Host.Outcome State Fault Refusal :=
  .next (match s.dpx.grantLow with
    | some t =>
      if s.isButty && s.dpx.taking.isNone && !s.lanesDown then
        ((s.advanceToUp (t + 20000)).p F.DPX_STATUS_LINE_FAULT 1).raise evDPX 9
      else s
    | none => s)

/-- DUAL_MOTOR (R316): a motor has read GRANT_IN high for 2 µs. -/
def execDualMotor (s : State) : Host.Outcome State Fault Refusal :=
  .next (if s.grantOut && s.g F.DPX_STATUS_GRANT_IN == 1 then
      let s1 := s.raise evDPX 10
      if s1.posB then
        let s2 := s1.lowerLines.roleChange 5 0
        if s2.synced then s2 else s2.setPair 4 6
      else s1
    else s)

/-! ## Lanes (R317, R325, rows 7 and 8) -/

/-- LANE_DOWN (R317): lane `k` has carried no good frame for 20 µs. -/
def execLaneDown (k : Fin 2) (s : State) : Host.Outcome State Fault Refusal :=
  .next (
    let was := s.bit R.DPX_STATUS (4 + k)
    let s1 := s.setBit R.DPX_STATUS (4 + k) false
    let s2 := if was then s1.raise evDPX 8 else s1
    if was && s2.lanesDown then { s2 with dpx := { s2.dpx with downAt := some s2.clk.upNs } } else s2)

/-- LANE_UP (R317): lane `k` has carried good frames for 100 µs. -/
def execLaneUp (k : Fin 2) (s : State) : Host.Outcome State Fault Refusal :=
  .next (({ s with dpx := { s.dpx with downAt := none } }).setBit R.DPX_STATUS (4 + k) true)

/-- LANES_DOWN (R317, R325, row 7): both lanes have been down for 1 ms. -/
def execLanesDown (s : State) : Host.Outcome State Fault Refusal :=
  .next (match s.dpx.downAt with
    | some t =>
      let s1 := s.advanceToUp (t + 1000000)
      if s1.pairState = 1 ∨ s1.pairState = 2 ∨ s1.pairState = 3 then s1.setPair 4 6 else s1
    | none => s)

/-- IDLE (R317): a frame of a lane; one that fails its CRC is counted. -/
def execIdle (ok : Bool) (s : State) : Host.Outcome State Fault Refusal :=
  .next (if ok then s.count 581 else (s.inc R.DPX_LANE_ERR).count 582)

/-! ## Running in step (R319 to R321, R323) -/

/-- INPUTS (R319): the input image of a cycle, complete with its last message. -/
def execInputs (task : Fin 96) (ref : Nat) (entries : List ShipEnt) (outs : List (Nat × Option Word64)) (s : State) :
    Host.Outcome State Fault Refusal :=
  .next (match s.ent task with
    | none => s
    | some t =>
      if !(s.synced && s.isButty) then s
      else
        let s1 := { s with dpx := { s.dpx with inbuf := tset s.dpx.inbuf none task.val (some ⟨ref, entries, outs⟩) } }
        let r := s1.task task
        let s2 := if r.st = .running ∧ !r.latched ∧ s1.running then
            match s1.shipment t with | some b => s1.latchShipped t b | none => s1
          else s1
        s2.tow (.inputsAck task ref))

/-- INPUTS_ACK (R319): the motor's step 3 ends. -/
def execInputsAck (task : Fin 96) (ref : Nat) (s : State) : Host.Outcome State Fault Refusal :=
  .next (
    let r := s.task task
    match tget s.dpx.shipUp none task.val with
    | some up =>
      if r.release = ref ∧ r.latched ∧ !r.shipped then
        let s1 := s.setTask task { r with shipped := true }
        let s2 := { s1 with dpx := { s1.dpx with shipUp := tset s1.dpx.shipUp none task.val none } }
        s2.p F.DPX_SHIP_MAX_TIME (max (s2.g F.DPX_SHIP_MAX_TIME) (min 65535 ((s2.clk.upNs - up) / 100)))
      else s
    | none => s)

/-- SHIP_TIMEOUT (R319): no INPUTS_ACK within 50 µs and 0.03 µs for each input entry. -/
def execShipTimeout (task : Fin 96) (s : State) : Host.Outcome State Fault Refusal :=
  .next (match s.ent task, tget s.dpx.shipUp none task.val with
    | some t, some up =>
      if s.synced && s.isMotor then (s.advanceToUp (up + 50000 + 30 * t.inCount)).setPair 4 6 else s
    | _, _ => s)

/-- HASH (R321): the partner's output hash of a cycle. -/
def execHash (task : Fin 96) (ref h : Nat) (s : State) : Host.Outcome State Fault Refusal :=
  .next (if !s.synced then s
    else match tget s.dpx.own none task.val with
      | some (r, own) =>
        let s1 := { s with dpx := { s.dpx with own := tset s.dpx.own none task.val none } }
        if r = ref ∧ own = h then s1 else s1.hashDiffers task ref
      | none => { s with dpx := { s.dpx with peer := tset s.dpx.peer none task.val (some (ref, h)) } })

/-- HASH_TIMEOUT (R321): the partner's hash of task `task` has not come 50 µs after the module's own commit. -/
def execHashTimeout (task : Fin 96) (s : State) : Host.Outcome State Fault Refusal :=
  .next (match tget s.dpx.own none task.val with
    | some (r, _) =>
      if s.synced && !s.lanesDown then
        ({ s with dpx := { s.dpx with own := tset s.dpx.own none task.val none } }).hashDiffers task r
      else s
    | none => s)

/-- SEQ_REPORT (R323). -/
def execSeqReport (seq : Nat) (s : State) : Host.Outcome State Fault Refusal :=
  .next { s with dpx := { s.dpx with seqReport := some (seq % 2 ^ 32) } }

/-! ## FORWARD (R320) -/

/-- A forwarded write replaces the held slot (R320): later, or at equal time of newer sequence, or at equal both the one
first applied at position A, which is the partner's where this module stands at B. -/
def State.fwdWins (s : State) (m : FwdMsg) : Bool :=
  let x := s.slot m.index
  if m.time % 2 ^ 64 ≠ x.time then Nat.blt x.time (m.time % 2 ^ 64)
  else
    let d := seqAhead m.seq x.seq
    if d = 0 then s.posB else Nat.ble d (2 ^ 31 - 1)

/-- A forwarded force operation is the later of those on its slot (R194, R197): a task's commit at this module in the meantime
does not make it void, since it was dropped where the force was made first (log entry 208). -/
def State.forceWins (s : State) (m : FwdMsg) : Bool :=
  match tget s.olc.stamps none m.index with
  | none => true
  | some (t, q) =>
    if m.time % 2 ^ 64 ≠ t then Nat.blt t (m.time % 2 ^ 64)
    else
      let d := seqAhead m.seq q
      if d = 0 then s.posB else Nat.ble d (2 ^ 31 - 1)

/-- The force table after a forwarded force operation (R197). -/
def State.fwdForce (s : State) (m : FwdMsg) : State :=
  let x := s.slot m.index
  let f : Force := ⟨.slot m.index, x.typ, m.value⟩
  match m.kind with
  | .force => (s.setForce f).forceRecord f (if (s.forceOf f.key).isSome then 2 else 1)
  | .takenOver => (s.setForce f).forceRecord f 4
  | .unforce => s.dropForce f.key
  | _ => s

/-- A forwarded slot write taken as its first writer stamped it (R320). A force operation is applied as that operation, with the
field output that it drives (R193, R197); one that the force table has no room for is not (R192). -/
def State.fwdSlot (s : State) (m : FwdMsg) : State :=
  let i := m.index % 262144
  let x := s.slot i
  let held := (s.forceOf (.slot i)).isSome
  let sets := m.kind == .force || m.kind == .takenOver
  let forceOp := sets || m.kind == .unforce
  let wins := match m.kind with
    | .takenOver => !held
    | .force => s.forceWins m
    | .unforce => s.forceWins m
    | _ => s.fwdWins m
  if !x.present || !s.ownsSlot i || (x.forced && !forceOp && m.kind != .restamp) || !wins then s
  else if sets && !held && !s.forceRoom (.slot i) then s.raise evOLC 5
  else
    let y : Slot := { x with
      value := m.value, time := m.time % 2 ^ 64, seq := m.seq % 2 ^ 32, origin := s.node, quality := m.quality % 16
      alarm := m.alarm, forced := if sets then true else if m.kind == .unforce then false else x.forced }
    let s1 := ((s.fwdForce m).storeOwned i y).journalSlot i
    let s2 := if forceOp then s1.stampForce i else s1
    if m.kind == .force then s2.driveForce i m.value.toNat else s2

/-- A forwarded loop-state write, cancel or memory command (R229). -/
def State.fwdLoop (s : State) (l : List Nat) : State :=
  match l with
  | [0, e, v, lo, hi, due, rel] => s.leWrite (e % 4) v lo hi (some (due, rel == 1))
  | [1, e] => s.leCancel (e % 4) false
  | [2, e, v] => s.memCmd (e % 4) v false
  | _ => s

/-- The settings records of the module as the partner is told them, with its straps and health (R333). -/
def State.hello (s : State) : HelloMsg :=
  { almHi := s.rn R.MOD_STRAP % 64, pos := s.posB, node := s.node, building := s.rn R.REP_BUILDING
    provides := s.ctrlProvides, digest := s.img.digest, pairsOk := s.pairsOk
    hold := s.mode == 2 || s.mode == 3, inResync := s.phase == 4, settings := s.settings, set := s.set }

/-- A join that the checks refuse (R333). -/
def State.refuseJoin (s : State) (reason : Nat) : State :=
  ((s.setPair 5 reason).raise evDPX 12).post 0x5002 29 0 reason

/-- This module's verdict on what its partner has submitted, told where it is a refusal (R190). -/
def State.tellVerdict (s : State) (v : Nat × Nat × Nat) : State := s.tow (.verdict v.1 v.2.1 v.2.2)

/-- An image that the partner sends. In a join the motor's is checked and installed, and the join goes on (R333); in step the
submitter's is checked by this module too, and installed where it accepts it (R190). -/
def State.fwdImage (s : State) (bytes : List Byte) (bankOk : Bool) : State :=
  let v := if s.active then some (1, 0, 0) else s.imageChecks bytes.length bytes bankOk
  let s1 := s.checkedBank bytes v
  if s.synced then match v with
    | some x => s1.tellVerdict x
    | none => s1.installBank bytes
  else if s.isButty ∧ s.pairState = 1 then
    let s2 := if v.isSome then s1.refuseJoin 4 else s1.installBank bytes
    s2.tow (.hello s2.hello)
  else s

/-- A change that the partner has submitted (R207): checked by this module too, and taken up where it accepts it. -/
def State.fwdChange (s : State) (r : OpRef) (kind : Nat) (bytes : List Byte) (release bankOk : Bool) : State :=
  if kind = 1 then match s.valuesChecks bytes.length bytes with
    | some v => (s.fullEvent v).tellVerdict v
    | none => s.valuesStart r ((parseItems bytes).map (fun x => x.1))
  else
    let v := s.switchChecks bytes.length bytes release bankOk
    let s1 := s.checkedBank bytes v
    match v with
    | some x => s1.tellVerdict x
    | none => s1.switchWait r bytes release

/-- An operation reference that names no operation: the partner's own ring holds it. -/
def noOp : OpRef := ⟨0, 64, 0⟩

/-- FORWARD (R320; R151, R190, R207, R229). -/
def execForward (f : Fwd) (s : State) : Host.Outcome State Fault Refusal :=
  .next (match f with
    | .slot m =>
      if !s.synced then s
      else match m.kind with
        | .stationLost => s.stationLost (m.index % 64)
        | .stationBack => s.stationBack (m.index % 64)
        | _ => s.fwdSlot m
    | .loopWrite l => if s.synced then s.fwdLoop l else s
    | .taskCtl target action arg due =>
      if !s.synced then s
      else match due with
        | some a => s.ctlHold ⟨a, target, action, arg, none⟩
        | none => if s.taskRefusal target action arg == 0 then (s.ctlDo target action arg none).ctlRun else s
    | .image bytes bankOk => s.fwdImage bytes bankOk
    | .change kind bytes release bankOk =>
      if !s.synced || s.olc.change.isSome then s else s.fwdChange noOp kind bytes release bankOk)

/-! ## Faults and takeover (R325 to R328) -/

/-- NOT_READY (R325, row 3): the butty has a fault. -/
def execNotReady (s : State) : Host.Outcome State Fault Refusal :=
  .next (if s.isMotor then
      let s1 := s.raise evDPX 2
      if s1.pairState = 0 then s1 else s1.setPair 4 9
    else s)

/-- TAKEOVER (R326 to R328): the butty's quick check has ended and its preparation is complete. -/
def execTakeover (quickOk : Bool) (s : State) : Host.Outcome State Fault Refusal :=
  .next (match s.dpx.taking with
    | none => s
    | some (cause, start) =>
      if !quickOk then s.notReady
      else
        let latency := (s.clk.upNs - start) / 100
        let s1 := if s.hasPartner then s.setPair 4 9 else s.setPair 0 0
        ((s1.becomeMotor cause latency).raise evDPX 0).actAsMotor cause (min latency 65535))

/-! ## Cross-check (R329, R330) -/

/-- XCHECK (R329): the partner's input-image CRC. -/
def execXcheck (task : Fin 96) (ref inCrc : Nat) (s : State) : Host.Outcome State Fault Refusal :=
  .next (if !s.synced then s
    else
      let s1 := if s.dpx.xc.isSome then s else s.xcheckStart task ref
      { s1 with dpx := { s1.dpx with xcPeer := some inCrc } })

/-- A core self-test of every scan pair is requested (R330, R453). -/
def State.testPairs (s : State) : State :=
  [0, 1, 2, 3].foldl (fun t k =>
    let x := tget t.saf.targets {} k
    let y : Target := if x.st = 0 then { x with st := 1 } else if x.st = 2 then { x with again := true } else x
    { t with saf := { t.saf with targets := tset t.saf.targets {} k y } }) s

/-- XCHECK_DECIDE (R329, R330): the recomputations and quick checks of the motor (`rm`, `qm`) and the butty (`rb`, `qb`)
stand, and the partner's XCHECK has come or 50 µs have passed. -/
def execXcheckDecide (rm rb qm qb : Bool) (s : State) : Host.Outcome State Fault Refusal :=
  .next (match s.dpx.xc with
    | none => s
    | some (task, _) =>
      let own := (tget s.dpx.inCrc (0, 0) task).2
      let motor := s.isMotor
      let late := s.dpx.xcPeer.isNone
      let din := s.dpx.xcPeer.getD own != own
      let row := if late then 1 else if (rm || qm) && (rb || qb) then 2 else if rm || qm then 3
        else if din || rb || qb then 4 else 5
      let find := b2n din + 2 * b2n rm + 4 * b2n rb + 8 * b2n qm + 16 * b2n qb
      let s1 := (s.xcheckOff.wn R.DPX_XCHECK (row * 2 ^ 24 + task % 256 * 2 ^ 16 + find)).raise evDPX 7
      match row with
      | 2 => s1.faultStop 5 none
      | 3 => if motor then s1.abdicate.faultStop 5 none else { s1 with dpx := { s1.dpx with xcAbd := true } }
      | 5 => (s1.setPair 4 11).testPairs
      | _ => s1.setPair 4 10)

/-! ## Planned switch-over (R331) -/

/-- DPX_CMD with ACTION SWITCH. -/
def State.dpxSwitch (s : State) (delay : Nat) : State :=
  if !(s.synced && s.dpx.xc.isNone && s.mode != 3 && s.fwu.armed.isNone) then s.p F.DPX_STATUS_REASON 12
  else
    let t := (s.ptpNs + max 1 (min delay 60000) * 1000000 + 999999) / 1000000 * 1000000
    (({ s with dpx := { s.dpx with switchAt := some t } }).p F.DPX_STATUS_SWITCH_PENDING 1).tow (.switchAt t)

/-- DPX_SWITCH (R331): port `p` writes DPX_CMD with ACTION SWITCH. -/
def execDpxSwitch (p : Fin 2) (delay : Fin 65536) (s : State) : Host.Outcome State Fault Refusal :=
  .next (if s.linkUp p then s.regWrite p R.DPX_CMD (fun t => t.dpxSwitch delay) else s)

/-- SWITCH (R331): the partner's message names the boundary. -/
def execSwitch (t : Nat) (s : State) : Host.Outcome State Fault Refusal :=
  .next (if s.synced then ({ s with dpx := { s.dpx with switchAt := some t } }).p F.DPX_STATUS_SWITCH_PENDING 1 else s)

/-- PLANNED_SWITCH (R331): the boundary comes; the motor lowers its lines and the butty raises its own. -/
def execPlannedSwitch (s : State) : Host.Outcome State Fault Refusal :=
  .next (match s.dpx.switchAt with
    | none => s
    | some t =>
      let motor := s.grantOut
      let s1 := (s.advanceToPtp t).switchOff
      let s2 := if motor then s1.lowerLines.roleChange 3 0 else (s1.becomeMotor 3 0).actAsMotor 3 0
      (s2.raise evDPX 11).pairSwitched)

/-! ## Detaching and joining (R332 to R336) -/

/-- DPX_CMD with ACTION DETACH (R336). -/
def State.dpxDetach (s : State) : State :=
  if s.isMotor then s.p F.DPX_STATUS_REASON 12 else if s.synced then s.setPair 4 12 else s

/-- DETACH (R336): port `p` writes DPX_CMD with ACTION DETACH. -/
def execDetach (p : Fin 2) (s : State) : Host.Outcome State Fault Refusal :=
  .next (if s.linkUp p then s.regWrite p R.DPX_CMD (fun t => t.dpxDetach) else s)

/-- A join attempt begins (R333). -/
def State.joinStart (s : State) : State :=
  let s1 := s.setPair 1 0
  s1.tow (.hello s1.hello)

/-- DPX_CMD with ACTION JOIN: a module that stands DETACHED or REFUSED and is not motor joins. -/
def State.dpxJoin (s : State) : State :=
  if s.isButty && (s.pairState == 4 || s.pairState == 5) then s.joinStart else s

/-- JOIN (R333, R336): port `p` writes DPX_CMD with ACTION JOIN. -/
def execJoin (p : Fin 2) (s : State) : Host.Outcome State Fault Refusal :=
  .next (if s.linkUp p then s.regWrite p R.DPX_CMD (fun t => t.dpxJoin) else s)

/-- JOIN_RETRY (R333, R336): with AUTO_JOIN a refused module retries, and a DETACHED one joins again once its faults have
cleared, its pairs are well and both lanes are up, unless it was detached by command. -/
def execJoinRetry (s : State) : Host.Outcome State Fault Refusal :=
  .next (if s.g F.DPX_CTL_AUTO_JOIN == 1 && s.isButty &&
        (s.pairState == 5 ||
          (s.pairState == 4 && s.g F.DPX_STATUS_REASON != 12 && !s.faulty && s.pairsOk && s.lanesUp))
      then s.joinStart else s)

/-- The unit groups whose settings differ (R333, R337). -/
def State.cfgDiff (s : State) (h : HelloMsg) : Nat :=
  let part := fun (lo hi : Nat) (t : Tbl Word) => t.filter (fun e => Nat.ble lo e.1 && Nat.blt e.1 hi)
  let differ := fun (lo hi : Nat) => part lo hi s.settings != part lo hi h.settings
  let l := [differ 0x500000 0x510000, differ 0x510000 0x520000, differ 0x520000 0x530000, differ 0x530000 0x540000,
    differ 0x540000 0x580000 || s.set.mb != h.set.mb || s.set.osdp != h.set.osdp,
    differ 0x580000 0x600000 || s.set.can != h.set.can, differ 0x600000 0x700000,
    differ 0x210000 0x220000 || differ 0x300000 0x310000]
  (List.range 8).foldl (fun n k => n + b2n (l.getD k false) * 2 ^ k) 0

/-- The first check of R333 that fails but for check 4: 0 none. `early`: the checks before check 4. -/
def State.joinCheck (s : State) (h : HelloMsg) (early : Bool) : Nat :=
  let own := s.hello
  if early then
    if h.almHi ≠ own.almHi ∨ h.pos = own.pos then 1
    else if h.node ≠ own.node ∨ h.building ≠ own.building then 2
    else if !sameMajors own.provides h.provides then 3
    else 0
  else if !(own.pairsOk && h.pairsOk) then 5
  else if (if s.isMotor then own.hold else h.hold) then 7
  else 0

/-- The KiB that a first pass copies (R334, R335): the sizes of R334 in proportion to what is used. -/
def State.xferKib (s : State) : Nat :=
  let inst := s.taskEnts.foldl (fun n t => n + (s.img.layoutOf t.task).instSize) 0
  let loops := s.img.loops.length * 256
  let mems := s.img.mems.length * 16384
  let slots := (s.pix.slots.filter (fun e => s.ownsSlot e.1)).length * 32
  (inst + loops + mems + slots + s.forces.length * 32 + 1023) / 1024 + 17

/-- The registers of a task that the transfer carries. -/
def taskRegs (t : Nat) : List Nat :=
  [R.SCN_T_CYC_LO t, R.SCN_T_CYC_HI t, R.SCN_T_EXEC_LAST t, R.SCN_T_EXEC_MAX t, R.SCN_T_LATE t, R.SCN_T_OVERFLOW t,
    R.SCN_T_LOST_LO t, R.SCN_T_LOST_HI t, R.SCN_T_DROP t]

/-- The state that the motor transfers (R334). -/
def State.xferItems (s : State) : List XferItem :=
  s.taskEnts.map (fun t => .bytes (524288 * t.pair + t.instBase)
      (s.instBytes t.pair t.instBase (s.img.layoutOf t.task).instSize))
    ++ s.taskEnts.map (fun t => .task t.task (s.task t.task))
    ++ s.taskEnts.flatMap (fun t => (taskRegs t.task).map (fun a => .reg a (s.rd a)))
    ++ [.reg R.SCN_STATUS (s.rd R.SCN_STATUS), .breaks s.scn.breaks s.scn.byCmd]
    ++ s.img.loops.map (fun l => .loop (512 * l.engine + l.slot) (s.loop? (512 * l.engine + l.slot)))
    ++ [0, 1, 2, 3].map (fun e => .write e (s.leWr e))
    ++ s.img.mems.map (fun e => .mem e.1 (tget s.le.mem {} e.1))
    ++ (s.pix.slots.filter (fun e => s.ownsSlot e.1)).map (fun e => .slot e.1 e.2)
    ++ (List.range 4096).map (fun n => .force n (tget s.olc.forces none n))
    ++ (List.range 24).map (fun n => .island n (s.isl n).code (s.isl n).qual)
    ++ [.drivers (s.rn R.DO_STATE), .seq s.rep.seq]

/-- The fields of SCN_STATUS that the transfer carries: all but PAIR_OK, which is the module's own. -/
def State.takeScnStatus (s : State) (v : Nat) : State :=
  s.wn R.SCN_STATUS (setBits v 8 4 (bits (s.rn R.SCN_STATUS) 8 4))

/-- The joining module's own clock at the PTP time of a release. -/
def State.upOf (s : State) (release : Nat) : Nat := s.clk.upNs - (s.ptpNs - release)

/-- One transferred item taken (R334). -/
def State.takeItem (s : State) (x : XferItem) : State :=
  match x with
  | .bytes base l => s.putInst 0 base l
  | .reg a v =>
    if a = R.SCN_STATUS then s.takeScnStatus v.toNat
    else if s.taskEnts.any (fun t => (taskRegs t.task).contains a) then s.wr a v else s
  | .task n r => s.setTask n { r with
      relUp := r.relUp.map (fun _ => s.upOf r.release), slotUp := r.slotUp.map (fun _ => s.upOf r.release) }
  | .loop k x => { s with le := { s.le with slot := tset s.le.slot none k (x.map (fun (y : LoopSlot) => { y with numNs := none })) } }
  | .write e w => s.setLeWr (e % 4) w
  | .mem k m => (s.setMem k m)
  | .slot i x => if s.ownsSlot i then s.store i x else s
  | .force n f => { s with olc := { s.olc with forces := tset s.olc.forces none n f } }
  | .breaks l c => { s with scn := { s.scn with breaks := l, byCmd := c } }
  | .island n c q => s.setIsl n { s.isl n with code := c, qual := q }
  | .drivers on => s.wn R.DO_STATE on
  | .seq n => { s with dpx := { s.dpx with seqReport := some n } }

/-- A joining module discards its own values of the items (R334). -/
def State.xferClear (s : State) : State :=
  let keep := s.pix.slots.filter (fun e => !s.ownsSlot e.1)
  { s with
    scn := { s.scn with inst := [], task := [], breaks := [], stopping := none, trigs := [], held := [], ctl := [] }
    le := { s.le with slot := [], wr := [], mem := [] }
    olc := { s.olc with forces := [], stamps := [], change := none }
    pix := { s.pix with slots := keep, dirty := [] } }

/-- The checks have passed: the transfer begins, with its first pass at the motor (R333, R335). -/
def State.joinPass (s : State) (h : HelloMsg) : State :=
  let diff := s.cfgDiff h
  let s1 := s.wn R.DPX_CFG_DIFF diff
  let s2 := if diff = 0 then s1 else s1.raise evDPX 13
  let s3 := (s2.setPair 2 0).wn R.DPX_XFER (min 65535 s2.xferKib * 2 ^ 16 + 1 * 2 ^ 8)
  if s3.isMotor then
    ({ s3 with dpx := { s3.dpx with waitFrom := some s3.clk.upNs, imageSent := false } }).tow (.xfer s3.xferItems s3.xferKib)
  else s3.xferClear

/-- The role decided by a HELLO of a partner that is in RESYNC too (R332): position A first. -/
def State.helloRole (s : State) (h : HelloMsg) : State :=
  if s.phase = 4 ∧ h.inResync ∧ !s.grantOut ∧ s.g F.DPX_STATUS_GRANT_IN = 0 ∧ s.g F.DPX_STATUS_ALIVE_OK = 1
      ∧ s.pairState = 0 then
    if s.posB then s.setPair 1 0 else s.becomeMotor 7 0
  else s

/-- HELLO (R332, R333): the pairing checks. -/
def execHello (h : HelloMsg) (s : State) : Host.Outcome State Fault Refusal :=
  .next (if !s.hasPartner then s
    else
      let s1 := s.helloRole h
      let motor := s1.grantOut
      if s1.pairState = 2 ∨ s1.pairState = 3 ∨ (!motor ∧ s1.pairState ≠ 1) then s1
      else
        let s2 := if motor then (s1.setPair 1 0).tow (.hello s1.hello) else s1
        match s2.joinCheck h true with
        | 0 =>
          if h.digest ≠ s2.img.digest then
            if motor && !s2.dpx.imageSent && s2.scn.img.isSome then
              ({ s2 with dpx := { s2.dpx with imageSent := true } }).tow (.image (if s2.scn.curBank then s2.scn.bank1 else s2.scn.bank0))
            else if motor || h.digest.isEmpty then
              ({ s2 with dpx := { s2.dpx with imageSent := false } }).refuseJoin 4
            else s2
          else match s2.joinCheck h false with
            | 0 => s2.joinPass h
            | n => s2.refuseJoin n
        | n => s2.refuseJoin n)

/-- XFER (R334, R335): a part of the motor's state, with the KiB still to copy after it. With nothing left the module
executes in step from the next release. -/
def execXfer (items : List XferItem) (kib : Nat) (s : State) : Host.Outcome State Fault Refusal :=
  .next (if s.pairState = 2 ∧ s.isButty then
      let s1 := (items.foldl (fun t x => t.takeItem x) s).p F.DPX_XFER_KIB_LEFT (min 65535 kib)
      if kib = 0 then s1.setPair 3 0 else s1
    else s)

/-- XFER_GAP (R335): no more than 256 KiB remain and the motor finds a gap. -/
def execXferGap (kib : Fin 257) (s : State) : Host.Outcome State Fault Refusal :=
  .next (if s.pairState = 2 ∧ s.isMotor ∧ s.gapNow (20000 + 500 * kib.val) then
      let s1 := s.tow (.xfer s.xferItems 0)
      let s2 := { s1 with dpx := { s1.dpx with waitFrom := none } }
      (s2.p F.DPX_XFER_KIB_LEFT 0).setPair 3 0
    else s)

/-- JOIN_WAIT_EXPIRE (R335): no gap within JOIN_WAIT_MS. -/
def execJoinWaitExpire (s : State) : Host.Outcome State Fault Refusal :=
  .next (match s.dpx.waitFrom with
    | some t =>
      if s.pairState = 2 ∧ s.isMotor then
        let s1 := s.advanceToUp (t + clampN 10 10000 (s.g F.DPX_CTL_JOIN_WAIT_MS) * 1000000)
        let n := s1.g F.DPX_XFER_WAITS + 1
        let s2 := s1.p F.DPX_XFER_WAITS (min 3 n)
        if 3 ≤ n then ({ s2 with dpx := { s2.dpx with waitFrom := none } }).refuseJoin 8
        else
          ({ s2 with dpx := { s2.dpx with waitFrom := some s2.clk.upNs } }).incHold F.DPX_XFER_PASSES
            |>.tow (.xfer s2.xferItems s2.xferKib)
      else s
    | none => s)

/-- PARTNER_PRESENT_CHANGE (R332, R336, R468): DPX_PRESENT_N as it now stands. A butty whose partner is withdrawn stays butty
until it judges the partner's ALIVE (R325). -/
def execPartnerPresentChange (present : Bool) (s : State) : Host.Outcome State Fault Refusal :=
  .next (
    let motor := s.isMotor
    let s1 := s.p F.MOD_STRAP_PARTNER_PRESENT (b2n present)
    let s2 := { s1 with dpx := { s1.dpx with alone := motor && !present } }
    if s.hasPartner && !present && motor then (s2.raise evDPX 2).setPair 0 0 else s2)

/-- TOTALS_ACK_TIMEOUT (R301): no acknowledgement of a shipment within 1 ms of its block's end. -/
def execTotalsAckTimeout (s : State) : Host.Outcome State Fault Refusal :=
  .next (match s.mtr.held with
    | some (t, idle) =>
      let s1 := (s.advanceToPtp (t + 1000000)).mtrComplete t idle
      if s1.synced then s1.setPair 4 6 else s1
    | none => s)

end Sys2Proof.Machine
end

