-- ==== Sys2Proof/Machine/Fwu.lean ====
section
/-! DEFINITION. Firmware update: staging, activation, the pair's sequence, migration and confirmation (chapter 20). -/

namespace Sys2Proof.Machine

/-! ## Digests (R427) -/

/-- IMAGE_DIGEST. -/
def FwBank.digest (b : FwBank) : List Byte := sha3_512 (b.head ++ b.tab)

/-- The part digest of the running part `p`. -/
def State.partDigest (s : State) (p : Nat) : List Byte :=
  let x := s.runPart p
  sha3_512 (((s.fwBank (s.partBank p)).tab.drop (64 * x.first)).take (64 * x.count))

/-- FW_DIGEST. -/
def State.fwDigest (s : State) : List Byte := sha3_512 ((List.range 5).flatMap (fun p => s.partDigest p))

/-- SECURITY_VERSION of a header. -/
def fwSecurity (h : List Byte) : Nat := fwNum h 8 4

/-! ## Staging (R428 to R430) -/

/-- CLASS of a part (R423). -/
def partClass (p : Nat) : Nat := if p = 3 then 1 else 0

def zeroAt (l : List Byte) (k n : Nat) : Bool := ((l.drop k).take n).all (fun b => b == 0#8)

/-- The form of a header (R425, R426). -/
def headerOk (h : List Byte) : Bool :=
  let n := fwBlocks h
  fwNum h 0 4 == 0x57465943 && fwNum h 4 2 == 1 && Nat.ble 5 n && Nat.ble n 511 && fwNum h 12 4 == 0x880
    && zeroAt h 24 8 && zeroAt h 352 160
    && (List.range 5).all (fun p =>
      let x := fwPart h p
      let before := (List.range p).foldl (fun a q => a + (fwPart h q).count) 0
      fwNum h (32 + 64 * p) 1 == p && x.cls == partClass p && x.first == before && Nat.ble 1 x.count
        && zeroAt h (32 + 64 * p + 12) 4 && zeroAt h (32 + 64 * p + 48) 16)
    && (List.range 5).foldl (fun a q => a + (fwPart h q).count) 0 == n

/-- The hallmark of a bank verifies (R427). -/
def FwBank.verified (b : FwBank) : Bool :=
  b.factory || Config.mldsaVerify firmwareKey (b.header ++ b.table) (ascii "CYNUTU-FIRMWARE") b.hallmark

/-- Block `k` matches its entry of the table. -/
def FwBank.blockOk (b : FwBank) (k : Nat) (data : List Byte) : Bool :=
  sha3_512 data == (b.table.drop (64 * k)).take 64

/-- The bank of an FW_BLOCK (R428, R440). -/
def State.blockBank (s : State) (e : SubEntry) : Option Nat :=
  if s.fwu.recovery then some (if e.arg0 = 0 then e.arg1 else s.fwu.lastBank) else s.stageBank

/-- STATE with no activation armed. -/
def State.fwuShow (s : State) : State :=
  if s.fwu.recovery then s.p F.FWU_STATUS_STATE 7
  else if s.fwu.armed.isSome then s
  else s.p F.FWU_STATUS_STATE s.fwuRest

/-- An operation completes with a result that a status other than SUCCESS and REFUSED carries too (R429). -/
def State.finishReason (s : State) (r : OpRef) (status result : Nat) : State :=
  match s.opRunning r with
  | some o => s.finish r (o.comp status result)
  | none => s

/-- An item refused (R429, R441); `bank`: the bank whose accepted blocks RESULT counts. -/
def State.itemRefused (s : State) (r : OpRef) (o : Op) (bank : Option Nat) (reason : Nat) : State :=
  let n := (bank.map (fun b => (s.fwBank b).received)).getD 0
  let s1 := (s.raise evFWU 1).wn R.FWU_LAST (0x40 * 2 ^ 8 + reason)
  (s1.post 0x6102 36 0 o.entry.arg0 reason (callerOf r o)).finishReason r (if reason = 4 then 0x0A else 0x0B)
    (reason + n * 2 ^ 16)

/-- An FW_BLOCK whose ARG0 satisfies `sel`, taken up: BUSY while an activation is armed; NO_BANK without a bank; the length
of R428; then the buffer, and `f` of the bank and the data. -/
def State.fwBlock (s : State) (r : OpRef) (b : HostBuf) (sel : Nat → Bool) (len : FwBank → Nat)
    (f : Op → Nat → List Byte → State → State) : State :=
  s.withOp r 0x40 (fun e => sel e.arg0) (fun o t =>
    if t.fwu.armed.isSome then t.finishWith r 0x0C 0
    else match t.blockBank o.entry with
      | none => t.itemRefused r o none 7
      | some k =>
        if o.entry.bufLen ≠ len (t.fwBank k) then
          let t1 := if o.entry.arg0 = 0 ∨ o.entry.arg0 = 2 then (t.setFwBank k {}).fwuShow else t
          t1.itemRefused r o (some k) 3
        else match readStatus o.entry b with
          | 0 => f o k (b.data.take o.entry.bufLen) t
          | st => t.finishWith r st 0)

/-- An item accepted: RESULT counts the blocks. -/
def State.itemTaken (s : State) (r : OpRef) (k : Nat) : State :=
  s.fwuShow.finishWith r 0 ((s.fwBank k).received * 2 ^ 16)

/-- FW_BLOCK_HEADER (R428): a new staging starts and discards what the bank held. -/
def execFwBlockHeader (r : OpRef) (b : HostBuf) (mramOk : Bool) (s : State) : Host.Outcome State Fault Refusal :=
  .next (s.fwBlock r b (fun a => a == 0) (fun _ => 512) (fun o k h t =>
    let t0 := (t.setFwBank k {}).fwuShow
    if !headerOk h then t0.itemRefused r o (some k) 2
    else if fwSecurity h < t.rn R.FWU_FLOOR then t0.itemRefused r o (some k) 6
    else if !mramOk then t0.itemRefused r o (some k) 15
    else
      let t1 := t0.setFwBank k { header := h }
      let t2 := { t1 with fwu := { t1.fwu with lastBank := k } }
      (t2.post 0x6101 36 0 k (fwBlocks h) (fwSecurity h) (callerOf r o)).itemTaken r k))

/-- FW_BLOCK_TABLE (R428): the block table follows the header. -/
def execFwBlockTable (r : OpRef) (b : HostBuf) (mramOk : Bool) (s : State) : Host.Outcome State Fault Refusal :=
  .next (s.fwBlock r b (fun a => a == 1) (fun x => 64 * fwBlocks x.head) (fun o k l t =>
    let x := t.fwBank k
    if x.head.isEmpty || !x.tab.isEmpty then t.itemRefused r o (some k) 1
    else if !mramOk then t.itemRefused r o (some k) 15
    else (t.setFwBank k { x with table := l }).itemTaken r k))

/-- FW_BLOCK_HALLMARK (R428): the hallmark follows the table and is verified at once. -/
def execFwBlockHallmark (r : OpRef) (b : HostBuf) (mramOk : Bool) (s : State) : Host.Outcome State Fault Refusal :=
  .next (s.fwBlock r b (fun a => a == 2) (fun _ => 4627) (fun o k l t =>
    let x := { t.fwBank k with hallmark := l, hallOk := true }
    let t0 := (t.setFwBank k {}).fwuShow
    if x.factory || x.table.isEmpty || (t.fwBank k).hallOk then t0.itemRefused r o (some k) 1
    else if !x.verified then t0.itemRefused r o (some k) 4
    else if !mramOk then t0.itemRefused r o (some k) 15
    else (t.setFwBank k x).itemTaken r k))

/-- FW_BLOCK_DATA (R428): a block is hashed and stored where it matches; with the last one the image is STAGED. -/
def execFwBlockData (r : OpRef) (b : HostBuf) (mramOk : Bool) (s : State) : Host.Outcome State Fault Refusal :=
  .next (s.fwBlock r b (fun a => Nat.ble 256 a) (fun _ => 65536) (fun o k l t =>
    let x := t.fwBank k
    let n := o.entry.arg0 - 256
    if !x.hallOk || x.factory || Nat.ble (fwBlocks x.header) n then t.itemRefused r o (some k) 1
    else if !x.blockOk n l then t.itemRefused r o (some k) 5
    else if !mramOk then t.itemRefused r o (some k) 15
    else
      let y := { x with blocks := tset x.blocks none n (some l) }
      let t1 := t.setFwBank k y
      let t2 := if y.complete && !x.complete then
          (t1.raise evFWU 0).post 0x6103 36 0 k (leNat (y.digest.take 4)) (fwSecurity y.header)
        else t1
      t2.itemTaken r k))

/-! ## Checks of an activation (R431, R432) -/

/-- Every interface that a part of the combination requires is provided (R431). -/
def compatible (l : List FwPart) : Bool :=
  l.all (fun x => x.requires.all (fun q =>
    l.any (fun y => y.provides.any (fun v => v.1 == q.1 && v.2.1 == q.2.1 && Nat.ble q.2.2 v.2.2))))

/-- The combination with the map `banks`. -/
def State.partsOf (s : State) (banks : Nat) : List FwPart :=
  (List.range 5).map (fun p => fwPart (s.fwBank (bits banks p 1)).head p)

/-- The parts of a mask. -/
def maskParts (mask : Nat) : List Nat := (List.range 5).filter (fun p => natBit mask p)

/-- The format of part `p`'s current settings records (R439): until a migration that of the factory image. -/
def State.storedFormat (s : State) (p : Nat) : Nat :=
  (tget s.fwu.stored none p).getD (fwPart ({ factory := true } : FwBank).head p).format

/-- The settings of part `p` can follow to format `f` (R439). -/
def State.formatOk (s : State) (p f : Nat) : Bool :=
  let now := s.storedFormat p
  let kept := tget s.fwu.kept none p
  if f = now then true
  else match kept with
    | some k => k.format == f
    | none => Nat.ble now f

/-- Two parts provide the same interfaces with the same MAJORs. -/
def sameProvides (a b : FwPart) : Bool :=
  let f := fun (x : FwPart) => x.provides.map (fun e => (e.1, e.2.1))
  (f a).all (fun e => (f b).contains e) && (f b).all (fun e => (f a).contains e)

/-- Checks 2 to 6 of R432 for the parts of `mask` and the map `banks`: the reason of the first that fails. -/
def State.activateChecks (s : State) (mask banks : Nat) : Option Nat :=
  let used := (maskParts mask).map (fun p => bits banks p 1)
  let target := [0, 1].filter (fun k => used.contains k)
  if target.any (fun k => !(s.fwBank k).complete) then some 8
  else if target.any (fun k => decide (fwSecurity (s.fwBank k).head < s.rn R.FWU_FLOOR)) then some 6
  else if !compatible (s.partsOf banks) then some 9
  else if (maskParts mask).any (fun p => !s.formatOk p (fwPart (s.fwBank (bits banks p 1)).head p).format) then some 14
  else if target.any (fun k => (s.fwBank k).blocks.any (fun e => match e.2 with
      | some d => !(s.fwBank k).blockOk e.1 d
      | none => false)) then some 5
  else if target.any (fun k => !(s.fwBank k).verified) then some 4
  else none

/-- The motor acts alone: without a partner, or with one that does not execute in step (R325, R332). -/
def State.actsAlone (s : State) : Bool := s.isMotor && (s.pairState == 0 || s.pairState == 4 || s.pairState == 5)

/-- Check 7 of R432 for an activation without COLD; `butty`: the butty holds the same image, verified again (R434). -/
def State.classReason (s : State) (mask banks arg2 : Nat) (butty : Bool) : Option Nat :=
  if mask = 8 then
    if s.g F.PTP_STATUS_VALID = 1 ∧ s.ptpNs + 100000000 ≤ arg2 then none else some 12
  else if (maskParts mask).any (fun p =>
      !sameProvides (s.runPart p) (fwPart (s.fwBank (bits banks p 1)).head p)) then some 11
  else if s.actsAlone then none
  else if s.isMotor && s.synced && s.dpx.xc.isNone && s.mode != 3 && butty then none
  else some 13

/-- Check 7 with COLD (R437). -/
def State.coldReason (s : State) : Option Nat :=
  if (if s.isMotor then s.mode == 0 else s.g F.DPX_STATUS_SWITCH_PENDING == 0) then none else some 11

/-- Check 1 of R432: the mask. In recovery it names all five parts (R440). -/
def State.maskOk (s : State) (mask : Nat) : Bool :=
  if s.fwu.recovery then mask == 31
  else Nat.blt 0 mask && Nat.blt mask 32 && (!natBit mask 3 || mask == 8)

/-- The map that an activation of `mask` would leave. -/
def State.mapAfter (s : State) (mask : Nat) : Nat :=
  if s.fwu.recovery then 31 * s.fwu.lastBank else s.partBanks ^^^ mask

/-- An FW_ACTIVATE refused (R429, R441). -/
def State.activateRefused (s : State) (r : OpRef) (o : Op) (reason : Nat) : State :=
  let s1 := (s.raise evFWU 4).wn R.FWU_LAST (o.entry.arg0 % 32 * 2 ^ 16 + 0x41 * 2 ^ 8 + reason)
  (s1.post 0x6106 36 0 o.entry.arg0 reason 0 (callerOf r o)).finishReason r (if reason = 4 then 0x0A else 0x0B) reason

/-- An FW_ACTIVATE taken up: BUSY while one is armed, then checks 1 to 6 of R432, `rules` for check 7, and `f` of the new
map. -/
def State.activate (s : State) (r : OpRef) (cold : Nat) (rules : Op → Nat → State → Option Nat)
    (f : Op → Nat → State → State) : State :=
  s.withOp r 0x41 (fun e => e.arg1 == cold) (fun o t =>
    let mask := o.entry.arg0
    if t.fwu.armed.isSome then t.finishWith r 0x0C 0
    else if !t.maskOk mask then t.activateRefused r o 10
    else
      let banks := t.mapAfter mask
      match (t.activateChecks mask banks).or (if t.fwu.recovery then none else rules o banks t) with
      | some reason => t.activateRefused r o reason
      | none =>
        f o banks (((t.wn64 R.FWU_ARM_TIME_LO o.entry.arg2).raise evFWU 2).post 0x6104 36 0 mask cold o.entry.arg2
          (callerOf r o)))

/-- Record 0x6105 and ACTIVATED: the activation of `mask` is done. -/
def State.activated (s : State) (mask : Nat) : State :=
  let s1 := ({ s with fwu := { s.fwu with armed := none } }).fwuShow
  (s1.post 0x6105 36 0 mask s1.partBanks (leNat (s1.fwDigest.take 4)) (b2n s1.isMotor)).raise evFWU 3

/-- A module reset ordered, for the cause at bit `c` of PCR_RST_CAUSE. -/
def State.orderReset (s : State) (c : Nat) : State := { s with pwr := { s.pwr with resetOrdered := some c } }

/-- The map written and a reset ordered (R437, R440). -/
def State.coldMove (s : State) (mask banks : Nat) : State :=
  ((s.putMap banks).activated mask).orderReset (if s.fwu.recovery then 5 else 2)

/-- FW_ACTIVATE (R432 to R436): the activation is checked and armed. `butty`: the partner has reported the same image,
verified again. In recovery it ends recovery (R440). -/
def execFwActivate (r : OpRef) (butty : Bool) (s : State) : Host.Outcome State Fault Refusal :=
  .next (s.activate r 0 (fun o banks t => t.classReason o.entry.arg0 banks o.entry.arg2 butty) (fun o banks t =>
    let mask := o.entry.arg0
    if t.fwu.recovery then (t.coldMove mask banks).finishWith r 0 (mask * 2 ^ 8)
    else
      let wait := if t.ptpNs < o.entry.arg2 then o.entry.arg2 - t.ptpNs else 0
      let stage : ArmStage := if mask = 8 then .net else if mask = 16 ∧ t.actsAlone then .islands 0 0 else .gap
      let a : Armed := ⟨mask, o.entry.arg2, callerOf r o, stage, t.clk.upNs + wait, mask != 8 && !t.actsAlone⟩
      (({ t with fwu := { t.fwu with armed := some a } }).p F.FWU_STATUS_STATE (if wait = 0 then 5 else 4)).finishWith r 0
        (mask * 2 ^ 8)))

/-- FW_ACTIVATE_COLD (R437): the map is written and a module reset follows. -/
def execFwActivateCold (r : OpRef) (s : State) : Host.Outcome State Fault Refusal :=
  .next (s.activate r 1 (fun _ _ t => t.coldReason) (fun o banks t =>
    (t.coldMove o.entry.arg0 banks).finishWith r 0 (o.entry.arg0 * 2 ^ 8)))

/-! ## Hand-over (R433 to R436, R439) -/

/-- Part `p` owns the settings group of the register at `a` (R423). -/
def partOwns (p a : Nat) : Bool :=
  match blockAt a with
  | none => false
  | some b =>
    let d := b.desc
    match p with
    | 0 => d == 9 || d == 10 || d == 57 || d == 58 || d == 59
    | 1 => Nat.ble 11 d && Nat.ble d 14
    | 2 => d == 51 || d == 52
    | 3 => d == 8 || (Nat.ble 41 d && Nat.ble d 50) || (Nat.ble 53 d && Nat.ble d 56)
    | _ => Nat.ble 15 d && Nat.ble d 40

/-- The settings records of part `p`'s groups as they stand. The records beside those of registers are all of the network
part's groups. -/
def State.partRecords (s : State) (p format : Nat) : KeptRecs :=
  ⟨format, s.settings.filter (fun e => partOwns p e.1), if p = 3 then s.set else {}⟩

/-- Part `p` uses its original records again (R439). -/
def State.useOriginals (s : State) (p : Nat) (k : KeptRecs) : State :=
  let own := fun (e : Nat × Word) => partOwns p e.1
  { s with
    settings := k.regs.foldl (fun (t : Tbl Word) e => tins e.1 e.2 t) (s.settings.filter (fun e => !own e))
    set := if p = 3 then k.set else s.set }

/-- The settings records of the parts of `mask` brought to the format of the code that now runs (R439): migrated beside the
originals, with the same settings, or the originals again. -/
def State.migrate (s : State) (mask : Nat) : State :=
  (maskParts mask).foldl (fun t p =>
    let new := (t.runPart p).format
    let old := t.storedFormat p
    if new = old then t
    else
      let t1 := { t with fwu := { t.fwu with stored := tset t.fwu.stored none p (some new) } }
      let keep := fun (k : Option KeptRecs) => { t1 with fwu := { t1.fwu with kept := tset t1.fwu.kept none p k } }
      match tget t.fwu.kept none p with
      | some k =>
        if k.format = new then (keep none).useOriginals p k else ((keep (some (t.partRecords p old))).post 0x6109 36 0 p old new).raise evFWU 6
      | none => ((keep (some (t.partRecords p old))).post 0x6109 36 0 p old new).raise evFWU 6) s

/-- The parts of `mask` move: the map is written once and their settings follow. -/
def State.moveParts (s : State) (mask : Nat) : State := (s.putMap (s.partBanks ^^^ mask)).migrate mask

/-- What follows the hand-over of every part of an activation, `k` as in ArmStage: its outcome, the soak, or the end of
the way back. -/
def State.handedOver (s : State) (a : Armed) (k : Nat) : State :=
  match k with
  | 0 => s.activated a.mask
  | 1 => ({ s with fwu := { s.fwu with armed := some { a with stage := .soak, since := s.clk.upNs } } }).p F.FWU_STATUS_STATE 6
  | _ => ({ s with fwu := { s.fwu with armed := none } }).fwuShow

/-- The hand-over in a gap: SCAN, LOOP and MTR move at once, and the islands follow one by one. -/
def State.handOver (s : State) (a : Armed) (k : Nat) (migrated : Bool) : State :=
  if !migrated then s.fwuAbandon a 14 a.stage.code 0 |>.fwuShow
  else
    let s1 := s.moveParts (a.mask % 16)
    if natBit a.mask 4 then
      { s1 with fwu := { s1.fwu with armed := some { a with stage := .islands 0 k, since := s1.clk.upNs } } }
    else s1.handedOver a k

/-- The hand-over time D in ns (R433); MTR and ISL alone need no gap. -/
def handOverNs (mask : Nat) : Nat := if natBit mask 0 then 60000 else if natBit mask 1 then 30000 else 0

/-- The gap of the hand-over is there. -/
def State.fwGap (s : State) (mask : Nat) : Bool := mask % 4 == 0 || s.gapNow (handOverNs mask)

/-- FW_ACTIVATE_GAP (R433 to R435): a gap is found and the engines move. In the sequence of a pair it is the gap of the
butty, whose parts are `mask` as the motor has named them, or at the motor the partner's report of its own gap.
`migrated`: settings that had to be migrated were. -/
def execFwActivateGap (mask : Fin 32) (migrated : Bool) (s : State) : Host.Outcome State Fault Refusal :=
  .next (match s.fwu.armed with
    | some a =>
      let s1 := s.advanceToPtp a.arg2
      match a.stage with
      | .gap =>
        if a.pair && s1.isMotor then s1.handedOver a 1
        else if s1.fwGap a.mask then s1.handOver a (b2n a.pair) migrated else s
      | .former =>
        if s1.isMotor then s1.activated a.mask
        else if s1.fwGap a.mask then s1.handOver a 0 migrated else s
      | .back => if s1.fwGap a.mask then s1.handOver a 2 migrated else s
      | _ => s
    | none =>
      if s.isButty && s.synced && mask.val != 0 && !natBit mask.val 3 && s.fwGap mask
          && (s.activateChecks mask (s.mapAfter mask)).isNone then
        s.handOver ⟨mask, 0, 512, .gap, s.clk.upNs, true⟩ 1 migrated
      else s)

/-- FW_GAP_WAIT_EXPIRE (R433): no gap within GAP_WAIT_MS of the start of the search. -/
def execFwGapWaitExpire (s : State) : Host.Outcome State Fault Refusal :=
  .next (match s.fwu.armed with
    | some a =>
      if a.stage == .gap || a.stage == .former then
        let s1 := s.advanceToUp (a.since + clampN 10 10000 (s.g F.FWU_CTL_GAP_WAIT_MS) * 1000000)
        (s1.fwuAbandon a 11 (if a.stage == .former then 4 else b2n a.pair) 0).fwuShow
      else s
    | none => s)

/-- ISL_ISLAND_SWITCH (R433): the next island moves, 10 ms after the one before; with the last the map bit changes. -/
def execIslIslandSwitch (migrated : Bool) (s : State) : Host.Outcome State Fault Refusal :=
  .next (match s.fwu.armed with
    | some a =>
      match a.stage with
      | .islands n k =>
        let s1 := if n = 0 then s.advanceToUp a.since else s.advanceToUp (a.since + 10000000)
        if n + 1 < 24 then
          { s1 with fwu := { s1.fwu with armed := some { a with stage := .islands (n + 1) k, since := s1.clk.upNs } } }
        else if !migrated then (s1.fwuAbandon a 14 1 0).fwuShow
        else (s1.moveParts 16).handedOver a k
      | _ => s
    | none => s)

/-- SOAK_END (R434): the soak has passed; the motor names the first 1 ms boundary at least 1 ms later for the switch. -/
def execSoakEnd (s : State) : Host.Outcome State Fault Refusal :=
  .next (match s.fwu.armed with
    | some a =>
      if a.stage == .soak && s.synced then
        let s1 := s.advanceToUp (a.since + max 1 (s.g F.FWU_CTL_SOAK_S) * 1000000000)
        let s2 := { s1 with fwu := { s1.fwu with armed := some { a with stage := .switch, since := s1.clk.upNs } } }
        if s2.isMotor then
          let t := (s2.ptpNs + 1999999) / 1000000 * 1000000
          (({ s2 with dpx := { s2.dpx with switchAt := some t } }).p F.DPX_STATUS_SWITCH_PENDING 1).tow (.switchAt t)
        else s2
      else s
    | none => s)

/-- FW_NET_SWITCH (R436): at the PTP time of ARG2 the network cores move. -/
def execFwNetSwitch (migrated : Bool) (s : State) : Host.Outcome State Fault Refusal :=
  .next (match s.fwu.armed with
    | some a =>
      if a.stage == .net then
        let s1 := s.advanceToPtp a.arg2
        if migrated then (s1.moveParts 8).activated a.mask else (s1.fwuAbandon a 14 0 0).fwuShow
      else s
    | none => s)

/-! ## FWU_CMD (R435, R439, R442) -/

/-- UNCONFIRMED: the parts whose original records are kept. -/
def State.unconfirmed (s : State) : Nat :=
  (List.range 5).foldl (fun m p => m + b2n (tget s.fwu.kept none p).isSome * 2 ^ p) 0

/-- CONFIRM by port `p`. -/
def State.fwuConfirm (s : State) (p : Nat) : State :=
  let mask := s.unconfirmed
  let s1 := { s with fwu := { s.fwu with kept := [] } }
  let s2 := if s1.stageBank.isSome then
      s1.wn R.FWU_FLOOR (max (s1.rn R.FWU_FLOOR) (fwSecurity (s1.fwBank (s1.partBank 0)).head))
    else s1
  (s2.post 0x610A 36 0 mask (s2.rn R.FWU_FLOOR) (256 * p)).raise evFWU 7

/-- CANCEL: an activation is disarmed, or the sequence of a pair is abandoned. The reason that record 0x6106 gives of an
activation disarmed is not stated: a free value. -/
def State.fwuCancel (s : State) : State :=
  match s.fwu.armed with
  | some a =>
    if a.pair then s.pairBreak
    else match a.stage with
      | .islands _ _ => s
      | _ => (s.freshen.fwuAbandon a (s.fresh % 256) 0 0).fwuShow
  | none => s

/-- ABANDON_STAGING: the staging bank is emptied. -/
def State.fwuAbandonStaging (s : State) : State :=
  if s.fwu.armed.isSome then s
  else match (if s.fwu.recovery then some s.fwu.lastBank else s.stageBank) with
    | some k => (s.setFwBank k {}).fwuShow
    | none => s

/-- FWU_CMD with ACTION `action` by port `p` (R442). -/
def State.fwuCmdWrite (s : State) (p action : Nat) : State :=
  match action with
  | 1 => s.fwuConfirm p
  | 2 => s.fwuCancel
  | 3 => s.fwuAbandonStaging
  | _ => s

/-- CONFIRM (R439): port `p` writes FWU_CMD with ACTION CONFIRM. -/
def execConfirm (p : Fin 2) (s : State) : Host.Outcome State Fault Refusal :=
  .next (if s.linkUp p then s.regWrite p R.FWU_CMD (fun t => t.fwuCmdWrite p 1) else s)

/-- CANCEL (R435): port `p` writes FWU_CMD with ACTION CANCEL. -/
def execCancel (p : Fin 2) (s : State) : Host.Outcome State Fault Refusal :=
  .next (if s.linkUp p then s.regWrite p R.FWU_CMD (fun t => t.fwuCmdWrite p 2) else s)

/-- ABANDON_STAGING (R442): port `p` writes FWU_CMD with ACTION ABANDON_STAGING. -/
def execAbandonStaging (p : Fin 2) (s : State) : Host.Outcome State Fault Refusal :=
  .next (if s.linkUp p then s.regWrite p R.FWU_CMD (fun t => t.fwuCmdWrite p 3) else s)

end Sys2Proof.Machine
end

