-- ==== Sys2Proof/Machine/Attest.lean ====
section
/-! DEFINITION. Attestation (R420). -/

namespace Sys2Proof.Machine

/-- The signed bytes of a report with the nonce `nonce`. -/
def State.report2864 (s : State) (nonce : List Byte) : List Byte :=
  let flags := b2n s.sec.debug + 2 * b2n s.isMotor + 4 * b2n (!s.part.opKey.isEmpty) + 8 * b2n s.fwu.recovery
    + 16 * s.g F.PTP_STATUS_VALID
  natLE 4 0x54415943 ++ natLE 2 1 ++ natLE 1 flags ++ [0#8] ++ nonce ++ natLE 8 (s.ptpNs % 2 ^ 64)
    ++ natLE 4 (s.rn R.REP_NODE) ++ natLE 4 (s.rn R.REP_BUILDING) ++ natLE 8 (s.rn64 R.MOD_SERIAL_LO)
    ++ s.fwDigest ++ (s.scn.img.map (fun m => m.digest)).getD (List.replicate 64 0#8)
    ++ s.opDigest ++ List.replicate 16 0#8 ++ s.idKey

/-- ATTEST (R420): the report, signed with the identity key in hedged ML-DSA-87. -/
def execAttest (r : OpRef) (b : HostBuf) (s : State) : Host.Outcome State Fault Refusal :=
  .next (s.withOp r 0x49 (fun _ => true) (fun o t =>
    if !t.sec.rootOk then t.finishWith r 0x0B 10
    else
      let m := t.report2864 (o.entry.arg3.take 32)
      let sig := (List.range 4627).map (Config.mldsaSignByte t.idSeed m (ascii "CYNUTU-ATTEST") t.fresh)
      match writeStatus o.entry b with
      | 0 => (t.freshen.hostPut r.port o.entry b (m ++ sig)).finishWith r 0 7491
      | st => t.freshen.finishWith r st 0))

end Sys2Proof.Machine
end

