-- ==== Sys2Proof/Machine/Bkd.lean ====
section
/-! DEFINITION. The backup domain: the tick count, trim, alarm, wake, captures, backup bytes and continuity (chapter 17). -/

namespace Sys2Proof.Machine

/-- An event of the domain: it raises source 32 only in SERVICE (R393). -/
def State.bkdRaise (s : State) (b : Nat) : State :=
  let s1 := s.setBit R.BKD_EVENT b true
  if s.inService then s1.edgeFrom 32 (s.line 32) else s1

/-- The module comes to SERVICE: an unmasked event held until then raises source 32 (R393). -/
def State.bkdService (s : State) : State := if s.line 32 then s.edge 32 else s

/-- A 48-bit value of the registers `a` and `a + 4`. -/
def State.rn48 (s : State) (a : Nat) : Nat := s.rn64 a % 2 ^ 48

/-- The count set to `n`. -/
def State.setTick (s : State) (n : Nat) : State := { s with clk := { s.clk with tick := n % 2 ^ 48 } }

/-- The next crystal edge passes; without a crystal there is none. -/
def State.nextTick (s : State) : State := s.advanceToTick ((s.clk.tick + 1) % 2 ^ 48)

/-! ## Trim (R389) -/

/-- TRIM as written. -/
def State.trimNow (s : State) : Int := toSigned 9 (s.g F.BKD_TRIM_TRIM)

/-- A window that begins at count `c`: it takes the TRIM written by then. -/
def State.trimWindow (s : State) (c : Nat) : State :=
  { s with bkd := { s.bkd with win := c, trim := s.trimNow, pulse := 0 } }

/-- The window in force brought up to the count. -/
def State.trimSettle (s : State) : State :=
  if s.clk.tick / 2 ^ 22 = s.bkd.win / 2 ^ 22 then s else s.trimWindow (s.clk.tick / 2 ^ 22 * 2 ^ 22)

/-- A write of BKD_TRIM: clamped, and in force from the next window on. -/
def State.trimWrite (s : State) (v : Nat) : State :=
  s.trimSettle.p F.BKD_TRIM_TRIM (if v % 512 = 256 then 257 else v)

/-- The pulse that is due in the window in force: one more tick, or one less. -/
def State.trimAct (s : State) : State :=
  let b := s.bkd
  let s1 := (s.advanceToTick ((b.win + 16384 * b.pulse) % 2 ^ 48)).nextTick
  let t := s1.clk.tick
  let s2 := { s1 with
    bkd := { s1.bkd with pulse := b.pulse + 1 }
    clk := { s1.clk with wrapped := s1.clk.wrapped || (decide (0 < b.trim) && t + 1 == 2 ^ 48) } }
  s2.setTick (if b.trim < 0 then t + 2 ^ 48 - 1 else t + 1)

/-- TRIM_PULSE (R389): the next pulse of the window in force acts; after a window's last pulse, the first of the next. A
window that a SET_COUNT began ends at the next count whose bits 21:0 are zero. -/
def execTrimPulse (s : State) : Host.Outcome State Fault Refusal :=
  let s1 := s.trimSettle
  let b := s1.bkd
  if !s.clk.tickRun then .next s
  else if b.pulse < b.trim.natAbs ∧ (b.win + 16384 * b.pulse) / 2 ^ 22 = b.win / 2 ^ 22 then .next s1.trimAct
  else if s1.trimNow = 0 then .next s1
  else
    let c := (s1.clk.tick / 2 ^ 22 + 1) * 2 ^ 22 % 2 ^ 48
    .next ((s1.advanceToTick c).trimWindow c).trimAct

/-! ## Count (R387, R388, R390) -/

/-- BKD_WRAP (R387): the count passes from 2^48 − 1 to 0. -/
def execBkdWrap (s : State) : Host.Outcome State Fault Refusal :=
  let s1 := if s.clk.wrapped || !s.clk.tickRun then s
    else s.advance (((2 ^ 48 - s.clk.tick) * 1000000000 - s.clk.tickAcc + (8 * 32768 - 1)) / (8 * 32768))
  .next (if s1.clk.wrapped then ({ s1 with clk := { s1.clk with wrapped := false } }).bkdRaise 2 else s1)

/-- NEXT set to the count + 128 × PERIOD (R391). -/
def State.wakeBase (s : State) : State :=
  { s with bkd := { s.bkd with next := (s.clk.tick + 128 * s.g F.BKD_WAKE_PERIOD) % 2 ^ 48 } }

/-- The alarm fires where it is armed, has not fired, and the count is at or past it (R392). -/
def State.alarmCheck (s : State) : State :=
  if s.g F.BKD_STATUS_ARMED == 1 && s.g F.BKD_STATUS_FIRED == 0 && Nat.ble s.bkd.alarm s.clk.tick then
    (s.p F.BKD_STATUS_FIRED 1).bkdRaise 0
  else s

/-- BKD_CMD SET_COUNT: the value waits for the next edge. -/
def State.bkdSetCount (s : State) : State :=
  { s with bkd := { s.bkd with setTo := some (s.rn48 R.BKD_SET_LO) } }

/-- SET_COUNT (R388): port `p` writes BKD_CMD with ACTION SET_COUNT. -/
def execSetCount (p : Fin 2) (s : State) : Host.Outcome State Fault Refusal :=
  .next (if s.linkUp p then s.regWrite p R.BKD_CMD (fun t => t.bkdSetCount) else s)

/-- SET_COUNT_LOAD (R388, R389, R391, R392): at the next edge the count is loaded in place of the increment; the window and
the wake start again there, and an alarm that the step carries past fires with STEPPED. -/
def execSetCountLoad (s : State) : Host.Outcome State Fault Refusal :=
  match s.bkd.setTo with
  | none => .next s
  | some v =>
    if !s.clk.tickRun then .next s
    else
      let s1 := { s.nextTick.setTick v with clk := { (s.nextTick.setTick v).clk with wrapped := s.clk.wrapped } }
      let s2 := ({ s1 with bkd := { s1.bkd with setTo := none } }).trimWindow v
      let s3 := if s2.g F.BKD_WAKE_PERIOD = 0 then s2 else s2.wakeBase
      let passed := s3.g F.BKD_STATUS_ARMED == 1 && s3.g F.BKD_STATUS_FIRED == 0
        && Nat.blt s.clk.tick s3.bkd.alarm && Nat.ble s3.bkd.alarm v
      .next ((if passed then s3.p F.BKD_STATUS_STEPPED 1 else s3).alarmCheck)

/-- BKD_CMD CAPTURE: CAP_DONE falls and a capture waits for the next edge. -/
def State.bkdCapture (s : State) : State :=
  ({ s with bkd := { s.bkd with capture := true } }).p F.BKD_STATUS_CAP_DONE 0

/-- CAPTURE (R390): port `p` writes BKD_CMD with ACTION CAPTURE. -/
def execCapture (p : Fin 2) (s : State) : Host.Outcome State Fault Refusal :=
  .next (if s.linkUp p then s.regWrite p R.BKD_CMD (fun t => t.bkdCapture) else s)

/-- CAPTURE_LATCH (R390): at the next edge the count and the PTP time are latched. -/
def execCaptureLatch (s : State) : Host.Outcome State Fault Refusal :=
  if !s.bkd.capture || !s.clk.tickRun then .next s
  else
    let s1 := s.nextTick
    let s2 := ((({ s1 with bkd := { s1.bkd with capture := false } }).wn64 R.BKD_CAP_COUNT_LO s1.clk.tick).wn64
      R.BKD_CAP_PTP_LO (s1.ptpNs % 2 ^ 64))
    .next ((s2.p F.BKD_STATUS_CAP_DONE 1).p F.BKD_STATUS_CAP_PTP_VALID (s1.g F.PTP_STATUS_VALID))

/-! ## Alarm and wake (R391, R392) -/

/-- BKD_ALARM (R392): the count reaches the armed alarm, and it fires. -/
def execBkdAlarm (s : State) : Host.Outcome State Fault Refusal :=
  let armed := s.g F.BKD_STATUS_ARMED == 1 && s.g F.BKD_STATUS_FIRED == 0
  .next (if armed then
    (if s.clk.tick < s.bkd.alarm ∧ s.clk.tickRun then
      s.advance (((s.bkd.alarm - s.clk.tick) * 1000000000 - s.clk.tickAcc + (8 * 32768 - 1)) / (8 * 32768))
    else s).alarmCheck else s)

/-- BKD_CMD ARM: the alarm written is in force; one at or before the count fires at that edge. -/
def State.bkdArm (s : State) : State :=
  let s1 := { s with bkd := { s.bkd with alarm := s.rn48 R.BKD_ALARM_LO } }
  (((s1.p F.BKD_STATUS_ARMED 1).p F.BKD_STATUS_FIRED 0).p F.BKD_STATUS_STEPPED 0).alarmCheck

/-- BKD_ARM (R392): port `p` writes BKD_CMD with ACTION ARM. -/
def execBkdArm (p : Fin 2) (s : State) : Host.Outcome State Fault Refusal :=
  .next (if s.linkUp p then s.regWrite p R.BKD_CMD (fun t => t.bkdArm) else s)

/-- BKD_CMD DISARM. -/
def State.bkdDisarm (s : State) : State := s.p F.BKD_STATUS_ARMED 0

/-- DISARM (R392): port `p` writes BKD_CMD with ACTION DISARM. -/
def execDisarm (p : Fin 2) (s : State) : Host.Outcome State Fault Refusal :=
  .next (if s.linkUp p then s.regWrite p R.BKD_CMD (fun t => t.bkdDisarm) else s)

/-- The count is at or past NEXT (R391). -/
def State.wakeDue (s : State) : Bool := Nat.blt ((s.clk.tick + 2 ^ 48 - s.bkd.next) % 2 ^ 48) (2 ^ 47)

/-- BKD_WAKE (R391): the count reaches NEXT and the wake fires. -/
def execBkdWake (s : State) : Host.Outcome State Fault Refusal :=
  let period := s.g F.BKD_WAKE_PERIOD
  if period = 0 then .next s
  else
    let s1 := if s.wakeDue then s else s.advanceToTick s.bkd.next
    .next (if s1.wakeDue then
      ({ s1 with bkd := { s1.bkd with next := (s1.bkd.next + 128 * period) % 2 ^ 48 } }.inc R.BKD_WAKE_CNT).bkdRaise 1
    else s1)

/-- A write of BKD_WAKE: the period, clamped, and NEXT from the count on (R391). -/
def State.wakeWrite (s : State) (v : Nat) : State :=
  (s.p F.BKD_WAKE_PERIOD (min (v % 2 ^ 26) 33177600)).wakeBase

/-- BKD_WAKE_WRITE (R391): port `p` writes `v` to BKD_WAKE. -/
def execBkdWakeWrite (p : Fin 2) (v : Word) (s : State) : Host.Outcome State Fault Refusal :=
  .next (if s.linkUp p then s.regWrite p R.BKD_WAKE (fun t => t.wakeWrite v.toNat) else s)

/-! ## Backup bytes (R394) -/

/-- The 64 backup bytes. -/
def State.bkdBytes (s : State) : List Byte := (List.range 16).flatMap (fun k => natLE 4 (s.rn (R.BKD_BYTE k)))

/-- BKD_CRC made of the bytes. -/
def State.bkdSeal (s : State) : State := s.wn R.BKD_CRC (crc32c s.bkdBytes)

/-- A check of the bytes. -/
def State.bkdCheck (s : State) : State :=
  let ok := crc32c s.bkdBytes == s.rn R.BKD_CRC
  let s1 := (s.p F.BKD_STATUS_CRC_CHECKED 1).p F.BKD_STATUS_CRC_OK (b2n ok)
  if ok then s1 else s1.bkdRaise 3

/-- The bytes zeroed, with the CRC of zeros. -/
def State.bkdZero (s : State) : State :=
  (((List.range 16).foldl (fun t k => t.wn (R.BKD_BYTE k) 0) s).bkdSeal).p F.BKD_STATUS_CRC_OK 1

/-- CRC_CHECK (R394): port `p` writes BKD_CMD with ACTION CRC_CHECK. -/
def execCrcCheck (p : Fin 2) (s : State) : Host.Outcome State Fault Refusal :=
  .next (if s.linkUp p then s.regWrite p R.BKD_CMD (fun t => t.bkdCheck) else s)

/-- BKD_CMD ERASE with KEY `key`, by port `p`. -/
def State.bkdErase (s : State) (p key : Nat) : State :=
  if key = 0xB4CD then s.bkdZero else s.post 0x5007 32 0 key p

/-- ERASE (R394): port `p` writes BKD_CMD with ACTION ERASE and KEY `key`. -/
def execErase (p : Fin 2) (key : Fin 65536) (s : State) : Host.Outcome State Fault Refusal :=
  .next (if s.linkUp p then s.regWrite p R.BKD_CMD (fun t => t.bkdErase p key) else s)

/-- A write of backup bytes 4k to 4k + 3. -/
def State.bkdByteWrite (s : State) (k v : Nat) : State := (s.wn (R.BKD_BYTE k) v).bkdSeal

/-- BKD_BYTE_WRITE (R394): port `p` writes `v` to BKD_BYTEk. -/
def execBkdByteWrite (p : Fin 2) (k : Fin 16) (v : Word) (s : State) : Host.Outcome State Fault Refusal :=
  .next (if s.linkUp p then s.regWrite p (R.BKD_BYTE k) (fun t => t.bkdByteWrite k v.toNat) else s)

/-! ## Continuity (R395) -/

/-- BKD_CMD RESTORED. -/
def State.bkdRestored (s : State) : State :=
  (((s.p F.BKD_STATUS_TICK_CONTINUITY 1).p F.BKD_STATUS_DOMAIN_RESET 0).p F.BKD_STATUS_OSC_STOP 0).p
    F.BKD_STATUS_LOCKOUT_SEEN 0

/-- RESTORED (R395): port `p` writes BKD_CMD with ACTION RESTORED. -/
def execRestored (p : Fin 2) (s : State) : Host.Outcome State Fault Refusal :=
  .next (if s.linkUp p then s.regWrite p R.BKD_CMD (fun t => t.bkdRestored) else s)

/-- Continuity is lost. -/
def State.bkdLost (s : State) : State := (s.p F.BKD_STATUS_TICK_CONTINUITY 0).bkdRaise 4

/-- The crystal runs or stands. -/
def State.setTickRun (s : State) (on : Bool) : State := { s with clk := { s.clk with tickRun := on } }

/-- The count runs: neither lockout nor a stopped crystal holds it. -/
def State.tickSettle (s : State) : State := s.setTickRun (!s.bkd.lockout && !s.bkd.stopped)

/-- BKD_CMD with the value `v` by port `p` (R397): ACTION values other than 1 to 7 are ignored. -/
def State.bkdCmdWrite (s : State) (p v : Nat) : State :=
  match bits v 0 4 with
  | 1 => s.bkdSetCount
  | 2 => s.bkdArm
  | 3 => s.bkdDisarm
  | 4 => s.bkdCapture
  | 5 => s.bkdCheck
  | 6 => s.bkdRestored
  | 7 => s.bkdErase p (bits v 16 16)
  | _ => s

/-- BKD_SUPPLY_SWITCH (R383, R394): the domain comes to draw from VBAT, or from the main rail, where its bytes are checked.
`upsets`: bits of the bytes, as (byte, bit), that have changed on VBAT. -/
def execBkdSupplySwitch (vbat : Bool) (upsets : List (Nat × Nat)) (s : State) : Host.Outcome State Fault Refusal :=
  if s.g F.BKD_STATUS_SOURCE = b2n vbat then .next s
  else
    let s1 := s.p F.BKD_STATUS_SOURCE (b2n vbat)
    if vbat then .next s1
    else
      let flip := fun (t : State) (u : Nat × Nat) =>
        if u.1 < 64 ∧ u.2 < 8 then
          t.wn (R.BKD_BYTE (u.1 / 4)) (t.rn (R.BKD_BYTE (u.1 / 4)) ^^^ 2 ^ (8 * (u.1 % 4) + u.2))
        else t
      .next (upsets.foldl flip s1).bkdCheck

/-- LOCKOUT (R385, R395): counting freezes. -/
def execLockout (s : State) : Host.Outcome State Fault Refusal :=
  if s.bkd.lockout then .next s
  else .next ((({ s with bkd := { s.bkd with lockout := true } }).tickSettle.p F.BKD_STATUS_LOCKOUT_SEEN 1).bkdLost)

/-- LOCKOUT_EXIT (R385): counting resumes from the frozen count. -/
def execLockoutExit (s : State) : Host.Outcome State Fault Refusal :=
  .next (if s.bkd.lockout then ({ s with bkd := { s.bkd with lockout := false } }).tickSettle else s)

/-- The registers of the block but for BKD_STATUS and the bytes. -/
def bkdPlain : List Nat :=
  [R.BKD_EVENT, R.BKD_EVENT_EN, R.BKD_SET_LO, R.BKD_SET_HI, R.BKD_ALARM_LO, R.BKD_ALARM_HI, R.BKD_TRIM, R.BKD_WAKE,
   R.BKD_CAP_COUNT_LO, R.BKD_CAP_COUNT_HI, R.BKD_CAP_PTP_LO, R.BKD_CAP_PTP_HI, R.BKD_WAKE_CNT, R.BKD_VBAT]

/-- A backup-domain reset (R385, R394): every register at its Reset column, the count 0, the bytes zero and checked. -/
def State.bkdReset (s : State) : State :=
  let src := s.g F.BKD_STATUS_SOURCE
  let s1 := bkdPlain.foldl (fun t a => t.wr a (regReset a)) { s with bkd := {} }
  let s2 := (s1.wr R.BKD_STATUS (regReset R.BKD_STATUS)).p F.BKD_STATUS_SOURCE src
  (({ s2 with clk := { s2.clk with tick := 0, tickAcc := 0, wrapped := false } }.tickSettle).bkdZero).bkdCheck.bkdLost

/-- BACKUP_DOMAIN_RESET (R385): the supply returns after it fell below 1.2 V, or for the first time. -/
def execBackupDomainReset (s : State) : Host.Outcome State Fault Refusal := .next s.bkdReset

/-- OSC_STOP (R386, R395): no edge for 4 ms. -/
def execOscStop (s : State) : Host.Outcome State Fault Refusal :=
  if s.bkd.stopped then .next s
  else .next ((({ s with bkd := { s.bkd with stopped := true } }).tickSettle.p F.BKD_STATUS_OSC_STOP 1).bkdLost)

/-- TICK_CRYSTAL_RESTART (R386): counting resumes at the first edge. -/
def execTickCrystalRestart (s : State) : Host.Outcome State Fault Refusal :=
  .next (if s.bkd.stopped then ({ s with bkd := { s.bkd with stopped := false } }).tickSettle else s)

/-- BKD_VBAT_MEASURE (R397): VBAT is measured in units of 10 mV while the main rail supplies the domain. -/
def execBkdVbatMeasure (centivolts : Nat) (s : State) : Host.Outcome State Fault Refusal :=
  if s.g F.BKD_STATUS_SOURCE = 1 then .next s
  else
    let low := decide (centivolts < 200)
    let was := s.g F.BKD_STATUS_VBAT_LOW == 1
    let s1 := (s.p F.BKD_VBAT_VOLTS (min centivolts 65535)).p F.BKD_STATUS_VBAT_LOW (b2n low)
    .next (if low && !was then s1.bkdRaise 5 else s1)

end Sys2Proof.Machine
end

