-- ==== Sys2Proof/Machine/BlockRows.lean ====
section
/-! DEFINITION. The block-code rows: scan pair `k` executes the named instruction of the task that runs on it (R170). Fields
are those of the instruction word (R169); displacements and immediates are the field's bits. -/

namespace Sys2Proof.Machine

/-- NOP. -/
def execNopInstruction (k : Fin 4) (s : State) : Host.Outcome State Fault Refusal := .next (s.bc k (bcNop))
/-- BR. -/
def execBr (k : Fin 4) (disp : Fin 524288) (s : State) : Host.Outcome State Fault Refusal := .next (s.bc k (bcBr disp.val))
/-- BRT. -/
def execBrt (k : Fin 4) (a : Fin 64) (disp : Fin 524288) (s : State) : Host.Outcome State Fault Refusal := .next (s.bc k (bcBrt a.val disp.val))
/-- BRF. -/
def execBrf (k : Fin 4) (a : Fin 64) (disp : Fin 524288) (s : State) : Host.Outcome State Fault Refusal := .next (s.bc k (bcBrf a.val disp.val))
/-- CALL (R167). -/
def execCallFn (k : Fin 4) (a : Fin 64) (f : Fin 524288) (s : State) : Host.Outcome State Fault Refusal := .next (s.bc k (bcCall a.val f.val))
/-- RET (R167, R168). -/
def execRetFn (k : Fin 4) (s : State) : Host.Outcome State Fault Refusal := .next (s.bc k (bcRet))
/-- ASSERT (R178). -/
def execAssertReg (k : Fin 4) (a : Fin 64) (imm : Fin 524288) (s : State) : Host.Outcome State Fault Refusal := .next (s.bc k (bcAssert a.val imm.val))
/-- SYS (R171). -/
def execSysRead (k : Fin 4) (d : Fin 64) (imm : Fin 8) (s : State) : Host.Outcome State Fault Refusal := .next (s.bc k (bcSys d.val imm.val))
/-- MOV. -/
def execMovReg (k : Fin 4) (d a : Fin 64) (s : State) : Host.Outcome State Fault Refusal := .next (s.bc k (bcMov d.val a.val))
/-- LDI. -/
def execLdi (k : Fin 4) (d : Fin 64) (imm : Fin 524288) (s : State) : Host.Outcome State Fault Refusal := .next (s.bc k (bcLdi d.val imm.val))
/-- LDK. -/
def execLdk (k : Fin 4) (d : Fin 64) (imm : Fin 524288) (s : State) : Host.Outcome State Fault Refusal := .next (s.bc k (bcLdk d.val imm.val))
/-- SEL. -/
def execSel (k : Fin 4) (d a b c : Fin 64) (s : State) : Host.Outcome State Fault Refusal := .next (s.bc k (bcSel d.val a.val b.val c.val))
/-- LDB (R165). -/
def execLdb (k : Fin 4) (d a : Fin 64) (off : Fin 8192) (s : State) : Host.Outcome State Fault Refusal := .next (s.bc k (bcLdb d.val a.val off.val))
/-- LDW (R165). -/
def execLdw (k : Fin 4) (d a : Fin 64) (off : Fin 8192) (s : State) : Host.Outcome State Fault Refusal := .next (s.bc k (bcLdw d.val a.val off.val))
/-- LDWU (R165). -/
def execLdwu (k : Fin 4) (d a : Fin 64) (off : Fin 8192) (s : State) : Host.Outcome State Fault Refusal := .next (s.bc k (bcLdwu d.val a.val off.val))
/-- LDD (R165). -/
def execLdd (k : Fin 4) (d a : Fin 64) (off : Fin 8192) (s : State) : Host.Outcome State Fault Refusal := .next (s.bc k (bcLdd d.val a.val off.val))
/-- STB (R165, R196). -/
def execStb (k : Fin 4) (src a : Fin 64) (off : Fin 8192) (s : State) : Host.Outcome State Fault Refusal := .next (s.bc k (bcStb src.val a.val off.val))
/-- STW (R165, R196). -/
def execStw (k : Fin 4) (src a : Fin 64) (off : Fin 8192) (s : State) : Host.Outcome State Fault Refusal := .next (s.bc k (bcStw src.val a.val off.val))
/-- STD (R165, R196). -/
def execStd (k : Fin 4) (src a : Fin 64) (off : Fin 8192) (s : State) : Host.Outcome State Fault Refusal := .next (s.bc k (bcStd src.val a.val off.val))
/-- LDIN (R174). -/
def execLdin (k : Fin 4) (d : Fin 64) (i : Fin 4096) (s : State) : Host.Outcome State Fault Refusal := .next (s.bc k (bcLdin d.val i.val))
/-- LDIQ (R174). -/
def execLdiq (k : Fin 4) (d : Fin 64) (i : Fin 4096) (s : State) : Host.Outcome State Fault Refusal := .next (s.bc k (bcLdiq d.val i.val))
/-- LDIT (R174). -/
def execLdit (k : Fin 4) (d : Fin 64) (i : Fin 4096) (s : State) : Host.Outcome State Fault Refusal := .next (s.bc k (bcLdit d.val i.val))
/-- STOUT (R175). -/
def execStout (k : Fin 4) (src : Fin 64) (i : Fin 4096) (s : State) : Host.Outcome State Fault Refusal := .next (s.bc k (bcStout src.val i.val))
/-- STOQ (R175). -/
def execStoq (k : Fin 4) (src : Fin 64) (i : Fin 4096) (s : State) : Host.Outcome State Fault Refusal := .next (s.bc k (bcStoq src.val i.val))
/-- LDLP (R176). -/
def execLdlp (k : Fin 4) (d : Fin 64) (loc : Fin 256) (q : Fin 32) (s : State) : Host.Outcome State Fault Refusal := .next (s.bc k (bcLdlp d.val loc.val q.val))
/-- STLP (R176). -/
def execStlp (k : Fin 4) (src : Fin 64) (loc : Fin 256) (q : Fin 32) (s : State) : Host.Outcome State Fault Refusal := .next (s.bc k (bcStlp src.val loc.val q.val))
/-- ADD.D. -/
def execAddD (k : Fin 4) (d a b : Fin 64) (s : State) : Host.Outcome State Fault Refusal := .next (s.bc k (bcAddD d.val a.val b.val))
/-- SUB.D. -/
def execSubD (k : Fin 4) (d a b : Fin 64) (s : State) : Host.Outcome State Fault Refusal := .next (s.bc k (bcSubD d.val a.val b.val))
/-- MUL.D. -/
def execMulD (k : Fin 4) (d a b : Fin 64) (s : State) : Host.Outcome State Fault Refusal := .next (s.bc k (bcMulD d.val a.val b.val))
/-- DIV.D. -/
def execDivD (k : Fin 4) (d a b : Fin 64) (s : State) : Host.Outcome State Fault Refusal := .next (s.bc k (bcDivD d.val a.val b.val))
/-- MOD.D. -/
def execModD (k : Fin 4) (d a b : Fin 64) (s : State) : Host.Outcome State Fault Refusal := .next (s.bc k (bcModD d.val a.val b.val))
/-- CMP.D. -/
def execCmpD (k : Fin 4) (d a b : Fin 64) (sub : Fin 6) (s : State) : Host.Outcome State Fault Refusal := .next (s.bc k (bcCmpD d.val a.val b.val sub.val))
/-- ADD.L. -/
def execAddL (k : Fin 4) (d a b : Fin 64) (s : State) : Host.Outcome State Fault Refusal := .next (s.bc k (bcAddL d.val a.val b.val))
/-- SUB.L. -/
def execSubL (k : Fin 4) (d a b : Fin 64) (s : State) : Host.Outcome State Fault Refusal := .next (s.bc k (bcSubL d.val a.val b.val))
/-- MUL.L. -/
def execMulL (k : Fin 4) (d a b : Fin 64) (s : State) : Host.Outcome State Fault Refusal := .next (s.bc k (bcMulL d.val a.val b.val))
/-- DIV.L. -/
def execDivL (k : Fin 4) (d a b : Fin 64) (s : State) : Host.Outcome State Fault Refusal := .next (s.bc k (bcDivL d.val a.val b.val))
/-- MOD.L. -/
def execModL (k : Fin 4) (d a b : Fin 64) (s : State) : Host.Outcome State Fault Refusal := .next (s.bc k (bcModL d.val a.val b.val))
/-- CMP.L. -/
def execCmpL (k : Fin 4) (d a b : Fin 64) (sub : Fin 6) (s : State) : Host.Outcome State Fault Refusal := .next (s.bc k (bcCmpL d.val a.val b.val sub.val))
/-- CMP.E. -/
def execCmpE (k : Fin 4) (d a b : Fin 64) (sub : Fin 6) (s : State) : Host.Outcome State Fault Refusal := .next (s.bc k (bcCmpE d.val a.val b.val sub.val))
/-- ADD.T. -/
def execAddT (k : Fin 4) (d a b : Fin 64) (s : State) : Host.Outcome State Fault Refusal := .next (s.bc k (bcAddT d.val a.val b.val))
/-- SUB.T. -/
def execSubT (k : Fin 4) (d a b : Fin 64) (s : State) : Host.Outcome State Fault Refusal := .next (s.bc k (bcSubT d.val a.val b.val))
/-- CMP.T. -/
def execCmpT (k : Fin 4) (d a b : Fin 64) (sub : Fin 6) (s : State) : Host.Outcome State Fault Refusal := .next (s.bc k (bcCmpT d.val a.val b.val sub.val))
/-- ADD.R. -/
def execAddR (k : Fin 4) (d a b : Fin 64) (s : State) : Host.Outcome State Fault Refusal := .next (s.bc k (bcAddR 32 d.val a.val b.val))
/-- SUB.R. -/
def execSubR (k : Fin 4) (d a b : Fin 64) (s : State) : Host.Outcome State Fault Refusal := .next (s.bc k (bcSubR 32 d.val a.val b.val))
/-- MUL.R. -/
def execMulR (k : Fin 4) (d a b : Fin 64) (s : State) : Host.Outcome State Fault Refusal := .next (s.bc k (bcMulR 32 d.val a.val b.val))
/-- DIV.R. -/
def execDivR (k : Fin 4) (d a b : Fin 64) (s : State) : Host.Outcome State Fault Refusal := .next (s.bc k (bcDivR 32 d.val a.val b.val))
/-- CMP.R. -/
def execCmpR (k : Fin 4) (d a b : Fin 64) (sub : Fin 6) (s : State) : Host.Outcome State Fault Refusal := .next (s.bc k (bcCmpR 32 d.val a.val b.val sub.val))
/-- FUN.R. -/
def execFunR (k : Fin 4) (d a b : Fin 64) (sub : Fin 19) (s : State) : Host.Outcome State Fault Refusal := .next (s.bc k (bcFunR 32 d.val a.val b.val sub.val))
/-- LIM.R. -/
def execLimR (k : Fin 4) (d a b c : Fin 64) (s : State) : Host.Outcome State Fault Refusal := .next (s.bc k (bcLimR 32 d.val a.val b.val c.val))
/-- ADD.LR. -/
def execAddLr (k : Fin 4) (d a b : Fin 64) (s : State) : Host.Outcome State Fault Refusal := .next (s.bc k (bcAddR 64 d.val a.val b.val))
/-- SUB.LR. -/
def execSubLr (k : Fin 4) (d a b : Fin 64) (s : State) : Host.Outcome State Fault Refusal := .next (s.bc k (bcSubR 64 d.val a.val b.val))
/-- MUL.LR. -/
def execMulLr (k : Fin 4) (d a b : Fin 64) (s : State) : Host.Outcome State Fault Refusal := .next (s.bc k (bcMulR 64 d.val a.val b.val))
/-- DIV.LR. -/
def execDivLr (k : Fin 4) (d a b : Fin 64) (s : State) : Host.Outcome State Fault Refusal := .next (s.bc k (bcDivR 64 d.val a.val b.val))
/-- CMP.LR. -/
def execCmpLr (k : Fin 4) (d a b : Fin 64) (sub : Fin 6) (s : State) : Host.Outcome State Fault Refusal := .next (s.bc k (bcCmpR 64 d.val a.val b.val sub.val))
/-- FUN.LR. -/
def execFunLr (k : Fin 4) (d a b : Fin 64) (sub : Fin 19) (s : State) : Host.Outcome State Fault Refusal := .next (s.bc k (bcFunR 64 d.val a.val b.val sub.val))
/-- LIM.LR. -/
def execLimLr (k : Fin 4) (d a b c : Fin 64) (s : State) : Host.Outcome State Fault Refusal := .next (s.bc k (bcLimR 64 d.val a.val b.val c.val))
/-- LIM.L. -/
def execLimL (k : Fin 4) (d a b c : Fin 64) (s : State) : Host.Outcome State Fault Refusal := .next (s.bc k (bcLimL d.val a.val b.val c.val))
/-- AND. -/
def execAndReg (k : Fin 4) (d a b : Fin 64) (s : State) : Host.Outcome State Fault Refusal := .next (s.bc k (bcAnd d.val a.val b.val))
/-- OR. -/
def execOrReg (k : Fin 4) (d a b : Fin 64) (s : State) : Host.Outcome State Fault Refusal := .next (s.bc k (bcOr d.val a.val b.val))
/-- XOR. -/
def execXorReg (k : Fin 4) (d a b : Fin 64) (s : State) : Host.Outcome State Fault Refusal := .next (s.bc k (bcXor d.val a.val b.val))
/-- NOT. -/
def execNotReg (k : Fin 4) (d a : Fin 64) (s : State) : Host.Outcome State Fault Refusal := .next (s.bc k (bcNot d.val a.val))
/-- NOTB. -/
def execNotb (k : Fin 4) (d a : Fin 64) (s : State) : Host.Outcome State Fault Refusal := .next (s.bc k (bcNotb d.val a.val))
/-- SHL. -/
def execShl (k : Fin 4) (d a b : Fin 64) (s : State) : Host.Outcome State Fault Refusal := .next (s.bc k (bcShl d.val a.val b.val))
/-- SHR. -/
def execShr (k : Fin 4) (d a b : Fin 64) (s : State) : Host.Outcome State Fault Refusal := .next (s.bc k (bcShr d.val a.val b.val))
/-- SAR. -/
def execSar (k : Fin 4) (d a b : Fin 64) (s : State) : Host.Outcome State Fault Refusal := .next (s.bc k (bcSar d.val a.val b.val))
/-- CVT (R173). -/
def execCvtReg (k : Fin 4) (d a : Fin 64) (src dst : Fin 7) (rnd : Fin 4) (s : State) : Host.Outcome State Fault Refusal := .next (s.bc k (bcCvt d.val a.val src.val dst.val rnd.val))
/-- ESNAP (R177): the pair AR[2d], AR[2d+1]. -/
def execEsnap (k : Fin 4) (d : Fin 32) (i : Fin 4096) (s : State) : Host.Outcome State Fault Refusal := .next (s.bc k (bcEsnap (2 * d.val) i.val))
/-- ESUB of even pairs. -/
def execEsub (k : Fin 4) (d a b : Fin 32) (s : State) : Host.Outcome State Fault Refusal := .next (s.bc k (bcEsub (2 * d.val) (2 * a.val) (2 * b.val)))
/-- ECVT (R177). -/
def execEcvt (k : Fin 4) (d : Fin 64) (a : Fin 32) (s : State) : Host.Outcome State Fault Refusal := .next (s.bc k (bcEcvt d.val (2 * a.val)))
/-- BRX. -/
def execBrx (k : Fin 4) (a : Fin 64) (n : Fin 524288) (s : State) : Host.Outcome State Fault Refusal := .next (s.bc k (bcBrx a.val n.val))
/-- ADDI. -/
def execAddi (k : Fin 4) (d a : Fin 64) (imm : Fin 8192) (s : State) : Host.Outcome State Fault Refusal := .next (s.bc k (bcAddi d.val a.val imm.val))
/-- LDINX (R174). -/
def execLdinx (k : Fin 4) (d a : Fin 64) (s : State) : Host.Outcome State Fault Refusal := .next (s.bc k (bcLdinx d.val a.val))

end Sys2Proof.Machine
end

