-- ==== Sys2Proof/Machine/Eth.lean ====
section
/-! DEFINITION. The Ethernet MACs: received frames, PAUSE, transmission, media and registers (chapter 15), and the stamp
queues that the MACs fill (R378, R380, R381). -/

namespace Sys2Proof.Machine

/-! ## Stamps (R378, R380, R381) -/

/-- Receive and transmit latency of the medium of a MAC, in units of 0.1 ns (R378). -/
def State.macLatency (s : State) (n : Nat) : Int × Int :=
  match s.g (F.ETH_STATUS_SPEED n) with
  | 4 => (448, 384)
  | 3 => if n < 2 then (1520, 1040) else (3120, 2160)
  | 2 => (12400, 7600)
  | _ => (68000, 14000)

/-- A receive stamp corrected to the pin, in units of 0.1 ns. -/
def State.rxStamp (s : State) (n sfd : Nat) : Int :=
  (sfd : Int) * 10 - (s.macLatency n).1 + toSigned 16 (s.g (F.PTP_CORR_RX n)) * 10

/-- The transmit stamp of a frame that departs now, corrected to the pin. -/
def State.txStamp (s : State) (n : Nat) : Int :=
  (s.ptpNs : Int) * 10 + (s.macLatency n).2 + toSigned 16 (s.g (F.PTP_CORR_TX n)) * 10

/-- A stamp that finds its queue full: counted, sticky, with its event. Queue 0 is the transmit queue, 1 + n that of
MAC n. -/
def State.stampLost (s : State) (q : Nat) : State :=
  let s1 := (s.inc (if q = 0 then R.PTP_TXQ_OVF else R.PTP_RXQ_OVF (q - 1))).setBit R.PTP_QSTICKY q true
  (s1.raise evPTP (if q = 0 then 5 else 6)).count 435

/-- A transmit stamp queued. -/
def State.putTxStamp (s : State) (x : Stamp) : State :=
  if 32 ≤ s.ptp.txq.length then s.stampLost 0
  else ({ s with ptp := { s.ptp with txq := s.ptp.txq ++ [x] } }).count 434

/-- A receive stamp queued. -/
def State.putRxStamp (s : State) (x : Stamp) : State :=
  let l := tget s.ptp.rxq [] x.mac
  if 64 ≤ l.length then s.stampLost (1 + x.mac)
  else ({ s with ptp := { s.ptp with rxq := tset s.ptp.rxq [] x.mac (l ++ [x]) } }).count 434

/-- PORTn of PTP_STATUS. -/
def State.ptpPort (s : State) (n : Nat) : Nat := bits (s.rn R.PTP_STATUS) (16 + 3 * n) 3

/-- The receive queue of a MAC takes the stamp of an event message (R380). -/
def State.stampTaken (s : State) (n kind : Nat) : Bool :=
  if s.g F.PTP_CTL_STAMP_SEL = 1 then true
  else
    let st := s.ptpPort n
    match kind with
    | 0 => st == 3 || st == 2
    | 3 => st == 3 || st == 2
    | 1 => st == 4
    | 2 => st == 4 || s.g F.PTP_CTL_DELAY_MECH == 1
    | _ => false

/-! ## PAUSE (R362 to R364) -/

/-- TX_PAUSED_US brought up to date. -/
def State.pauseSettle (s : State) (n : Nat) : State :=
  let x := s.mac n
  match x.pauseEnd, x.heldFrom with
  | some e, some _ =>
    let upto := min e s.clk.upNs
    let d := upto - x.paidNs + x.fracNs
    (s.setMac n { x with paidNs := max upto x.paidNs, fracNs := d % 1000 }).macCount n 49 (d / 1000)
  | _, _ => s

/-- The pause timer cleared: the transmitter is free. -/
def State.pauseClear (s : State) (n : Nat) : State :=
  let s1 := s.pauseSettle n
  (s1.setMac n { s1.mac n with pauseEnd := none, heldFrom := none, warned := false }).p (F.ETH_STATUS_PAUSED n) 0

/-- Ten times the length of a quantum in ns at a speed code (R362). -/
def quantum10 (speed : Nat) : Nat := if speed = 4 then 512 else if speed = 3 then 5120 else if speed = 2 then 51200 else 512000

/-- The pause timer loaded with a number of quanta (R362, R363). -/
def State.pauseLoad (s : State) (n q : Nat) : State :=
  if q = 0 then s.pauseClear n
  else
    let s1 := (s.pauseSettle n).macCount n 48
    let x := s1.mac n
    let speed := s1.g (F.ETH_STATUS_SPEED n)
    let now := s1.clk.upNs
    (s1.setMac n { x with
      pauseEnd := some (now + q * quantum10 speed / 10), pauseSpeed := speed
      heldFrom := some (x.heldFrom.getD now), paidNs := if x.heldFrom.isSome then x.paidNs else now }).p
      (F.ETH_STATUS_PAUSED n) 1

/-- The transmitter is held. -/
def State.paused (s : State) (n : Nat) : Bool :=
  match (s.mac n).pauseEnd with | some e => Nat.blt s.clk.upNs e | none => false

/-- PAUSE_TIMER_EXPIRE (R362). -/
def execPauseTimerExpire (n : Fin 3) (s : State) : Host.Outcome State Fault Refusal :=
  .next (match (s.mac n).pauseEnd with
    | some e => (s.advanceToUp e).pauseClear n
    | none => s)

/-- PAUSE_LONG (R364): the transmitter has been held for PAUSE_WARN_MS. -/
def execPauseLong (n : Fin 3) (s : State) : Host.Outcome State Fault Refusal :=
  .next (
    let x := s.mac n
    let warn := s.g (F.ETH_CTL_PAUSE_WARN_MS n)
    match x.heldFrom, x.pauseEnd with
    | some from_, some e =>
      if warn = 0 ∨ x.warned ∨ e < from_ + warn * 1000000 then s
      else
        let s1 := (s.advanceToUp (from_ + warn * 1000000)).pauseSettle n
        ((s1.setMac n { s1.mac n with warned := true }).raise (evETH n) 2).post 0x1007 (25 + n) n n warn
          (s1.g (F.ETH_PAUSE_LAST_QUANTA n))
    | _, _ => s)

/-! ## Reception (R357 to R366, R368) -/

/-- The size counter of a length, from the counter of 64 bytes on (R369). -/
def sizeIndex (l : Nat) : Nat :=
  if l ≤ 64 then 0 else if l ≤ 127 then 1 else if l ≤ 255 then 2 else if l ≤ 511 then 3 else if l ≤ 1023 then 4
  else if l ≤ 1518 then 5 else 6

/-- The maximum length of a frame (R357). -/
def State.macMax (s : State) (n : Nat) (tagged : Bool) : Nat :=
  if s.g (F.ETH_CTL_JUMBO n) = 1 then 9018 else if tagged then 1522 else 1518

/-- The address of MAC control frames. -/
def macControl : List Byte := macBytes 0x0180C2000001

/-- The broadcast address. -/
def macBroadcast : List Byte := macBytes 0xFFFFFFFFFFFF

/-- A group address: the I/G bit is 1. -/
def isGroup (a : List Byte) : Bool := (a.getD 0 0#8).toNat % 2 == 1

/-- The destination of a good frame counted: unicast, multicast or broadcast, from counter `k` on. -/
def State.macKind (s : State) (n k : Nat) (dst : List Byte) : State :=
  s.macCount n (if dst = macBroadcast then k + 2 else if isGroup dst then k + 1 else k)

/-- The frame's destination is accepted (R360). -/
def State.macAccepts (s : State) (n : Nat) (dst : List Byte) : Bool :=
  if !isGroup dst then dst == s.macAddr n
  else if dst == macBroadcast then s.g (F.ETH_CTL_BCAST_EN n) == 1
  else if dst == macControl then true
  else natBit (s.macHash n (hashBin dst / 32)) (hashBin dst % 32)

/-- A MAC control frame that the MAC consumes (R362, R363). -/
def State.macControlFrame (s : State) (n : Nat) (f : EthFrame) : State :=
  if f.opcode = 1 then
    let s1 := (s.macCount n 6).p (F.ETH_PAUSE_LAST_QUANTA n) (f.quanta % 65536)
    if s1.g (F.ETH_CTL_PAUSE_EN n) = 1 then s1.pauseLoad n (f.quanta % 65536) else s1
  else s.macCount n 7

/-- The station entry that a frame matches (R365). -/
def State.stationOf (s : State) (n : Nat) (f : EthFrame) : Option EthStn :=
  (tget s.set.eth [] n).find? (fun e => e.src == f.src &&
    ((e.etype.isSome && e.etype == some f.etype) || (e.udp.isSome && e.udp == f.udp)))

/-- The module takes its station declarations from the motor (R368). -/
def State.stationFromMotor (s : State) : Bool := s.synced && s.isButty

/-- The class counter of an accepted frame and whether it is delivered (R365). -/
def State.classOf (s : State) (n : Nat) (f : EthFrame) : Nat × Bool :=
  if f.etype < 0x600 then (25, false)
  else if f.etype = 0x88F7 ∨ f.udp = some 319 ∨ f.udp = some 320 then (28, true)
  else if f.ipv6 ∧ f.udp = some 47120 then
    if (n = 0 ∧ s.g F.REP_CTL_ETH0_EN = 1) ∨ (n = 1 ∧ s.g F.REP_CTL_ETH1_EN = 1) then (29, true) else (27, false)
  else if (s.stationOf n f).isSome then (30, true)
  else if f.icmp6 ∨ f.etype = 0x0806 then (31, true)
  else (27, false)

/-- Octets of the frames that wait in the receive ring of a MAC, those of PTP and the others (R366). -/
def EthS.waits (x : EthS) : Nat × Nat :=
  x.rx.foldl (fun k e => if e.1 = 28 then (k.1 + e.2, k.2) else (k.1, k.2 + e.2)) (0, 0)

/-- The ring has room for a frame of class counter `k` (R366): 256 KiB, of which 32 KiB are for PTP frames alone. -/
def EthS.fits (x : EthS) (k len : Nat) : Bool :=
  Nat.ble (x.waits.1 + x.waits.2 + len) 262144 && (k == 28 || Nat.ble (x.waits.2 + len) 229376)

/-- STATUS.RX_FREE beside `free` KiB that the running cores leave. -/
def State.rxFree (s : State) (n free : Nat) : State :=
  let w := (s.mac n).waits
  s.p (F.ETH_STATUS_RX_FREE n) (min (256 - (w.1 + w.2 + 1023) / 1024) free)

/-- Network core NC0 runs again: it takes the frames that waited in the rings (R447). -/
def State.ringsTaken (s : State) : State :=
  [0, 1, 2].foldl (fun t n =>
    if (t.mac n).rx.isEmpty then t else (t.setMac n { t.mac n with rx := [] }).rxFree n 256) s

/-- An accepted frame delivered to its ring (R365, R366, R380): while network core NC0 restarts, the frames of its classes wait
there (R447). -/
def State.macDeliver (s : State) (n : Nat) (f : EthFrame) : State :=
  match s.classOf n f with
  | (k, false) => s.macCount n k
  | (k, true) =>
    let x := s.mac n
    if !f.room || !x.fits k f.len then (((s.rxFree n f.free).macCount n 26).raise (evETH n) 3).count (384 + 16 * n + 3)
    else
      let s1 := (if k = 29 ∨ s.core 0 then s else s.setMac n { x with rx := x.rx ++ [(k, f.len)] }).rxFree n f.free
      let s2 := (s1.macCount n k).count (384 + 16 * n)
      let s3 := match s2.stationOf n f with
        | some e => if k = 30 ∧ !s2.stationFromMotor then s2.stationBack (e.station % 64) else s2
        | none => s2
      match f.event with
      | some (kind, domain, seq, src) =>
        if k = 28 ∧ s3.stampTaken n kind then
          s3.putRxStamp ⟨n, s3.rxStamp n f.sfd, kind, domain, seq, Config.portCrc src⟩
        else s3
      | none => s3

/-- ETH_FRAME_RECEIVE (R357 to R366): a frame arrives at MAC `n`. -/
def execEthFrameReceive (n : Fin 3) (f : EthFrame) (s : State) : Host.Outcome State Fault Refusal :=
  .next (if s.g (F.ETH_CTL_ENABLE n) = 0 ∨ !s.macUp n then s
    else
      let good := f.fcsOk && !f.symErr
      let max := s.macMax n f.tag.isSome
      let s1 := s.macCount n 1 f.len
      let s2 := if f.symErr then s1.macCount n 22 else s1
      let s3 := if f.alignErr then s2.macCount n 21 else s2
      if f.len < 64 then s3.macCount n (if good then 16 else 17)
      else if max < f.len then s3.macCount n (if good then 18 else 19)
      else
        let s4 := s3.macCount n (9 + sizeIndex f.len)
        if !good then s4.macCount n 20
        else
          let s5 := ((s4.macCount n 0 f.len).macCount n 2).macKind n 3 f.dst
          let s6 := if f.tag.isSome then s5.macCount n 8 else s5
          if s6.g (F.ETH_VLAN_TAG_EN n) = 1 ∧ f.tag.isSome ∧ f.tag ≠ some (s6.g (F.ETH_VLAN_VID n)) then s6.macCount n 24
          else if !s6.macAccepts n f.dst then s6.macCount n 23
          else if f.etype = 0x8808 ∧ f.tag.isNone ∧ f.len = 64 ∧ (f.dst = macControl ∨ f.dst = s6.macAddr n) then
            s6.macControlFrame n f
          else if f.dst = macControl then s6
          else s6.macDeliver n f)

/-- ETH_STATION_TIMEOUT (R368): station `k` of MAC `n` has been silent for its timeout. -/
def execEthStationTimeout (n : Fin 3) (k : Fin 64) (s : State) : Host.Outcome State Fault Refusal :=
  .next (if (tget s.set.eth [] n.val).any (fun e => e.station == k.val) && !s.stationFromMotor then s.stationLost k else s)

/-! ## Transmission (R358, R366, R378 to R380) -/

/-- The first frame in class order of a list (R366). -/
def firstFrame (l : List TxFrame) : Option TxFrame :=
  [0, 1, 2, 3].findSome? (fun c => l.find? (fun f => f.cls == c))

/-- The instant at which an event message departs (R380, R381): its stamp goes to the transmit queue, or, of a one-step
message, into the frame. -/
def State.departed (s : State) (n : Nat) (f : TxFrame) : State :=
  match f.stamp with
  | none => s
  | some (kind, seq) =>
    if f.oneStep then
      let s1 := s.macCount n 50
      if kind = 1 then
        match tget s1.ptp.req none n with
        | some (q, _) =>
          if q = seq then { s1 with ptp := { s1.ptp with req := tset s1.ptp.req none n (some (q, some (s1.txStamp n))) } } else s1
        | none => s1
      else s1
    else s.putTxStamp ⟨n, s.txStamp n, kind, s.g F.PTP_CTL_DOMAIN, seq, 0⟩

/-- A frame leaves the MAC: padded, tagged and counted, or not sent where it is too long (R358). -/
def State.macSend (s : State) (n : Nat) (f : TxFrame) : State :=
  let insert := s.g (F.ETH_VLAN_TAG_EN n) = 1 ∧ !f.tagged
  let tagged := f.tagged || insert
  let raw := if insert then f.len + 4 else f.len
  let len := max 64 raw
  if s.macMax n tagged < len then (s.macCount n 46).raise (evETH n) 7
  else
    let s1 := if raw < 64 then s.macCount n 45 else s
    let s2 := ((s1.macCount n 32 len).macCount n 33).macCount n (34 + min 2 f.dest)
    let s3 := if tagged then s2.macCount n 37 else s2
    ((s3.macCount n (38 + sizeIndex len)).count (384 + 16 * n + 1)).departed n f

/-- ETH_FRAME_SEND (R8, R366): network core NC0, where it runs, hands `handed` to MAC `n` (station frames and the frames of class IP other),
and the first queued frame in class order starts on the wire, unless the MAC is paused. -/
def execEthFrameSend (n : Fin 3) (handed : List TxFrame) (s : State) : Host.Outcome State Fault Refusal :=
  .next (
    let s1 := (if s.core 0 then handed else []).foldl (fun t f =>
      t.macQueue n { f with cls := if f.cls = 2 then 2 else 3, oneStep := false, stamp := none }) s
    if s1.g (F.ETH_CTL_ENABLE n) = 0 ∨ !s1.macUp n ∨ s1.paused n then s1
    else match firstFrame (s1.mac n).tx with
      | none => s1
      | some f => (s1.setMac n { s1.mac n with tx := (s1.mac n).tx.erase f }).macSend n f)

/-! ## Media (R355, R356) -/

/-- The speed that a MAC's MODE gives, 0 none: of ETH2 the speed negotiated where MODE allows it (R355, R370). -/
def State.macSpeed (s : State) (n speed : Nat) : Nat :=
  let mode := s.g (F.ETH_CTL_MODE n)
  if n < 2 then
    match mode with
    | 1 => 3
    | 2 => match (s.mac n).medium with | 1 => 4 | 2 => 3 | _ => 0
    | _ => 4
  else
    let ok := match mode with | 1 => speed == 3 | 2 => speed == 2 | 3 => speed == 1 | _ => Nat.ble 1 speed && Nat.ble speed 3
    if ok then speed else 0

/-- A line of the SFP+ module holds the link down (R355). -/
def State.sfpHolds (s : State) (n : Nat) : Bool := bits (s.rn (R.ETH_STATUS n)) 24 3 != 0

/-- The link of a MAC comes up (R355, R356). -/
def State.macLinkUp (s : State) (n speed : Nat) (full mdix : Bool) : State :=
  if s.g (F.ETH_CTL_ENABLE n) = 0 ∨ s.sfpHolds n ∨ s.macUp n then s
  else
    let v := s.macSpeed n speed
    if n = 2 ∧ (!full ∨ v = 0) then s.p (F.ETH_STATUS_DUPLEX_FAIL n) 1
    else if v = 0 then s
    else
      let s1 := ((s.p (F.ETH_STATUS_LINK_UP n) 1).p (F.ETH_STATUS_SPEED n) v).p (F.ETH_STATUS_DUPLEX_FAIL n) 0
      let s2 := ((s1.p (F.ETH_STATUS_LOCAL_FAULT n) 0).p (F.ETH_STATUS_REMOTE_FAULT n) 0).p (F.ETH_STATUS_MDIX n)
        (b2n (n == 2 && mdix))
      s2.raise (evETH n) 0

/-- The link of a MAC goes down (R363, R366): the pause ends and queued frames are discarded and counted. -/
def State.macLinkDown (s : State) (n : Nat) : State :=
  if !s.macUp n then s
  else
    let s1 := ((s.pauseClear n).p (F.ETH_STATUS_LINK_UP n) 0).p (F.ETH_STATUS_SPEED n) 0
    let k := (s1.mac n).tx.length
    let s2 := (s1.setMac n { s1.mac n with tx := [] }).macCount n 47 k
    (s2.macCount n 51).raise (evETH n) 1

/-- SFP_READ (R355): the read of byte 12 of the SFP+ module at an enable with MODE 2; none: unanswered. -/
def execSfpRead (n : Fin 2) (byte12 : Option Nat) (s : State) : Host.Outcome State Fault Refusal :=
  .next (if s.g (F.ETH_CTL_ENABLE n) = 0 ∨ s.g (F.ETH_CTL_MODE n) ≠ 2 then s
    else
      let m := match byte12 with
        | some b => if 103 ≤ b then 1 else if b = 12 ∨ b = 13 then 2 else 0
        | none => 0
      let s1 := s.setMac n { s.mac n with medium := m }
      if m = 0 then s1.raise (evETH n) 5 else s1)

/-- SFP_CHANGE (R355): the levels of ETHn_SFP_ABS, ETHn_SFP_LOS and ETHn_SFP_TXFLT. -/
def execSfpChange (n : Fin 2) (abs los txflt : Bool) (s : State) : Host.Outcome State Fault Refusal :=
  .next (
    let old := bits (s.rn (R.ETH_STATUS n)) 24 3
    let new := b2n txflt + 2 * b2n los + 4 * b2n abs
    if old = new then s
    else
      let s1 := s.wn (R.ETH_STATUS n) (setBits (s.rn (R.ETH_STATUS n)) 24 3 new)
      let s2 := if los && !natBit old 1 then s1.macCount n 54 else s1
      let s3 := if txflt && !natBit old 0 then s2.macCount n 55 else s2
      s3.raise (evETH n) 6)

/-! ## Registers (R361, R370) -/

/-- A write of ETHn_VLAN (R370): a VID of 0 or 4,095 leaves TAG_EN 0. -/
def State.ethVlanWrite (s : State) (n v : Nat) : State :=
  let vid := bits v 0 12
  let bad := natBit v 31 && (vid == 0 || vid == 4095)
  let w := (if bad then 0 else bits v 31 1 * 2 ^ 31) + bits v 13 3 * 2 ^ 13 + vid
  let s1 := s.wn (R.ETH_VLAN n) w
  if bad then s1.raise (evETH n) 5 else s1

/-- A write of ETHn_HASHkk (R361). -/
def State.ethHashWrite (s : State) (n k v : Nat) : State := s.wn (R.ETH_HASH n k) v

/-- ETH_HASH_WRITE (R361): port `p` writes ETHn_HASHkk. -/
def execEthHashWrite (p : Fin 2) (n : Fin 3) (k : Fin 16) (v : Word) (s : State) : Host.Outcome State Fault Refusal :=
  .next (if s.linkUp p then s.regWrite p (R.ETH_HASH n k) (fun t => t.ethHashWrite n k v.toNat) else s)

/-- A write of ETHn_CTL (R370), without what a MAC that stops does to network time. -/
def State.ethCtlSet (s : State) (n v : Nat) : State :=
  let old := s.rn (R.ETH_CTL n)
  let free := !natBit old 0 || !natBit v 0
  let same := bits old 4 2 = bits v 4 2 ∧ bits old 1 3 = bits v 1 3
  let low := if free then bits v 4 2 * 16 + bits v 1 3 * 2 else bits old 4 2 * 16 + bits old 1 3 * 2
  let w := min 60000 (bits v 16 16) * 65536 + bits v 6 2 * 64 + low + bits v 0 1
  let s1 := s.wn (R.ETH_CTL n) w
  let s2 := if free ∨ same then s1 else s1.raise (evETH n) 5
  if natBit v 0 then s2 else (s2.setMac n { s2.mac n with medium := 0 })

end Sys2Proof.Machine
end

