-- ==== Sys2Proof/Machine/Log.lean ====
section
/-! DEFINITION. The logbook: reading, clearing, the stage and the epoch (chapter 18). Records are posted through
`State.post`. -/

namespace Sys2Proof.Machine

/-- The bytes of a record as it is stored (R398). -/
def LogRec.bytes (e : LogRec) : List Byte :=
  let body := natLE 2 e.code ++ natLE 1 e.unit ++ natLE 1 e.inst
    ++ natLE 8 (e.ms % 2 ^ 48 + b2n e.timeUnknown * 2 ^ 48 + b2n e.butty * 2 ^ 49 + b2n e.holdup * 2 ^ 50
      + b2n e.auditCopy * 2 ^ 51)
    ++ natLE 4 e.p0 ++ natLE 4 e.p1 ++ natLE 4 e.p2 ++ natLE 4 e.p3
  body ++ natLE 4 (crc32c body)

/-- The records of a ring that a LOG_READ returns (R406): numbers from ARG1 on in serial arithmetic, at most ARG2. -/
def logPick (ring : List (Nat × LogRec)) (first count : Nat) : List (Nat × LogRec) :=
  (ring.filter (fun q => decide (0 ≤ serialDiff32 q.1 first))).take count

/-- LOG_READ (R406). `damaged`: records of the ring whose bytes in MRAM fail their CRC, as (number, bytes). -/
def execLogRead (r : OpRef) (b : HostBuf) (damaged : List (Nat × List Byte)) (s : State) :
    Host.Outcome State Fault Refusal :=
  .next (s.withOp r 0x20 (fun _ => true) (fun o t =>
    let e := o.entry
    let l := logPick (if e.arg0 = 0 then t.log.main else t.log.audit) e.arg1 e.arg2
    let stored := fun (q : Nat × LogRec) => match damaged.find? (fun d => d.1 == q.1) with
      | some d => d.2
      | none => q.2.bytes
    let bad := (l.filter (fun q => crc32c ((stored q).take 28) != leNat ((stored q).drop 28))).length
    let t1 := t.inc R.LOG_CRC_ERR bad
    let first := match l with
      | q :: _ => q.1 % 2 ^ 32
      | [] => e.arg1
    match writeStatus e b with
    | 0 => (t1.hostPut r.port e b (l.flatMap (fun q => (stored q).take 32))).finishWith r 0 (l.length + first * 2 ^ 32)
    | 2 => t.finishWith r 2 0
    | st => t1.finishWith r st 0))

/-- A clear refused (R406): the event and record 0x7002. -/
def State.clearRefused (s : State) (r : OpRef) (status result who : Nat) : State :=
  ((s.raise evLOG 4).post 0x7002 33 0 status who).finishWith r status result

/-- The LOG_READs of the main ring that have been fetched and have not finished. -/
def State.mainReaders (s : State) : List OpRef :=
  [0, 1].flatMap (fun p => ((s.port p).ops.filter (fun o => o.entry.opcode == 0x20 && o.entry.arg0 == 0
    && o.done.isNone)).map (fun o => ⟨p, o.sq, o.entry.cid⟩))

/-- LOG_CLEAR (R406, R417): the token is checked; one that passes starts the clear. A clear in progress is finished
first. -/
def execLogClear (r : OpRef) (b : HostBuf) (s : State) : Host.Outcome State Fault Refusal :=
  if s.log.clear.isSome then .next s
  else .next (s.withOp r 0x21 (fun _ => true) (fun o t =>
    let who := callerOf r o
    if !t.sec.rootOk then t.clearRefused r 0x0B 10 who
    else match readStatus o.entry b with
      | 0 =>
        let tok := b.data.take o.entry.bufLen
        match t.tokenReason 2 [0#8] tok with
        | some reason => (t.tokenFail tok reason who).clearRefused r 0x0A 0 who
        | none =>
          let t1 := t.tokenPassed 2 (tokCounter tok) who 0x21
          { t1 with log := { t1.log with clear := some ⟨r, who, tokCounter tok, t1.mainReaders⟩ } }
      | st => t.finishWith r st 0))

/-- A staged record whose main copy has been discarded: only its audit copy is written. -/
def State.auditOnly (s : State) (x : StagedRec) : State :=
  let t := s.logAck x
  { t with log := { t.log with main := s.log.main, mainOver := s.log.mainOver } }

/-- The main ring cleared (R406): record 0x7001 is the first of the new ring. -/
def State.clearMain (s : State) (c : ClearWait) : State :=
  let n := s.log.main.length + s.log.stage.length
  let last := s.log.mainNext + 2 ^ 64 - 1
  let staged := s.log.stage
  let s1 := { s with log := { s.log with main := [], stage := [], clear := none } }
  let s2 := staged.foldl (fun t x => if x.auditNum.isSome then t.auditOnly x else t) s1
  let s3 := { s2 with log := { s2.log with main := [], mainOver := false } }
  let s4 := (s3.post 0x7001 33 0 (min n (2 ^ 32 - 1)) last c.counter c.ctx).logFlush
  ((s4.inc R.LOG_CLEARS).raise evLOG 3).tokenUsed 2 c.counter

/-- LOG_CLEAR_SWITCH (R406): the LOG_READs fetched before the clear have completed, and the ring state switches. -/
def execLogClearSwitch (s : State) : Host.Outcome State Fault Refusal :=
  match s.log.clear with
  | none => .next s
  | some c =>
    if c.readers.any (fun r => (s.port r.port).ops.any (fun o => o.is r)) then .next s
    else .next ((s.clearMain c).finishWith c.op 0 0)

/-- LOG_RECORD_WRITE (R405): the oldest staged record is written to MRAM. -/
def execLogRecordWrite (s : State) : Host.Outcome State Fault Refusal :=
  match s.log.stage with
  | [] => .next s
  | r :: rest => .next (({ s with log := { s.log with stage := rest } }).logAck r)

/-- LOG_FLOOD_SECOND (R405): a second ends and the count of posts starts again. -/
def execLogFloodSecond (s : State) : Host.Outcome State Fault Refusal :=
  .next { s with log := { s.log with posts := 0, flooded := false } }

/-- What an epoch register reads for port `p` (R407): the value that it has staged, else the value in force. -/
def State.epochRead (s : State) (p a : Nat) : Nat :=
  match tget (s.port p).epoch none a with
  | some v => v
  | none =>
    if a = R.LOG_EPOCH_MS_LO then s.log.epochMs % 2 ^ 32
    else if a = R.LOG_EPOCH_MS_HI then s.log.epochMs / 2 ^ 32 % 2 ^ 16
    else if a = R.LOG_EPOCH_TICK_LO then s.log.epochTick % 2 ^ 32
    else s.log.epochTick / 2 ^ 32 % 2 ^ 16

/-- A value staged by port `p`. -/
def State.epochStage (s : State) (p a v : Nat) : State :=
  let q := s.port p
  s.setPort p { q with epoch := tset q.epoch none a (some v) }

/-- The four epoch registers of port `p` applied at once (R401). -/
def State.epochApply (s : State) (p : Nat) : State :=
  let tick := s.epochRead p R.LOG_EPOCH_TICK_LO + s.epochRead p R.LOG_EPOCH_TICK_HI * 2 ^ 32
  let ms := s.epochRead p R.LOG_EPOCH_MS_LO + s.epochRead p R.LOG_EPOCH_MS_HI * 2 ^ 32
  let old := s.logMs
  let s0 := s.setPort p { s.port p with epoch := [] }
  let s1 := { s0 with log := { s0.log with epochMs := ms, epochTick := tick, epochSet := true } }
  let d := ofSigned 64 ((s1.logMs : Int) - (old : Int))
  s1.post 0x7003 33 0 d (d / 2 ^ 32)

/-- EPOCH_APPLY (R401): port `p` writes LOG_EPOCH_CMD. -/
def execEpochApply (p : Fin 2) (apply : Bool) (s : State) : Host.Outcome State Fault Refusal :=
  .next (if s.linkUp p then s.regWrite p R.LOG_EPOCH_CMD (fun t => if apply then t.epochApply p else t) else s)

end Sys2Proof.Machine
end

