-- ==== Sys2Proof/Machine/Pmon.lean ====
section
/-! DEFINITION. The performance monitors' registers (R454, R458). Counting itself is `State.count`. -/

namespace Sys2Proof.Machine

/-- How the model counts a source of R455: 0 the number is reserved and never counts, 1 its occurrences are counted, 2 its
occurrences lie in timing or in quantities that the model does not hold, and its count is a free value. -/
def sourceKind (src : Nat) : Nat :=
  let kind := fun (n : Nat) (e : Nat) (free : List Nat) => if e < n then (if free.contains e then 2 else 1) else 0
  if src < 128 then kind 11 (src % 32) [0, 2, 3, 4, 5, 10]
  else if src < 192 then kind 9 (src % 16) [7]
  else if src < 256 then kind 10 (src - 192) [6, 7, 9]
  else if src < 320 then kind 10 (src % 32) [8, 9]
  else if src < 384 then kind 8 (src - 320) [6, 7]
  else if src < 432 then kind 4 (src % 16) [2]
  else if src < 448 then kind 4 (src - 432) []
  else if src < 512 then kind 40 (src - 448) [39]
  else if src < 576 then kind 6 (src - 512) [3, 4]
  else if src < 640 then kind 10 (src - 576) [2, 7]
  else 0

/-- Counter `c` is selected to count what the model does not: a source of that kind, or clocks (MODE 1). -/
def State.pmonFree (s : State) (c : Nat) : Bool :=
  s.g (F.PMON_C_SEL_EN c) == 1 && (let k := sourceKind (s.g (F.PMON_C_SEL_SOURCE c))
    k == 2 || (k == 1 && s.g (F.PMON_C_SEL_MODE c) == 1))

/-- A write of PMON_CTL: FREEZE, and with CLEAR every counter at 0. -/
def State.pmonCtlWrite (s : State) (v : Nat) : State :=
  let s1 := s.p F.PMON_CTL_FREEZE v
  if natBit v 1 then { s1 with pmon := [], pmonOpen := (List.range 16).filter s1.pmonFree } else s1

/-- A write of PMONcc_SEL: EN, MODE and SOURCE; the count stands. -/
def State.pmonSelWrite (s : State) (c v : Nat) : State :=
  let s1 := s.wn (R.PMON_C_SEL c) (v &&& 0xC00003FF)
  if s1.pmonFree c && !s1.pmonOpen.contains c then { s1 with pmonOpen := s1.pmonOpen ++ [c] } else s1

/-- PMON_CLEAR (R458): port `p` writes PMON_CTL with CLEAR 1 and FREEZE as it stands. -/
def execPmonClear (p : Fin 2) (s : State) : Host.Outcome State Fault Refusal :=
  .next (if s.linkUp p then s.regWrite p R.PMON_CTL (fun t => t.pmonCtlWrite (2 + t.g F.PMON_CTL_FREEZE)) else s)

/-- PMON_FREEZE (R458): port `p` writes PMON_CTL with FREEZE and CLEAR 0. -/
def execPmonFreeze (p : Fin 2) (freeze : Bool) (s : State) : Host.Outcome State Fault Refusal :=
  .next (if s.linkUp p then s.regWrite p R.PMON_CTL (fun t => t.pmonCtlWrite (b2n freeze)) else s)

/-- PMON_SEL_WRITE (R454): port `p` writes `v` to PMONcc_SEL. -/
def execPmonSelWrite (p : Fin 2) (c : Fin 16) (v : Word) (s : State) : Host.Outcome State Fault Refusal :=
  .next (if s.linkUp p then s.regWrite p (R.PMON_C_SEL c) (fun t => t.pmonSelWrite c v.toNat) else s)

end Sys2Proof.Machine
end

