-- ==== Sys2Proof/Machine/Ptp.lean ====
section
/-! DEFINITION. Network time: the clock's states, the servo, the master clock algorithm, PTP messages and stamp queues, and
the registers that set the clock (chapter 16). -/

namespace Sys2Proof.Machine

/-! ## Ports and states (R372, R376, R382) -/

/-- STATE: 0 UNSET, 1 ACQUIRING, 2 LOCKED, 3 HOLDOVER, 4 EXPIRED, 5 HOST. -/
def State.ptpState (s : State) : Nat := s.g F.PTP_STATUS_STATE

/-- The protocol runs: ENABLE 1 and MODE 1 or 2. -/
def State.ptpRuns (s : State) : Bool := s.g F.PTP_CTL_ENABLE == 1 && s.ptpMode != 0

/-- The PTP ports with a link (R376): in MODE 1 the first of ETH0 and ETH1 whose PORTS bit is set and whose link is up; in
MODE 2 every one. -/
def State.ptpLinks (s : State) : List Nat :=
  let up := fun (n : Nat) => s.bit R.PTP_CTL (9 + n) && s.macUp n
  if !s.ptpRuns then []
  else if s.ptpMode = 1 then ([0, 1].filter up).take 1
  else [0, 1, 2].filter up

/-- PORTn of a MAC: 0 DISABLED, 1 LISTENING, 2 UNCALIBRATED, 3 SLAVE, 4 MASTER, 5 PASSIVE, 6 FAULTY (R376, R382). -/
def State.portState (s : State) (n : Nat) : Nat :=
  let named := s.ptpRuns && s.bit R.PTP_CTL (9 + n) && (s.ptpMode == 2 || Nat.blt n 2)
  if !named then 0
  else if !s.macUp n then 6
  else if !s.ptpLinks.contains n then 0
  else match s.ptp.master with
    | some m =>
      if m.port = n then (if s.ptpState = 2 then 3 else 2)
      else if s.g F.PTP_CTL_SLAVE_ONLY = 1 then (if n = 2 then 5 else 1)
      else if (tget s.ptp.announce none n).isSome then 5
      else 4
    | none =>
      if s.g F.PTP_CTL_SLAVE_ONLY = 1 then (if n = 2 then 5 else 1) else 4

/-- The port states and SLAVE_PORT brought up to date. -/
def State.ptpShow (s : State) : State :=
  let s1 := [0, 1, 2].foldl (fun t n => t.wn R.PTP_STATUS (setBits (t.rn R.PTP_STATUS) (16 + 3 * n) 3 (s.portState n))) s
  s1.p F.PTP_STATUS_SLAVE_PORT (match s.ptp.master with | some m => m.port % 4 | none => 3)

/-- The clock takes a state (R372). -/
def State.setPtpState (s : State) (st : Nat) : State :=
  ((s.p F.PTP_STATUS_STATE st).p F.PTP_STATUS_VALID (b2n (st == 2 || st == 3))).ptpShow

/-- Record 0x1005 of a change of state (R403): what, from which state, with the length of a holdover in s. -/
def State.ptpRecord (s : State) (what was len : Nat) : State := s.post 0x1005 28 0 what was (s.rn R.PTP_GM_LO) len

/-- The length of the present holdover in s. -/
def State.holdSecs (s : State) : Nat := min ((s.clk.upNs - s.ptp.holdUp) / 1000000000) (2 ^ 32 - 1)

/-- The addend frozen at the servo's frequency estimate; a slew ends (R372, R374). -/
def State.ptpFreeze (s : State) : State := (s.wn R.PTP_ADDEND s.ptp.est).p F.PTP_STATUS_SLEWING 0

/-- LOCKED is left for HOLDOVER (R372). -/
def State.holdover (s : State) (gm : Bool) : State :=
  let s1 := (s.ptpFreeze.ptpRecord 2 2 0).setPtpState 3
  let s2 := ({ s1 with ptp := { s1.ptp with holdUp := s1.clk.upNs, locks := 0 } }).raise evPTP 1
  if gm then s2.raise evPTP 4 else s2

/-- The bytes of a grandmaster identity in PTP_GM_LO and PTP_GM_HI, byte 0 lowest. -/
def State.putGm (s : State) (gm : Nat) : State := s.wn64 R.PTP_GM_LO (leNat (natLE 8 gm).reverse)

/-! ## The best master (R372, R375, R376) -/

/-- The better of two Announce data sets: of the lower rank, then of the fewer steps, then of the lower sender. -/
def betterSet (a b : AnnounceSet) : Bool :=
  if a.rank ≠ b.rank then Nat.blt a.rank b.rank
  else if a.steps ≠ b.steps then Nat.blt a.steps b.steps
  else Nat.blt a.src b.src

/-- The rank of a grandmaster's properties: priority1, class, accuracy, variance, priority2 and identity in that order. -/
def gmRank (p1 cls acc var p2 gm : Nat) : Nat :=
  ((((p1 % 256 * 256 + cls % 256) * 256 + acc % 256) * 65536 + var % 65536) * 256 + p2 % 256) * 2 ^ 64 + gm % 2 ^ 64

/-- The clock identity (R376): EUI-64 of ETH0_ADDR. -/
def State.clockId (s : State) : Nat :=
  let a := s.macAddr 0
  leNat ((a.take 3 ++ [0xFF#8, 0xFE#8] ++ a.drop 3).reverse)

/-- The rank of the module's own clock (R382). -/
def State.ownRank (s : State) : Nat :=
  gmRank (s.g F.PTP_BMC_PRIORITY1) (s.g F.PTP_BMC_CLOCK_CLASS) 0xFE 0xFFFF (s.g F.PTP_BMC_PRIORITY2) s.clockId

/-- The best Announce held of a port that can be SLAVE, where it beats the module's own clock. -/
def State.bestMaster (s : State) : Option Master :=
  let l := (s.ptpLinks.filter (fun n => Nat.blt n 2)).filterMap (fun n =>
    (tget s.ptp.announce none n).map (fun a => (n, a)))
  let best := l.foldl (fun (b : Option (Nat × AnnounceSet)) x => match b with
    | none => some x
    | some y => if betterSet x.2 y.2 then some x else some y) none
  match best with
  | some (n, a) =>
    if s.g F.PTP_CTL_SLAVE_ONLY = 1 ∨ a.rank < s.ownRank then some ⟨n, a.src, a.gm⟩ else none
  | none => none

/-- No master is selected any more (R372, "Master lost"). -/
def State.noMaster (s : State) : State :=
  let was := s.ptpState
  let s1 := { s with ptp := { s.ptp with master := none, sync := none, locks := 0 } }
  let s2 := match was with
    | 1 => s1.setPtpState 0
    | 2 => s1.holdover false
    | 3 => s1.ptpFreeze
    | _ => s1
  ((s2.p F.PTP_STATUS_MASTER_SEEN 0).putGm 0).ptpShow

/-- Master `m` is selected (R372). -/
def State.toMaster (s : State) (m : Master) : State :=
  let old := s.ptp.master
  let gmNew := match old with | some o => o.gm != m.gm | none => false
  let s1 := if gmNew then (if s.ptpState = 2 then s.holdover true else s.raise evPTP 4) else s
  let s2 := ({ s1 with ptp := { s1.ptp with
    master := some m
    sync := if old = some m then s1.ptp.sync else none
    locks := if old = some m then s1.ptp.locks else 0 } }).putGm m.gm
  match s2.ptpState with
  | 0 => s2.setPtpState 1
  | 4 => s2.setPtpState 1
  | 3 => (s2.p F.PTP_STATUS_MASTER_SEEN 1).ptpShow
  | _ => s2.ptpShow

/-- The master clock algorithm run anew. -/
def State.selectMaster (s : State) : State :=
  match s.bestMaster, s.ptp.master with
  | some m, _ => s.toMaster m
  | none, some _ => s.noMaster
  | none, none => s.ptpShow

/-- The Announce data of a port forgotten, and the algorithm run anew. -/
def State.masterGone (s : State) (n : Nat) : State :=
  let s1 := { s with ptp := { s.ptp with announce := tset s.ptp.announce none n none } }
  match s1.ptp.master with
  | some m => if m.port = n then (match s1.bestMaster with | some b => s1.toMaster b | none => s1.noMaster) else s1.selectMaster
  | none => s1.selectMaster

/-- ANNOUNCE_RECEIVE (R8, R375). While network core NC0 restarts, a message waits in its ring (R447). -/
def execAnnounceReceive (m : PtpAnnounce) (s : State) : Host.Outcome State Fault Refusal :=
  .next (if !s.core 0 ∨ !s.ptpLinks.contains m.mac ∨ m.domain ≠ s.g F.PTP_CTL_DOMAIN ∨ 255 ≤ m.steps ∨ m.src / 65536 = s.clockId then s
    else
      let a : AnnounceSet := ⟨m.src, m.gm % 2 ^ 64, gmRank m.prio1 m.cls m.accuracy m.variance m.prio2 m.gm, m.steps⟩
      let keep := match tget s.ptp.announce none m.mac with
        | some b => b.src == m.src || betterSet a b
        | none => true
      let s1 := if keep then { s with ptp := { s.ptp with announce := tset s.ptp.announce none m.mac (some a) } } else s
      let s2 := s1.selectMaster
      match s2.ptp.master with
      | some x =>
        if x.port = m.mac ∧ x.src = m.src then
          s2.wn R.PTP_UTC (b2n m.utcValid * 2 ^ 31 + b2n m.leap61 * 2 ^ 30 + b2n m.leap59 * 2 ^ 29 + m.utc % 65536)
        else s2
      | none => s2)

/-- MASTER_LOST (R372): 3 sync intervals without a Sync of the selected master, or the announce receipt timeout. -/
def execMasterLost (s : State) : Host.Outcome State Fault Refusal :=
  .next (match s.ptp.master with
    | some m => s.masterGone m.port
    | none => s)

/-- HOLDOVER_LIMIT (R372): LIMIT_MIN of holdover is reached. -/
def execHoldoverLimit (s : State) : Host.Outcome State Fault Refusal :=
  .next (
    let lim := s.g F.PTP_HOLDOVER_CFG_LIMIT_MIN
    if s.ptpState ≠ 3 ∨ lim = 0 then s
    else
      let s1 := s.advanceToUp (s.ptp.holdUp + lim * 60000000000)
      let len := s1.holdSecs
      let s2 := (s1.wn R.PTP_HOLDOVER_TIME len).ptpRecord 4 3 len
      ((s2.setPtpState 4).raise evPTP 2).raise evPTP 7)

/-! ## The clock and the servo (R371, R373, R374) -/

/-- The clock moved by `d` ns at once. -/
def State.clockMove (s : State) (d : Int) : State :=
  let m : Int := ((2 ^ 48 * 1000000000 * 2 ^ 28 : Nat) : Int)
  let s1 := { s with clk := { s.clk with ptp := (((s.clk.ptp : Int) + d * 2 ^ 28) % m).toNat } }
  if 0 < d then s1.canClockStep else s1

/-- The range of PTP_ADDEND (R371). -/
def clampAddend (n : Nat) : Nat := clampN 0x7FDF3B65 0x8020C49B n

/-- A step of the servo (R374). -/
def State.servoStep (s : State) (d : Int) : State :=
  let s1 := ((s.clockMove d).inc R.PTP_STEPS).raise evPTP 3
  let v := ofSigned 64 d
  (s1.post 0x1006 28 0 (v % 2 ^ 32) (v / 2 ^ 32) s1.ptpState (s1.rn R.PTP_STEPS)).count 433

/-- The offset removed through the addend alone: the servo's gains are not the manual's, so addend and estimate are free
values within the range. -/
def State.servoSteer (s : State) : State :=
  let s1 := (s.freshen.wn R.PTP_ADDEND (clampAddend s.fresh)).p F.PTP_STATUS_SLEWING 0
  ({ s1 with ptp := { s1.ptp with est := clampAddend s1.fresh } }).freshen

/-- Ten times an offset as PTP_OFFSET shows it, in ns. -/
def satOffset (d : Int) : Int := let m : Int := 2 ^ 31 - 1; if m < d then m else if d < -m then -m else d

/-- The servo acts on the offset, in ns, of an accepted Sync (R372, R374). -/
def State.servo (s : State) (d : Int) : State :=
  let s1 := (s.wn R.PTP_OFFSET (ofSigned 32 (satOffset d))).count 432
  let thr : Int := ((max 1 (s.g F.PTP_SERVO_STEP_US) * 1000 : Nat) : Int)
  let valid := s.ptpState == 2 || s.ptpState == 3
  let big := thr < d ∨ d < -thr
  let s2 :=
    if big ∧ (!valid ∨ d < 0) then (s1.servoStep (-d)).p F.PTP_STATUS_SLEWING 0
    else if big then
      let was := s1.g F.PTP_STATUS_SLEWING
      let t := (s1.wn R.PTP_ADDEND 0x7FDF3B65).p F.PTP_STATUS_SLEWING 1
      if was = 0 then t.raise evPTP 9 else t
    else s1.servoSteer
  let near := d.natAbs ≤ max 10 (s.g F.PTP_SERVO_LOCK_NS)
  let n := if near then s2.ptp.locks + 1 else 0
  let s3 := { s2 with ptp := { s2.ptp with locks := min n 16 } }
  if n < 16 then s3
  else match s3.ptpState with
    | 1 => (((s3.ptpRecord 1 1 0).setPtpState 2).raise evPTP 0).clockBecameValid
    | 3 =>
      let len := s3.holdSecs
      let s4 := (s3.wn R.PTP_HOLDOVER_TIME len).ptpRecord 3 3 len
      ((s4.setPtpState 2).raise evPTP 2).raise evPTP 0
    | _ => s3

/-! ## Stamps and messages (R375, R379 to R381) -/

/-- The taken stamp of a received message, and the state without it. -/
def State.useStamp (s : State) (m : PtpMsg) (kind : Nat) : Option (Int × State) :=
  let hit := fun (x : Stamp) => x.mac == m.mac && x.kind == kind && x.seq == m.seq && x.crc == Config.portCrc m.src
  match s.ptp.taken.find? hit with
  | some x => some (x.time, { s with ptp := { s.ptp with taken := s.ptp.taken.erase x } })
  | none => none

/-- correctionField in units of 0.1 ns. -/
def corr10 (c : Int) : Int := c * 10 / 65536

/-- The length of a PTP message of `n` bytes as a frame, by transport (R379). -/
def State.ptpLen (s : State) (n : Nat) (oneStep : Bool) : Nat :=
  match s.ptpTransport with
  | 1 => 46 + n
  | 2 => 66 + n + (if oneStep then 2 else 0)
  | _ => 18 + n

/-- A PTP message handed to a MAC. -/
def State.ptpOut (s : State) (mac kind seq size : Nat) (time : Int) (requester : Nat) (event oneStep : Bool) : State :=
  let s1 := s.macQueue mac ⟨0, s.ptpLen size oneStep, false, 1, oneStep, if event then some (kind, seq) else none⟩
  { s1 with out := s1.out ++ [.ptp mac kind seq time requester] }

/-- The next sequenceId of a message type on a port. -/
def State.ptpSeq (s : State) (mac kind : Nat) : Nat × State :=
  let k := 16 * mac + kind
  let n := tget s.ptp.seqs 0 k
  (n, { s with ptp := { s.ptp with seqs := tset s.ptp.seqs 0 k ((n + 1) % 65536) } })

/-- STAMP_TAKE (R8, R380, R381): NC0, where it runs, takes the oldest entry of queue `q`, 0 the transmit queue and 1 + n that of MAC n. -/
def execStampTake (q : Fin 4) (s : State) : Host.Outcome State Fault Refusal :=
  .next (if !s.core 0 then s
    else if q.val = 0 then
      match s.ptp.txq with
      | [] => s
      | x :: rest =>
        let s1 := { s with ptp := { s.ptp with txq := rest } }
        match x.kind with
        | 0 => s1.ptpOut x.mac 8 x.seq 44 x.time 0 false false
        | 1 =>
          match tget s1.ptp.req none x.mac with
          | some (n, _) => if n = x.seq then { s1 with ptp := { s1.ptp with req := tset s1.ptp.req none x.mac (some (n, some x.time)) } } else s1
          | none => s1
        | 2 =>
          match tget s1.ptp.pdreq none x.mac with
          | some (n, _) => if n = x.seq then { s1 with ptp := { s1.ptp with pdreq := tset s1.ptp.pdreq none x.mac (some (n, some x.time)) } } else s1
          | none => s1
        | _ =>
          match s1.ptp.answers.find? (fun a => a.1 == x.mac && a.2.1 == x.seq) with
          | some a => ({ s1 with ptp := { s1.ptp with answers := s1.ptp.answers.erase a } }).ptpOut x.mac 10 x.seq 54 x.time a.2.2
              false false
          | none => s1
    else
      match tget s.ptp.rxq [] (q.val - 1) with
      | [] => s
      | x :: rest =>
        let l := s.ptp.taken ++ [x]
        { s with ptp := { s.ptp with
          rxq := tset s.ptp.rxq [] (q.val - 1) rest
          taken := l.drop (l.length - 128) } })

/-- The message is of the domain and of a port that runs, and network core NC0 handles it (R8). -/
def State.ptpHears (s : State) (m : PtpMsg) : Bool := s.core 0 && s.ptpLinks.contains m.mac && m.domain == s.g F.PTP_CTL_DOMAIN

/-- The message comes from the selected master. -/
def State.fromMaster (s : State) (m : PtpMsg) : Bool :=
  s.ptpHears m && (match s.ptp.master with | some x => x.port == m.mac && x.src == m.src | none => false)

/-- The Sync whose origin time, receive stamp and corrections are known goes to the servo. -/
def State.syncUsed (s : State) (mac : Nat) (t2 origin corr : Int) : State :=
  let diff := t2 - origin - corr
  ({ s with ptp := { s.ptp with diff := tset s.ptp.diff 0 mac diff } }).servo ((diff - tget s.ptp.delay 0 mac) / 10)

/-- SYNC_RECEIVE (R374, R375, R381): a one-step Sync of the master feeds the servo; a two-step one waits for its Follow_Up. -/
def execSyncReceive (m : PtpMsg) (s : State) : Host.Outcome State Fault Refusal :=
  .next (if !s.fromMaster m then s
    else match s.useStamp m 0 with
      | none => s
      | some (t2, s1) =>
        if m.twoStep then { s1 with ptp := { s1.ptp with sync := some (m.mac, m.src, m.seq, t2, corr10 m.corr) } }
        else s1.syncUsed m.mac t2 ((m.time : Int) * 10) (corr10 m.corr))

/-- FOLLOW_UP_RECEIVE (R375). -/
def execFollowUpReceive (m : PtpMsg) (s : State) : Host.Outcome State Fault Refusal :=
  .next (if !s.fromMaster m then s
    else match s.ptp.sync with
      | some (mac, src, seq, t2, c) =>
        if mac = m.mac ∧ src = m.src ∧ seq = m.seq then
          ({ s with ptp := { s.ptp with sync := none } }).syncUsed mac t2 ((m.time : Int) * 10) (c + corr10 m.corr)
        else s
      | none => s)

/-- DELAY_REQ_RECEIVE (R375, R381): answered by a port in MASTER state under E2E, where the stamp is there. -/
def execDelayReqReceive (m : PtpMsg) (s : State) : Host.Outcome State Fault Refusal :=
  .next (if !s.ptpHears m ∨ s.ptpPort m.mac ≠ 4 ∨ s.g F.PTP_CTL_DELAY_MECH = 1 then s
    else match s.useStamp m 1 with
      | none => s
      | some (t, s1) => s1.ptpOut m.mac 9 m.seq 54 t m.src false false)

/-- The identity of the module's port on a MAC. -/
def State.portId (s : State) (mac : Nat) : Nat := s.clockId * 65536 + (if s.ptpMode = 1 then 1 else mac + 1)

/-- DELAY_RESP_RECEIVE (R375): completes the path-delay measurement of the Delay_Req in progress. -/
def execDelayRespReceive (m : PtpMsg) (s : State) : Host.Outcome State Fault Refusal :=
  .next (if !s.fromMaster m ∨ m.requester ≠ s.portId m.mac then s
    else match tget s.ptp.req none m.mac with
      | some (seq, some t3) =>
        if seq = m.seq then
          let d := (tget s.ptp.diff 0 m.mac + ((m.time : Int) * 10 - t3 - corr10 m.corr)) / 2
          { s with ptp := { s.ptp with req := tset s.ptp.req none m.mac none, delay := tset s.ptp.delay 0 m.mac d } }
        else s
      | _ => s)

/-- PDELAY_REQ_RECEIVE (R375, R380): answered two-step under P2P. -/
def execPdelayReqReceive (m : PtpMsg) (s : State) : Host.Outcome State Fault Refusal :=
  .next (if !s.ptpHears m ∨ s.g F.PTP_CTL_DELAY_MECH = 0 then s
    else match s.useStamp m 2 with
      | none => s
      | some (t, s1) =>
        ({ s1 with ptp := { s1.ptp with answers := s1.ptp.answers ++ [(m.mac, m.seq, m.src)] } }).ptpOut m.mac 3 m.seq 54 t
          m.src true false)

/-- PDELAY_RESP_RECEIVE (R375, R381). -/
def execPdelayRespReceive (m : PtpMsg) (s : State) : Host.Outcome State Fault Refusal :=
  .next (if !s.ptpHears m ∨ m.requester ≠ s.portId m.mac then s
    else match tget s.ptp.pdreq none m.mac, s.useStamp m 3 with
      | some (seq, some t1), some (t4, s1) =>
        if seq ≠ m.seq then s1
        else if m.twoStep then
          { s1 with ptp := { s1.ptp with presp := tset s1.ptp.presp none m.mac (some (seq, t4, (m.time : Int) * 10, corr10 m.corr)) } }
        else
          { s1 with ptp := { s1.ptp with
            pdreq := tset s1.ptp.pdreq none m.mac none
            delay := tset s1.ptp.delay 0 m.mac ((t4 - t1 - corr10 m.corr) / 2) } }
      | _, _ => s)

/-- PDELAY_RESP_FOLLOW_UP_RECEIVE (R375). -/
def execPdelayRespFollowUpReceive (m : PtpMsg) (s : State) : Host.Outcome State Fault Refusal :=
  .next (if !s.ptpHears m ∨ m.requester ≠ s.portId m.mac then s
    else match tget s.ptp.pdreq none m.mac, tget s.ptp.presp none m.mac with
      | some (seq, some t1), some (n, t4, t2, c) =>
        if seq = m.seq ∧ n = m.seq then
          let d := ((t4 - t1) - ((m.time : Int) * 10 - t2) - c - corr10 m.corr) / 2
          { s with ptp := { s.ptp with
            pdreq := tset s.ptp.pdreq none m.mac none, presp := tset s.ptp.presp none m.mac none
            delay := tset s.ptp.delay 0 m.mac d } }
        else s
      | _, _ => s)

/-- PTP_MESSAGE_SEND (R8, R375, R376, R379): a message at its interval on a MAC. -/
def execPtpMessageSend (n : Fin 3) (k : PtpSend) (s : State) : Host.Outcome State Fault Refusal :=
  .next (if !s.core 0 || !s.ptpLinks.contains n.val then s
    else
      let st := s.ptpPort n
      let one := s.g F.PTP_CTL_ONE_STEP == 1
      match k with
      | .sync =>
        if st ≠ 4 then s else let x := s.ptpSeq n 0; x.2.ptpOut n 0 x.1 44 0 0 true one
      | .announce =>
        if st ≠ 4 then s else let x := s.ptpSeq n 11; x.2.ptpOut n 11 x.1 64 0 0 false false
      | .delayReq =>
        if (st = 2 ∨ st = 3) ∧ s.g F.PTP_CTL_DELAY_MECH = 0 then
          let x := s.ptpSeq n 1
          ({ x.2 with ptp := { x.2.ptp with req := tset x.2.ptp.req none n.val (some (x.1, none)) } }).ptpOut n 1 x.1 44 0 0 true one
        else s
      | .pdelayReq =>
        if s.g F.PTP_CTL_DELAY_MECH = 1 then
          let x := s.ptpSeq n 2
          ({ x.2 with ptp := { x.2.ptp with
            pdreq := tset x.2.ptp.pdreq none n.val (some (x.1, none))
            presp := tset x.2.ptp.presp none n.val none } }).ptpOut n 2 x.1 54 0 0 true false
        else s)

/-! ## Links (R367, R372, R376) -/

/-- LINK_UP (R355, R356, R367): the link of MAC `n` comes up, for ETH2 at the negotiated speed, duplex and crossing. -/
def execLinkUp (n : Fin 3) (speed : Fin 8) (full mdix : Bool) (s : State) : Host.Outcome State Fault Refusal :=
  .next ((s.macLinkUp n speed full mdix).selectMaster)

/-- The link of a MAC is down: its port has no master any more. -/
def State.linkLost (s : State) (n : Nat) : State :=
  if s.macUp n then (s.macLinkDown n).masterGone n else s

/-- LINK_DOWN (R366, R367): the link of MAC `n` goes down, under a local or a remote fault. -/
def execLinkDown (n : Fin 3) (localFault remoteFault : Bool) (s : State) : Host.Outcome State Fault Refusal :=
  .next (
    let s1 := if localFault && s.g (F.ETH_STATUS_LOCAL_FAULT n) == 0 then s.macCount n 52 else s
    let s2 := if remoteFault && s.g (F.ETH_STATUS_REMOTE_FAULT n) == 0 then s1.macCount n 53 else s1
    ((s2.p (F.ETH_STATUS_LOCAL_FAULT n) (b2n localFault)).p (F.ETH_STATUS_REMOTE_FAULT n) (b2n remoteFault)).linkLost n)

/-- A write of ETHn_CTL (R370): a MAC that stops drops its link. -/
def State.ethCtlWrite (s : State) (n v : Nat) : State := if natBit v 0 then s.ethCtlSet n v else (s.linkLost n).ethCtlSet n v

/-- ETH_CTL_WRITE (R370): port `p` writes ETHn_CTL. -/
def execEthCtlWrite (p : Fin 2) (n : Fin 3) (v : Word) (s : State) : Host.Outcome State Fault Refusal :=
  .next (if s.linkUp p then s.regWrite p (R.ETH_CTL n) (fun t => t.ethCtlWrite n v.toNat) else s)

/-! ## Host software and the clock (R371, R373, R382) -/

/-- CFG_REJECT. -/
def State.ptpReject (s : State) : State := s.raise evPTP 8

/-- Local timestamps are accepted as they are, so the clock must not move backward (R373). -/
def State.mustRise (s : State) : Bool := s.g F.REP_CTL_LOCAL_TIME_OK == 1

/-- A write of PTP_CMD (R373). -/
def State.ptpCmdWrite (s : State) (v : Nat) : State :=
  match v % 4 with
  | 1 =>
    let ns := s.rn R.PTP_SET_NS
    let sec := (s.rn R.PTP_SET_SEC_LO + s.rn R.PTP_SET_SEC_HI * 2 ^ 32) % 2 ^ 48
    let new := (sec * 1000000000 + ns) * 2 ^ 28
    if s.ptpMode ≠ 0 ∨ 1000000000 ≤ ns ∨ (s.mustRise ∧ new < s.clk.ptp) then s.ptpReject
    else
      let s1 := { s with clk := { s.clk with ptp := new } }
      if s.clk.ptp < new then s1.canClockStep else s1
  | 2 =>
    let d := toSigned 32 (s.rn R.PTP_SET_NS)
    if s.ptpMode ≠ 0 ∨ (s.mustRise ∧ d < 0) then s.ptpReject else s.clockMove d
  | _ => s

/-- PTP_SET (R373): port `p` writes PTP_CMD with ACTION SET. -/
def execPtpSet (p : Fin 2) (s : State) : Host.Outcome State Fault Refusal :=
  .next (if s.linkUp p then s.regWrite p R.PTP_CMD (fun t => t.ptpCmdWrite 1) else s)

/-- PTP_ADJUST (R373): port `p` writes PTP_CMD with ACTION ADJUST. -/
def execPtpAdjust (p : Fin 2) (s : State) : Host.Outcome State Fault Refusal :=
  .next (if s.linkUp p then s.regWrite p R.PTP_CMD (fun t => t.ptpCmdWrite 2) else s)

/-- A write of PTP_ADDEND (R371, R373). -/
def State.ptpAddendWrite (s : State) (v : Nat) : State :=
  if s.ptpMode ≠ 0 then s.ptpReject else s.wn R.PTP_ADDEND (clampAddend v)

/-- PTP_ADDEND_WRITE (R373): port `p` writes PTP_ADDEND. -/
def execPtpAddendWrite (p : Fin 2) (v : Word) (s : State) : Host.Outcome State Fault Refusal :=
  .next (if s.linkUp p then s.regWrite p R.PTP_ADDEND (fun t => t.ptpAddendWrite v.toNat) else s)

/-- The bits of PTP_CTL (R382). -/
def ptpCtlForm (v : Nat) : Nat := bits v 16 8 * 2 ^ 16 + bits v 0 12

/-- A write of PTP_CTL (R372, R376, R377, R382). -/
def State.ptpCtlWrite (s : State) (v : Nat) : State :=
  let old := s.rn R.PTP_CTL
  let new := ptpCtlForm v
  let free := !natBit old 0 || !natBit new 0
  let domOk := Nat.ble (bits new 16 8) 127
  let locked := fun (w : Nat) => (bits w 16 8, bits w 1 5)
  let bad := (!free && locked old != locked new) || !domOk
  let low := if free then bits new 1 5 else bits old 1 5
  let dom := if free && domOk then bits new 16 8 else bits old 16 8
  let w := dom * 2 ^ 16 + bits new 6 6 * 64 + low * 2 + bits new 0 1
  let s1 := if bad then s.ptpReject else s
  let s2 := if natBit old 0 && !natBit w 0 then
      let t := match s1.ptp.master with | some _ => s1.noMaster | none => s1
      { t with ptp := { t.ptp with announce := [], req := [], pdreq := [], presp := [], answers := [] } }
    else s1
  let s3 := s2.wn R.PTP_CTL w
  let s4 := if bits w 1 2 % 3 = 0 then
      (if s3.ptpState = 5 then s3
       else ({ s3 with ptp := { s3.ptp with master := none } }).setPtpState 5 |>.p F.PTP_STATUS_SLEWING 0)
    else if natBit w 0 ∧ s3.ptpState = 5 then
      ({ s3 with ptp := { s3.ptp with est := s3.rn R.PTP_ADDEND, locks := 0 } }).setPtpState 0
    else s3
  s4.macBins.ptpShow

/-- PTP_CTL_WRITE (R382): port `p` writes PTP_CTL. -/
def execPtpCtlWrite (p : Fin 2) (v : Word) (s : State) : Host.Outcome State Fault Refusal :=
  .next (if s.linkUp p then s.regWrite p R.PTP_CTL (fun t => t.ptpCtlWrite v.toNat) else s)

end Sys2Proof.Machine
end

