-- ==== Sys2Proof/Machine/Saf.lean ====
section
/-! DEFINITION. The safety manager and the assay controller: declared faults and their reactions, heartbeats, ECC
corrections, self-tests (chapter 21). -/

namespace Sys2Proof.Machine

/-! ## Faults (R445 to R447) -/

/-- A safety reset is ordered (R57, R446). -/
def State.safetyReset (s : State) : State := s.orderReset 3

/-- The module is the motor of a pair. -/
def State.duplexMotor (s : State) : Bool := s.grantOut && s.hasPartner

/-- The class that a fault is handled as: a failed self-test as the class of its unit, a loop engine's missed heartbeat as
class 3 (R445, R447). -/
def FaultRep.handledAs (f : FaultRep) : Nat :=
  if f.cls = 12 then
    (if f.unit = 0 then 1 else if f.unit = 30 then 2 else if 4 ≤ f.unit ∧ f.unit < 8 then 3 else 11)
  else if f.cls = 10 ∧ 4 ≤ f.unit ∧ f.unit < 8 then 3
  else f.cls

/-- The unit of `saf.restarting` that a fault of class 7 or 10 names: 4 and 5 the metering DSPs, 6 and 7 the network
cores. -/
def FaultRep.restarts (f : FaultRep) : Nat := if f.unit = 23 then 4 + f.inst % 2 else 6 + f.inst % 2

/-- A second fault of the unit within 60 s (R447). -/
def State.missedAgain (s : State) (u : Nat) : Bool :=
  match tget s.saf.missed none u with
  | some t => Nat.blt s.clk.upNs (t + 60000000000)
  | none => false

/-- REACTION of SAF_FAULT_LAST. -/
def State.reaction (s : State) (f : FaultRep) : Nat :=
  let k := f.handledAs
  if k = 2 ∨ k = 5 ∨ k = 9 then 3
  else if k = 6 then 7
  else if k = 7 ∨ k = 10 then (if s.missedAgain f.restarts then 3 else 4)
  else if k = 13 then 6
  else if s.duplexMotor then 2
  else if k = 11 then 5 else 1

/-- A unit is restarted (R447): a metering DSP's channels or a network core's work stand meanwhile. -/
def State.unitRestart (s : State) (u : Nat) : State :=
  if s.missedAgain u then s.safetyReset
  else ({ s with saf := { s.saf with
      missed := tset s.saf.missed none u (some s.clk.upNs)
      restarting := if s.saf.restarting.contains u then s.saf.restarting else s.saf.restarting ++ [u] } }).raise evSAF 3

/-- What a fault stop names of the task whose work met the fault (R470). -/
def State.faultWho (s : State) (task : Option (Fin 96)) : Option (Nat × Nat × Nat) :=
  match task with
  | none => none
  | some n => (s.ent n).map (fun t => (t.task, t.pair, (s.task n).pc))

/-- A pair's self-test has failed: PAIR_OK stays 0 until the next module reset (R135). -/
def State.pairTestOff (s : State) (k : Nat) : State :=
  ({ s with scn := { s.scn with pairTest := setBits (setBits s.scn.pairTest k 1 0) (4 + k) 1 0 } }).setBit R.SCN_STATUS
    (8 + k) false

/-- The reaction of a single module (R445). -/
def State.reactAlone (s : State) (f : FaultRep) (task : Option (Fin 96)) : State :=
  match f.handledAs with
  | 1 =>
    let s1 := s.pairStop (f.inst % 4) f.pc
    if f.cls = 12 then
      s1.pairTestOff (f.inst % 4)
    else s1.testPairs
  | 2 => s.safetyReset
  | 3 => s.faultStop 5 (s.faultWho task)
  | 4 => s.faultStop 5 (s.faultWho task)
  | 5 => s.safetyReset
  | 6 => s.replicaFail (f.pc % 2 ^ 22 / 4 % 262144)
  | 7 => s.unitRestart f.restarts
  | 8 => s.faultStop 5 (s.faultWho task)
  | 9 => s.safetyReset
  | 10 => s.unitRestart f.restarts
  | _ => s

/-- The part of the reaction that concerns the pair: a motor abdicates, or its lines fall in hardware; a butty becomes
DETACHED (R325, R445). Replica faults, unit restarts and supply failures leave the roles. -/
def State.reactPair (s : State) (f : FaultRep) : State :=
  let k := f.handledAs
  if k = 6 ∨ k = 7 ∨ k = 10 ∨ k = 13 then s
  else if k = 2 then s.lowerLines
  else if s.duplexMotor then s.abdicate
  else if s.isButty then s.notReady
  else s

/-- A fault declared (R445): counted, shown, recorded, and its reaction taken. -/
def State.declare (s : State) (f : FaultRep) (task : Option (Fin 96)) : State :=
  let last := f.cls * 2 ^ 28 + s.reaction f * 2 ^ 24 + f.unit % 256 * 2 ^ 16 + f.inst % 256 * 2 ^ 8
  let ecc := Nat.ble 4 f.cls && Nat.ble f.cls 7
  let s0 := if ecc then (s.inc R.SAF_ECC_UNCORR).wn R.SAF_ECC_LAST (f.pc &&& 0xF03FFFFF) else s
  let s1 := (((s0.inc R.SAF_FAULTS).wn R.SAF_FAULT_LAST last).wn64 R.SAF_FAULT_TIME_LO s0.ptpNs).raise evSAF 0
  let s2 := s1.post 0x5004 30 0 last s1.ptpNs f.pc (b2n s1.isMotor)
  (s2.reactPair f).reactAlone f task

/-- FAULT_DECLARE (R445, R470): the oldest fault reported by a unit is declared, or `found`, which a mechanism of the table
has found at this instant; `task`: the task whose work met it. -/
def execFaultDeclare (found : Option FaultRep) (task : Option (Fin 96)) (s : State) : Host.Outcome State Fault Refusal :=
  .next (match found, s.reports with
    | some f, _ => if 1 ≤ f.cls ∧ f.cls ≤ 13 then s.declare f task else s
    | none, f :: rest => ({ s with reports := rest }).declare f task
    | none, [] => s)

/-- HEARTBEAT_MISS (R447): unit `u` is loop engine 0 to 3, metering DSP 4 or 5, network core 6 or 7. -/
def execHeartbeatMiss (u : Fin 8) (task : Option (Fin 96)) (s : State) : Host.Outcome State Fault Refusal :=
  if s.saf.restarting.contains u.val then .next s
  else
    let unit := if u.val < 4 then 4 + u.val else if u.val < 6 then 23 else 3
    let inst := if u.val < 4 then u.val else u.val % 2
    .next ((s.inc R.SAF_HB_MISS).declare ⟨10, unit, inst, 0⟩ task)

/-- UNIT_RESTART_DONE (R447): the unit runs again, or its restart has failed. The time of a metering DSP is a measurement
gap; a network core takes what waited for it. -/
def execUnitRestartDone (u : Fin 8) (ok : Bool) (s : State) : Host.Outcome State Fault Refusal :=
  if !s.saf.restarting.contains u.val then .next s
  else
    let s1 := { s with saf := { s.saf with restarting := s.saf.restarting.filter (fun x => x != u.val) } }
    let gap := s.clk.upNs - (tget s.saf.missed none u).getD s.clk.upNs
    .next (if !ok then s1.safetyReset
      else if u.val = 4 ∨ u.val = 5 then s1.setMtr { s1.mtr with gapFrom := some (s.ptpNs - gap) }
      else if u.val = 6 then s1.ringsTaken
      else if u.val = 7 then s1.ownResume
      else s1)

/-! ## Corrections (R448) -/

/-- `n` corrections counted, in their hour. -/
def State.corrected (s : State) (n : Nat) : State :=
  let x := s.saf
  let next := Nat.ble (x.hourFrom + 3600000000000) s.clk.upNs
  let s1 := { s with saf := { x with
    hour := (if next then 0 else x.hour) + n
    hourFrom := if next then s.clk.upNs else x.hourFrom
    hourSent := !next && x.hourSent } }
  (s1.inc R.SAF_ECC_CORR n).count 579 n

/-- ECC_HIGH (R448): `corrected` more corrections have been made, and the hour's exceed ECC_WARN. -/
def execEccHigh (corrected : Nat) (s : State) : Host.Outcome State Fault Refusal :=
  let s1 := s.corrected corrected
  let warn := s1.g F.SAF_CTL_ECC_WARN
  .next (if warn ≠ 0 ∧ warn < s1.saf.hour ∧ !s1.saf.hourSent then
    (({ s1 with saf := { s1.saf with hourSent := true } }).raise evSAF 1).post 0x5006 30 0 s1.saf.hour
      (s1.rn R.SAF_ECC_CORR)
  else s1)

/-! ## Assay (R450 to R453) -/

def State.target (s : State) (t : Nat) : Target := tget s.saf.targets {} t
def State.setTarget (s : State) (t : Nat) (x : Target) : State :=
  { s with saf := { s.saf with targets := tset s.saf.targets {} t x } }

/-- The targets of the resource of target `t` (R453). -/
def sameResource (t : Nat) : List Nat :=
  if t < 4 then [0, 1, 2, 3] else if t = 4 then [4] else if t < 9 then [5, 6, 7, 8]
  else if t < 33 then (List.range 24).map (fun n => 9 + n) else [33, 34]

/-- Pending islands run one by one, in ascending order. -/
def State.islandNext (s : State) : State :=
  let l := sameResource 9
  if !s.inService || l.any (fun t => (s.target t).st == 2) then s
  else match l.find? (fun t => (s.target t).st == 1) with
    | some t => s.setTarget t { s.target t with st := 2, forced := 0, slices := 0, since := s.clk.upNs }
    | none => s

/-- A request (R453). -/
def State.asyRequest (s : State) (t : Nat) (cal : Bool) : State :=
  let x := s.target t
  let c := cal && Nat.ble 9 t && Nat.blt t 33
  match x.st with
  | 0 => (s.setTarget t { x with st := 1, cal := c }).islandNext
  | 2 => if x.again then s else s.setTarget t { x with again := true, againCal := c }
  | _ => s

/-- A write of ASY_CMD (R453, R457). -/
def State.asyCmdWrite (s : State) (action t : Nat) : State :=
  if action = 0 ∨ action = 3 then s
  else if t = 63 then (List.range 35).foldl (fun u k => u.asyRequest k (action == 2)) s
  else if t < 35 then s.asyRequest t (action == 2)
  else s

/-- ASY_TEST (R453): port `p` writes ASY_CMD with ACTION TEST. -/
def execAsyTest (p : Fin 2) (t : Fin 64) (s : State) : Host.Outcome State Fault Refusal :=
  .next (if s.linkUp p then s.regWrite p R.ASY_CMD (fun u => u.asyCmdWrite 1 t) else s)

/-- ASY_CALIBRATE (R453): port `p` writes ASY_CMD with ACTION CALIBRATE. -/
def execAsyCalibrate (p : Fin 2) (t : Fin 64) (s : State) : Host.Outcome State Fault Refusal :=
  .next (if s.linkUp p then s.regWrite p R.ASY_CMD (fun u => u.asyCmdWrite 2 t) else s)

/-- ASSAY_PERIODIC_REQUEST (R453). -/
def execAssayPeriodicRequest (s : State) : Host.Outcome State Fault Refusal :=
  .next (if s.g F.ASY_CTL_PERIODIC = 1 ∧ s.inService then
    (List.range 33).foldl (fun u k => u.asyRequest k false) s else s)

/-- A test completed with a result (R453): its record, events and status; one further test may wait. A scrub goes on. -/
def State.testDone (s : State) (t result : Nat) : State :=
  let x := s.target t
  let s1 := s.setTarget t { x with
    result := result, time := s.ptpNs, inSlice := false
    st := if t = 33 ∨ t = 34 then 2 else b2n x.again
    again := false, cal := x.again && x.againCal, againCal := false, since := s.clk.upNs }
  let s2 := ((s1.inc R.ASY_RUNS).raise evASY 0).post 0x5005 31 0 t result x.slices x.forced
  if result = 2 then s2.raise evASY 1 else s2

/-- Length of a slice in ns and slices of a test (R450). -/
def sliceNs (t : Nat) : Nat := if t < 4 then 50000 else if t = 4 then 1500 else 2000
def sliceCount (t : Nat) : Nat := if t < 4 then 200 else if t = 4 then 400 else 500

/-- Slack for a slice of target `t` (R451). -/
def State.slack (s : State) (t : Nat) : Bool :=
  let free := sliceNs t + 10000
  let quiet := fun (x : TaskEnt) =>
    x.kind != 0 || (s.task x.task).suspend || s.mode == 0 || Nat.blt free (s.toNextRelease x)
  if t = 4 then true
  else if t < 4 then
    s.taskEnts.all (fun x => x.pair != t || (!(s.task x.task).inCycle && quiet x))
  else
    let e := t - 5
    s.taskEnts.all (fun x =>
      (s.task x.task).loops.all (fun k => k / 512 != e)
        && (quiet x || !(s.img.loops.any (fun l => l.engine == e && l.task == x.task))))

/-- The unit counters of R455 for slices of target `t`: slices, and forced slices of a pair. -/
def State.countSlice (s : State) (t : Nat) (forced : Bool) : State :=
  if t < 4 then
    let s1 := s.count (32 * t + 8)
    if forced then s1.count (32 * t + 9) else s1
  else if t = 4 then s.count 585
  else s.count (128 + 16 * (t - 5) + 8)

/-- ASSAY_SLICE_START (R451): a slice of target `t` starts, in slack or else forced. -/
def execAssaySliceStart (t : Fin 9) (s : State) : Host.Outcome State Fault Refusal :=
  let x := s.target t
  let first := (sameResource t).all (fun k => (s.target k).st != 2 && (Nat.ble t.val k || (s.target k).st != 1))
  if x.inSlice || x.st == 0 || (x.st == 1 && !first) || !s.inService then .next s
  else
    let forced := !s.slack t
    let y := if x.st = 1 then { x with st := 2, forced := 0, slices := 0, since := s.clk.upNs } else x
    let s1 := s.setTarget t { y with inSlice := true, forced := min 255 (y.forced + b2n forced) }
    .next ((if forced then s1.inc R.ASY_FORCED else s1).countSlice t forced)

/-- The unit and the instance of a target for SAF_FAULT_LAST. -/
def targetUnit (t : Nat) : Nat × Nat :=
  if t < 4 then (0, t) else if t = 4 then (30, 0) else if t < 9 then (4 + (t - 5), t - 5)
  else (8 + (t - 9) / 8, t - 9)

/-- A pair's self-test has passed: the pair may run again (R135). A test that ran when the fault was declared does not count. -/
def State.pairPassed (s : State) (k : Nat) : State :=
  if natBit s.scn.pairTest (4 + k) then { s with scn := { s.scn with pairTest := setBits s.scn.pairTest (4 + k) 1 0 } }
  else if natBit s.scn.pairTest k then
    ({ s with scn := { s.scn with pairTest := setBits s.scn.pairTest k 1 0 } }).setBit R.SCN_STATUS (8 + k) true
  else s

/-- ASSAY_SLICE_END (R450, R451, R453): the slice ends; a slice that fails ends the test, and so does the last. -/
def execAssaySliceEnd (t : Fin 9) (fail : Bool) (s : State) : Host.Outcome State Fault Refusal :=
  let x := s.target t
  if !x.inSlice then .next s
  else
    let s1 := (s.advance ((sliceNs t + 7) / 8)).setTarget t { x with inSlice := false, slices := x.slices + 1 }
    .next (if fail then
        let s2 := (s1.testDone t 2).report 12 (targetUnit t).1 (targetUnit t).2 0
        if t.val < 4 then s2.pairTestOff t else s2
      else if x.slices + 1 < sliceCount t then s1
      else
        let s2 := s1.testDone t 1
        if t.val < 4 then s2.pairPassed t else s2)

/-- ISLAND_TEST_END (R450): the 20 ms test or calibration of island `n` ends; `fail`: the comparison failed, `limit`: a trim
is at its limit. An island that is OFF or OPEN is skipped. -/
def execIslandTestEnd (n : Fin 24) (fail limit : Bool) (s : State) : Host.Outcome State Fault Refusal :=
  let t := 9 + n.val
  let x := s.target t
  if x.st ≠ 2 then .next s
  else
    let skip := s.islMode n == 0 || (s.isl n).st == .off || s.g (F.LI_STATUS_OPEN n) == 1
    let result := if skip then 6 else if fail then 2 else if !x.cal then 1 else if limit then 5 else 4
    let s1 := ((s.advanceToUp (x.since + 20000000)).testDone t result).islandNext
    .next (if result = 2 then s1.report 12 (targetUnit t).1 (targetUnit t).2 0 else s1)

/-- SCRUB_PASS_END (R448, R450): a pass of the SRAM or MRAM scrub ends, with the words it corrected. -/
def execScrubPassEnd (mram : Bool) (corrected : Nat) (s : State) : Host.Outcome State Fault Refusal :=
  let t := if mram then 34 else 33
  if (s.target t).st ≠ 2 then .next s
  else .next ((if mram then s else s.corrected corrected).testDone t 1)

/-- The module comes to SERVICE: the scrubs run, and so do pending islands. -/
def State.asyService (s : State) : State :=
  ([33, 34].foldl (fun u t => u.setTarget t { u.target t with st := 2, since := u.clk.upNs }) s).islandNext

/-- PHASE leaves SERVICE (R453): tests in progress are abandoned and their targets return to PENDING. -/
def State.asyAbandon (s : State) : State :=
  (List.range 35).foldl (fun u t =>
    let x := u.target t
    if x.st = 2 then u.setTarget t { x with st := 1, result := 3, inSlice := false, again := false } else u)
    { s with scn := { s.scn with pairTest := s.scn.pairTest % 16 } }

end Sys2Proof.Machine
end

