-- ==== Sys2Proof/Machine/RegWrite.lean ====
section
/-! DEFINITION. Writes of BAR0 and BAR2 by the host (R2 to R6, R66, R68, R70, R74, R462 to R467). -/

namespace Sys2Proof.Machine

/-! ## Fields -/

/-- The value that a plain write leaves: the writable bits of `v`, the others as they stand. -/
def mergeBits (old v mask : Nat) : Nat := (old &&& (2 ^ 32 - 1 - mask)) ||| (v &&& mask)

/-- A plain write (R3, R4). -/
def State.putPlain (s : State) (a v mask : Nat) : State := s.wn a (mergeBits (s.rn a) v mask)

/-- A field of a written value clamped (R133, R209, R263 and the like). -/
def clampFld (v lo w min_ max_ : Nat) : Nat := setBits v lo w (clampN min_ max_ (bits v lo w))

/-- A signed field of four bits of a written value clamped (R382). -/
def clampSigned4 (v lo : Nat) (min_ max_ : Int) : Nat :=
  setBits v lo 4 (ofSigned 4 (max min_ (min max_ (toSigned 4 (bits v lo 4)))))

/-! ## PCR (R66) -/

/-- A write of PCR_RST_CTL by the holder of its gate. -/
def State.rstCtlWrite (s : State) (p v : Nat) : State :=
  if bits v 16 16 = 0x5A17 then (if natBit v 0 then s.orderReset 2 else s)
  else (s.rsvWrite p R.PCR_RST_CTL).post 0x0006 37 0 v p

/-- SOFTWARE_RESET (R59, R66): port `p` writes `v` to PCR_RST_CTL. -/
def execSoftwareReset (p : Fin 2) (v : Word) (s : State) : Host.Outcome State Fault Refusal :=
  .next (if s.linkUp p then s.regWrite p R.PCR_RST_CTL (fun t => t.rstCtlWrite p v.toNat) else s)

/-! ## The registers of a unit with effects of their own -/

/-- REP (R125, R126, R133): ENABLE cannot be set without a node number of 1 to 192. -/
def State.repPut (s : State) (p a v mask : Nat) : State :=
  let settle := fun (t : State) =>
    if t.node = 0 ∨ 192 < t.node then t.p F.REP_CTL_ENABLE 0 else t
  if a = R.REP_CTL ∨ a = R.REP_NODE then settle (s.putPlain a v mask)
  else if a = R.REP_TIMEOUT then s.putPlain a (clampFld (clampFld v 16 16 100 10000) 0 16 20 1000) mask
  else if a = R.REP_REFRESH then s.putPlain a (clampFld v 16 16 10 10000) mask
  else if a = R.REP_OWN_CAND then
    let b := s.prd p R.REP_OWN_SEL % 256
    s.setOwn b { s.ownOf b with c1 := bits v 0 8, c2 := bits v 8 8, c3 := bits v 16 8, auto := natBit v 31 }
  else if a = R.REP_OWN_CMD then
    (match bits v 16 2 with
      | 1 => s.ownRelease (bits v 0 8) (bits v 8 8)
      | 2 => s.ownClaim (bits v 0 8) (bits v 8 8)
      | _ => s.putPlain a v mask)
  else (s.putPlain a v mask).macBins

/-- Loop engines (R229, R236, R238, R242). -/
def State.lePut (s : State) (e a off v mask : Nat) : State :=
  if off = 0x40 then s.leCmdWrite e v
  else if off = 0x58 then s.memCmd e v true
  else if 0x100 ≤ off ∧ off % 0x40 = 0x14 then s.traceCmd e ((off - 0x100) / 0x40) v
  else s.putPlain a v mask

/-- Loop islands (R252, R257, R262, R263). -/
def State.liPut (s : State) (n a off v mask : Nat) : State :=
  if off = 0 then s.liCfgWrite n v
  else if off = 4 then s.putPlain a (clampFld v 0 16 0 10000) mask
  else if off = 0x10 then s.liCmdWrite n v
  else s.putPlain a v mask

/-- Universal inputs, discrete outputs, DALI masters, serial ports (R280 to R283). -/
def State.uiPut (s : State) (a off v mask : Nat) : State :=
  if off % 16 = 0 then (s.putPlain a (clampFld v 16 10 0 600) mask).uiChange ((off - 0x100) / 16)
    (s.g (F.UI_CFG_TYPE ((off - 0x100) / 16)))
  else s.putPlain a (clampFld v 0 16 2500 5000) mask

def State.doPut (s : State) (a off v mask : Nat) : State :=
  if off = 4 then s.doEnWrite v else if off = 8 then s.doCmdWrite v else s.putPlain a v mask

def State.daliPut (s : State) (n a off v mask : Nat) : State :=
  if off = 0 then s.putPlain a (clampFld v 0 16 20 10000) mask else s.daliRawWrite n v

/-- CAN FD controllers (R340, R341, R345, R347, R349, R353); bit timing and delay compensation are applied only while
ENABLE is 0. -/
def State.canPut (s : State) (p n a off v mask : Nat) : State :=
  if off = 0 then s.canCtlWrite n v
  else if off ≤ 0x0C then (if s.canOn n then s else s.putPlain a v mask)
  else if off = 0x1C then s.canCmdWrite n v
  else if off = 0x48 then s.canReqWrite n 0 v
  else if off = 0x4C then s.canReqWrite n 32 v
  else if off = 0x50 then s.canCancelWrite n 0 v
  else if off = 0x54 then s.canCancelWrite n 32 v
  else if 0x104 ≤ off ∧ off < 0x200 then s.txbufWrite n (s.prd p (R.CAN_TXBUF_SEL n) % 64) (off - 0x104) v
  else if 0x200 ≤ off ∧ off < 0x300 then (if natBit v 0 then s.canPop n ((off - 0x200) / 0x80) else s)
  else
    let k := s.prd p (R.CAN_FLT_SEL n) % 64
    let x := tget (s.canc n).flt {} k
    let y : CanFilter :=
      if off = 0x304 then { x with id := v &&& mask }
      else if off = 0x308 then { x with mask := v &&& mask }
      else { x with ctl := v &&& mask }
    s.setCan n { s.canc n with flt := tset (s.canc n).flt {} k y }

/-- Metering (R285, R292, R305, R310 to R312). -/
def State.mtrPut (s : State) (off v : Nat) : State :=
  if off = 0 then s.mtrCtlWrite v
  else if off = 0x40 then s.mtrCalWrite v
  else if off < 0x2000 then
    (if off % 0x20 = 0 then s.mtrCfgWrite ((off - 0x1000) / 0x20) v else s.mtrPrimaryWrite ((off - 0x1000) / 0x20) v)
  else s.mtrCirWrite ((off - 0x2000) / 0x10) v

def State.mtcPut (s : State) (p a off v mask : Nat) : State :=
  if off = 0x0C then s.mtcStage p 0 v
  else if off = 0x10 then s.mtcStage p 1 v
  else if off = 0x14 then s.mtcCmdWrite p v
  else s.putPlain a v mask

/-- Ethernet MACs (R361, R370) and network time (R373, R382). -/
def State.ethPut (s : State) (n a off v mask : Nat) : State :=
  if off = 0 then s.ethCtlWrite n v
  else if off = 0x18 then s.ethVlanWrite n v
  else if 0x40 ≤ off then s.ethHashWrite n ((off - 0x40) / 4) v
  else s.putPlain a v mask

def State.ptpPut (s : State) (a off v mask : Nat) : State :=
  if off = 0 then s.ptpCtlWrite v
  else if off = 0x1C then s.ptpAddendWrite v
  else if off = 0x2C then s.ptpCmdWrite v
  else if off = 0x34 then
    s.putPlain a (clampSigned4 (clampSigned4 (clampSigned4 (clampFld v 12 4 2 10) 8 (-3) 4) 4 (-7) 5) 0 (-7) 1) mask
  else s.putPlain a v mask

/-- Duplex (R331, R333, R336, R337). -/
def State.dpxPut (s : State) (a off v mask : Nat) : State :=
  if off = 4 then
    (match bits v 30 2 with
      | 1 => s.dpxSwitch (bits v 0 16)
      | 2 => s.dpxDetach
      | 3 => s.dpxJoin
      | _ => s)
  else s.putPlain a (clampFld v 16 14 10 10000) mask

/-- Safety and assay (R456, R457). -/
def State.asyPut (s : State) (a off v mask : Nat) : State :=
  if off = 4 then s.asyCmdWrite (bits v 30 2) (bits v 0 6) else s.putPlain a (clampFld v 16 16 1 1440) mask

/-- Backup domain (R387 to R397) and logbook (R401, R407). -/
def State.bkdPut (s : State) (p a off v mask : Nat) : State :=
  if off = 0x24 then s.trimWrite v
  else if off = 0x28 then s.wakeWrite v
  else if off = 0x2C then s.bkdCmdWrite p v
  else if 0x80 ≤ off then s.bkdByteWrite ((off - 0x80) / 4) v
  else s.putPlain a v mask

def State.logPut (s : State) (p a off v mask : Nat) : State :=
  if off = 0x40 then (if natBit v 0 then s.epochApply p else s)
  else if 0x30 ≤ off then s.epochStage p a (v &&& mask)
  else s.putPlain a v mask

/-- Firmware update (R435, R439, R442). -/
def State.fwuPut (s : State) (p a off v mask : Nat) : State :=
  if off = 0x10 then s.fwuCmdWrite p (bits v 30 2) else s.putPlain a (clampFld v 0 16 10 10000) mask

/-- An accepted write of a register marked RWG: at offset `off` of the block with descriptor `d`. -/
def State.putGated (s : State) (p a d off v mask : Nat) : State :=
  if d = 4 then (if off = 8 then s.rstCtlWrite p v else s.putPlain a v mask)
  else if d = 5 then (if off = 0 then s.pmonCtlWrite v else s.pmonSelWrite ((off - 0x100) / 0x10) v)
  else if d = 8 then s.repPut p a v mask
  else if d = 10 then s.putPlain a (clampFld v 0 16 10 10000) mask
  else if 11 ≤ d ∧ d ≤ 14 then s.lePut (d - 11) a off v mask
  else if 15 ≤ d ∧ d ≤ 38 then s.liPut (d - 15) a off v mask
  else if d = 39 then s.uiPut a off v mask
  else if d = 40 then s.doPut a off v mask
  else if 41 ≤ d ∧ d ≤ 44 then s.daliPut (d - 41) a off v mask
  else if d = 45 ∨ d = 46 then s.serCfgWrite (d - 45) v
  else if 47 ≤ d ∧ d ≤ 50 then s.canPut p (d - 47) a off v mask
  else if d = 51 then s.mtrPut off v
  else if d = 52 then s.mtcPut p a off v mask
  else if 53 ≤ d ∧ d ≤ 55 then s.ethPut (d - 53) a off v mask
  else if d = 56 then s.ptpPut a off v mask
  else if d = 57 then s.dpxPut a off v mask
  else if d = 59 then s.asyPut a off v mask
  else if d = 60 then s.bkdPut p a off v mask
  else if d = 61 then s.logPut p a off v mask
  else if d = 63 then s.fwuPut p a off v mask
  else s.putPlain a v mask

/-! ## Registers that are not gated -/

/-- The source whose event mask is at offset `a`. -/
def maskSource (a : Nat) : Option Nat :=
  (List.range 40).find? (fun src => (evPortsOf src).any (fun e => e.en == a))

/-- A write of an event mask: the source's line may rise (R92). The backup domain has interrupts in SERVICE only (R393). -/
def State.maskWrite (s : State) (a v mask : Nat) : State :=
  let s1 := s.putPlain a v mask
  match maskSource a with
  | some src => if src = 32 ∧ !s.inService then s1 else s1.edgeFrom src (s.line src)
  | none => s1

/-- A write of a port's own block by that port (R72, R73, R99). -/
def State.hpPut (s : State) (p a v mask : Nat) : State :=
  let off := a % 65536
  let n := off % 0x1000 / 0x20
  let k := off % 0x20
  if 0x1000 ≤ off ∧ off < 0x2000 then
    (if k = 8 then s.sqCfgWrite p n v else s.baseWrite p a v (s.sqOn p n))
  else if 0x2000 ≤ off then
    (if k = 8 then s.cqCfgWrite p n v else if k < 8 then s.baseWrite p a v (s.cqOn p n) else s.putPlain a v mask)
  else s.putPlain a v mask

/-- A write of an RW register. -/
def State.putRw (s : State) (p a v : Nat) (r : RegRow) : State :=
  if r.perPort then s.pwp p a (mergeBits (s.prd p a) v r.wmask)
  else if 0x10000 ≤ a ∧ a < 0x30000 then s.hpPut p a v r.wmask
  else if 0x30000 ≤ a ∧ a < 0x31000 then s.leaseWrite p ((a - 0x30000) / 0x10) v
  else s.maskWrite a v r.wmask

/-! ## A register written whole -/

/-- A write by port `p` at offset `a` that is ignored and counted; one to the other port's block also sets FOREIGN_WRITE
(R5, R70). -/
def State.ignoredWrite (s : State) (p a : Nat) : State :=
  let s1 := s.rsvWrite p a
  match blockAt a with
  | some b => if b.desc = 2 - p then s1.p (F.HP_ERR_FOREIGN_WRITE p) 1 else s1
  | none => s1

/-- `v` written to the register at offset `a` of BAR0 by port `p` (R3, R5, R62, R70, R96, R464). -/
def State.regPut (s : State) (p a v : Nat) : State :=
  match regRow a, blockAt a with
  | some r, some b =>
    if !s.responds a || b.desc == 2 - p then s.ignoredWrite p a
    else match r.acc with
      | .rw => s.putRw p a v r
      | .rwg => s.gatedWrite p a (fun t => t.putGated p a b.desc (a - b.base) v r.wmask)
      | .w1c => s.wn a (s.rn a &&& (2 ^ 32 - 1 - (v &&& r.cmask)))
      | .ro => s
      | .rc => s
      | .snap => s
  | _, _ => s.ignoredWrite p a

/-! ## BAR2 (R68, R74) -/

/-- `v` written to word `i` of the MSI-X table: an entry that is unmasked sends a message that waits. -/
def State.msixWrite (s : State) (p i v : Nat) : State :=
  let q := s.port p
  let d := if i % 4 = 3 then 1#32 else 0#32
  let s1 := s.setPort p { q with msix := tset q.msix d i (BitVec.ofNat 32 v) }
  if i % 4 = 3 ∧ v % 2 = 0 ∧ natBit q.pba (i / 4) then
    (s1.setPort p { s1.port p with pba := setBits q.pba (i / 4) 1 0 }).msix p (i / 4)
  else s1

/-- `v` written to offset `a` of BAR2 by port `p`. -/
def State.bar2Put (s : State) (p a v : Nat) : State :=
  if a < 0x200 then (if a % 8 = 0 then s.tailDoorbell p (a / 8) v else s.headDoorbell p (a / 8) v)
  else if 0x8000 ≤ a ∧ a < 0x8800 then s.msixWrite p ((a - 0x8000) / 4) v
  else if 0xC000 ≤ a ∧ a < 0xC010 then s
  else s.inc (R.HP_DB_IGNORED p)

/-! ## A write access (R462) -/

/-- The registers that the data of an access reach, in ascending order: offset of each and its four byte lanes. `a` is the
first byte; a lane is none where the byte is not written. -/
def lanes : Nat → Nat → List (Option Byte) → List (Nat × List (Option Byte))
  | 0, _, _ => []
  | _, _, [] => []
  | k + 1, a, l =>
    let skip := a % 4
    (a - skip, (List.replicate skip none ++ l.take (4 - skip) ++ [none, none, none, none]).take 4)
      :: lanes k (a - skip + 4) (l.drop (4 - skip))

/-- The access meets the conditions of R462: 4 to 64 bytes, aligned, within 64 bytes; or 1 to 3 bytes of one register. -/
def accessOk (a len : Nat) : Bool :=
  if len < 4 then Nat.blt 0 len && Nat.ble (a % 4 + len) 4
  else a % 4 == 0 && Nat.ble (a % 64 + len) 64

/-- The bytes of `old` replaced where a byte of `l` is written. -/
def byteMerge (old : Nat) : List (Option Byte) → Nat
  | [] => old
  | b :: t => (match b with | some x => x.toNat | none => old % 256) + 256 * byteMerge (old / 256) t

/-- Pending messages that an enabled function no longer masks are sent (R91). -/
def State.msixDrain (s : State) (p : Nat) : State :=
  (List.range 128).foldl (fun t v =>
    let q := t.port p
    if natBit q.pba v && t.msixOn p && !t.msixMasked p v then (t.setPort p { q with pba := setBits q.pba v 1 0 }).msix p v
    else t) s

/-- A configuration write of port `p` (R67, R91): the register's writable bits; Message Control of MSI-X masks and enables;
Initiate Function Level Reset resets the port (R57). -/
def State.cfgPut (s : State) (p a : Nat) (l : List (Option Byte)) : State :=
  let r := cfgRow p a
  let old := s.cfg p a
  let v := byteMerge old l
  let w := byteMerge 0 l
  let new := mergeBits old v r.wmask &&& (2 ^ 32 - 1 - (w &&& r.cmask))
  let q := s.port p
  let s1 := s.setPort p { q with cfg := tset q.cfg (cfgReset p a) a (BitVec.ofNat 32 new) }
  if a = 0x68 ∧ natBit w 15 then s.portReset p
  else if a = 0x50 then s1.msixDrain p
  else s1

/-- One register's part of a write access to a BAR: whole, partial, or not touched. -/
def State.lanePut (s : State) (p : Nat) (bar2 : Bool) (x : Nat × List (Option Byte)) : State :=
  if x.2.all (fun b => b.isNone) then s
  else if x.2.all (fun b => b.isSome) then
    let v := leNat (x.2.map (fun b => b.getD 0#8))
    if bar2 then s.bar2Put p x.1 v else s.regPut p x.1 v
  else if bar2 then s.inc (R.HP_DB_IGNORED p)
  else s.ignoredWrite p x.1

/-- An access of `len` bytes from offset `a` on lies in its space and meets the space's conditions: R462 for a BAR, one
register for the configuration space. -/
def spaceTakes (w : HostSpace) (a len : Nat) : Bool :=
  match w with
  | .regs => accessOk a len && Nat.ble (a + len) 16777216
  | .page => accessOk a len && Nat.ble (a + len) 65536
  | .config => Nat.blt 0 len && Nat.ble (a % 4 + len) 4 && Nat.ble (a + len) 4096

/-- REGISTER_WRITE (R67, R68, R462): a write access of port `p` to BAR0, to its BAR2 or to its configuration space, from byte
offset `a` on; a byte that is not enabled is none. An access that breaks the conditions has no effect. -/
def execRegisterWrite (p : Fin 2) (w : HostSpace) (a : Nat) (data : List (Option Byte)) (s : State) :
    Host.Outcome State Fault Refusal :=
  .next (if s.linkUp p && spaceTakes w a data.length then
      match w with
      | .config => s.cfgPut p (a - a % 4) ((List.replicate (a % 4) none ++ data ++ [none, none, none, none]).take 4)
      | _ => (lanes 17 a data).foldl (fun t x => t.lanePut p (w == .page) x) s
    else s)

end Sys2Proof.Machine
end

