-- ==== Sys2Proof/Machine/Power.lean ====
section
/-! DEFINITION. Power failure and holdup, resets, and the phases of a start (R47 to R62, R111, R121, R191, R332, R408, R419,
R438, R440, R446, R465, R469). -/

namespace Sys2Proof.Machine

/-! ## Supply and records -/

/-- VIN24 and the bank as measured, in units of 10 mV (R66). -/
def State.supply (s : State) (vin bank : Nat) : State :=
  ((s.p F.PCR_VIN_VIN vin).p F.PCR_VIN_BANK bank).p F.PCR_STATUS_BANK_CHARGED (b2n (Nat.ble 3000 bank))

/-- A record written to MRAM with everything that is staged (R51, R59). -/
def State.recordNow (s : State) (code p0 : Nat) (p1 : Nat := 0) : State := (s.post code 37 0 p0 p1).logFlush

/-- A record written straight to MRAM, and nothing that is staged with it (R53). -/
def State.recordStraight (s : State) (code p0 : Nat) (p1 : Nat := 0) : State :=
  let held := s.log.stage
  let t := ({ s with log := { s.log with stage := [] } }).recordNow code p0 p1
  { t with log := { t.log with stage := held } }

/-- Operations fetched and not started complete with ABORTED (R51, R82). -/
def State.abortQueued (s : State) : State :=
  [0, 1].foldl (fun t p =>
    ((t.port p).ops.filter (fun o => !o.started && o.done.isNone)).foldl (fun u o =>
      (u.startOp ⟨p, o.sq, o.entry.cid⟩).finishWith ⟨p, o.sq, o.entry.cid⟩ 0x0D 0) t) s

/-- Measurement ends at the detection while HOLDUP_FAULT is set (R300). -/
def State.mtrCut (s : State) : State :=
  if s.g F.PCR_STATUS_HOLDUP_FAULT = 1 ∧ s.g F.MTR_STATUS_STATE = 1 then
    (s.setMtr { s.mtr with gapFrom := some s.mtr.last }).p F.MTR_STATUS_STATE 0
  else s

/-! ## Power failure (R50 to R53, R469) -/

/-- The detection's own effects in any phase (R51). -/
def State.failSeen (s : State) (vin bank : Nat) : State :=
  let s1 := ((s.supply vin bank).inc R.PCR_PFAIL_CNT).p F.PCR_STATUS_PFAIL 1
  let s2 := s1.p F.PCR_STATUS_VIN_OK 0
  { s2 with pwr := { s2.pwr with
    pfailLow := true, inService := s.pwr.resetting && s.pwr.inService, at21 := false, bankOpen := Nat.ble 3000 bank, committed := false, failUp := s2.clk.upNs
    lossPending := s2.pwr.lossPending || s2.g F.PCR_STATUS_HOLDUP_FAULT == 1 } }

/-- POWER_FAIL_DETECT (R50, R51, R53, R469): VIN24 has been below 16.5 V for 20 µs; `vin` and `bank` as measured. -/
def execPowerFailDetect (vin bank : Fin 65536) (s : State) : Host.Outcome State Fault Refusal :=
  if s.g F.PCR_STATUS_PFAIL = 1 ∨ s.pwr.railsOff then .next s
  else
    let s1 := s.failSeen vin bank
    let held := s1.p F.PCR_STATUS_PHASE 6
    let straight := fun (t : State) => if 2100 ≤ bank.val then t.recordStraight 0x0001 vin bank else t
    .next (if s.pwr.resetting then straight s1
      else match s.phase with
        | 5 => (({ held with pwr := { held.pwr with inService := true } }.asyAbandon.mtrAbandon).recordNow 0x0001 vin
            bank).mtrCut.report 13 37 0 0
        | 4 => held.recordNow 0x0001 vin bank
        | 3 => held.recordNow 0x0001 vin bank
        | 2 => straight held
        | _ => held)

/-- BANK_AT_21V (R51, R53, R300): the scheduler stops, a motor withdraws GRANT, and the accumulators are committed a second time. -/
def execBankAt21v (s : State) : Host.Outcome State Fault Refusal :=
  if s.g F.PCR_STATUS_PFAIL = 0 ∨ s.pwr.at21 ∨ s.pwr.railsOff then .next s
  else
    let s1 := (s.p F.PCR_VIN_BANK 2100).p F.PCR_STATUS_BANK_CHARGED 0
    let s2 := { s1 with pwr := { s1.pwr with at21 := true, bankOpen := false } }
    .next (if s.phase = 6 ∧ s.pwr.inService then
      (((s2.powerStop.abdicate.p F.PCR_STATUS_PHASE 7).abortQueued).mtrSeal 2)
    else if s.phase = 6 then s2.mtrSeal 2
    else s2)

/-- Island `n` when the module's power or its data link leaves it and OWN falls (R41, R246, R258, R259): a driving island of a
duplex fitting keeps its code, one that takes the loop ramps back, one that yields goes on, and any other leaves the loop. -/
def State.islDark (s : State) (n : Nat) : IslS :=
  let y := { s.islCut n with own := false, recheck := false, shown := 0, measNs := none }
  if !s.dpx.fitted then y.gone
  else match y.st with
    | .driving => { y with st := .autonomous }
    | .yieldIn => s.yield n y .standby 0 (s.ran n)
    | .standby => if s.ramping n then y else y.gone
    | _ => y

/-- What the islands and drivers do when the module's power or its data link leaves them (R41, R259). -/
def State.fieldDark (s : State) : State :=
  let s1 := (List.range 24).foldl (fun t n => t.setIsl n (s.islDark n)) s
  { s1 with fio := { isl := s1.fio.isl, dout := { peer := s1.fio.dout.peer } } }

/-! ## What a reset leaves (R6, R12, R57, R59) -/

/-- The logbook as MRAM holds it: staged records that were not written are gone, and so are their numbers (R404, R405). -/
def LogS.stored (l : LogS) : LogS :=
  { l with
    stage := [], posts := 0, flooded := false, clear := none
    mainNext := match l.stage with | r :: _ => r.num | [] => l.mainNext
    auditNext := match l.stage.filterMap (fun r => r.auditNum) with | n :: _ => n | [] => l.auditNext }

/-- The state after a reset of every domain: what MRAM and the backup domain hold stays, and so do the pins that the partner
and the crystal drive; all else takes its reset value. -/
def State.domainsReset (s : State) : State :=
  let z := State.reset
  let bkd := fun (a : Nat) => Nat.ble 0x900000 a && Nat.blt a 0x910000
  let pins := (s.rn R.DPX_STATUS) &&& 6
  let s1 : State := { z with
    settings := s.settings, set := s.set
    regs := s.regs.filter (fun e => bkd e.1 || e.1 == R.FWU_FLOOR)
    clk := { z.clk with upNs := s.clk.upNs, tick := s.clk.tick, tickAcc := s.clk.tickAcc, tickRun := s.clk.tickRun, wrapped := s.clk.wrapped }
    log := s.log.stored
    scn := { z.scn with
      bank0 := s.scn.bank0, bank1 := s.scn.bank1, curBank := s.scn.curBank, ret := s.scn.ret, retSlots := s.scn.retSlots }
    olc := { z.olc with forces := s.olc.forces }
    le := { z.le with saved := s.le.saved }
    out := s.out, free := s.free
    dpx := { z.dpx with alone := !s.hasPartner }
    pwr := { z.pwr with xtalRecord := s.pwr.xtalRecord }
    sec := { s.sec with rootOk := false, key := [] }
    fio := { z.fio with isl := s.fio.isl, dout := { peer := s.fio.dout.peer } }
    mtr := { z.mtr with
      bank0 := s.mtr.bank0, bank1 := s.mtr.bank1, gain := s.mtr.gain, phase := s.mtr.phase
      fgain := s.mtr.fgain, fphase := s.mtr.fphase, badTable := s.mtr.badTable }
    fwu := { z.fwu with
      map0 := s.fwu.map0, map1 := s.fwu.map1, bank0 := s.fwu.bank0, bank1 := s.fwu.bank1
      stored := s.fwu.stored, kept := s.fwu.kept, lastBank := s.fwu.lastBank }
    bkd := s.bkd
    pending := s.pending }
  (s1.wn R.DPX_STATUS pins).p F.MOD_STRAP_PARTNER_PRESENT (s.g F.MOD_STRAP_PARTNER_PRESENT)

/-- Every rail off (R50): what the MRAM, the backup domain and the islands of a duplex fitting hold is left (R41, R57). -/
def State.dark (s : State) : State :=
  let s1 := s.powerStop.lowerLines.fieldDark.domainsReset
  { s1 with pwr := { s1.pwr with railsOff := true, pfailLow := false, lossPending := s.pwr.lossPending } }

/-- RAILS_OFF (R50): the bank has fallen to 12.0 V. -/
def execRailsOff (s : State) : Host.Outcome State Fault Refusal :=
  .next (if s.g F.PCR_STATUS_PFAIL = 0 ∨ s.pwr.railsOff then s else s.dark)

/-- A power-on reset after a stop or after the bank fell to 12.0 V (R52, R53, R57). -/
def State.powerOn (s : State) : State :=
  s.fieldDark.domainsReset.wn R.PCR_RST_CAUSE (3 + 64 * b2n s.pwr.lossPending)

/-- The module rides through a dip (R52): 20 µs passed below the threshold before the detection. -/
def State.rideThrough (s : State) : State :=
  let dip := (s.clk.upNs - s.pwr.failUp) / 1000 + 20
  let s1 := ((s.p F.PCR_STATUS_PHASE 5).p F.PCR_STATUS_PFAIL 0).p F.PCR_STATUS_VIN_OK 1
  let s2 := { s1 with pwr := { s1.pwr with pfailLow := false, inService := false, lossPending := false, bankOpen := true } }
  let s3 := if s2.g F.MTR_CTL_ENABLE = 1 ∧ s2.g F.MTR_STATUS_STATE = 0 then s2.p F.MTR_STATUS_STATE 1 else s2
  (s3.post 0x0002 37 0 dip).bkdService.asyService.mtrStart

/-- VIN_QUALIFY (R50, R52, R53, R469): VIN24 has been at or above 17.5 V for 10 ms. -/
def execVinQualify (s : State) : Host.Outcome State Fault Refusal :=
  .next (if s.phase = 6 ∧ s.pwr.inService ∧ !s.pwr.at21 ∧ !s.pwr.railsOff then s.rideThrough
    else if s.pwr.railsOff ∨ s.g F.PCR_STATUS_PFAIL = 1 then s.powerOn
    else s.p F.PCR_STATUS_VIN_OK 1)

/-- BANK_MEASURE (R54): the bank's usable energy in mJ, at a start or in SERVICE. -/
def execBankMeasure (energy : Fin 65536) (s : State) : Host.Outcome State Fault Refusal :=
  if s.pwr.railsOff then .next s
  else
    let low := decide (energy.val < 340)
    let s1 := (s.wn R.PCR_HOLDUP energy.val).p F.PCR_STATUS_HOLDUP_FAULT (b2n low)
    let s2 := { s1 with pwr := { s1.pwr with measUp := some s1.clk.upNs } }
    .next (if low then s2.post 0x0004 37 0 energy.val else s2)

/-! ## Module reset (R57, R59) -/

/-- SM_WATCHDOG_EXPIRE (R57): the safety-manager pair has not served its own watchdog for 10 ms. -/
def execSmWatchdogExpire (s : State) : Host.Outcome State Fault Refusal := .next (s.orderReset 4)

/-- MODULE_RESET (R59, steps 1 to 3): the reset that has been ordered begins. -/
def execModuleReset (s : State) : Host.Outcome State Fault Refusal :=
  match s.pwr.resetOrdered with
  | none => .next s
  | some c =>
    if s.phase = 6 ∨ s.phase = 7 ∨ s.pwr.railsOff then .next s
    else
      let s1 := (s.abdicate.lowerLines.powerStop.abortQueued).setBit R.PCR_RST_CAUSE c true
      let s2 := ((s1.asyAbandon.mtrAbandon).mtrSeal 3).p F.PCR_STATUS_PHASE 7
      let s3 := s2.recordNow 0x0003 (s2.rn R.PCR_RST_CAUSE)
      .next { s3 with pwr := { s3.pwr with
        resetOrdered := none, resetting := true, smReset := c == 3 || c == 4, pfailLow := true
        inService := s.phase == 5 } }

/-! ## Straps (R34 to R38) -/

/-- The state of a LOOP_ALM_HI pin (R35). -/
def strapCode (x : StrapPin) : Nat :=
  match x.up, x.down with
  | false, false => 0
  | true, true => 1
  | true, false => 2
  | false, true => 3

/-- MOD_STRAP as sampled. -/
def strapWord (x : StrapPins) : Nat :=
  b2n (!x.partnerN) * 256 + b2n (!x.recoveryN) * 128 + b2n x.dpxPos * 64 + strapCode x.alm2 * 16 + strapCode x.alm1 * 4
    + strapCode x.alm0

/-- The straps sampled before the release of a reset (R34, R35), and the PCIe PLLs on their reference clocks (R47). -/
def State.strapSample (s : State) (x : StrapPins) : State :=
  let s1 := ((s.wn R.MOD_STRAP (strapWord x)).refClock 0 x.refA).refClock 1 x.refB
  let s2 := { s1 with dpx := { s1.dpx with fitted := !x.partnerN, alone := x.partnerN } }
  [x.alm0, x.alm1, x.alm2].zipIdx.foldl (fun t e =>
    if strapCode e.1 = 3 then (t.post 0x0007 39 e.2 e.2 (strapWord x)).raise evMOD 1 else t) s2

/-- The reset is released: PFAIL_N goes high again unless a power failure holds it, and the phase is BOOT_VERIFY, or HOLDUP
under a power failure (R59, R469). -/
def State.release (s : State) : State :=
  if s.g F.PCR_STATUS_PFAIL = 1 then s.p F.PCR_STATUS_PHASE 6
  else ({ s with pwr := { s.pwr with pfailLow := false } }).p F.PCR_STATUS_PHASE 1

/-- A reset of the safety manager counted toward a storm (R446): three within 3,600 s of the tick count. -/
def State.stormCount (s : State) (old : SafS) : State :=
  let l := (s.clk.tick :: old.storm).take 3
  let storm := l.length == 3 && l.all (fun t => Nat.ble ((s.clk.tick + 2 ^ 48 - t) % 2 ^ 48) 117964800)
  let s1 := { s with saf := { s.saf with storm := l, stopStart := true, stormy := storm } }
  if storm then s1.raise evSAF 2 else s1

/-- Steps 4 and 5 of a module reset (R59): the domains reset, with the PCIe links, the reset causes, the power-fail count,
the supply and the clock sources that run as they were; `sm`: a reset of the safety manager. HPx_ID.LINK_UP stays, against the
column In reset of R41 (log entry 211). -/
def State.steps45 (s : State) (sm : Bool) : State :=
  let status := s.rn R.PCR_STATUS &&& 0xF
  let pll := s.rn R.PCR_PLL_STATUS &&& 0x03C203C2
  let s0 := s.fieldDark
  let s1 := s0.domainsReset
  let s2 := ((s1.wn (R.HP_ID 0) (s.rn (R.HP_ID 0))).wn (R.HP_ID 1) (s.rn (R.HP_ID 1))).wn R.PCR_RST_CAUSE
    (s.rn R.PCR_RST_CAUSE)
  let s3 := ((s2.wn R.PCR_PFAIL_CNT (s.rn R.PCR_PFAIL_CNT)).wn R.PCR_VIN (s.rn R.PCR_VIN)).wn R.PCR_PLL_STATUS pll
  let s4 := s3.wn R.PCR_STATUS status
  let s5 := { s4 with
    pwr := { s4.pwr with
      rebooted := true, at21 := s.pwr.at21, bankOpen := s.pwr.bankOpen, railsOff := s.pwr.railsOff, lossPending := s.pwr.lossPending
      failUp := s.pwr.failUp, pfailLow := s.pwr.pfailLow } }
  if sm then s5.stormCount s.saf
  else { s5 with saf := { s5.saf with storm := s.saf.storm } }

/-- RESET_DOMAINS (R59, steps 4 to 6; R34): the domains are reset, the straps sampled, and the start begins. -/
def execResetDomains (x : StrapPins) (s : State) : Host.Outcome State Fault Refusal :=
  if !s.pwr.resetting ∨ s.pwr.railsOff then .next s
  else .next (((s.steps45 s.pwr.smReset).strapSample x).release)

/-! ## The start (R47, R49, R60) -/

/-- POR_HOLD_END (R34, R60): the straps have been sampled and the reset is released. -/
def execPorHoldEnd (x : StrapPins) (s : State) : Host.Outcome State Fault Refusal :=
  if s.phase ≠ 0 ∨ s.pwr.railsOff then .next s else .next ((s.strapSample x).release)

/-- REFERENCE_CRYSTAL_START (R47): the crystal runs and the fabric PLL locks. After a failure the start is retried only by a
reset (R49). -/
def execReferenceCrystalStart (s : State) : Host.Outcome State Fault Refusal :=
  if s.g F.PCR_STATUS_XTAL_FAIL = 1 ∨ s.pwr.railsOff then .next s
  else .next ((s.p F.PCR_STATUS_REFCLK_OK 1).wn R.PCR_PLL_STATUS (s.rn R.PCR_PLL_STATUS ||| 0x01020102))

/-- XTAL_FAIL (R49): 5 ms after the release the crystal does not run. -/
def execXtalFail (s : State) : Host.Outcome State Fault Refusal :=
  if s.phase ≠ 1 ∨ s.g F.PCR_STATUS_REFCLK_OK = 1 then .next s
  else
    let s1 := s.p F.PCR_STATUS_XTAL_FAIL 1
    .next { s1 with pwr := { s1.pwr with xtalRecord := true } }

/-! ### BOOT_VERIFY (R408, R419, R438 to R440) -/

/-- The first check of R438 that part `p` fails when it is loaded from bank `k`: its reason in the codes of R429. -/
def State.bootPart (s : State) (f : BootFind) (k p : Nat) : Option Nat :=
  let b := s.fwBank k
  let bad := natBit (if k = 0 then f.bad0.val else f.bad1.val) p
  if b.factory then (if bad then some 5 else none)
  else if !b.complete || !headerOk b.head then some 2
  else if !b.verified then some 4
  else if bad then some 5
  else if fwSecurity b.head < s.rn R.FWU_FLOOR then some 6
  else none

/-- The parts of the map `banks` that fail. -/
def State.bootFailing (s : State) (f : BootFind) (banks : Nat) : List (Nat × Nat) :=
  (List.range 5).filterMap (fun p => (s.bootPart f (bits banks p 1) p).map (fun r => (p, r)))

/-- The map's combination is compatible; the image that the module left the factory with is, as a whole. -/
def State.bootFits (s : State) (banks : Nat) : Bool :=
  (banks == 0 && s.fwu.bank0.factory) || compatible (s.partsOf banks)

/-- The reason for which the map cannot be booted. -/
def State.bootReason (s : State) (f : BootFind) (banks : Nat) : Option Nat :=
  match s.bootFailing f banks with
  | (_, r) :: _ => some r
  | [] => if s.bootFits banks then none else some 9

/-- Recovery is entered (R440); `why`: 1 the strap, 2 nothing to boot. -/
def State.enterRecovery (s : State) (why : Nat) : State :=
  (({ s with fwu := { s.fwu with recovery := true } }).post 0x6108 36 0 why).fwuShow

/-- The start goes on with the map in force: its settings records follow, and the phase becomes KEEL_START. -/
def State.boot (s : State) : State := ((s.migrate 31).fwuShow).p F.PCR_STATUS_PHASE 2

/-- The map in force fails with `reason`: the alternatives of R438. -/
def State.bootFallback (s : State) (f : BootFind) (reason : Nat) : State :=
  let now := s.partBanks
  let mask := (s.bootFailing f now).foldl (fun n e => n + 2 ^ e.1) 0
  let first := match s.bootFailing f now with | e :: _ => e.1 | [] => 0
  let other := if natBit now first then 0 else 31
  let take := fun (banks : Nat) =>
    (((s.putMap banks).wn R.FWU_LAST reason).raise evFWU 5).post 0x6107 36 0 mask banks reason
  if mask ≠ 0 ∧ (s.bootReason f (now ^^^ mask)).isNone then (take (now ^^^ mask)).boot
  else if (s.bootReason f other).isNone then (take other).boot
  else s.enterRecovery 2

/-- The debug state pending comes into force (R419), and the device root is reconstructed (R408). -/
def State.bootSecurity (s : State) (rootOk : Bool) : State :=
  let s1 := { s with sec := { s.sec with debug := s.sec.debugNext, rootOk := rootOk } }
  let s2 := if s1.sec.debug then s1.post 0x6007 35 0 3 0x200
    else if s.sec.debug then s1.post 0x6007 35 0 4 0x200 else s1
  if rootOk then s2 else s2.post 0x6008 35 0

/-- BOOT_VERIFY_DONE (R438, R440): the boot ROM has verified the firmware. -/
def execBootVerifyDone (f : BootFind) (s : State) : Host.Outcome State Fault Refusal :=
  if s.phase ≠ 1 ∨ s.g F.PCR_STATUS_REFCLK_OK = 0 ∨ s.g F.PCR_STATUS_XTAL_FAIL = 1 ∨ s.fwu.recovery then .next s
  else
    let s0 := { s with fwu := { s.fwu with
      map0 := { s.fwu.map0 with ok := f.map0Ok }, map1 := { s.fwu.map1 with ok := f.map1Ok } } }
    let s1 := s0.bootSecurity f.rootOk
    .next (if s1.g F.MOD_STRAP_RECOVERY = 1 then s1.enterRecovery 1
      else if !f.map0Ok && !f.map1Ok then s1.enterRecovery 2
      else match s1.bootReason f s1.partBanks with
        | none => s1.boot
        | some reason => s1.bootFallback f reason)

/-! ### KEEL_START and DOMAIN_START -/

/-- KEEL_START_DONE (R49, R60, R395, R401): `epochOk`: a copy of the epoch passes its CRC. The backup domain's report is
recorded when main power has returned. -/
def execKeelStartDone (epochOk : Bool) (s : State) : Host.Outcome State Fault Refusal :=
  if s.phase ≠ 2 ∨ s.pwr.keelDone then .next s
  else
    let s1 := { s with
      pwr := { s.pwr with keelDone := true, xtalRecord := false }
      log := { s.log with epochSet := s.log.epochSet && epochOk } }
    let s2 := if s.pwr.xtalRecord then s1.post 0x0005 37 0 else s1
    .next (if s.pwr.rebooted then s2 else s2.post 0x5003 32 0 (s2.rn R.BKD_STATUS) (s2.rn R.BKD_CRC))

/-- BANK_CHARGED (R60): the bank reaches 30.0 V. -/
def execBankCharged (s : State) : Host.Outcome State Fault Refusal :=
  if s.pwr.railsOff then .next s
  else
    let s1 := (s.p F.PCR_STATUS_BANK_CHARGED 1).p F.PCR_VIN_BANK (max 3000 (s.g F.PCR_VIN_BANK))
    .next { s1 with pwr := { s1.pwr with bankOpen := false } }

/-- The register at offset `off` of the block with descriptor `d` is loaded from the settings records (R465 and the registers'
chapters). -/
def loaded (d off : Nat) : Bool :=
  if d = 8 then Nat.blt off 0x24
  else if 15 ≤ d ∧ d ≤ 38 then Nat.blt off 0x10
  else if d = 39 then Nat.ble 0x100 off && Nat.blt (off % 16) 8
  else if d = 40 then Nat.ble off 4
  else if 47 ≤ d ∧ d ≤ 50 then Nat.ble off 0xC
  else if d = 51 then off == 0 || (Nat.ble 0x1000 off && Nat.blt off 0x2000 && Nat.blt (off % 0x20) 8)
    || (Nat.ble 0x2000 off && off % 0x10 == 0)
  else if 53 ≤ d ∧ d ≤ 55 then off == 0 || off == 0x18 || (Nat.ble 0x40 off && Nat.blt off 0x80)
  else if d = 56 then off == 0 || (Nat.ble 0x30 off && Nat.blt off 0x40) || Nat.ble 0x80 off
  else ([9, 41, 42, 43, 44, 45, 46, 57, 58, 59, 63].contains d) && off == 0

/-- One settings record loaded, as a write of its register. -/
def State.loadSetting (s : State) (e : Nat × Word) : State :=
  match regRow e.1, blockAt e.1 with
  | some r, some b =>
    if loaded b.desc (e.1 - b.base) && r.acc == .rwg then s.putGated 0 e.1 b.desc (e.1 - b.base) e.2.toNat r.wmask else s
  | _, _ => s

/-- An entry of the ownership table at the start (R111): the candidates and AUTO of the block, and the module's own node as
its owner at generation 1 where the settings name it. -/
def State.startOwn (s : State) (o : Own) : Own :=
  let mine := s.node != 0 && o.owner == s.node
  { o with owner := if mine then s.node else 0, gen := b2n mine }

/-- The settings records loaded, a block's control register after the registers above it. An island in OFF has its link before
its configuration comes; one that still carries its loop keeps its state, and takes the configuration when its link returns
(R259). -/
def State.loadSettings (s : State) : State :=
  let s1 := (List.range 24).foldl (fun t n =>
    if (s.isl n).st = .off then t.setIsl n { s.isl n with link := true } else t) s
  let s2 := s1.settings.foldr (fun e t => t.loadSetting e) s1
  let s3 := (List.range 4).foldl (fun t n =>
    let m := (t.canSet n).mapped
    t.setCan n { t.canc n with
      flt := (t.canSet n).flt
      buf := m.foldl (fun u x => tset u {} x.buf { tget u {} x.buf with ctl := x.ctl, id := x.id }) (t.canc n).buf }) s2
  ({ s3 with rep := { s3.rep with own := s3.set.own.map (fun (e : Nat × Own) => (e.1, s3.startOwn e.2)) } }).macBins.ptpShow

/-- What the checks of R191 say of program image bank `k`. -/
def State.bankVerdict (s : State) (f : MramFind) (k : Bool) : Verdict :=
  let b := if k then s.scn.bank1 else s.scn.bank0
  s.imageChecks (un b 8 4) b (!natBit f.image.val (b2n k))

/-- Record 0x2006. -/
def State.bankRecord (s : State) (failed installed : Nat) (v : Nat × Nat × Nat) : State :=
  s.post 0x2006 0 0 failed installed v.1 v.2.1

/-- The image of bank `k` installed. -/
def State.bankInstall (s : State) (k : Bool) : State :=
  (({ s with scn := { s.scn with curBank := k } }).installImage
    (parseImage (if k then s.scn.bank1 else s.scn.bank0)) true).memsRestore

/-- The current bank is checked and installed, else the other (R191). -/
def State.bankStart (s : State) (f : MramFind) : State :=
  let k := s.scn.curBank
  match s.bankVerdict f k with
  | none => s.bankInstall k
  | some v =>
    match s.bankVerdict f (!k) with
    | none => (s.bankInstall (!k)).bankRecord (b2n k) (b2n !k) v
    | some _ => s.bankRecord (b2n k) 0xFF v

/-- Damage that the start finds in MRAM: of a journal bank that a loss of power has torn, nothing valid is left (R299). -/
def State.found (s : State) (f : MramFind) : State :=
  let x := s.mtr
  let s1 := s.setMtr { x with
    bank0 := if natBit f.journal.val 0 then [] else x.bank0
    bank1 := if natBit f.journal.val 1 then [] else x.bank1
    badTable := f.tables.map (fun c => c.val) }
  f.retained.foldl (fun t n =>
    let a := tget t.scn.ret {} n.val
    let b : RetArea := if a.cur then { a with half1 := { a.half1 with crcOk := false } }
      else { a with half0 := { a.half0 with crcOk := false } }
    { t with scn := { t.scn with ret := tset t.scn.ret {} n.val b } }) s1

/-- DOMAIN_START (R60, R111, R114, R191, R299, R465): KEEL_START has ended and the bank is charged. The sequence of the first
Zader frame is arbitrary. -/
def execDomainStart (f : MramFind) (s : State) : Host.Outcome State Fault Refusal :=
  if s.phase ≠ 2 ∨ !s.pwr.keelDone ∨ s.g F.PCR_STATUS_BANK_CHARGED = 0 then .next s
  else
    let s1 := (s.p F.PCR_STATUS_PHASE 3).wn R.PCR_PLL_STATUS (s.rn R.PCR_PLL_STATUS ||| 0x003D003D)
    let s2 := (s1.found f).loadSettings.mtrRestore
    let s3 := ({ s2 with rep := { s2.rep with seq := s2.fresh % 2 ^ 32 } }).freshen
    .next ((s3.p F.SCN_STATUS_PAIR_OK 15).bankStart f)

/-- DOMAIN_START_DONE (R62, R121, R332): the blocks respond, and the module asks for a resync of everything. A module with a
partner tells it that it stands in RESYNC. While the clock is not valid R109 forbids the request, and it is not sent later in
the phase (log entry 196). -/
def execDomainStartDone (s : State) : Host.Outcome State Fault Refusal :=
  if s.phase ≠ 3 then .next s
  else
    let s1 := ({ s with pwr := { s.pwr with domainsUp := true } }).p F.PCR_STATUS_PHASE 4
    let s2 := if s1.mayOriginate then s1.sendReq 0 [] else s1
    .next (if s2.hasPartner then s2.tow (.hello s2.hello) else s2)

/-- The role that is still open at the end of RESYNC (R332). A partner whose ALIVE is good and that has sent no HELLO is taken
as not running. -/
def State.decideRole (s : State) : State :=
  if s.grantOut then s
  else if !s.hasPartner then (s.setPair 0 0).becomeMotor 7 0
  else if s.pairState ≠ 0 then s
  else if s.g F.DPX_STATUS_GRANT_IN = 1 then s.joinStart
  else s.becomeMotor 7 0

/-- The start mode (R155, R191, R332, R446): STOP without an image, after a reset of the safety manager, and at a butty, which
takes its partner's state. -/
def State.startMode (s : State) : State :=
  let held := s.saf.stormy || (s.saf.stopStart && s.g F.SAF_CTL_AUTO_RESTART == 0)
  if held || s.isButty || s.scn.img.isNone then s
  else match s.g F.SCN_CTL_START_MODE with
    | 1 => s.warmStart true
    | 2 => s.coldStart 2
    | _ => s

/-- RESYNC_PHASE_END (R60, R121, R155, R332): the role is decided and the module enters SERVICE in its start mode. -/
def execResyncPhaseEnd (s : State) : Host.Outcome State Fault Refusal :=
  if s.phase ≠ 4 then .next s
  else .next ((s.decideRole.p F.PCR_STATUS_PHASE 5).startMode.bkdService.asyService.mtrStart)

end Sys2Proof.Machine
end

