-- ==== Sys2Proof/Machine/View.lean ====
section
/-! DEFINITION. Reads of BAR0 and BAR2 by the host (R3 to R5, R62, R68, R93, R462): what each register shows, and what a
read does. -/

namespace Sys2Proof.Machine

/-! ## What the registers of each block show -/

/-- Word `k` of a list of bytes. -/
def byteWord (l : List Byte) (k : Nat) : Nat := leNat ((l.drop (4 * k)).take 4)

/-- MOD (R466): the descriptors equal R460. -/
def modView (off : Nat) : Option Nat :=
  if off < 0x1000 ∨ 0x1800 ≤ off then none
  else match blocks.find? (fun b => b.desc == (off - 0x1000) / 0x20) with
    | none => none
    | some b =>
      match off % 0x20 with
      | 0x00 => some b.base
      | 0x04 => some (b.inst * 2 ^ 16 + b.gate.getD 0xFF * 2 ^ 8 + b.source.getD 0xFF)
      | 0x08 => some (b.regs * 2 ^ 16 + b.span / 256)
      | 0x0C => some (leNat ((b.name.take 4).map (fun c => BitVec.ofNat 8 c)))
      | 0x10 => some (leNat ((b.name.drop 4).map (fun c => BitVec.ofNat 8 c)))
      | _ => none

/-- A host port (R78, R80, R99): bits 11:0 of a ring's base read as zero (R4). -/
def State.hpView (s : State) (p off : Nat) : Option Nat :=
  let q := s.port p
  let n := off % 0x1000 / 0x20
  if off = 8 then some (q.subCount * 2 ^ 15 + q.ops.length)
  else if 0x1000 ≤ off ∧ off % 0x20 = 0 then some (s.rn (0x10000 + 0x10000 * p + off) / 4096 * 4096)
  else if 0x1000 ≤ off ∧ off < 0x2000 ∧ off % 0x20 = 0x14 then
    let k := s.sqInFlight p n
    some (setBits (setBits (s.rn (R.HP_SQ_STATUS p n)) 16 16 k) 0 1 (b2n (k == 0)))
  else if 0x2000 ≤ off ∧ off % 0x20 = 0x18 then
    let full := s.cqOn p n && (s.cqTail p n + 1) % s.cqSize p n == s.cqHead p n
    some (setBits (setBits (s.rn (R.HP_CQ_STATUS p n)) 16 16 (min 65535 (q.notes.filter (fun x => x.cq == n)).length)) 0 1
      (b2n full))
  else none

/-- Gates and contexts (R97, R98, R100). -/
def State.gateView (s : State) (p off : Nat) : Option Nat :=
  if off < 0x1000 then
    let n := off / 0x10
    match off % 0x10 with
    | 0x00 => some (s.gateWord n (s.holds p n))
    | 0x04 => some (s.gate n).leaseMs
    | 0x08 => some (s.gateWord n false)
    | _ => none
  else
    let c := s.prd p R.CTX_SEL % 256
    let tags := if c = 0 then [] else s.ctxTags c
    let tag := fun (k : Nat) => tags.getD k 0
    match off with
    | 0x1004 =>
      let rings := [0, 1].foldl (fun t h =>
        t + ((List.range 64).filter (fun n => s.sqOn h n && s.sqCtx h n == c)).length) 0
      some (b2n (s.ctxBound c) * 2 ^ 31 + tags.length * 2 ^ 24 + rings * 2 ^ 8 + c)
    | 0x1008 => some (tag 0 + tag 1 * 2 ^ 16)
    | 0x100C => some (tag 2 + tag 3 * 2 ^ 16)
    | 0x1010 => some (tget s.deny {} c).count
    | _ => none

/-- PCR (R54, R66): a PLL of a unit runs while the unit is enabled (R48). -/
def State.pcrView (s : State) (off : Nat) : Option Nat :=
  if off = 8 then some 0
  else if off = 0x0C then
    let v := s.rn R.PCR_PLL_STATUS
    let eth := [0, 1, 2].any (fun n => s.g (F.ETH_CTL_ENABLE n) == 1)
    let can := [0, 1, 2, 3].any (fun n => s.canOn n)
    let hide := fun (v k : Nat) (on : Bool) => if on then v else setBits (setBits v k 1 0) (k + 16) 1 0
    some (hide (hide v 3 eth) 5 can)
  else if off = 0x18 then
    some (match s.pwr.measUp with
      | some t => setBits (s.rn R.PCR_HOLDUP) 16 8 (min 255 ((s.clk.upNs - t) / 3600000000000))
      | none => 0)
  else none

/-- The interrupt lines of 32 sources (R92, R101). -/
def State.irtView (s : State) (off : Nat) : Option Nat :=
  let word := fun (k : Nat) => (List.range 32).foldl (fun v b => v + b2n (s.line (k + b)) * 2 ^ b) 0
  if off = 0x100 then some (word 0) else if off = 0x104 then some (word 32) else none

/-- PIX (R132). -/
def State.pixView (s : State) (off : Nat) : Option Nat :=
  if off = 4 then
    some ((s.blocksOf s.node).length % 16 * 2 ^ 28 + (s.pix.slots.filter (fun e => e.2.present)).length)
  else none

/-- STATE of an origin (R120, R133). -/
def State.originCode (s : State) (o : Nat) : Nat :=
  let x := s.origin o
  if !x.heard then 0
  else if x.silent then 2
  else if (s.blocksOf o).any (fun b => (tget s.rep.resync none b).isSome) then 3 else 1

/-- REP (R110, R118, R133). -/
def State.repView (s : State) (p off : Nat) : Option Nat :=
  let own := s.ownOf (s.prd p R.REP_OWN_SEL % 256)
  let o := s.prd p R.REP_ORG_SEL % 256
  let x := s.origin o
  let among := fun (k : Nat) => ((List.range 193).filter (fun i => s.originCode i == k)).length
  match off with
  | 0x24 =>
    some (among 1 * 2 ^ 16 + among 2 * 2 ^ 8 + b2n (s.rep.resync.any (fun e => e.2.isSome)) * 4 + b2n s.clockValid * 2
      + b2n s.repOn)
  | 0x34 => some own.owner
  | 0x38 => some own.gen
  | 0x3C => some (own.c1 + own.c2 * 2 ^ 8 + own.c3 * 2 ^ 16 + b2n own.auto * 2 ^ 31)
  | 0x84 =>
    some ((if x.heard then min 65535 ((s.clk.upNs - x.lastNs) / 1000000) else 0) * 2 ^ 16
      + (if o = 0 then 0 else (s.blocksOf o).length % 16) * 2 ^ 8 + s.originCode o)
  | 0x88 => some (x.seq.getD 0)
  | _ => none

/-- SCN (R137, R161): a task's window. -/
def State.scnView (s : State) (off : Nat) : Option Nat :=
  if off < 0x1000 then none
  else
    let n := (off - 0x1000) / 0x40
    let r := s.task n
    match off % 0x40, s.ent n with
    | _, none => some 0
    | 0x00, some t =>
      some (2 ^ 31 + t.kind * 2 ^ 30 + b2n t.safety * 2 ^ 29 + t.pair * 2 ^ 24 + t.prio * 2 ^ 16
        + (if t.kind = 0 then t.wdog else 0) * 2 ^ 8 + t.trigKind * 16)
    | 0x04, some t => some t.period
    | 0x08, _ =>
      some (b2n r.armed.isSome * 2 ^ 10 + b2n (r.pend || s.scn.trigs.contains n) * 2 ^ 9
        + b2n (s.scn.breaks.any (fun b => b.1 == n)) * 2 ^ 8 + r.first * 16 + taskStCode r.st)
    | _, _ => none

/-- OLC (R192, R209): the forces, and the entry that port `p` has selected. -/
def State.olcView (s : State) (p off : Nat) : Option Nat :=
  let f := tget s.olc.forces none (s.prd p R.OLC_FORCE_SEL % 4096)
  let isVar := fun (x : Force) => match x.key with | .var _ _ _ => true | .slot _ => false
  let hash := match f with
    | some x => (match x.key with | .var _ h _ => h | .slot _ => 0)
    | none => 0
  let value := match f with | some x => x.value.toNat | none => 0
  match off with
  | 0x04 =>
    let vars := (s.forces.filter (fun e => isVar e.2)).length
    some (setBits (setBits (s.rn R.OLC_STATUS) 16 13 (s.forces.length - vars)) 0 9 vars)
  | 0x24 =>
    some (match f with
      | none => 0
      | some x => (match x.key with
        | .slot i => 2 ^ 31 + x.typ * 2 ^ 26 + 0xFF * 2 ^ 18 + i
        | .var t _ _ => 2 ^ 31 + 2 ^ 30 + x.typ * 2 ^ 26 + t * 2 ^ 18))
  | 0x28 => some (hash % 2 ^ 32)
  | 0x2C => some (hash / 2 ^ 32)
  | 0x30 => some (value % 2 ^ 32)
  | 0x34 => some (value / 2 ^ 32)
  | _ => none

/-- The states of a trace buffer in the codes of LEn_TRbb_STATUS. -/
def traceCode : TraceSt → Nat
  | .idle => 0 | .armed => 1 | .triggered => 2 | .done => 3

/-- A loop engine (R226 to R242): the slot and the memory that port `p` has selected, and the trace buffers. -/
def State.leView (s : State) (p e off : Nat) : Option Nat :=
  let sel := s.prd p (R.LE_SLOT_SEL e)
  let slot := s.loop? (512 * e + sel % 512)
  let q := match slot with | some x => x.qty (bits sel 16 5) | none => 0
  match off with
  | 0x04 =>
    let mine := fun (n k : Nat) => k / n == e
    some ((s.le.slot.filter (fun x => mine 512 x.1 && x.2.isSome)).length * 2 ^ 16
      + ((List.range 64).filter (fun m => (s.mem? (64 * e + m)).isSome)).length)
  | 0x08 => some (min 2500000 (s.recentEvals e).length)
  | 0x24 =>
    some (match slot with
      | none => 0
      | some x => 2 ^ 31 + b2n x.auto * 2 ^ 30 + x.region * 2 ^ 27 + x.task * 2 ^ 16 + x.loc * 2 ^ 8
          + b2n x.mem.isSome * 64 + x.mem.getD 0)
  | 0x28 => some (match slot with | some x => x.status | none => 0)
  | 0x2C => some (q % 2 ^ 32)
  | 0x30 => some (q / 2 ^ 32)
  | 0x40 => some 0
  | 0x54 =>
    some (match s.mem? (64 * e + s.prd p (R.LE_MEM_SEL e) % 64) with
      | none => 0
      | some m =>
        let learns := !m.frozen && s.g (F.LE_CTL_FREEZE_LEARN e) == 0 && s.ptpValid
        2 ^ 31 + b2n m.frozen * 2 ^ 30 + b2n learns * 2 ^ 29 + m.mode * 2 ^ 28 + m.ncur.getD 0 * 2 ^ 16 + m.nbins)
  | 0x58 => some 0
  | _ =>
    if off < 0x100 then none
    else
      let x := s.trace e ((off - 0x100) / 0x40)
      match off % 0x40 with
      | 0x14 => some 0
      | 0x18 => some (traceCode x.st * 2 ^ 30 + b2n x.cfgErr * 2 ^ 29 + x.trigIdx * 2 ^ 15 + x.samples.length)
      | _ => none

/-- A loop island (R263). -/
def State.liView (s : State) (n off : Nat) : Option Nat :=
  match off with
  | 0x10 => some 0
  | 0x14 => some (s.liStatus n)
  | 0x20 => some (s.islTarget n * 2 ^ 16 + s.islApplied n)
  | _ => none

/-- The states of a transmit buffer in the codes of CANn_TXBUF_STAT. -/
def txCode : TxSt → Nat
  | .empty => 0 | .waitTime => 1 | .pending => 2 | .active => 3 | .sent => 4 | .cancelled => 5 | .sentLate => 6

/-- A CAN controller (R341, R349, R353): buffers pending, and the windows of the buffer, FIFO and filter. -/
def State.canView (s : State) (p n off : Nat) : Option Nat :=
  let pend := fun (b0 : Nat) => (List.range 32).foldl (fun v k =>
    let st := (s.txb n (b0 + k)).st
    v + b2n (st == .waitTime || st == .pending || st == .active) * 2 ^ k) 0
  if off = 0x1C ∨ (0x48 ≤ off ∧ off < 0x58) then some 0
  else if off = 0x40 then some (pend 0)
  else if off = 0x44 then some (pend 32)
  else if 0x104 ≤ off ∧ off < 0x200 then
    let b := s.prd p (R.CAN_TXBUF_SEL n) % 64
    let x := s.txb n b
    match off with
    | 0x104 => some (b2n (s.canMapped n b) * 2 ^ 31 + x.ctl)
    | 0x108 => some x.id
    | 0x10C => some (x.time % 2 ^ 32)
    | 0x110 => some (x.time / 2 ^ 32)
    | 0x114 =>
      some (min 65535 x.coalesced * 2 ^ 16 + min 255 x.attempts * 2 ^ 8 + b2n x.echoed * 16 + b2n x.late * 8 + txCode x.st)
    | _ => some (bits x.data (8 * (off - 0x140)) 32)
  else if 0x200 ≤ off ∧ off < 0x300 then
    let l := (s.canc n).fifo ((off - 0x200) / 0x80)
    let k := off % 0x80
    if k = 4 then none
    else if k = 0 then some l.length
    else match l with
      | [] => some 0
      | x :: _ => match k with
        | 0x08 => some x.id
        | 0x0C => some (2 ^ 31 + x.filter * 2 ^ 9 + x.flags)
        | 0x10 => some (x.ts % 2 ^ 32)
        | 0x14 => some (x.ts / 2 ^ 32 % 2 ^ 32)
        | 0x18 => some 0
        | _ => some (bits x.data (8 * (k - 0x40)) 32)
  else if 0x304 ≤ off then
    let x := tget (s.canc n).flt {} (s.prd p (R.CAN_FLT_SEL n) % 64)
    match off with
    | 0x304 => some x.id
    | 0x308 => some x.mask
    | 0x30C => some x.ctl
    | _ => some x.hits
  else none

/-- Metering (R300, R311). -/
def State.mtrView (s : State) (off : Nat) : Option Nat :=
  if 0x1600 ≤ off ∧ off < 0x1620 ∧ off % 0x20 ≠ 8 ∧ off % 0x20 ≠ 0xC then some 0
  else match off with
  | 0x04 => some (setBits (s.rn R.MTR_STATUS) 6 1 (s.g F.PCR_STATUS_HOLDUP_FAULT))
  | 0x40 => some 0
  | 0x48 =>
    some (match s.mtr.step with
      | some x => setBits (s.rn R.MTR_ASSAY_POS) 8 8 ((x.endNs - s.clk.upNs + 999999999) / 1000000000)
      | none => s.rn R.MTR_ASSAY_POS)
  | _ => none

/-- An Ethernet MAC (R361, R362, R370). -/
def State.ethView (s : State) (n off : Nat) : Option Nat :=
  if off = 0x1C then
    let x := s.mac n
    let u := quantum10 x.pauseSpeed
    let left := match x.pauseEnd with | some e => ((e - s.clk.upNs) * 10 + (u - 1)) / u | none => 0
    some (setBits (s.rn (R.ETH_PAUSE n)) 0 16 left)
  else if 0x40 ≤ off ∧ off < 0x80 then some (s.macHash n ((off - 0x40) / 4))
  else none

/-- Network time (R371, R380, R382). -/
def State.ptpView (s : State) (off : Nat) : Option Nat :=
  let fill := fun (n : Nat) => (tget s.ptp.rxq [] n).length
  match off with
  | 0x10 => some (s.ptpNs % 1000000000)
  | 0x14 => some (s.ptpNs / 1000000000 % 2 ^ 32)
  | 0x18 => some (s.ptpNs / 1000000000 / 2 ^ 32 % 2 ^ 16)
  | 0x2C => some 0
  | 0x50 => some (if s.ptpState = 3 then s.holdSecs else s.rn R.PTP_HOLDOVER_TIME)
  | 0x58 => some s.ptp.txq.length
  | 0x5C => some (fill 0 + fill 1 * 2 ^ 8 + fill 2 * 2 ^ 16)
  | _ => none

/-- Duplex (R337). -/
def State.dpxView (s : State) (off : Nat) : Option Nat :=
  if off = 4 then some 0
  else if off = 8 then
    some (setBits (setBits (setBits (s.rn R.DPX_STATUS) 27 1 (b2n s.isMotor)) 26 1 (s.g F.MOD_STRAP_DPX_POS)) 25 1
      (s.g F.MOD_STRAP_PARTNER_PRESENT))
  else none

/-- The assay controller (R457): the target that port `p` has selected. -/
def State.asyView (s : State) (p off : Nat) : Option Nat :=
  let t := s.prd p R.ASY_SEL % 64
  let x := if t < 35 then s.target t else {}
  let pend := fun (k n : Nat) => (List.range n).foldl (fun v b => v + b2n ((s.target (k + b)).st == 1) * 2 ^ b) 0
  match off with
  | 0x04 => some 0
  | 0x08 => some (pend 0 32)
  | 0x0C => some (pend 32 3)
  | 0x1C => some (x.st * 2 ^ 30 + x.result * 2 ^ 24 + min 255 x.forced * 2 ^ 16 + min 65535 x.slices)
  | 0x20 => some (x.time % 2 ^ 32)
  | 0x24 => some (x.time / 2 ^ 32)
  | _ => none

/-- The backup domain (R387, R397). -/
def State.bkdView (s : State) (off : Nat) : Option Nat :=
  match off with
  | 0x0C => some (s.clk.tick % 2 ^ 32)
  | 0x10 => some (s.clk.tick / 2 ^ 32)
  | 0x2C => some 0
  | _ => none

/-- The logbook (R405, R407): record numbers of what MRAM holds. -/
def State.logView (s : State) (p a off : Nat) : Option Nat :=
  let l := s.log
  let mainNext := match l.stage with | r :: _ => r.num | [] => l.mainNext
  let auditNext := match l.stage.filterMap (fun r => r.auditNum) with | n :: _ => n | [] => l.auditNext
  let first := fun (ring : List (Nat × LogRec)) (next : Nat) => match ring with | r :: _ => r.1 | [] => next
  let wide := fun (n : Nat) => if off % 8 = 0 then n % 2 ^ 32 else n / 2 ^ 32
  match off / 8 with
  | 0 => if off = 4 then some (b2n l.epochSet * 128 + s.g F.PCR_STATUS_HOLDUP_FAULT * 64 + l.stage.length) else none
  | 2 => some (wide (first l.main mainNext))
  | 3 => some (wide mainNext)
  | 4 => some (wide (first l.audit auditNext))
  | 5 => some (wide auditNext)
  | 6 => some (s.epochRead p a)
  | 7 => some (s.epochRead p a)
  | 8 => if off = 0x40 then some 0 else none
  | _ => none

/-- The crucible and the hallmark (R408, R415, R417, R419, R422). -/
def State.cruView (s : State) (p off : Nat) : Option Nat :=
  let kind := s.prd p R.CRU_CTR_SEL % 8
  let ctr := if kind = 0 ∨ 4 < kind then 0 else s.tokenCtr kind
  if off = 0x20 then some (ctr % 2 ^ 32)
  else if off = 0x24 then some (ctr / 2 ^ 32)
  else if off = 0x30 then
    some (min 255 (s.part.slots.filter (fun e => e.2.isSome)).length * 2 ^ 16 + b2n (!s.part.opKey.isEmpty) * 8
      + b2n s.sec.debugNext * 4 + b2n s.sec.debug * 2 + b2n s.sec.rootOk)
  else if 0x40 ≤ off ∧ off < 0x80 then
    some (if s.sec.rootOk then byteWord (sha3_512 s.idKey) ((off - 0x40) / 4) else 0)
  else if 0x80 ≤ off ∧ off < 0xC0 then some (byteWord s.opDigest ((off - 0x80) / 4))
  else none

/-- The bank that FWU_STAGE and the registers beside it show: the staging bank, in recovery the bank most recently staged. -/
def State.shownBank (s : State) : Option FwBank :=
  if s.fwu.recovery then some (s.fwBank s.fwu.lastBank) else s.stageBank.map s.fwBank

/-- Firmware update (R424, R426, R439, R442). -/
def State.fwuView (s : State) (p off : Nat) : Option Nat :=
  let part := s.prd p R.FWU_PART_SEL % 8
  let none5 := Nat.ble 5 part
  let bank := s.shownBank
  let empty := match bank with | some b => b.head.isEmpty | none => true
  if off = 4 then
    let v := setBits (s.rn R.FWU_STATUS) 0 5 s.partBanks
    let v1 := setBits v 15 5 (match s.fwu.armed with | some a => a.mask | none => 0)
    let v2 := setBits (setBits v1 20 5 s.unconfirmed) 25 1 (b2n s.stageBank.isNone)
    some (setBits v2 26 1 (s.stageBank.getD 0))
  else if off = 0x10 then some 0
  else if off = 0x14 then
    some (match bank with
      | some b => if empty then 0 else b.received % 1024 * 2 ^ 16 + fwBlocks b.head % 1024
      | none => 0)
  else if off = 0x2C then some (if none5 then 0 else (s.runPart part).version)
  else if off = 0x30 then
    some (match bank with | some b => if none5 || empty then 0 else (fwPart b.head part).version | none => 0)
  else if off = 0x34 then some (if none5 then 0 else (s.runPart part).format * 2 ^ 16 + s.storedFormat part)
  else if 0x40 ≤ off ∧ off < 0x80 then
    let k := (off - 0x40) / 4 * 32
    some (match bank with
      | some b => (List.range 32).foldl (fun v j =>
          v + b2n (if b.factory then Nat.blt (k + j) b.received else (tget b.blocks none (k + j)).isSome) * 2 ^ j) 0
      | none => 0)
  else if 0x80 ≤ off ∧ off < 0xC0 then some (byteWord s.fwDigest ((off - 0x80) / 4))
  else if 0xC0 ≤ off ∧ off < 0x100 then
    some (match bank with
      | some b => if b.tab.isEmpty then 0 else byteWord b.digest ((off - 0xC0) / 4)
      | none => 0)
  else none

/-- What a register shows where that is more than the value it holds: offset `off` of the block with descriptor `d`, read by
port `p`. -/
def State.liveView (s : State) (p d off a : Nat) : Option Nat :=
  if d = 0 then modView off
  else if d = 1 ∨ d = 2 then s.hpView (d - 1) off
  else if d = 3 then s.gateView p off
  else if d = 4 then s.pcrView off
  else if d = 5 then
    (if off = 0 then some (setBits (s.rn a) 1 1 0)
     else if off % 0x10 = 4 ∧ 0x100 ≤ off then some (tget s.pmon 0 ((off - 0x100) / 0x10) % 2 ^ 32)
     else if off % 0x10 = 8 ∧ 0x100 ≤ off then some (tget s.pmon 0 ((off - 0x100) / 0x10) / 2 ^ 32)
     else none)
  else if d = 6 then s.irtView off
  else if d = 7 then s.pixView off
  else if d = 8 then s.repView p off
  else if d = 9 then s.scnView off
  else if d = 10 then s.olcView p off
  else if 11 ≤ d ∧ d ≤ 14 then s.leView p (d - 11) off
  else if 15 ≤ d ∧ d ≤ 38 then s.liView (d - 15) off
  else if 47 ≤ d ∧ d ≤ 50 then s.canView p (d - 47) off
  else if d = 51 then s.mtrView off
  else if d = 52 then
    (if off = 0x0C then some (s.mtcRead p 0) else if off = 0x10 then some (s.mtcRead p 1)
     else if off = 0x14 then some 0 else none)
  else if 53 ≤ d ∧ d ≤ 55 then s.ethView (d - 53) off
  else if d = 56 then s.ptpView off
  else if d = 57 then s.dpxView off
  else if d = 59 then s.asyView p off
  else if d = 60 then s.bkdView off
  else if d = 61 then s.logView p a off
  else if d = 62 then s.cruView p off
  else if d = 63 then s.fwuView p off
  else none

/-- What the register at offset `a` shows to port `p` (R2, R3, R68). -/
def State.regView (s : State) (p a : Nat) : Nat :=
  match regRow a, blockAt a with
  | some r, some b =>
    (match s.liveView p b.desc (a - b.base) a with
      | some v => v
      | none => if r.perPort then s.prd p a else s.rn a)
  | _, _ => 0

/-- Offset `a` is LInn_MEAS, LInn_VOLT or LInn_TEMP of an island. -/
def islMeasured (a : Nat) : Bool := Nat.ble 0x500000 a && Nat.blt a 0x501800 && [0x24, 0x28, 0x2C].contains (a % 256)

/-- The measurements of island `n` have been updated since the model was told them: every 1 ms while LINK is 1 (R263). -/
def State.islStale (s : State) (n : Nat) : Bool :=
  (s.isl n).link && (match (s.isl n).measNs with | some t => Nat.ble (t + 1000000) s.clk.upNs | none => true)

/-- A value that the module measures over time and the model does not: the field's lowest bit, its width, and its smallest and
largest value (R66, R161, R263, R281, R340, R366). The bank stands at or above 30.0 V exactly while BANK_CHARGED is 1; both are open while
the bank falls or charges. The load of a pair is 0 in STOP. -/
def State.measuredField (s : State) (a : Nat) : Option (Nat × Nat × Nat × Nat) :=
  if a = R.PCR_POWER then some (0, 16, 0, 65535)
  else if a = R.PCR_VIN then
    some (if s.pwr.bankOpen then (0, 32, 0, 2 ^ 32 - 1)
      else if s.g F.PCR_STATUS_BANK_CHARGED = 1 then (0, 32, 3000 * 2 ^ 16, 2 ^ 32 - 1)
      else (0, 32, 0, 3000 * 2 ^ 16 - 1))
  else if a = R.PCR_STATUS ∧ s.pwr.bankOpen then some (2, 1, 0, 1)
  else if R.SCN_LOAD 0 ≤ a ∧ a < R.SCN_LOAD 4 ∧ s.mode ≠ 0 then some (0, 14, 0, 10000)
  else if islMeasured a && s.islStale ((a - 0x500000) / 256) then some (0, if a % 256 = 0x24 then 32 else 16, 0, 2 ^ 32 - 1)
  else if a = R.DO_READBACK ∧ s.fio.dout.peer then some (0, 24, 0, 2 ^ 24 - 1)
  else if [0, 1, 2, 3].any (fun n => a == R.CAN_TDC n) then some (16, 7, 0, 127)
  else if [0, 1, 2].any (fun n => a == R.ETH_STATUS n) then some (0, 9, 0, 256)
  else none

/-! ## A read of one register -/

/-- The value `v` that has been measured for a register, with what the module itself settles of it: LInn_VOLT has the
converter's voltage at its TERMINAL (R255), and in DO_READBACK an output that the module drives is high where its partner may
drive the others (R44, R271, R281). -/
def State.settled (s : State) (a v : Nat) : Nat :=
  if islMeasured a ∧ a % 256 = 0x28 then v % 2 ^ 16 + s.islSupply ((a - 0x500000) / 256) (v % 2 ^ 16) * 2 ^ 16
  else if a = R.DO_READBACK then v ||| (s.fio.dout.on &&& (2 ^ 24 - 1 - s.fio.dout.stuck % 2 ^ 24))
  else v

/-- The lowest word of the SNAP register whose word is at offset `a`. -/
def snapLow (a : Nat) : Nat :=
  if 0x730010 ≤ a ∧ a < 0x73001C then 0x730010
  else
    let page := a / 65536
    let odd := page == 0x11 || page == 0x80 || page == 0x90 || (page == 0x30 && Nat.ble 0x301000 a)
      || (Nat.ble 0x40 page && Nat.ble page 0x43 && Nat.blt (a % 65536) 0x100)
    if odd then a - (a + 4) % 8 else a - a % 8

/-- The words of the SNAP register whose lowest word is at offset `a`. -/
def snapWords (a : Nat) : List Nat := if a = 0x730010 then [a, a + 4, a + 8] else [a, a + 4]

/-- Every word of a SNAP register captured for port `p` (R3). A performance counter that has counted what the model does not
count shows a free value (R454). -/
def State.snapCapture (s : State) (p a : Nat) : State :=
  let q := s.port p
  let free := a / 65536 == 0x11 && s.pmonOpen.contains ((a % 65536 - 0x100) / 16)
  let show_ := fun (k : Nat) => if free then s.fresh % 2 ^ 48 / 2 ^ (8 * (k - a)) else s.regView p k
  (if free then s.freshen else s).setPort p { q with
    snap := (snapWords a).foldl (fun t k => tset t 0#32 k (BitVec.ofNat 32 (show_ k))) q.snap }

/-- The register at offset `a` read by port `p`: the state after the read's effect and the value returned. Reserved space and
blocks that do not respond read as zero (R5, R62). -/
def State.regRead (s : State) (p a : Nat) : State × Nat :=
  match regRow a with
  | none => (s, 0)
  | some r =>
    if !s.responds a then (s, 0)
    else match r.acc with
      | .snap =>
        let s1 := if a = snapLow a then s.snapCapture p a else s
        (s1, (tget (s1.port p).snap 0#32 a).toNat)
      | .rc => (s.wn a 0, s.regView p a)
      | _ =>
        if 0x30000 ≤ a ∧ a < 0x31000 ∧ a % 16 = 0 then
          let s1 := s.take p ((a - 0x30000) / 16)
          (s1, s1.regView p a)
        else match s.measuredField a with
          | some (lo, w, bot, top) =>
            (s.freshen, s.settled a (setBits (s.regView p a) lo w (bot + s.fresh % (top - bot + 1))))
          | none => (s, s.regView p a)

/-- Word `a` of BAR2 read by port `p` (R68, R74). -/
def State.bar2View (s : State) (p a : Nat) : Nat :=
  let q := s.port p
  if 0x8000 ≤ a ∧ a < 0x8800 then (q.msixWord ((a - 0x8000) / 4)).toNat
  else if 0xC000 ≤ a ∧ a < 0xC010 then bits q.pba (8 * (a - 0xC000)) 32
  else 0

/-! ## A read access (R462) -/

/-- A register of the configuration space of port `p` read: the link's speed and width are live (R67, R99). -/
def State.cfgView (s : State) (p a : Nat) : Nat :=
  let v := s.cfg p a
  if a = 0x70 then setBits (setBits v 16 4 (s.g (F.HP_ID_SPEED p))) 20 6 (s.g (F.HP_ID_WIDTH p)) else v

/-- The registers of a read access read in ascending order, `k` of them from offset `a` on. -/
def State.readRegs (s : State) (p : Nat) (bar2 : Bool) : Nat → Nat → State
  | 0, _ => s
  | k + 1, a =>
    let r := if bar2 then (s, s.bar2View p a) else s.regRead p a
    (r.1.answer p a r.2).readRegs p bar2 k (a + 4)

/-- A read access of port `p`: `len` bytes from offset `a` on. 1 to 3 bytes return those bytes of the register. An access that
breaks the conditions of R462 has no effect on any register. -/
def State.readAccess (s : State) (p : Nat) (sp : HostSpace) (a len : Nat) : State :=
  let bar2 := sp == .page
  if s.linkUp p && spaceTakes sp a len then
    if sp = .config then s.answer p a (bits (s.cfgView p (a - a % 4)) (8 * (a % 4)) (8 * len))
    else if 4 ≤ len then s.readRegs p bar2 (len / 4) a
    else
      let w := a - a % 4
      let r := if bar2 then (s, s.bar2View p w) else s.regRead p w
      r.1.answer p a (bits r.2 (8 * (a % 4)) (8 * len))
  else s

/-- SNAP_READ (R3, R67, R462): a read access of port `p` to BAR0, to its BAR2 or to its configuration space; a read of the
lowest word of a SNAP register captures the whole value for the port. -/
def execSnapRead (p : Fin 2) (w : HostSpace) (a len : Nat) (s : State) : Host.Outcome State Fault Refusal :=
  .next (s.readAccess p w a len)

/-- RC_READ (R3, R462): a read access of port `p` to BAR0; an RC register is cleared by the read. -/
def execRcRead (p : Fin 2) (a len : Nat) (s : State) : Host.Outcome State Fault Refusal :=
  .next (s.readAccess p .regs a len)

end Sys2Proof.Machine
end

