-- ==== Sys2Proof/Machine/Dispatch.lean ====
section
/-! DEFINITION. What each command does: one arm per constructor of `Instr`. -/

namespace Sys2Proof.Machine

def exec (i : Instr) (s : State) : Host.Outcome State Fault Refusal :=
  match i with
  | .powerFailDetect vin bank => Sys2Proof.Machine.execPowerFailDetect vin bank s
  | .powerFailCommit => Sys2Proof.Machine.execPowerFailCommit s
  | .bankAt21v => Sys2Proof.Machine.execBankAt21v s
  | .railsOff => Sys2Proof.Machine.execRailsOff s
  | .vinQualify => Sys2Proof.Machine.execVinQualify s
  | .bankMeasure energy => Sys2Proof.Machine.execBankMeasure energy s
  | .xtalFail => Sys2Proof.Machine.execXtalFail s
  | .softwareReset p v => Sys2Proof.Machine.execSoftwareReset p v s
  | .moduleReset => Sys2Proof.Machine.execModuleReset s
  | .resetDomains x => Sys2Proof.Machine.execResetDomains x s
  | .smWatchdogExpire => Sys2Proof.Machine.execSmWatchdogExpire s
  | .portReset p kind => Sys2Proof.Machine.execPortReset p kind s
  | .functionLevelReset p => Sys2Proof.Machine.execFunctionLevelReset p s
  | .porHoldEnd x => Sys2Proof.Machine.execPorHoldEnd x s
  | .bootVerifyDone f => Sys2Proof.Machine.execBootVerifyDone f s
  | .keelStartDone epochOk => Sys2Proof.Machine.execKeelStartDone epochOk s
  | .bankCharged => Sys2Proof.Machine.execBankCharged s
  | .domainStart f => Sys2Proof.Machine.execDomainStart f s
  | .domainStartDone => Sys2Proof.Machine.execDomainStartDone s
  | .resyncPhaseEnd => Sys2Proof.Machine.execResyncPhaseEnd s
  | .ringEnable p cq n v => Sys2Proof.Machine.execRingEnable p cq n v s
  | .sqDisable p n v => Sys2Proof.Machine.execSqDisable p n v s
  | .cqDisable p n v => Sys2Proof.Machine.execCqDisable p n v s
  | .sqTailDoorbell p n v => Sys2Proof.Machine.execSqTailDoorbell p n v s
  | .cqHeadDoorbell p n v => Sys2Proof.Machine.execCqHeadDoorbell p n v s
  | .entryFetch p entry => Sys2Proof.Machine.execEntryFetch p entry s
  | .completionWrite p n ok => Sys2Proof.Machine.execCompletionWrite p n ok s
  | .coalescingTimer p n => Sys2Proof.Machine.execCoalescingTimer p n s
  | .irqSourceEdge src => Sys2Proof.Machine.execIrqSourceEdge src s
  | .subscriptionNotify p n ok => Sys2Proof.Machine.execSubscriptionNotify p n ok s
  | .nop r => Sys2Proof.Machine.execNop r s
  | .ptRead r b => Sys2Proof.Machine.execPtRead r b s
  | .ptWrite r => Sys2Proof.Machine.execPtWrite r s
  | .ptSubscribe r => Sys2Proof.Machine.execPtSubscribe r s
  | .ptSubscribeCancel r => Sys2Proof.Machine.execPtSubscribeCancel r s
  | .ptForce r => Sys2Proof.Machine.execPtForce r s
  | .ptUnforce r => Sys2Proof.Machine.execPtUnforce r s
  | .imgLoad r b bankOk partner => Sys2Proof.Machine.execImgLoad r b bankOk partner s
  | .imgChangeValues r b partner => Sys2Proof.Machine.execImgChangeValues r b partner s
  | .imgChangeSwitch r b bankOk partner => Sys2Proof.Machine.execImgChangeSwitch r b bankOk partner s
  | .taskRun r => Sys2Proof.Machine.execTaskRun r s
  | .taskStop r => Sys2Proof.Machine.execTaskStop r s
  | .taskHold r => Sys2Proof.Machine.execTaskHold r s
  | .warmRestart r => Sys2Proof.Machine.execWarmRestart r s
  | .coldRestart r => Sys2Proof.Machine.execColdRestart r s
  | .stepTask r => Sys2Proof.Machine.execStepTask r s
  | .continueTasks r => Sys2Proof.Machine.execContinueTasks r s
  | .setBreak r => Sys2Proof.Machine.execSetBreak r s
  | .clearBreak r => Sys2Proof.Machine.execClearBreak r s
  | .suspendTask r => Sys2Proof.Machine.execSuspendTask r s
  | .resumeTask r => Sys2Proof.Machine.execResumeTask r s
  | .ringTrigger r => Sys2Proof.Machine.execRingTrigger r s
  | .armTime r => Sys2Proof.Machine.execArmTime r s
  | .logRead r b damaged => Sys2Proof.Machine.execLogRead r b damaged s
  | .logClear r b => Sys2Proof.Machine.execLogClear r b s
  | .logClearSwitch => Sys2Proof.Machine.execLogClearSwitch s
  | .mtrSnap r b => Sys2Proof.Machine.execMtrSnap r b s
  | .traceFetch r b => Sys2Proof.Machine.execTraceFetch r b s
  | .derive r => Sys2Proof.Machine.execDerive r s
  | .unwrap r b => Sys2Proof.Machine.execUnwrap r b s
  | .loadSlot r => Sys2Proof.Machine.execLoadSlot r s
  | .generate r b => Sys2Proof.Machine.execGenerate r b s
  | .store r b => Sys2Proof.Machine.execStore r b s
  | .eraseSlot r => Sys2Proof.Machine.execEraseSlot r s
  | .encrypt r b => Sys2Proof.Machine.execEncrypt r b s
  | .decrypt r b => Sys2Proof.Machine.execDecrypt r b s
  | .keyClear r => Sys2Proof.Machine.execKeyClear r s
  | .setOperator r b => Sys2Proof.Machine.execSetOperator r b s
  | .debugUnlock r b => Sys2Proof.Machine.execDebugUnlock r b s
  | .debugLock r => Sys2Proof.Machine.execDebugLock r s
  | .exportTest r b => Sys2Proof.Machine.execExportTest r b s
  | .attest r b => Sys2Proof.Machine.execAttest r b s
  | .ctxBind r b => Sys2Proof.Machine.execCtxBind r b s
  | .gateTake p n => Sys2Proof.Machine.execGateTake p n s
  | .gateRenew p n ms => Sys2Proof.Machine.execGateRenew p n ms s
  | .gateRelease p n => Sys2Proof.Machine.execGateRelease p n s
  | .leaseExpire n => Sys2Proof.Machine.execLeaseExpire n s
  | .gateAuditSecond n => Sys2Proof.Machine.execGateAuditSecond n s
  | .ctxDenySecond c => Sys2Proof.Machine.execCtxDenySecond c s
  | .registerWrite p w a data => Sys2Proof.Machine.execRegisterWrite p w a data s
  | .snapRead p w a len => Sys2Proof.Machine.execSnapRead p w a len s
  | .rcRead p a len => Sys2Proof.Machine.execRcRead p a len s
  | .updateFrameSend => Sys2Proof.Machine.execUpdateFrameSend s
  | .heartbeatSend => Sys2Proof.Machine.execHeartbeatSend s
  | .refreshSweep => Sys2Proof.Machine.execRefreshSweep s
  | .zaderFrameReceive link payload => Sys2Proof.Machine.execZaderFrameReceive link payload s
  | .resyncReqSend target => Sys2Proof.Machine.execResyncReqSend target s
  | .blockService => Sys2Proof.Machine.execBlockService s
  | .resyncRetry b => Sys2Proof.Machine.execResyncRetry b s
  | .originSilent o => Sys2Proof.Machine.execOriginSilent o s
  | .autoTakeover b => Sys2Proof.Machine.execAutoTakeover b s
  | .ownRelease p b n => Sys2Proof.Machine.execOwnRelease p b n s
  | .ownReleaseEffective b => Sys2Proof.Machine.execOwnReleaseEffective b s
  | .ownClaim p b => Sys2Proof.Machine.execOwnClaim p b s
  | .pixScrub upsets => Sys2Proof.Machine.execPixScrub upsets s
  | .cyclicRelease n => Sys2Proof.Machine.execCyclicRelease n s
  | .eventTrigger n => Sys2Proof.Machine.execEventTrigger n s
  | .timeTriggerFire n => Sys2Proof.Machine.execTimeTriggerFire n s
  | .eventRelease n => Sys2Proof.Machine.execEventRelease n s
  | .inputLatch n => Sys2Proof.Machine.execInputLatch n s
  | .outputCommit n => Sys2Proof.Machine.execOutputCommit n s
  | .retainedBankSwitch n => Sys2Proof.Machine.execRetainedBankSwitch n s
  | .taskWatchdogExpire n => Sys2Proof.Machine.execTaskWatchdogExpire n s
  | .breakpointHit n => Sys2Proof.Machine.execBreakpointHit n s
  | .pairCompareMismatch k => Sys2Proof.Machine.execPairCompareMismatch k s
  | .nopInstruction k => Sys2Proof.Machine.execNopInstruction k s
  | .br k disp => Sys2Proof.Machine.execBr k disp s
  | .brt k a disp => Sys2Proof.Machine.execBrt k a disp s
  | .brf k a disp => Sys2Proof.Machine.execBrf k a disp s
  | .callFn k a f => Sys2Proof.Machine.execCallFn k a f s
  | .retFn k => Sys2Proof.Machine.execRetFn k s
  | .assertReg k a imm => Sys2Proof.Machine.execAssertReg k a imm s
  | .sysRead k d imm => Sys2Proof.Machine.execSysRead k d imm s
  | .movReg k d a => Sys2Proof.Machine.execMovReg k d a s
  | .ldi k d imm => Sys2Proof.Machine.execLdi k d imm s
  | .ldk k d imm => Sys2Proof.Machine.execLdk k d imm s
  | .sel k d a b c => Sys2Proof.Machine.execSel k d a b c s
  | .ldb k d a off => Sys2Proof.Machine.execLdb k d a off s
  | .ldw k d a off => Sys2Proof.Machine.execLdw k d a off s
  | .ldwu k d a off => Sys2Proof.Machine.execLdwu k d a off s
  | .ldd k d a off => Sys2Proof.Machine.execLdd k d a off s
  | .stb k src a off => Sys2Proof.Machine.execStb k src a off s
  | .stw k src a off => Sys2Proof.Machine.execStw k src a off s
  | .std k src a off => Sys2Proof.Machine.execStd k src a off s
  | .ldin k d n => Sys2Proof.Machine.execLdin k d n s
  | .ldiq k d n => Sys2Proof.Machine.execLdiq k d n s
  | .ldit k d n => Sys2Proof.Machine.execLdit k d n s
  | .stout k src n => Sys2Proof.Machine.execStout k src n s
  | .stoq k src n => Sys2Proof.Machine.execStoq k src n s
  | .ldlp k d loc q => Sys2Proof.Machine.execLdlp k d loc q s
  | .stlp k src loc q => Sys2Proof.Machine.execStlp k src loc q s
  | .addD k d a b => Sys2Proof.Machine.execAddD k d a b s
  | .subD k d a b => Sys2Proof.Machine.execSubD k d a b s
  | .mulD k d a b => Sys2Proof.Machine.execMulD k d a b s
  | .divD k d a b => Sys2Proof.Machine.execDivD k d a b s
  | .modD k d a b => Sys2Proof.Machine.execModD k d a b s
  | .cmpD k d a b sub => Sys2Proof.Machine.execCmpD k d a b sub s
  | .addL k d a b => Sys2Proof.Machine.execAddL k d a b s
  | .subL k d a b => Sys2Proof.Machine.execSubL k d a b s
  | .mulL k d a b => Sys2Proof.Machine.execMulL k d a b s
  | .divL k d a b => Sys2Proof.Machine.execDivL k d a b s
  | .modL k d a b => Sys2Proof.Machine.execModL k d a b s
  | .cmpL k d a b sub => Sys2Proof.Machine.execCmpL k d a b sub s
  | .cmpE k d a b sub => Sys2Proof.Machine.execCmpE k d a b sub s
  | .addT k d a b => Sys2Proof.Machine.execAddT k d a b s
  | .subT k d a b => Sys2Proof.Machine.execSubT k d a b s
  | .cmpT k d a b sub => Sys2Proof.Machine.execCmpT k d a b sub s
  | .addR k d a b => Sys2Proof.Machine.execAddR k d a b s
  | .subR k d a b => Sys2Proof.Machine.execSubR k d a b s
  | .mulR k d a b => Sys2Proof.Machine.execMulR k d a b s
  | .divR k d a b => Sys2Proof.Machine.execDivR k d a b s
  | .cmpR k d a b sub => Sys2Proof.Machine.execCmpR k d a b sub s
  | .funR k d a b sub => Sys2Proof.Machine.execFunR k d a b sub s
  | .limR k d a b c => Sys2Proof.Machine.execLimR k d a b c s
  | .addLr k d a b => Sys2Proof.Machine.execAddLr k d a b s
  | .subLr k d a b => Sys2Proof.Machine.execSubLr k d a b s
  | .mulLr k d a b => Sys2Proof.Machine.execMulLr k d a b s
  | .divLr k d a b => Sys2Proof.Machine.execDivLr k d a b s
  | .cmpLr k d a b sub => Sys2Proof.Machine.execCmpLr k d a b sub s
  | .funLr k d a b sub => Sys2Proof.Machine.execFunLr k d a b sub s
  | .limLr k d a b c => Sys2Proof.Machine.execLimLr k d a b c s
  | .limL k d a b c => Sys2Proof.Machine.execLimL k d a b c s
  | .andReg k d a b => Sys2Proof.Machine.execAndReg k d a b s
  | .orReg k d a b => Sys2Proof.Machine.execOrReg k d a b s
  | .xorReg k d a b => Sys2Proof.Machine.execXorReg k d a b s
  | .notReg k d a => Sys2Proof.Machine.execNotReg k d a s
  | .notb k d a => Sys2Proof.Machine.execNotb k d a s
  | .shl k d a b => Sys2Proof.Machine.execShl k d a b s
  | .shr k d a b => Sys2Proof.Machine.execShr k d a b s
  | .sar k d a b => Sys2Proof.Machine.execSar k d a b s
  | .cvtReg k d a src dst rnd => Sys2Proof.Machine.execCvtReg k d a src dst rnd s
  | .esnap k d n => Sys2Proof.Machine.execEsnap k d n s
  | .esub k d a b => Sys2Proof.Machine.execEsub k d a b s
  | .ecvt k d a => Sys2Proof.Machine.execEcvt k d a s
  | .brx k a n => Sys2Proof.Machine.execBrx k a n s
  | .addi k d a imm => Sys2Proof.Machine.execAddi k d a imm s
  | .ldinx k d a => Sys2Proof.Machine.execLdinx k d a s
  | .valuesBoundary n => Sys2Proof.Machine.execValuesBoundary n s
  | .switchGap tenths => Sys2Proof.Machine.execSwitchGap tenths s
  | .switchWaitExpire => Sys2Proof.Machine.execSwitchWaitExpire s
  | .loopEvaluate e => Sys2Proof.Machine.execLoopEvaluate e s
  | .memorySave e m => Sys2Proof.Machine.execMemorySave e m s
  | .loopWrite p e v => Sys2Proof.Machine.execLoopWrite p e v s
  | .loopRead p e v => Sys2Proof.Machine.execLoopRead p e v s
  | .loopCancel p e => Sys2Proof.Machine.execLoopCancel p e s
  | .loopWriteApply e => Sys2Proof.Machine.execLoopWriteApply e s
  | .memClear p e m => Sys2Proof.Machine.execMemClear p e m s
  | .memFreeze p e m => Sys2Proof.Machine.execMemFreeze p e m s
  | .memUnfreeze p e m => Sys2Proof.Machine.execMemUnfreeze p e m s
  | .traceArm p e b => Sys2Proof.Machine.execTraceArm p e b s
  | .traceTrigger p e b => Sys2Proof.Machine.execTraceTrigger p e b s
  | .traceAbort p e b => Sys2Proof.Machine.execTraceAbort p e b s
  | .islandCfgWrite p n v => Sys2Proof.Machine.execIslandCfgWrite p n v s
  | .headroom n low m => Sys2Proof.Machine.execHeadroom n low m s
  | .comply n short m => Sys2Proof.Machine.execComply n short m s
  | .fallback n => Sys2Proof.Machine.execFallback n s
  | .islandTimedRetry n => Sys2Proof.Machine.execIslandTimedRetry n s
  | .islandRetry p n => Sys2Proof.Machine.execIslandRetry p n s
  | .retryWindowEnd n good => Sys2Proof.Machine.execRetryWindowEnd n good s
  | .openLoop n opened m => Sys2Proof.Machine.execOpenLoop n opened m s
  | .senseFault n m => Sys2Proof.Machine.execSenseFault n m s
  | .stageFault n m => Sys2Proof.Machine.execStageFault n m s
  | .islandClear p n => Sys2Proof.Machine.execIslandClear p n s
  | .recheckEnd n sense stage m => Sys2Proof.Machine.execRecheckEnd n sense stage m s
  | .thermal n m => Sys2Proof.Machine.execThermal n m s
  | .linkLost n => Sys2Proof.Machine.execLinkLost n s
  | .islandReleaseEdge n => Sys2Proof.Machine.execIslandReleaseEdge n s
  | .handoverDone n => Sys2Proof.Machine.execHandoverDone n s
  | .storeSpent n => Sys2Proof.Machine.execStoreSpent n s
  | .uiConversion n m => Sys2Proof.Machine.execUiConversion n m s
  | .uiShuntRetry n => Sys2Proof.Machine.execUiShuntRetry n s
  | .doEnWrite p v => Sys2Proof.Machine.execDoEnWrite p v s
  | .doShort n => Sys2Proof.Machine.execDoShort n s
  | .doShortClear p v => Sys2Proof.Machine.execDoShortClear p v s
  | .doAutoRetry n => Sys2Proof.Machine.execDoAutoRetry n s
  | .openLoad n opened => Sys2Proof.Machine.execOpenLoad n opened s
  | .vsLow v0 v1 => Sys2Proof.Machine.execVsLow v0 v1 s
  | .stuck n high => Sys2Proof.Machine.execStuck n high s
  | .doReleaseEdge => Sys2Proof.Machine.execDoReleaseEdge s
  | .doYieldHoldEnd => Sys2Proof.Machine.execDoYieldHoldEnd s
  | .daliLevelSend n => Sys2Proof.Machine.execDaliLevelSend n s
  | .daliPoll n => Sys2Proof.Machine.execDaliPoll n s
  | .daliFrameReceive n f => Sys2Proof.Machine.execDaliFrameReceive n f s
  | .daliBusDown n => Sys2Proof.Machine.execDaliBusDown n s
  | .daliBusUp n => Sys2Proof.Machine.execDaliBusUp n s
  | .daliRawSend p n v => Sys2Proof.Machine.execDaliRawSend p n v s
  | .daliTakeoverResend n => Sys2Proof.Machine.execDaliTakeoverResend n s
  | .modbusPoll n c => Sys2Proof.Machine.execModbusPoll n c s
  | .modbusWrite n => Sys2Proof.Machine.execModbusWrite n s
  | .serReply n r framing => Sys2Proof.Machine.execSerReply n r framing s
  | .serTimeout n => Sys2Proof.Machine.execSerTimeout n s
  | .osdpPoll n a session => Sys2Proof.Machine.execOsdpPoll n a session s
  | .osdpReaderSilent n a => Sys2Proof.Machine.execOsdpReaderSilent n a s
  | .serCfgWrite p n v => Sys2Proof.Machine.execSerCfgWrite p n v s
  | .serTakeoverResume n => Sys2Proof.Machine.execSerTakeoverResume n s
  | .meteringBlock m => Sys2Proof.Machine.execMeteringBlock m s
  | .journalCommit => Sys2Proof.Machine.execJournalCommit s
  | .energyDisplayWrite => Sys2Proof.Machine.execEnergyDisplayWrite s
  | .mtrChCfgWrite p n primary v => Sys2Proof.Machine.execMtrChCfgWrite p n primary v s
  | .mtrCirCfgWrite p k v => Sys2Proof.Machine.execMtrCirCfgWrite p k v s
  | .totalsReceive time id wrapped l => Sys2Proof.Machine.execTotalsReceive time id wrapped l s
  | .totalsAckReceive time => Sys2Proof.Machine.execTotalsAckReceive time s
  | .totalsAckTimeout => Sys2Proof.Machine.execTotalsAckTimeout s
  | .dpxDisagreeWindow => Sys2Proof.Machine.execDpxDisagreeWindow s
  | .mtcTempRead die mod => Sys2Proof.Machine.execMtcTempRead die mod s
  | .mtcCommit p => Sys2Proof.Machine.execMtcCommit p s
  | .mtcRestore p => Sys2Proof.Machine.execMtcRestore p s
  | .assayStepEnd m => Sys2Proof.Machine.execAssayStepEnd m s
  | .calStepEnd m => Sys2Proof.Machine.execCalStepEnd m s
  | .verify p c => Sys2Proof.Machine.execVerify p c s
  | .calibrate p c => Sys2Proof.Machine.execCalibrate p c s
  | .clearFault p c => Sys2Proof.Machine.execClearFault p c s
  | .aliveSilent => Sys2Proof.Machine.execAliveSilent s
  | .aliveGood => Sys2Proof.Machine.execAliveGood s
  | .aliveGeneratorStop => Sys2Proof.Machine.execAliveGeneratorStop s
  | .grantInEdge grant release => Sys2Proof.Machine.execGrantInEdge grant release s
  | .dualMotor => Sys2Proof.Machine.execDualMotor s
  | .laneDown k => Sys2Proof.Machine.execLaneDown k s
  | .laneUp k => Sys2Proof.Machine.execLaneUp k s
  | .lanesDown => Sys2Proof.Machine.execLanesDown s
  | .inputs task ref entries outs => Sys2Proof.Machine.execInputs task ref entries outs s
  | .inputsAck task ref => Sys2Proof.Machine.execInputsAck task ref s
  | .shipTimeout task => Sys2Proof.Machine.execShipTimeout task s
  | .hash task ref h => Sys2Proof.Machine.execHash task ref h s
  | .hashTimeout task => Sys2Proof.Machine.execHashTimeout task s
  | .forward f => Sys2Proof.Machine.execForward f s
  | .seqReport seq => Sys2Proof.Machine.execSeqReport seq s
  | .abdicate => Sys2Proof.Machine.execAbdicate s
  | .abdicateWindowExpire => Sys2Proof.Machine.execAbdicateWindowExpire s
  | .notReady => Sys2Proof.Machine.execNotReady s
  | .takeover quickOk => Sys2Proof.Machine.execTakeover quickOk s
  | .xcheck task ref inCrc => Sys2Proof.Machine.execXcheck task ref inCrc s
  | .xcheckDecide rm rb qm qb => Sys2Proof.Machine.execXcheckDecide rm rb qm qb s
  | .dpxSwitch p delay => Sys2Proof.Machine.execDpxSwitch p delay s
  | .switch t => Sys2Proof.Machine.execSwitch t s
  | .plannedSwitch => Sys2Proof.Machine.execPlannedSwitch s
  | .detach p => Sys2Proof.Machine.execDetach p s
  | .join p => Sys2Proof.Machine.execJoin p s
  | .joinRetry => Sys2Proof.Machine.execJoinRetry s
  | .hello h => Sys2Proof.Machine.execHello h s
  | .xfer items kib => Sys2Proof.Machine.execXfer items kib s
  | .xferGap kib => Sys2Proof.Machine.execXferGap kib s
  | .joinWaitExpire => Sys2Proof.Machine.execJoinWaitExpire s
  | .idle ok => Sys2Proof.Machine.execIdle ok s
  | .partnerPresentChange present => Sys2Proof.Machine.execPartnerPresentChange present s
  | .canEnable p n v => Sys2Proof.Machine.execCanEnable p n v s
  | .canBusJoin n => Sys2Proof.Machine.execCanBusJoin n s
  | .txRequest p n b => Sys2Proof.Machine.execTxRequest p n b s
  | .txCancel p n b won => Sys2Proof.Machine.execTxCancel p n b won s
  | .txTimeReached n b => Sys2Proof.Machine.execTxTimeReached n b s
  | .arbitrationStart n => Sys2Proof.Machine.execArbitrationStart n s
  | .arbitrationLost n => Sys2Proof.Machine.execArbitrationLost n s
  | .canBusError n code dataPhase heavy => Sys2Proof.Machine.execCanBusError n code dataPhase heavy s
  | .txDone n => Sys2Proof.Machine.execTxDone n s
  | .suspendEnd n => Sys2Proof.Machine.execSuspendEnd n s
  | .recover p n => Sys2Proof.Machine.execRecover p n s
  | .recovered n => Sys2Proof.Machine.execRecovered n s
  | .flush p n which => Sys2Proof.Machine.execFlush p n which s
  | .rxfPop p n f => Sys2Proof.Machine.execRxfPop p n f s
  | .canFrameReceive n f => Sys2Proof.Machine.execCanFrameReceive n f s
  | .canRefillPeriod n b => Sys2Proof.Machine.execCanRefillPeriod n b s
  | .canStationTimeout n k => Sys2Proof.Machine.execCanStationTimeout n k s
  | .dominantTimeout n => Sys2Proof.Machine.execDominantTimeout n s
  | .txbufWrite p n k v => Sys2Proof.Machine.execTxbufWrite p n k v s
  | .listenExit n => Sys2Proof.Machine.execListenExit n s
  | .ethFrameReceive n f => Sys2Proof.Machine.execEthFrameReceive n f s
  | .pauseTimerExpire n => Sys2Proof.Machine.execPauseTimerExpire n s
  | .pauseLong n => Sys2Proof.Machine.execPauseLong n s
  | .ethFrameSend n handed => Sys2Proof.Machine.execEthFrameSend n handed s
  | .linkUp n speed full mdix => Sys2Proof.Machine.execLinkUp n speed full mdix s
  | .linkDown n localFault remoteFault => Sys2Proof.Machine.execLinkDown n localFault remoteFault s
  | .sfpRead n byte12 => Sys2Proof.Machine.execSfpRead n byte12 s
  | .sfpChange n abs los txflt => Sys2Proof.Machine.execSfpChange n abs los txflt s
  | .ethCtlWrite p n v => Sys2Proof.Machine.execEthCtlWrite p n v s
  | .ethHashWrite p n k v => Sys2Proof.Machine.execEthHashWrite p n k v s
  | .ethStationTimeout n k => Sys2Proof.Machine.execEthStationTimeout n k s
  | .syncReceive m => Sys2Proof.Machine.execSyncReceive m s
  | .followUpReceive m => Sys2Proof.Machine.execFollowUpReceive m s
  | .delayReqReceive m => Sys2Proof.Machine.execDelayReqReceive m s
  | .delayRespReceive m => Sys2Proof.Machine.execDelayRespReceive m s
  | .pdelayReqReceive m => Sys2Proof.Machine.execPdelayReqReceive m s
  | .pdelayRespReceive m => Sys2Proof.Machine.execPdelayRespReceive m s
  | .pdelayRespFollowUpReceive m => Sys2Proof.Machine.execPdelayRespFollowUpReceive m s
  | .announceReceive m => Sys2Proof.Machine.execAnnounceReceive m s
  | .masterLost => Sys2Proof.Machine.execMasterLost s
  | .holdoverLimit => Sys2Proof.Machine.execHoldoverLimit s
  | .ptpMessageSend n k => Sys2Proof.Machine.execPtpMessageSend n k s
  | .stampTake q => Sys2Proof.Machine.execStampTake q s
  | .ptpSet p => Sys2Proof.Machine.execPtpSet p s
  | .ptpAdjust p => Sys2Proof.Machine.execPtpAdjust p s
  | .ptpAddendWrite p v => Sys2Proof.Machine.execPtpAddendWrite p v s
  | .ptpCtlWrite p v => Sys2Proof.Machine.execPtpCtlWrite p v s
  | .trimPulse => Sys2Proof.Machine.execTrimPulse s
  | .bkdWrap => Sys2Proof.Machine.execBkdWrap s
  | .bkdAlarm => Sys2Proof.Machine.execBkdAlarm s
  | .bkdWake => Sys2Proof.Machine.execBkdWake s
  | .bkdWakeWrite p v => Sys2Proof.Machine.execBkdWakeWrite p v s
  | .setCount p => Sys2Proof.Machine.execSetCount p s
  | .setCountLoad => Sys2Proof.Machine.execSetCountLoad s
  | .bkdArm p => Sys2Proof.Machine.execBkdArm p s
  | .disarm p => Sys2Proof.Machine.execDisarm p s
  | .capture p => Sys2Proof.Machine.execCapture p s
  | .captureLatch => Sys2Proof.Machine.execCaptureLatch s
  | .crcCheck p => Sys2Proof.Machine.execCrcCheck p s
  | .restored p => Sys2Proof.Machine.execRestored p s
  | .erase p key => Sys2Proof.Machine.execErase p key s
  | .bkdByteWrite p k v => Sys2Proof.Machine.execBkdByteWrite p k v s
  | .bkdSupplySwitch vbat upsets => Sys2Proof.Machine.execBkdSupplySwitch vbat upsets s
  | .lockout => Sys2Proof.Machine.execLockout s
  | .lockoutExit => Sys2Proof.Machine.execLockoutExit s
  | .backupDomainReset => Sys2Proof.Machine.execBackupDomainReset s
  | .oscStop => Sys2Proof.Machine.execOscStop s
  | .logRecordWrite => Sys2Proof.Machine.execLogRecordWrite s
  | .logFloodSecond => Sys2Proof.Machine.execLogFloodSecond s
  | .epochApply p apply => Sys2Proof.Machine.execEpochApply p apply s
  | .fwBlockHeader r b mramOk => Sys2Proof.Machine.execFwBlockHeader r b mramOk s
  | .fwBlockTable r b mramOk => Sys2Proof.Machine.execFwBlockTable r b mramOk s
  | .fwBlockHallmark r b mramOk => Sys2Proof.Machine.execFwBlockHallmark r b mramOk s
  | .fwBlockData r b mramOk => Sys2Proof.Machine.execFwBlockData r b mramOk s
  | .fwActivate r butty => Sys2Proof.Machine.execFwActivate r butty s
  | .fwActivateCold r => Sys2Proof.Machine.execFwActivateCold r s
  | .fwActivateGap mask migrated => Sys2Proof.Machine.execFwActivateGap mask migrated s
  | .fwGapWaitExpire => Sys2Proof.Machine.execFwGapWaitExpire s
  | .islIslandSwitch migrated => Sys2Proof.Machine.execIslIslandSwitch migrated s
  | .soakEnd => Sys2Proof.Machine.execSoakEnd s
  | .fwNetSwitch migrated => Sys2Proof.Machine.execFwNetSwitch migrated s
  | .confirm p => Sys2Proof.Machine.execConfirm p s
  | .cancel p => Sys2Proof.Machine.execCancel p s
  | .abandonStaging p => Sys2Proof.Machine.execAbandonStaging p s
  | .faultDeclare found task => Sys2Proof.Machine.execFaultDeclare found task s
  | .heartbeatMiss u task => Sys2Proof.Machine.execHeartbeatMiss u task s
  | .unitRestartDone u ok => Sys2Proof.Machine.execUnitRestartDone u ok s
  | .eccHigh corrected => Sys2Proof.Machine.execEccHigh corrected s
  | .assaySliceStart t => Sys2Proof.Machine.execAssaySliceStart t s
  | .assaySliceEnd t fail => Sys2Proof.Machine.execAssaySliceEnd t fail s
  | .assayPeriodicRequest => Sys2Proof.Machine.execAssayPeriodicRequest s
  | .asyTest p t => Sys2Proof.Machine.execAsyTest p t s
  | .asyCalibrate p t => Sys2Proof.Machine.execAsyCalibrate p t s
  | .islandTestEnd n fail limit => Sys2Proof.Machine.execIslandTestEnd n fail limit s
  | .scrubPassEnd mram corrected => Sys2Proof.Machine.execScrubPassEnd mram corrected s
  | .pmonClear p => Sys2Proof.Machine.execPmonClear p s
  | .pmonFreeze p freeze => Sys2Proof.Machine.execPmonFreeze p freeze s
  | .pmonSelWrite p c v => Sys2Proof.Machine.execPmonSelWrite p c v s
  | .hostLinkUp p wide speed => Sys2Proof.Machine.execHostLinkUp p wide speed s
  | .referenceCrystalStart => Sys2Proof.Machine.execReferenceCrystalStart s
  | .islandLinkReturn n => Sys2Proof.Machine.execIslandLinkReturn n s
  | .tickCrystalRestart => Sys2Proof.Machine.execTickCrystalRestart s
  | .bkdVbatMeasure centivolts => Sys2Proof.Machine.execBkdVbatMeasure centivolts s
  | .daliFrameDone n e coll => Sys2Proof.Machine.execDaliFrameDone n e coll s
  | .daliRawWaitExpire n => Sys2Proof.Machine.execDaliRawWaitExpire n s

end Sys2Proof.Machine
end

