-- ==== Sys2Proof/Machine/BlockEnc.lean ====
section
/-! DEFINITION. The words of the block-code instructions (R169, R170): the word that an image holds for each block-code row. -/

namespace Sys2Proof.Machine

/-- A word: OP in bits 31:25, a register field in 24:19, the rest in 18:0 (R169). -/
def bcWord (op d rest : Nat) : Nat := op * 2 ^ 25 + d * 2 ^ 19 + rest

/-- The rest of a word of form T: A in 18:13, B in 12:7, SUB in 6:0; of form Q with C for SUB (R169). -/
def bcABSub (a b sub : Nat) : Nat := a * 2 ^ 13 + b * 2 ^ 7 + sub

/-- The pair that a block-code row names and the instruction's word; none for any other command. -/
def encodeBc (i : Instr) : Option (Fin 4 × Nat) :=
  match i with
  | .nopInstruction k => some (k, bcWord 0x00 0 0)
  | .br k disp => some (k, bcWord 0x01 0 disp.val)
  | .brt k a disp => some (k, bcWord 0x02 a.val disp.val)
  | .brf k a disp => some (k, bcWord 0x03 a.val disp.val)
  | .callFn k a f => some (k, bcWord 0x04 a.val f.val)
  | .retFn k => some (k, bcWord 0x05 0 0)
  | .assertReg k a imm => some (k, bcWord 0x06 a.val imm.val)
  | .sysRead k d imm => some (k, bcWord 0x07 d.val imm.val)
  | .movReg k d a => some (k, bcWord 0x08 d.val (bcABSub a.val 0 0))
  | .ldi k d imm => some (k, bcWord 0x09 d.val imm.val)
  | .ldk k d imm => some (k, bcWord 0x0A d.val imm.val)
  | .sel k d a b c => some (k, bcWord 0x0B d.val (bcABSub a.val b.val c.val))
  | .ldb k d a off => some (k, bcWord 0x0C d.val (8192 * a.val + off.val))
  | .ldw k d a off => some (k, bcWord 0x0D d.val (8192 * a.val + off.val))
  | .ldwu k d a off => some (k, bcWord 0x0E d.val (8192 * a.val + off.val))
  | .ldd k d a off => some (k, bcWord 0x0F d.val (8192 * a.val + off.val))
  | .stb k src a off => some (k, bcWord 0x10 src.val (8192 * a.val + off.val))
  | .stw k src a off => some (k, bcWord 0x11 src.val (8192 * a.val + off.val))
  | .std k src a off => some (k, bcWord 0x12 src.val (8192 * a.val + off.val))
  | .ldin k d i => some (k, bcWord 0x13 d.val i.val)
  | .ldiq k d i => some (k, bcWord 0x14 d.val i.val)
  | .ldit k d i => some (k, bcWord 0x15 d.val i.val)
  | .stout k src i => some (k, bcWord 0x16 src.val i.val)
  | .stoq k src i => some (k, bcWord 0x17 src.val i.val)
  | .ldlp k d loc q => some (k, bcWord 0x18 d.val (2048 * loc.val + 64 * q.val))
  | .stlp k src loc q => some (k, bcWord 0x19 src.val (2048 * loc.val + 64 * q.val))
  | .addD k d a b => some (k, bcWord 0x1A d.val (bcABSub a.val b.val 0))
  | .subD k d a b => some (k, bcWord 0x1B d.val (bcABSub a.val b.val 0))
  | .mulD k d a b => some (k, bcWord 0x1C d.val (bcABSub a.val b.val 0))
  | .divD k d a b => some (k, bcWord 0x1D d.val (bcABSub a.val b.val 0))
  | .modD k d a b => some (k, bcWord 0x1E d.val (bcABSub a.val b.val 0))
  | .cmpD k d a b sub => some (k, bcWord 0x1F d.val (bcABSub a.val b.val sub.val))
  | .addL k d a b => some (k, bcWord 0x20 d.val (bcABSub a.val b.val 0))
  | .subL k d a b => some (k, bcWord 0x21 d.val (bcABSub a.val b.val 0))
  | .mulL k d a b => some (k, bcWord 0x22 d.val (bcABSub a.val b.val 0))
  | .divL k d a b => some (k, bcWord 0x23 d.val (bcABSub a.val b.val 0))
  | .modL k d a b => some (k, bcWord 0x24 d.val (bcABSub a.val b.val 0))
  | .cmpL k d a b sub => some (k, bcWord 0x25 d.val (bcABSub a.val b.val sub.val))
  | .cmpE k d a b sub => some (k, bcWord 0x26 d.val (bcABSub a.val b.val sub.val))
  | .addT k d a b => some (k, bcWord 0x27 d.val (bcABSub a.val b.val 0))
  | .subT k d a b => some (k, bcWord 0x28 d.val (bcABSub a.val b.val 0))
  | .cmpT k d a b sub => some (k, bcWord 0x29 d.val (bcABSub a.val b.val sub.val))
  | .addR k d a b => some (k, bcWord 0x2A d.val (bcABSub a.val b.val 0))
  | .subR k d a b => some (k, bcWord 0x2B d.val (bcABSub a.val b.val 0))
  | .mulR k d a b => some (k, bcWord 0x2C d.val (bcABSub a.val b.val 0))
  | .divR k d a b => some (k, bcWord 0x2D d.val (bcABSub a.val b.val 0))
  | .cmpR k d a b sub => some (k, bcWord 0x2E d.val (bcABSub a.val b.val sub.val))
  | .funR k d a b sub => some (k, bcWord 0x2F d.val (bcABSub a.val b.val sub.val))
  | .limR k d a b c => some (k, bcWord 0x30 d.val (bcABSub a.val b.val c.val))
  | .addLr k d a b => some (k, bcWord 0x31 d.val (bcABSub a.val b.val 0))
  | .subLr k d a b => some (k, bcWord 0x32 d.val (bcABSub a.val b.val 0))
  | .mulLr k d a b => some (k, bcWord 0x33 d.val (bcABSub a.val b.val 0))
  | .divLr k d a b => some (k, bcWord 0x34 d.val (bcABSub a.val b.val 0))
  | .cmpLr k d a b sub => some (k, bcWord 0x35 d.val (bcABSub a.val b.val sub.val))
  | .funLr k d a b sub => some (k, bcWord 0x36 d.val (bcABSub a.val b.val sub.val))
  | .limLr k d a b c => some (k, bcWord 0x37 d.val (bcABSub a.val b.val c.val))
  | .limL k d a b c => some (k, bcWord 0x38 d.val (bcABSub a.val b.val c.val))
  | .andReg k d a b => some (k, bcWord 0x39 d.val (bcABSub a.val b.val 0))
  | .orReg k d a b => some (k, bcWord 0x3A d.val (bcABSub a.val b.val 0))
  | .xorReg k d a b => some (k, bcWord 0x3B d.val (bcABSub a.val b.val 0))
  | .notReg k d a => some (k, bcWord 0x3C d.val (bcABSub a.val 0 0))
  | .notb k d a => some (k, bcWord 0x3D d.val (bcABSub a.val 0 0))
  | .shl k d a b => some (k, bcWord 0x3E d.val (bcABSub a.val b.val 0))
  | .shr k d a b => some (k, bcWord 0x3F d.val (bcABSub a.val b.val 0))
  | .sar k d a b => some (k, bcWord 0x40 d.val (bcABSub a.val b.val 0))
  | .cvtReg k d a src dst rnd => some (k, bcWord 0x41 d.val (8192 * a.val + 512 * src.val + 32 * dst.val + 8 * rnd.val))
  | .esnap k d i => some (k, bcWord 0x42 (2 * d.val) i.val)
  | .esub k d a b => some (k, bcWord 0x43 (2 * d.val) (bcABSub (2 * a.val) (2 * b.val) 0))
  | .ecvt k d a => some (k, bcWord 0x44 d.val (bcABSub (2 * a.val) 0 0))
  | .brx k a n => some (k, bcWord 0x45 a.val n.val)
  | .addi k d a imm => some (k, bcWord 0x46 d.val (8192 * a.val + imm.val))
  | .ldinx k d a => some (k, bcWord 0x47 d.val (bcABSub a.val 0 0))
  | _ => none

end Sys2Proof.Machine
end

