-- ==== Sys2Proof/Safety.lean ====
section
/-! DEFINITION. What claims about a run are stated in: the completion of a command, what a command leaves as it was, and the
canonical form of the tables that hold registers and slots. -/

namespace Sys2Proof.Machine

/-- Command `c` completes in state `s`: `exec` answers a next state, and `P` holds of it. -/
def completes (c : Instr) (s : State) (P : State → Prop) : Prop := ∃ t, exec c s = .next t ∧ P t

/-- The parts of the state that a claim can leave open. `trigs` is the list of event tasks whose trigger has come, a part of
`scn`; `pmon` covers the performance counters and which of them show free values. -/
inductive Part where
  | settings | clk | log | hpA | hpB | gates | deny | edges | pix | rep | scn | trigs | olc | le | out | free | pwr | sec
  | dpx | fio | can | set | mtr | reports | pmon | fwu | eth | ptp | bkd | saf
  /-- the registers of a page of 64 KiB of BAR0 (R460) -/
  | page (n : Nat)
  deriving DecidableEq, Repr

/-- The frame of a command: from `s` to `t` no register changes but those at the offsets `rs` and in the pages in `ps`, no part of the state but those
in `ps`, and the queue of waiting commands stays. -/
structure State.Frame (s t : State) (ps : List Part) (rs : List Nat) : Prop where
  regs : ∀ a, a ∉ rs → .page (a / 65536) ∉ ps → t.rd a = s.rd a
  settings : .settings ∈ ps ∨ t.settings = s.settings
  clk : .clk ∈ ps ∨ t.clk = s.clk
  log : .log ∈ ps ∨ t.log = s.log
  hpA : .hpA ∈ ps ∨ t.hpA = s.hpA
  hpB : .hpB ∈ ps ∨ t.hpB = s.hpB
  gates : .gates ∈ ps ∨ t.gates = s.gates
  deny : .deny ∈ ps ∨ t.deny = s.deny
  edges : .edges ∈ ps ∨ t.edges = s.edges
  pix : .pix ∈ ps ∨ t.pix = s.pix
  rep : .rep ∈ ps ∨ t.rep = s.rep
  scn : .scn ∈ ps ∨ (.trigs ∈ ps ∧ t.scn = { s.scn with trigs := t.scn.trigs }) ∨ t.scn = s.scn
  olc : .olc ∈ ps ∨ t.olc = s.olc
  le : .le ∈ ps ∨ t.le = s.le
  out : .out ∈ ps ∨ t.out = s.out
  free : .free ∈ ps ∨ t.free = s.free
  pwr : .pwr ∈ ps ∨ t.pwr = s.pwr
  sec : .sec ∈ ps ∨ t.sec = s.sec
  dpx : .dpx ∈ ps ∨ t.dpx = s.dpx
  fio : .fio ∈ ps ∨ t.fio = s.fio
  can : .can ∈ ps ∨ t.can = s.can
  set : .set ∈ ps ∨ t.set = s.set
  mtr : .mtr ∈ ps ∨ t.mtr = s.mtr
  reports : .reports ∈ ps ∨ t.reports = s.reports
  pmon : .pmon ∈ ps ∨ (t.pmon = s.pmon ∧ t.pmonOpen = s.pmonOpen)
  fwu : .fwu ∈ ps ∨ t.fwu = s.fwu
  eth : .eth ∈ ps ∨ t.eth = s.eth
  ptp : .ptp ∈ ps ∨ t.ptp = s.ptp
  bkd : .bkd ∈ ps ∨ t.bkd = s.bkd
  saf : .saf ∈ ps ∨ t.saf = s.saf
  pending : t.pending = s.pending

/-- The part that host port `p` is. -/
def Part.port (p : Nat) : Part := if p = 0 then .hpA else .hpB

/-- The parts that an event may change beside its status register (R92, R140). -/
def Part.events : List Part := [.edges, .trigs]

/-- The parts that an occurrence counted by the performance monitor may change beside PMON_HALF (R454). -/
def Part.counts : List Part := [.pmon, .edges, .trigs]

/-- The parts that a posted record may change beside LOG_EVENT and PMON_HALF (R398, R405). -/
def Part.records : List Part := [.log, .pmon, .edges, .trigs]

/-- The parts that sending Zader frames may change beside REP_TX_FRAMES and PMON_HALF (R112, R114, R366). -/
def Part.zader : List Part := [.rep, .out, .eth, .page 0x70, .page 0x71] ++ Part.counts

/-- The parts that writes of slots may change beside PMON_HALF: the image, the notifications of both ports, the journal
(R87, R107, R155). -/
def Part.slots : List Part := [.pix, .hpA, .hpB, .scn] ++ Part.counts

/-- Port `p` may write the register at `a`: its link is up, the block responds, and it holds the block's gate where there
is one (R62, R96). -/
def State.mayWrite (s : State) (p a : Nat) : Bool :=
  s.linkUp p && s.responds a && (match (blockAt a).bind (fun b => b.gate) with | none => true | some n => s.holds p n)

/-- Operation `o` is the one that `r` names, has opcode `code`, and may start now (R81): the module has not stopped. -/
def State.ready (s : State) (r : OpRef) (code : Nat) (o : Op) : Prop :=
  s.phase ≠ 7 ∧ findStart r [] (s.port r.port).ops = some o ∧ o.entry.opcode = code

/-- From `s` to `t` exactly the writes of `data` into the buffer of entry `e` have gone out: to its address, or to the elements
of its scatter list in order (R88); none where there is no data. -/
abbrev State.delivered (s t : State) (r : OpRef) (e : SubEntry) (b : HostBuf) (data : List Byte) : Prop :=
  t.out = s.out ++ (if data.isEmpty then [] else if entSgl e then sglWrites r.port b.sgl data
    else [.hostWrite r.port e.bufAddr data])

/-- The operation `r` has finished with a completion of status `status` that satisfies `f` (R78, R82). -/
def State.answered (s : State) (r : OpRef) (status : Nat) (f : Comp → Prop) : Prop :=
  ∃ o ∈ (s.port r.port).ops, o.sq = r.sq ∧ o.entry.cid = r.cid ∧ ∃ c, o.done = some c ∧ c.cid = r.cid ∧ c.sq = r.sq
    ∧ c.status = status ∧ f c

/-- Byte `k` of instance memory lies in the frame area of a task of the image (R165). -/
def State.inFrames (s : State) (k : Nat) : Prop :=
  ∃ e ∈ s.taskEnts, let y := s.img.layoutOf e.task
    524288 * e.pair + y.frameBase ≤ k ∧ k < 524288 * e.pair + y.frameBase + 528 * y.depth

/-- Instance memory is `mem` but in the frame areas of tasks, where frames are saved and opened (R166). -/
def State.instIs (s t : State) (mem : Tbl Byte) : Prop :=
  ∀ k, ¬ s.inFrames k → tget t.scn.inst 0#8 k = tget mem 0#8 k

/-- Task `e` has been released in `t` and its cycle is to begin: READY, or RUNNING where its pair is free, at its ENTRY with
all registers zero (R139, R146, R168). -/
def State.begun (t : State) (e : TaskEnt) : Prop :=
  let r := t.task e.task
  (r.st = .ready ∨ r.st = .running) ∧ r.release = t.ptpNs ∧ r.latched = false ∧ r.ended = false ∧ r.commit = false
    ∧ r.regs = [] ∧ r.frames = [] ∧ r.outImg = [] ∧ r.pc = e.entry ∧ r.ib = e.instBase

/-- Pair `k` may execute an instruction of task `e`: the task runs on it, has latched and has not ended, the pair is well, and
no breakpoint in HOLD holds the task (R134, R146, R152). -/
def State.executes (s : State) (k : Nat) (e : TaskEnt) : Prop :=
  s.runningOn k = some e ∧ s.running = true ∧ (s.task e.task).latched = true ∧ (s.task e.task).shipped = true
    ∧ (s.task e.task).ended = false ∧ s.pairRuns k = true
    ∧ (s.mode ≠ 2 ∨ (e.task, (s.task e.task).pc) ∉ s.scn.breaks ∨ (s.task e.task).skipBreak = true)

/-- From `s` to `t` the tasks other than `n` change in nothing but the state that the pair's scheduling gives them. -/
def State.othersKept (s t : State) (n : Nat) : Prop :=
  ∀ m, m ≠ n → { t.task m with st := .idle } = { s.task m with st := .idle }

/-- Pair `k` has executed one instruction of task `e`: its run state is `q` but for its scheduling state, instance memory is
`mem` but in frame areas, and nothing else has changed but the other tasks' scheduling states (R146, R162, R165, R166). -/
def State.stepped (s t : State) (e : TaskEnt) (q : TaskRun) (mem : Tbl Byte) : Prop :=
  { t.task e.task with st := .running } = { q with st := .running, skipBreak := false } ∧ s.othersKept t e.task
    ∧ t.scn = { s.scn with task := t.scn.task, trigs := t.scn.trigs, inst := t.scn.inst } ∧ s.instIs t mem
    ∧ s.Frame t (.scn :: Part.counts) [R.PMON_HALF]

/-- Pair `k` has executed an instruction of task `e` that sets AR[d] to `v` and does nothing else: a write to AR00 is
discarded, and the program counter goes on to the next word (R162). -/
def State.wrote (s t : State) (e : TaskEnt) (d : Nat) (v : Word64) : Prop :=
  s.stepped t e ((s.task e.task).setAr d v).adv s.scn.inst

/-- Task `e` has trapped: the controller is in STOP for a trap, and the fault registers name the instruction (R148,
R178). -/
def State.trapped (s t : State) (e : TaskEnt) : Prop :=
  t.mode = 0 ∧ t.g F.SCN_STATUS_STOP_CAUSE = 5 ∧ t.rn R.SCN_FAULT_PC = (s.task e.task).pc
    ∧ (t.task e.task).inCycle = false ∧ t.gates = s.gates ∧ t.mtr = s.mtr ∧ t.pending = s.pending

/-- `k` records have been posted from `s` to `t`: the main ring's next number has advanced by `k` (R398, R404). -/
def State.recorded (s t : State) (k : Nat) : Prop := t.log.mainNext = (s.log.mainNext + k) % 2 ^ 64

/-- Island `n` shows the measurements `m` (R255, R263): MEAS, VOLT with the converter's voltage, and TEMP. -/
def State.measured (s t : State) (n : Nat) (m : IslMeas) : Prop :=
  t.rn (R.LI_MEAS n) = m.primary % 2 ^ 16 + m.shadow % 2 ^ 16 * 2 ^ 16
    ∧ t.rn (R.LI_VOLT n) = m.terminal % 2 ^ 16 + s.islSupply n (m.terminal % 2 ^ 16) * 2 ^ 16
    ∧ t.rn (R.LI_TEMP n) = ofSigned 16 m.stage

/-- No field unit but island `n` has changed from `s` to `t`. -/
def State.islandOnly (s t : State) (n : Nat) : Prop :=
  (∀ k, k ≠ n → t.isl k = s.isl k) ∧ { t.fio with isl := s.fio.isl } = s.fio

/-- No field unit but the discrete outputs has changed from `s` to `t`. -/
def State.outsOnly (s t : State) : Prop := { t.fio with dout := s.fio.dout } = s.fio

/-- No field unit but DALI master `n` has changed from `s` to `t`. -/
def State.daliOnly (s t : State) (n : Nat) : Prop :=
  (∀ k, k ≠ n → t.dali k = s.dali k) ∧ { t.fio with dali := s.fio.dali } = s.fio

/-- No field unit but serial port `n` has changed from `s` to `t`. -/
def State.serOnly (s t : State) (n : Nat) : Prop :=
  (∀ k, k ≠ n → t.ser k = s.ser k) ∧ { t.fio with ser := s.fio.ser } = s.fio

/-- No CAN controller but `n` has changed from `s` to `t`. -/
def State.canOnly (s t : State) (n : Nat) : Prop := ∀ k, k ≠ n → t.canc k = s.canc k

/-- Only buffer `b` of CAN controller `n` has changed from `s` to `t`. -/
def State.bufferOnly (s t : State) (n b : Nat) : Prop :=
  s.canOnly t n ∧ { t.canc n with buf := (s.canc n).buf } = s.canc n ∧ ∀ k, k ≠ b → t.txb n k = s.txb n k

/-- Channel `ch` of a unit has written its bound slots (R106, R194): each that is not forced and of which `ok` holds has
quality `q` and the value that `v` gives, its own where `v` gives none; every other slot stays. -/
def State.channelWritten (s t : State) (unit ch : Nat) (ok : Slot → Bool) (q : Nat) (v : Slot → Option Nat) : Prop :=
  (∀ i ∈ s.fieldSlots unit ch, (s.slot i).forced = false → ok (s.slot i) = true →
    (t.slot i).quality = q ∧ (t.slot i).value = (match v (s.slot i) with | some n => BitVec.ofNat 64 n | none => (s.slot i).value))
  ∧ ∀ i, (i ∉ s.fieldSlots unit ch ∨ (s.slot i).forced = true) → t.slot i = s.slot i

/-- The parts that a change of the pair's state may change (R325, R331, R435). -/
def Part.pairs : List Part := [.dpx, .scn, .fwu, .page 0x80] ++ Part.records

/-- The registers that a change of the pair's state may change beside those of its own page. -/
def pairRegs : List Nat := [R.FWU_STATUS, R.FWU_LAST, R.FWU_EVENT, R.LOG_EVENT, R.PMON_HALF]

/-- The pair has taken PAIR_STATE `st` with REASON `reason` from `s` to `t` (R337): entering SYNCED or DETACHED is told, and
a pair that leaves SYNCED has no planned switch, no cross-check and no cycle in step any more (R331). -/
def State.pairNow (s t : State) (st reason : Nat) : Prop :=
  t.g F.DPX_STATUS_PAIR_STATE = st ∧ t.g F.DPX_STATUS_REASON = reason
    ∧ (st = 4 → s.g F.DPX_STATUS_PAIR_STATE ≠ 4 → t.bit R.DPX_EVENT 5 = true)
    ∧ (st = 3 → s.g F.DPX_STATUS_PAIR_STATE ≠ 3 → t.bit R.DPX_EVENT 4 = true)
    ∧ (s.synced = true → st ≠ 3 → t.dpx.switchAt = none ∧ t.g F.DPX_STATUS_SWITCH_PENDING = 0 ∧ t.dpx.xc = none
        ∧ t.g F.DPX_STATUS_XCHECK_ACTIVE = 0 ∧ t.dpx.own = [] ∧ t.dpx.shipUp = [])

/-- A hash mismatch of a cycle has been found (R321, R329, R331): counted and told, a cross-check runs, and no planned switch
is pending. -/
def State.mismatch (s t : State) (task ref : Nat) : Prop :=
  t.rd R.DPX_MISMATCH = s.rd R.DPX_MISMATCH + 1#32 ∧ t.bit R.DPX_EVENT 6 = true
    ∧ (s.dpx.xc = none → t.dpx.xc = some (task, ref) ∧ t.dpx.xcPeer = none ∧ t.g F.DPX_STATUS_XCHECK_ACTIVE = 1
        ∧ t.dpx.switchAt = none ∧ t.g F.DPX_STATUS_SWITCH_PENDING = 0)
    ∧ (∀ x, s.dpx.xc = some x → t.dpx.xc = some x)

/-- Operation `o`, named by `r`, is the KEY_OP `op` and may start now (R411). -/
def State.keyReady (s : State) (r : OpRef) (op : Nat) (o : Op) : Prop := s.ready r 0x48 o ∧ o.entry.arg0 = op

/-- Operation `o` may use the key in the crucible with attribute `a` (R413): the root is there, a key is loaded, LOAD_ID
names it, and it has that attribute. -/
def State.mayUse (s : State) (o : Op) (a : Nat) : Prop :=
  s.sec.rootOk = true ∧ s.g F.CRU_STATUS_LOADED = 1 ∧ o.entry.arg2 = s.rn R.CRU_LOAD_ID ∧ s.g F.CRU_STATUS_ATTR = a

/-- The crucible has been loaded with key `k` by operation `o` of `r` (R410, R411, R421): LOAD_ID rises and is the RESULT. -/
def State.loaded (s t : State) (r : OpRef) (k : KeyVal) : Prop :=
  t.sec = { s.sec with key := k.key } ∧ t.rd R.CRU_LOAD_ID = s.rd R.CRU_LOAD_ID + 1#32
    ∧ t.g F.CRU_STATUS_LOADED = 1 ∧ t.g F.CRU_STATUS_ATTR = k.attr % 4 ∧ t.g F.CRU_STATUS_LEN = k.len % 2
    ∧ t.g F.CRU_STATUS_OWNER = r.port % 16 ∧ t.answered r 0 (fun c => c.result = t.rn R.CRU_LOAD_ID) ∧ s.recorded t 1

/-- Operation `r` has been refused by the security core with `reason` (R413): reasons 2 and 3 are counted, told and recorded;
keys, slots and counters stay. -/
def State.keyRefused (s t : State) (r : OpRef) (reason : Nat) : Prop :=
  t.answered r 0x0B (fun c => c.result = reason) ∧ t.sec = s.sec ∧ t.out = s.out
    ∧ (reason = 2 ∨ reason = 3 → t.rd R.CRU_REFUSALS = s.rd R.CRU_REFUSALS + 1#32 ∧ t.bit R.CRU_EVENT 0 = true
        ∧ s.recorded t 1)
    ∧ (reason ≠ 2 → reason ≠ 3 → t.rd R.CRU_REFUSALS = s.rd R.CRU_REFUSALS ∧ t.log = s.log)

/-- Operation `r` has been refused for its token (R417): counted, told and recorded; no key, counter or binding changes. -/
def State.tokenRefused (s t : State) (r : OpRef) : Prop :=
  t.answered r 0x0A (fun _ => True) ∧ t.sec = s.sec ∧ t.rd R.CRU_TOKEN_FAILS = s.rd R.CRU_TOKEN_FAILS + 1#32
    ∧ t.bit R.CRU_EVENT 1 = true ∧ s.recorded t 1

/-- An FW_BLOCK of `r` has been refused with `reason` (R429): its event, FWU_LAST, its record and its completion, which
counts the `n` blocks accepted. -/
def State.itemRefusedAs (s t : State) (r : OpRef) (reason n : Nat) : Prop :=
  t.answered r (if reason = 4 then 0x0A else 0x0B) (fun c => c.result = (reason + n * 2 ^ 16) % 2 ^ 64)
    ∧ t.bit R.FWU_EVENT 1 = true ∧ t.rn R.FWU_LAST = 0x40 * 2 ^ 8 + reason ∧ s.recorded t 1

/-- The activation `a` has ended with `reason` (R433, R435): nothing is armed, and its event, FWU_LAST and record tell it. -/
def State.abandoned (s t : State) (a : Armed) (reason : Nat) : Prop :=
  t.fwu = { s.fwu with armed := none } ∧ t.bit R.FWU_EVENT 4 = true
    ∧ t.rd R.FWU_LAST = BitVec.ofNat 32 (a.mask * 2 ^ 16 + 0x41 * 2 ^ 8 + reason) ∧ s.recorded t 1

/-- The register file, the point image and the instance data are in their one canonical form, so that equal contents are
equal data. -/
def State.canonical (s : State) : Bool :=
  twf regReset s.regs && twf (fun _ => ({} : Slot)) s.pix.slots && twf (fun _ => 0#8) s.scn.inst

/-- The machine ran `k` steps from `s` to `t` without a fault or a refusal. -/
def State.runs (s : State) (k : Nat) (t : State) : Prop := Host.Core.run
  { State := State, Fault := Fault, Refusal := Refusal, step := step, reset := State.reset } k s = .next t

end Sys2Proof.Machine
end

