-- ==== Sys2Proof/WellFormed.lean ====
section
/-! DEFINITION. Which commands are well formed: their data have the widths that the spec gives what they stand for. -/

namespace Sys2Proof

open Sys2Proof.Machine

/-- A 64-bit time or check value. -/
def timeIn (n : Nat) : Bool := Nat.blt n (2 ^ 64)

/-- An operation: a port, a submission ring and a CID (R71, R77). -/
def OpRef.ok (r : OpRef) : Bool := Nat.blt r.port 2 && Nat.blt r.sq 64 && Nat.blt r.cid 65536

/-- The elements of a scatter list in the widths of R88. -/
def HostBuf.wellFormed (b : HostBuf) : Bool :=
  b.sgl.all (fun x => timeIn x.1 && Nat.blt x.2.1 (2 ^ 32) && Nat.blt x.2.2 (2 ^ 32))

/-- An access lies in its space (R68, R460) and is no longer than one access (R462); one of the configuration space, of 4 KiB,
lies in one register. -/
def accessIn (w : HostSpace) (a len : Nat) : Bool :=
  Nat.ble 1 len && (match w with
    | .regs => Nat.ble len 64 && Nat.ble (a + len) 16777216
    | .page => Nat.ble len 64 && Nat.ble (a + len) 65536
    | .config => Nat.ble (a % 4 + len) 4 && Nat.ble (a + len) 4096)

/-- A CAN frame: a 29-bit identifier, nine flag bits, 64 bytes (R339, R349). -/
def CanFrame.ok (f : CanFrame) : Bool :=
  Nat.blt f.id (2 ^ 29) && Nat.blt f.flags 512 && Nat.blt f.data (2 ^ 512) && timeIn f.ts

/-- A slot that a FORWARD message names (R320). -/
def Machine.Fwd.wellFormed : Fwd → Bool
  | .slot m => Nat.blt m.index 262144 && timeIn m.time && Nat.blt m.seq (2 ^ 32) && Nat.blt m.quality 16
  | .loopWrite _ => true
  | .taskCtl t _ _ _ => Nat.blt t 256
  | .image _ _ => true
  | .change _ _ _ _ => true

/-- An Ethernet frame: addresses of 6 bytes, a VID of 12 bits, an EtherType of 16 (R357, R358). -/
def EthFrame.ok (f : EthFrame) : Bool :=
  f.dst.length == 6 && f.src.length == 6 && f.tag.all (fun v => Nat.blt v 4096) && Nat.blt f.etype 65536
    && Nat.blt f.quanta 65536

/-- A PTP message: one of the three MACs, and fields in the widths of R375. -/
def PtpMsg.ok (m : PtpMsg) : Bool :=
  Nat.blt m.mac 3 && Nat.blt m.domain 256 && Nat.blt m.seq 65536 && Nat.blt m.src (2 ^ 80)

/-- The block has each channel once, and 32 samples of every converter (R286). -/
def MtrBlock.ok (m : MtrBlock) : Bool :=
  m.chans.all (fun c => Nat.blt c.ch 49 && c.i.length == 32) && decide (m.chans.map (fun c => c.ch)).Nodup
    && m.volts.length == 4 && m.quad.length == 3 && m.freq.length == 3
    && (m.volts ++ m.quad).all (fun l => l.length == 32)

/-- The numbers of the accumulators (R290). -/
def accNumber (a : Nat) : Bool := (Nat.blt a 0x180 || (Nat.ble 0x200 a && Nat.blt a 0x280)) && a % 8 != 7

/-- A command is well formed. -/
def Instr.wf : Instr → Bool
  | .entryFetch _ e => e.all (fun l => l.length == 64)
  | .nop r => r.ok
  | .ptRead r b => r.ok && b.wellFormed
  | .ptWrite r => r.ok
  | .ptSubscribe r => r.ok
  | .ptSubscribeCancel r => r.ok
  | .ptForce r => r.ok
  | .ptUnforce r => r.ok
  | .imgLoad r b _ _ => r.ok && b.wellFormed
  | .imgChangeValues r b _ => r.ok && b.wellFormed
  | .imgChangeSwitch r b _ _ => r.ok && b.wellFormed
  | .taskRun r => r.ok
  | .taskStop r => r.ok
  | .taskHold r => r.ok
  | .warmRestart r => r.ok
  | .coldRestart r => r.ok
  | .stepTask r => r.ok
  | .continueTasks r => r.ok
  | .setBreak r => r.ok
  | .clearBreak r => r.ok
  | .suspendTask r => r.ok
  | .resumeTask r => r.ok
  | .ringTrigger r => r.ok
  | .armTime r => r.ok
  | .logRead r b _ => r.ok && b.wellFormed
  | .logClear r b => r.ok && b.wellFormed
  | .mtrSnap r b => r.ok && b.wellFormed
  | .traceFetch r b => r.ok && b.wellFormed
  | .derive r => r.ok
  | .unwrap r b => r.ok && b.wellFormed
  | .loadSlot r => r.ok
  | .generate r b => r.ok && b.wellFormed
  | .store r b => r.ok && b.wellFormed
  | .eraseSlot r => r.ok
  | .encrypt r b => r.ok && b.wellFormed
  | .decrypt r b => r.ok && b.wellFormed
  | .keyClear r => r.ok
  | .setOperator r b => r.ok && b.wellFormed
  | .debugUnlock r b => r.ok && b.wellFormed
  | .debugLock r => r.ok
  | .exportTest r b => r.ok && b.wellFormed
  | .attest r b => r.ok && b.wellFormed
  | .ctxBind r b => r.ok && b.wellFormed
  | .registerWrite _ w a data => accessIn w a data.length
  | .snapRead _ w a len => accessIn w a len
  | .rcRead _ a len => accessIn .regs a len
  | .zaderFrameReceive _ l => Nat.ble l.length 65527
  | .pixScrub l => l.all (fun u => Nat.blt u.1 262144 && Nat.blt u.2 (2 ^ 32))
  | .meteringBlock m => m.ok
  | .totalsReceive t id _ l => timeIn t && Nat.blt id (2 ^ 32) && l.all (fun x => accNumber x.1 && Nat.blt x.2 (2 ^ 192))
  | .totalsAckReceive t => timeIn t
  | .inputs _ ref _ _ => timeIn ref
  | .inputsAck _ ref => timeIn ref
  | .hash _ ref h => timeIn ref && timeIn h
  | .forward f => f.wellFormed
  | .seqReport n => Nat.blt n (2 ^ 32)
  | .xcheck _ ref crc => timeIn ref && timeIn crc
  | .switch t => timeIn t
  | .canFrameReceive _ f => f.ok
  | .ethFrameReceive _ f => f.ok
  | .sfpRead _ b => b.all (fun x => Nat.blt x 256)
  | .syncReceive m => m.ok
  | .followUpReceive m => m.ok
  | .delayReqReceive m => m.ok
  | .delayRespReceive m => m.ok
  | .pdelayReqReceive m => m.ok
  | .pdelayRespReceive m => m.ok
  | .pdelayRespFollowUpReceive m => m.ok
  | .announceReceive m => Nat.blt m.mac 3
  | .bkdSupplySwitch _ l => l.all (fun u => Nat.blt u.1 64)
  | .fwBlockHeader r b _ => r.ok && b.wellFormed
  | .fwBlockTable r b _ => r.ok && b.wellFormed
  | .fwBlockHallmark r b _ => r.ok && b.wellFormed
  | .fwBlockData r b _ => r.ok && b.wellFormed
  | .fwActivate r _ => r.ok
  | .fwActivateCold r => r.ok
  | .bkdVbatMeasure v => Nat.blt v 65536
  | .funR _ _ _ b sub => Nat.blt 14 sub.val || b.val == 0
  | .funLr _ _ _ b sub => Nat.blt 14 sub.val || b.val == 0
  | .powerFailDetect _ _ | .powerFailCommit | .bankAt21v | .railsOff | .vinQualify | .bankMeasure _ | .xtalFail
  | .softwareReset _ _ | .moduleReset | .resetDomains _ | .smWatchdogExpire | .portReset _ _
  | .functionLevelReset _ | .porHoldEnd _ | .bootVerifyDone _ | .keelStartDone _ | .bankCharged
  | .domainStart _ | .domainStartDone | .resyncPhaseEnd | .ringEnable _ _ _ _ | .sqDisable _ _ _
  | .cqDisable _ _ _ | .sqTailDoorbell _ _ _ | .cqHeadDoorbell _ _ _ | .completionWrite _ _ _
  | .coalescingTimer _ _ | .irqSourceEdge _ | .subscriptionNotify _ _ _ | .logClearSwitch | .gateTake _ _
  | .gateRenew _ _ _ | .gateRelease _ _ | .leaseExpire _ | .gateAuditSecond _ | .ctxDenySecond _
  | .updateFrameSend | .heartbeatSend | .refreshSweep | .resyncReqSend _ | .blockService | .resyncRetry _
  | .originSilent _ | .autoTakeover _ | .ownRelease _ _ _ | .ownReleaseEffective _ | .ownClaim _ _
  | .cyclicRelease _ | .eventTrigger _ | .timeTriggerFire _ | .eventRelease _ | .inputLatch _ | .outputCommit _
  | .retainedBankSwitch _ | .taskWatchdogExpire _ | .breakpointHit _ | .pairCompareMismatch _
  | .nopInstruction _ | .br _ _ | .brt _ _ _ | .brf _ _ _ | .callFn _ _ _ | .retFn _ | .assertReg _ _ _
  | .sysRead _ _ _ | .movReg _ _ _ | .ldi _ _ _ | .ldk _ _ _ | .sel _ _ _ _ _ | .ldb _ _ _ _ | .ldw _ _ _ _
  | .ldwu _ _ _ _ | .ldd _ _ _ _ | .stb _ _ _ _ | .stw _ _ _ _ | .std _ _ _ _ | .ldin _ _ _ | .ldiq _ _ _
  | .ldit _ _ _ | .stout _ _ _ | .stoq _ _ _ | .ldlp _ _ _ _ | .stlp _ _ _ _ | .addD _ _ _ _ | .subD _ _ _ _
  | .mulD _ _ _ _ | .divD _ _ _ _ | .modD _ _ _ _ | .cmpD _ _ _ _ _ | .addL _ _ _ _ | .subL _ _ _ _
  | .mulL _ _ _ _ | .divL _ _ _ _ | .modL _ _ _ _ | .cmpL _ _ _ _ _ | .cmpE _ _ _ _ _ | .addT _ _ _ _
  | .subT _ _ _ _ | .cmpT _ _ _ _ _ | .addR _ _ _ _ | .subR _ _ _ _ | .mulR _ _ _ _ | .divR _ _ _ _
  | .cmpR _ _ _ _ _ | .limR _ _ _ _ _ | .addLr _ _ _ _ | .subLr _ _ _ _ | .mulLr _ _ _ _
  | .divLr _ _ _ _ | .cmpLr _ _ _ _ _ | .limLr _ _ _ _ _ | .limL _ _ _ _ _ | .andReg _ _ _ _
  | .orReg _ _ _ _ | .xorReg _ _ _ _ | .notReg _ _ _ | .notb _ _ _ | .shl _ _ _ _ | .shr _ _ _ _ | .sar _ _ _ _
  | .cvtReg _ _ _ _ _ _ | .esnap _ _ _ | .esub _ _ _ _ | .ecvt _ _ _ | .brx _ _ _ | .addi _ _ _ _
  | .ldinx _ _ _ | .valuesBoundary _ | .switchGap _ | .switchWaitExpire | .loopEvaluate _ | .memorySave _ _
  | .loopWrite _ _ _ | .loopRead _ _ _ | .loopCancel _ _ | .loopWriteApply _ | .memClear _ _ _
  | .memFreeze _ _ _ | .memUnfreeze _ _ _ | .traceArm _ _ _ | .traceTrigger _ _ _ | .traceAbort _ _ _
  | .islandCfgWrite _ _ _ | .headroom _ _ _ | .comply _ _ _ | .fallback _ | .islandTimedRetry _
  | .islandRetry _ _ | .retryWindowEnd _ _ | .openLoop _ _ _ | .senseFault _ _ | .stageFault _ _
  | .islandClear _ _ | .recheckEnd _ _ _ _ | .thermal _ _ | .linkLost _ | .islandReleaseEdge _
  | .handoverDone _ | .storeSpent _ | .uiConversion _ _ | .uiShuntRetry _ | .doEnWrite _ _ | .doShort _
  | .doShortClear _ _ | .doAutoRetry _ | .openLoad _ _ | .vsLow _ _ | .stuck _ _ | .doReleaseEdge
  | .doYieldHoldEnd | .daliLevelSend _ | .daliPoll _ | .daliFrameReceive _ _ | .daliBusDown _ | .daliBusUp _
  | .daliRawSend _ _ _ | .daliTakeoverResend _ | .modbusPoll _ _ | .modbusWrite _ | .serReply _ _ _
  | .serTimeout _ | .osdpPoll _ _ _ | .osdpReaderSilent _ _ | .serCfgWrite _ _ _ | .serTakeoverResume _
  | .journalCommit | .energyDisplayWrite | .mtrChCfgWrite _ _ _ _ | .mtrCirCfgWrite _ _ _ | .totalsAckTimeout
  | .dpxDisagreeWindow | .mtcTempRead _ _ | .mtcCommit _ | .mtcRestore _ | .assayStepEnd _ | .calStepEnd _
  | .verify _ _ | .calibrate _ _ | .clearFault _ _ | .aliveSilent | .aliveGood | .aliveGeneratorStop
  | .grantInEdge _ _ | .dualMotor | .laneDown _ | .laneUp _ | .lanesDown | .shipTimeout _ | .hashTimeout _
  | .abdicate | .abdicateWindowExpire | .notReady | .takeover _ | .xcheckDecide _ _ _ _ | .dpxSwitch _ _
  | .plannedSwitch | .detach _ | .join _ | .joinRetry | .hello _ | .xfer _ _ | .xferGap _ | .joinWaitExpire
  | .idle _ | .partnerPresentChange _ | .canEnable _ _ _ | .canBusJoin _ | .txRequest _ _ _ | .txCancel _ _ _ _
  | .txTimeReached _ _ | .arbitrationStart _ | .arbitrationLost _ | .canBusError _ _ _ _ | .txDone _
  | .suspendEnd _ | .recover _ _ | .recovered _ | .flush _ _ _ | .rxfPop _ _ _ | .canRefillPeriod _ _
  | .canStationTimeout _ _ | .dominantTimeout _ | .txbufWrite _ _ _ _ | .listenExit _ | .pauseTimerExpire _
  | .pauseLong _ | .ethFrameSend _ _ | .linkUp _ _ _ _ | .linkDown _ _ _ | .sfpChange _ _ _ _
  | .ethCtlWrite _ _ _ | .ethHashWrite _ _ _ _ | .ethStationTimeout _ _ | .masterLost | .holdoverLimit
  | .ptpMessageSend _ _ | .stampTake _ | .ptpSet _ | .ptpAdjust _ | .ptpAddendWrite _ _ | .ptpCtlWrite _ _
  | .trimPulse | .bkdWrap | .bkdAlarm | .bkdWake | .bkdWakeWrite _ _ | .setCount _ | .setCountLoad | .bkdArm _
  | .disarm _ | .capture _ | .captureLatch | .crcCheck _ | .restored _ | .erase _ _ | .bkdByteWrite _ _ _
  | .lockout | .lockoutExit | .backupDomainReset | .oscStop | .logRecordWrite | .logFloodSecond
  | .epochApply _ _ | .fwActivateGap _ _ | .fwGapWaitExpire | .islIslandSwitch _ | .soakEnd | .fwNetSwitch _
  | .confirm _ | .cancel _ | .abandonStaging _ | .faultDeclare _ _ | .heartbeatMiss _ _ | .unitRestartDone _ _
  | .eccHigh _ | .assaySliceStart _ | .assaySliceEnd _ _ | .assayPeriodicRequest | .asyTest _ _
  | .asyCalibrate _ _ | .islandTestEnd _ _ _ | .scrubPassEnd _ _ | .pmonClear _ | .pmonFreeze _ _
  | .pmonSelWrite _ _ _ | .hostLinkUp _ _ _ | .referenceCrystalStart | .islandLinkReturn _
  | .tickCrystalRestart | .daliFrameDone _ _ _ | .daliRawWaitExpire _ => true

end Sys2Proof
end

