-- ==== Sys2Proof/Certificates/Slice0/Obligations.lean ====
section
/-! DEFINITION. The statements for the provers. -/

open Sys2Proof Sys2Proof.Machine

/-- A step takes the command at the front of the queue and executes it with the queue's rest. (R14) -/
def Obligations.StepRunsTheFrontCommand : Prop :=
  ∀ (c : Instr) (l : List Instr) (s : State), step { s with pending := c :: l } = exec c { s with pending := l }

/-- With no command waiting a step lets one 125 MHz edge pass (the model's choice, log entry 16). (R371) -/
def Obligations.IdleStepIsOneClockEdge : Prop :=
  ∀ s : State, s.pending = [] → ∃ t, step s = .next t ∧ t.clk.ptp = s.clk.ptp + s.rn R.PTP_ADDEND
    ∧ t.clk.upNs = s.clk.upNs + 8 ∧ s.Frame t [.clk] []

/-- A ring whose checks pass is enabled with its indexes cleared; disabling clears ENABLE; a doorbell in range moves the index. (R72, R73, R75) -/
def Obligations.RingsEnabledDisabledAndRung : Prop :=
  (∀ (s : State) (p : Fin 2) (n : Fin 64) (v : Word), s.linkUp p = true → s.sqOn p n = false →
    4 ≤ bits v.toNat 0 5 → bits v.toNat 0 5 ≤ 16 → bits (s.rn (R.HP_SQ_BASE_LO p n)) 0 12 = 0 →
    s.cqOn p (bits v.toNat 24 6) = true →
    (∀ m : Fin 64, s.sqOn p m = true → s.sqCq p m = bits v.toNat 24 6 → s.sqCtx p m = bits v.toNat 16 8) →
    s.ctxBound (bits v.toNat 16 8) = true → s.fwu.recovery = false →
    completes (.ringEnable p false n v) s fun t =>
      t.sqOn p n = true ∧ t.sqCq p n = bits v.toNat 24 6 ∧ t.sqCtx p n = bits v.toNat 16 8
      ∧ t.g (F.HP_SQ_CFG_SIZE_LOG2 p n) = bits v.toNat 0 5 ∧ t.g (F.HP_SQ_CFG_PRIO p n) = bits v.toNat 8 2
      ∧ t.sqHead p n = 0 ∧ t.sqTail p n = 0 ∧ t.g (F.HP_SQ_STATUS_STOPPED p n) = 0
      ∧ s.Frame t [] [R.HP_SQ_CFG p n, R.HP_SQ_HEAD p n, R.HP_SQ_TAIL p n, R.HP_SQ_STATUS p n])
  ∧ (∀ (s : State) (p : Fin 2) (n : Fin 64) (v : Word), s.linkUp p = true → s.cqOn p n = false →
    4 ≤ bits v.toNat 0 5 → bits v.toNat 0 5 ≤ 16 → bits (s.rn (R.HP_CQ_BASE_LO p n)) 0 12 = 0 →
    completes (.ringEnable p true n v) s fun t =>
      t.cqOn p n = true ∧ t.g (F.HP_CQ_CFG_SIZE_LOG2 p n) = bits v.toNat 0 5
      ∧ t.cqHead p n = 0 ∧ t.cqTail p n = 0 ∧ t.g (F.HP_CQ_STATUS_STOPPED p n) = 0
      ∧ (tget (t.port p).cq {} n).phase = true
      ∧ s.Frame t [Part.port p] [R.HP_CQ_CFG p n, R.HP_CQ_HEAD p n, R.HP_CQ_TAIL p n, R.HP_CQ_STATUS p n])
  ∧ (∀ (s : State) (p : Fin 2) (n : Fin 64) (v : Word), s.linkUp p = true → s.sqOn p n = true →
    v.toNat &&& sqCfgMask = s.rn (R.HP_SQ_CFG p n) &&& sqCfgMask →
    completes (.sqDisable p n v) s fun t =>
      t.sqOn p n = false ∧ (∀ b ∈ (t.port p).subs, b.sq ≠ n.val)
      ∧ (∀ b ∈ (s.port p).subs, b.sq ≠ n.val → b ∈ (t.port p).subs) ∧ (t.port p).ops = (s.port p).ops
      ∧ s.Frame t [Part.port p] [R.HP_SQ_CFG p n])
  ∧ (∀ (s : State) (p : Fin 2) (n : Fin 64) (v : Word), s.linkUp p = true → s.cqOn p n = true →
    v.toNat &&& cqCfgMask = s.rn (R.HP_CQ_CFG p n) &&& cqCfgMask →
    (∀ m : Fin 64, s.sqCq p m = n.val → s.sqOn p m = false ∧ s.sqInFlight p m = 0) →
    completes (.cqDisable p n v) s fun t => t.cqOn p n = false ∧ s.Frame t [] [R.HP_CQ_CFG p n])
  ∧ (∀ (s : State) (p : Fin 2) (n : Fin 64) (v : Word), s.linkUp p = true → s.sqOn p n = true →
    v.toNat < s.sqSize p n → s.g (F.HP_SQ_CFG_SIZE_LOG2 p n) ≤ 16 →
    completes (.sqTailDoorbell p n v) s fun t => t.sqTail p n = v.toNat
      ∧ s.Frame t Part.counts [R.HP_SQ_TAIL p n, R.PMON_HALF])
  ∧ (∀ (s : State) (p : Fin 2) (n : Fin 64) (v : Word), s.linkUp p = true → s.cqOn p n = true →
    v.toNat < s.cqSize p n → s.g (F.HP_CQ_CFG_SIZE_LOG2 p n) ≤ 16 →
    completes (.cqHeadDoorbell p n v) s fun t => t.cqHead p n = v.toNat
      ∧ s.Frame t Part.counts [R.HP_CQ_HEAD p n, R.PMON_HALF])

/-- A fetch appends the entry as an operation in flight; completions, notifications and interrupts are written out. (R76, R79, R80, R81, R83, R87, R91, R92) -/
def Obligations.EntriesFetchedCompletedAndNotified : Prop :=
  (∀ (s : State) (p : Fin 2) (n : Nat) (l : List Byte), s.mayFetch p = true → s.nextSq p = some n →
    s.g (F.HP_SQ_CFG_SIZE_LOG2 p n) ≤ 16 → entryCheck s.fwu.recovery (s.sqCtx p n) (subEntry l) = none →
    completes (.entryFetch p (some l)) s fun t =>
      (t.port p).ops = (s.port p).ops ++ [⟨s.free, n, subEntry l, s.sqCtx p n, (s.sqHead p n + 1) % s.sqSize p n, false, none⟩]
      ∧ t.sqHead p n = (s.sqHead p n + 1) % s.sqSize p n ∧ (t.port p).subs = (s.port p).subs
      ∧ s.Frame t (Part.port p :: .free :: Part.counts) [R.HP_SQ_HEAD p n, R.PMON_HALF])
  ∧ (∀ (s : State) (p : Fin 2) (n : Fin 64) (c : Nat × OpRef × Comp), s.linkUp p = true → s.cqRoom p n = true →
    s.nextCancel p n = some c →
    completes (.completionWrite p n true) s fun t =>
      (t.port p).cancels = (s.port p).cancels.erase c ∧ (t.port p).ops = (s.port p).ops
      ∧ (∃ l, t.out = s.out ++ Out.hostWrite p
          (s.rn (R.HP_CQ_BASE_LO p n) + s.rn (R.HP_CQ_BASE_HI p n) * 2 ^ 32 + 16 * s.cqTail p n)
          (compBytes c.2.2 (tget (s.port p).cq {} n).phase) :: l)
      ∧ s.Frame t (Part.port p :: .out :: Part.counts) [R.HP_CQ_TAIL p n, R.PMON_HALF])
  ∧ (∀ (s : State) (p : Fin 2) (n : Fin 64) (o : Op) (c : Comp), s.linkUp p = true → s.cqRoom p n = true →
    s.nextCancel p n = none → s.nextDone p n = some o → o.done = some c →
    completes (.completionWrite p n true) s fun t =>
      (t.port p).ops = (s.port p).ops.erase o
      ∧ (∃ l, t.out = s.out ++ Out.hostWrite p
          (s.rn (R.HP_CQ_BASE_LO p n) + s.rn (R.HP_CQ_BASE_HI p n) * 2 ^ 32 + 16 * s.cqTail p n)
          (compBytes c (tget (s.port p).cq {} n).phase) :: l)
      ∧ s.Frame t (Part.port p :: .out :: Part.counts) [R.HP_CQ_TAIL p n, R.PMON_HALF])
  ∧ (∀ (s : State) (p : Fin 2) (n : Fin 64) (m : Note), s.linkUp p = true → s.cqRoom p n = true →
    (s.port p).notes.find? (fun x => x.cq == n.val) = some m →
    completes (.subscriptionNotify p n true) s fun t =>
      (t.port p).notes = (s.port p).notes.erase m ∧ (t.port p).ops = (s.port p).ops
      ∧ (∃ l, t.out = s.out ++ Out.hostWrite p
          (s.rn (R.HP_CQ_BASE_LO p n) + s.rn (R.HP_CQ_BASE_HI p n) * 2 ^ 32 + 16 * s.cqTail p n)
          (compBytes m.comp (tget (s.port p).cq {} n).phase) :: l)
      ∧ s.Frame t (Part.port p :: .out :: Part.counts) [R.HP_CQ_TAIL p n, R.PMON_HALF])
  ∧ (∀ (s : State) (p : Fin 2) (n : Fin 64), (tget (s.port p).cq {} n).timer = true → s.linkUp p = true →
    s.g (F.HP_CQ_CFG_IEN p n) = 1 →
    s.msixOn p = true → s.msixMasked p (s.g (F.HP_CQ_CFG_IV p n)) = false →
    completes (.coalescingTimer p n) s fun t =>
      (tget (t.port p).cq {} n).timer = false ∧ (tget (t.port p).cq {} n).counted = 0
      ∧ t.out = s.out ++ [Out.msix p (s.g (F.HP_CQ_CFG_IV p n))]
      ∧ s.Frame t (Part.port p :: .out :: Part.counts) [R.PMON_HALF])
  ∧ (∀ (s : State) (src : Fin 64), src.val ∈ s.edges → src.val ≠ 34 → s.linkUp 0 = true →
    s.g (F.IRT_ROUTE_ENA src) = 1 → s.g (F.IRT_ROUTE_ENB src) = 0 →
    s.msixOn 0 = true → s.msixMasked 0 (s.g (F.IRT_ROUTE_VECA src)) = false →
    completes (.irqSourceEdge src) s fun t =>
      t.out = s.out ++ [Out.msix 0 (s.g (F.IRT_ROUTE_VECA src))]
      ∧ t.edges.count src.val + 1 = s.edges.count src.val
      ∧ s.Frame t (.out :: Part.counts) [R.PMON_HALF])

/-- A port reset clears that port alone and releases its gates; a link that comes up shows in ID. (R57, R62, R90, R94, R99) -/
def Obligations.PortResetsAndLink : Prop :=
  (∀ (s : State) (p : Fin 2) (k : PortResetKind), s.pwr.railsOff = false → completes (.portReset p k) s fun t =>
    t.port p = {} ∧ t.linkUp p = false
    ∧ (∀ clock, k = .perst clock ∨ k = .linkDown clock → t.bit R.PCR_PLL_STATUS (6 + p.val) = clock)
    ∧ (k = .hot → t.rd R.PCR_PLL_STATUS = s.rd R.PCR_PLL_STATUS)
    ∧ (∀ a, R.HP_ID p + 4 ≤ a → a < R.HP_ID p + 0x10000 → t.rd a = regReset a)
    ∧ (∀ n : Fin 64, (t.gate n).gen = (s.gate n).gen
        ∧ (t.gate n).holder = (if s.holds p n then none else (s.gate n).holder))
    ∧ s.Frame t [Part.port p, .gates] (R.PCR_PLL_STATUS :: List.range' (R.HP_ID p) 0x10000))
  ∧ (∀ (s : State) (p : Fin 2), s.linkUp p = true → completes (.functionLevelReset p) s fun t =>
    t.port p = {} ∧ t.rd (R.HP_ID p) = s.rd (R.HP_ID p)
    ∧ (∀ a, R.HP_ID p + 4 ≤ a → a < R.HP_ID p + 0x10000 → t.rd a = regReset a)
    ∧ (∀ n : Fin 64, (t.gate n).gen = (s.gate n).gen
        ∧ (t.gate n).holder = (if s.holds p n then none else (s.gate n).holder))
    ∧ s.Frame t [Part.port p, .gates] (List.range' (R.HP_ID p + 4) 0xFFFC))
  ∧ (∀ (s : State) (p : Fin 2) (wide : Bool) (speed : Fin 4), s.pwr.railsOff = false →
    completes (.hostLinkUp p wide speed) s fun t =>
      t.linkUp p = true ∧ t.g (F.HP_ID_WIDTH p) = (if wide then 2 else 1) ∧ t.g (F.HP_ID_SPEED p) = speed.val + 1
      ∧ t.bit R.PCR_PLL_STATUS (6 + p.val) = true
      ∧ s.Frame t [] [R.HP_ID p, R.PCR_PLL_STATUS])

/-- A read of a free gate grants it, leases renew and end, and drops and denials are counted and reported by audit records. (R93, R94, R96, R98) -/
def Obligations.GatesLeasedAndDropsAudited : Prop :=
  (∀ (s : State) (p : Fin 2) (n : Fin 64), s.linkUp p = true → s.fwu.recovery = false → (s.gate n).holder = none →
    completes (.gateTake p n) s fun t =>
      (t.gate n).holder = some p.val ∧ (t.gate n).gen = ((s.gate n).gen + 1) % 256
      ∧ (t.gate n).leaseMs = clampN 1 1000 (s.g (F.HP_CTL_GATE_LEASE_MS p))
      ∧ (t.gate n).endNs = s.clk.upNs + clampN 1 1000 (s.g (F.HP_CTL_GATE_LEASE_MS p)) * 1000000
      ∧ (∃ v, t.out = s.out ++ [Out.readData p (R.GATE_TAKE n) v] ∧ natBit v 31 = true)
      ∧ (∀ m, m ≠ n.val → t.gate m = s.gate m) ∧ s.Frame t [.gates, .out] [])
  ∧ (∀ (s : State) (p : Fin 2) (n : Fin 64), s.linkUp p = true → s.fwu.recovery = false →
    (s.gate n).holder = some p.val → (s.gate n).gen < 256 →
    completes (.gateTake p n) s fun t =>
      t.gates = s.gates ∧ (∃ v, t.out = s.out ++ [Out.readData p (R.GATE_TAKE n) v] ∧ natBit v 31 = true)
      ∧ s.Frame t [.out] [])
  ∧ (∀ (s : State) (p : Fin 2) (n : Fin 64) (h : Fin 2), s.linkUp p = true → s.fwu.recovery = false →
    (s.gate n).holder = some h.val → h ≠ p → (s.gate n).gen < 256 →
    completes (.gateTake p n) s fun t =>
      t.gates = s.gates ∧ (∃ v, t.out = s.out ++ [Out.readData p (R.GATE_TAKE n) v] ∧ natBit v 31 = false)
      ∧ s.Frame t [.out] [])
  ∧ (∀ (s : State) (p : Fin 2) (n : Fin 64) (ms : Fin 1024), s.linkUp p = true → s.fwu.recovery = false →
    (s.gate n).holder = some p.val → ms.val ≠ 0 →
    completes (.gateRenew p n ms) s fun t =>
      (t.gate n).holder = some p.val ∧ (t.gate n).gen = (s.gate n).gen ∧ (t.gate n).leaseMs = min ms.val 1000
      ∧ (t.gate n).endNs = s.clk.upNs + min ms.val 1000 * 1000000
      ∧ (∀ m, m ≠ n.val → t.gate m = s.gate m) ∧ s.Frame t [.gates] [])
  ∧ (∀ (s : State) (p : Fin 2) (n : Fin 64), s.linkUp p = true → s.fwu.recovery = false →
    (s.gate n).holder = some p.val → ∀ c : Instr, c = .gateRelease p n ∨ c = .gateRenew p n 0 →
    completes c s fun t =>
      (t.gate n).holder = none ∧ (t.gate n).gen = (s.gate n).gen
      ∧ (∀ m, m ≠ n.val → t.gate m = s.gate m) ∧ s.Frame t [.gates] [])
  ∧ (∀ (s : State) (n : Fin 64) (h : Nat), (s.gate n).holder = some h →
    completes (.leaseExpire n) s fun t =>
      (t.gate n).holder = none ∧ (t.gate n).gen = (s.gate n).gen ∧ (s.gate n).endNs ≤ t.clk.upNs
      ∧ (∀ m, m ≠ n.val → t.gate m = s.gate m) ∧ s.Frame t [.gates, .clk] [])
  ∧ (∀ (s : State) (p : Fin 2) (n : Fin 64) (ms : Fin 1024), s.linkUp p = true → s.fwu.recovery = false →
    (s.gate n).holder ≠ some p.val → ∀ c : Instr, c = .gateRelease p n ∨ c = .gateRenew p n ms →
    completes c s fun t =>
      t.rd (R.GATE_DROPS n) = s.rd (R.GATE_DROPS n) + 1#32 ∧ s.Frame t [] [R.GATE_DROPS n])
  ∧ (∀ (s : State) (n : Fin 64), (s.gate n).audited = true → (s.gate n).unreported = 0 →
    completes (.gateAuditSecond n) s fun t =>
      t.gate n = { s.gate n with audited := false } ∧ (∀ m, m ≠ n.val → t.gate m = s.gate m) ∧ s.Frame t [.gates] [])
  ∧ (∀ (s : State) (n : Fin 64), (s.gate n).audited = true → (s.gate n).unreported ≠ 0 →
    completes (.gateAuditSecond n) s fun t =>
      t.gate n = { s.gate n with unreported := 0 } ∧ t.log.mainNext = (s.log.mainNext + 1) % 2 ^ 64
      ∧ t.log.auditNext = (s.log.auditNext + 1) % 2 ^ 64
      ∧ s.Frame t (.gates :: Part.records) [R.LOG_EVENT, R.PMON_HALF])
  ∧ (∀ (s : State) (c : Fin 256), (tget s.deny {} c).reported = true → (tget s.deny {} c).first = none →
    completes (.ctxDenySecond c) s fun t =>
      tget t.deny {} c = { tget s.deny {} c with reported := false } ∧ s.Frame t [.deny] [])
  ∧ (∀ (s : State) (c : Fin 256) (i : Nat), (tget s.deny {} c).reported = true → (tget s.deny {} c).first = some i →
    completes (.ctxDenySecond c) s fun t =>
      tget t.deny {} c = { tget s.deny {} c with first := none, unreported := 0 }
      ∧ t.log.auditNext = (s.log.auditNext + 1) % 2 ^ 64
      ∧ s.Frame t (.deny :: Part.records) [R.LOG_EVENT, R.PMON_HALF])

/-- NOP, PT_READ, PT_WRITE and PT_SUBSCRIBE answer with SUCCESS, and a write reaches its slot alone. (R83, R84, R85, R86, R87, R107) -/
def Obligations.PointOperationsComplete : Prop :=
  (∀ (s : State) (r : OpRef) (o : Op), s.ready r 0x00 o →
    completes (.nop r) s fun t => t.answered r 0 (fun c => c.result = 0) ∧ s.Frame t [Part.port r.port] [])
  ∧ (∀ (s : State) (r : OpRef) (b : HostBuf) (o : Op), s.ready r 0x01 o → o.entry.bufLen = 0 →
    ptCount o.entry = 1 → (s.slot o.entry.arg0).present = true → s.sees o.ctx (s.slot o.entry.arg0) = true →
    (s.slot o.entry.arg0).badCrc = none → s.readWaits r = false →
    completes (.ptRead r b) s fun t =>
      t.answered r 0 (fun c => c.result = (s.slot o.entry.arg0).value.toNat % 2 ^ 64
        ∧ c.quality = (s.slot o.entry.arg0).quality ∧ c.flags = (s.slot o.entry.arg0).flags)
      ∧ s.Frame t (Part.port r.port :: Part.counts) [R.PMON_HALF])
  ∧ (∀ (s : State) (r : OpRef) (b : HostBuf) (o : Op), s.ready r 0x01 o → o.entry.bufLen ≠ 0 → writeStatus o.entry b = 0 →
    s.readWaits r = false → (∀ i, (s.slot i).badCrc = none) →
    completes (.ptRead r b) s fun t =>
      t.answered r 0 (fun c => c.result = (s.shown o.ctx o.entry.arg0).value.toNat % 2 ^ 64)
      ∧ s.delivered t r o.entry b
          ((List.range (ptCount o.entry)).flatMap (fun k => (s.shown o.ctx (o.entry.arg0 + k)).bytes))
      ∧ t.pix = s.pix ∧ s.Frame t (Part.port r.port :: .out :: .deny :: Part.records) [R.LOG_EVENT, R.PMON_HALF]
      ∧ ((∀ k < ptCount o.entry, (s.slot (o.entry.arg0 + k)).present = true ∧ s.sees o.ctx (s.slot (o.entry.arg0 + k)) = true) →
          t.deny = s.deny))
  ∧ (∀ (s : State) (r : OpRef) (o : Op), s.ready r 0x02 o → (s.slot o.entry.arg0).present = true →
    s.sees o.ctx (s.slot o.entry.arg0) = true → s.ownsSlot o.entry.arg0 = true →
    (s.slot o.entry.arg0).binding = 0 → (s.slot o.entry.arg0).typ = o.entry.arg1 →
    encodedAs o.entry.arg1 o.entry.arg2 = true → (s.slot o.entry.arg0).forced = false →
    completes (.ptWrite r) s fun t =>
      (t.slot o.entry.arg0).value = BitVec.ofNat 64 o.entry.arg2 ∧ (t.slot o.entry.arg0).quality = 1
      ∧ (t.slot o.entry.arg0).time = s.ptpNs % 2 ^ 64 ∧ (t.slot o.entry.arg0).origin = s.node
      ∧ (t.slot o.entry.arg0).seq = ((s.slot o.entry.arg0).seq + 1) % 2 ^ 32
      ∧ (∀ j, j ≠ o.entry.arg0 → t.slot j = s.slot j)
      ∧ t.answered r 0 (fun c => c.result = s.ptpNs % 2 ^ 64)
      ∧ s.Frame t (.hpA :: .hpB :: .pix :: .scn :: .out :: Part.counts) [R.PMON_HALF])
  ∧ (∀ (s : State) (r : OpRef) (o : Op), s.ready r 0x03 o → natBit o.entry.arg1 31 = false →
    (s.port r.port).subCount + ptCount o.entry ≤ 65536 →
    (∀ i, o.entry.arg0 ≤ i → i < o.entry.arg0 + ptCount o.entry → (s.slot i).present = true →
      s.sees o.ctx (s.slot i) = true) →
    completes (.ptSubscribe r) s fun t =>
      (t.port r.port).subs = (s.port r.port).subs ++ [⟨o.sq, s.sqCq r.port o.sq, o.entry.cid, o.ctx, o.entry.arg0,
        (List.range (ptCount o.entry)).map (fun k => o.entry.arg0 + k)⟩]
      ∧ t.answered r 0 (fun c => c.result = ptCount o.entry % 2 ^ 64)
      ∧ s.Frame t (Part.port r.port :: Part.counts) [R.PMON_HALF])
  ∧ (∀ (s : State) (r : OpRef) (o : Op), s.ready r 0x03 o → natBit o.entry.arg1 31 = true →
    completes (.ptSubscribeCancel r) s fun t =>
      (∀ b ∈ (t.port r.port).subs, b.sq = o.sq → ∀ i ∈ b.points,
        i < o.entry.arg0 ∨ o.entry.arg0 + ptCount o.entry ≤ i)
      ∧ (∀ b ∈ (s.port r.port).subs, b.sq ≠ o.sq → b.points ≠ [] → b ∈ (t.port r.port).subs)
      ∧ t.answered r 0 (fun _ => True) ∧ s.Frame t [Part.port r.port] [])

/-- PT_FORCE sets a slot's value with quality FORCED, and PT_UNFORCE leaves the value SUBSTITUTED. (R193, R195, R198) -/
def Obligations.SlotForcesSetAndRelease : Prop :=
  (∀ (s : State) (r : OpRef) (o : Op), s.ready r 0x04 o → (s.slot o.entry.arg0).present = true →
    s.sees o.ctx (s.slot o.entry.arg0) = true → s.ownsSlot o.entry.arg0 = true →
    (s.slot o.entry.arg0).typ = o.entry.arg1 → encodedAs o.entry.arg1 o.entry.arg2 = true →
    (s.forceOf (.slot o.entry.arg0)).isSome = true ∨ s.forceRoom (.slot o.entry.arg0) = true →
    s.safetyOut o.entry.arg0 = false ∨ s.g F.OLC_CTL_SAFETY_FORCE = 1 →
    completes (.ptForce r) s fun t =>
      (t.slot o.entry.arg0).value = BitVec.ofNat 64 o.entry.arg2 ∧ (t.slot o.entry.arg0).quality = 2
      ∧ (t.slot o.entry.arg0).forced = true
      ∧ (∃ n, tget t.olc.forces none n = some ⟨.slot o.entry.arg0, o.entry.arg1, BitVec.ofNat 64 o.entry.arg2⟩)
      ∧ (∀ j, j ≠ o.entry.arg0 → t.slot j = s.slot j) ∧ t.answered r 0 (fun c => c.result = s.ptpNs % 2 ^ 64)
      ∧ s.Frame t (.hpA :: .hpB :: .pix :: .scn :: .olc :: .out :: .free :: .fio :: .can :: .page 0x50 :: .page 0x52 :: .page 0x53 :: .page 0x54
          :: Part.records) [R.LOG_EVENT, R.PMON_HALF]
      ∧ (s.outBindOf o.entry.arg0 = none → s.Frame t (.hpA :: .hpB :: .pix :: .scn :: .olc :: .out :: Part.records)
          [R.LOG_EVENT, R.PMON_HALF])
      ∧ (∀ b, s.outBindOf o.entry.arg0 = some b → b.fieldOut / 256 = 0x52 → b.fieldOut % 256 < 24 →
          t.bit R.DO_STATE (b.fieldOut % 256) = natBit o.entry.arg2 0))
  ∧ (∀ (s : State) (r : OpRef) (o : Op), s.ready r 0x05 o → (s.slot o.entry.arg0).present = true →
    s.sees o.ctx (s.slot o.entry.arg0) = true → s.ownsSlot o.entry.arg0 = true →
    (s.slot o.entry.arg0).forced = true →
    completes (.ptUnforce r) s fun t =>
      (t.slot o.entry.arg0).value = (s.slot o.entry.arg0).value ∧ (t.slot o.entry.arg0).quality = 3
      ∧ (t.slot o.entry.arg0).forced = false ∧ (∀ j, j ≠ o.entry.arg0 → t.slot j = s.slot j)
      ∧ t.answered r 0 (fun c => c.result = 0)
      ∧ s.Frame t (.hpA :: .hpB :: .pix :: .scn :: .olc :: .out :: Part.records)
          [R.LOG_EVENT, R.PMON_HALF, R.OLC_EVENT])
  ∧ (∀ (s : State) (r : OpRef) (o : Op), s.ready r 0x05 o → (s.slot o.entry.arg0).present = true →
    s.sees o.ctx (s.slot o.entry.arg0) = true → s.ownsSlot o.entry.arg0 = true →
    (s.slot o.entry.arg0).forced = false →
    completes (.ptUnforce r) s fun t => t.answered r 0 (fun c => c.result = 0) ∧ s.Frame t [Part.port r.port] [])

/-- Register accesses follow the access codes: W1C clears, RO ignores, a missing gate drops, RC clears when read. (R2, R3, R62, R96, R462, R464) -/
def Obligations.RegisterAccessesFollowTheirCodes : Prop :=
  (∀ (s : State) (p : Fin 2) (a : Nat) (v : Word) (r : RegRow) (b : Block), s.linkUp p = true → a % 4 = 0 →
    a < 16777216 → regRow a = some r → blockAt a = some b → s.responds a = true → b.desc ≠ 2 - p.val →
    r.acc = .w1c →
    completes (.registerWrite p .regs a ((natLE 4 v.toNat).map some)) s fun t =>
      t.rn a = s.rn a &&& (2 ^ 32 - 1 - (v.toNat &&& r.cmask)) ∧ s.Frame t [] [a])
  ∧ (∀ (s : State) (p : Fin 2) (a : Nat) (v : Word) (r : RegRow) (b : Block), s.linkUp p = true → a % 4 = 0 →
    a < 16777216 → regRow a = some r → blockAt a = some b → s.responds a = true → b.desc ≠ 2 - p.val →
    r.acc = .ro →
    completes (.registerWrite p .regs a ((natLE 4 v.toNat).map some)) s fun t => t = s)
  ∧ (∀ (s : State) (p : Fin 2) (a : Nat) (v : Word) (r : RegRow) (b : Block) (n : Nat), s.linkUp p = true →
    a % 4 = 0 → a < 16777216 → regRow a = some r → blockAt a = some b → s.responds a = true → b.desc ≠ 2 - p.val →
    r.acc = .rwg → b.gate = some n → s.holds p n = false →
    completes (.registerWrite p .regs a ((natLE 4 v.toNat).map some)) s fun t =>
      t.rd a = s.rd a ∧ t.rd (R.HP_DROP_WRITES p) = s.rd (R.HP_DROP_WRITES p) + 1#32
      ∧ t.rd (R.GATE_DROPS n) = s.rd (R.GATE_DROPS n) + 1#32
      ∧ s.Frame t (.gates :: Part.records)
          [R.GATE_DROPS n, R.HP_DROP_WRITES p, R.MOD_BLK_DROPS b.desc, R.LOG_EVENT, R.PMON_HALF])
  ∧ (∀ (s : State) (p : Fin 2) (v : Word), s.linkUp p = true → s.fwu.recovery = false → s.holds p 0 = true →
    completes (.registerWrite p .regs R.PCR_GATE_CTL ((natLE 4 v.toNat).map some)) s fun t =>
      t.rn R.PCR_GATE_CTL = mergeBits (s.rn R.PCR_GATE_CTL) v.toNat 0x3f ∧ s.Frame t [] [R.PCR_GATE_CTL])
  ∧ (∀ (s : State) (p : Fin 2) (a : Nat) (r : RegRow), s.linkUp p = true → a % 4 = 0 → a < 16777216 →
    regRow a = some r → s.responds a = true → r.acc = .rc →
    completes (.rcRead p a 4) s fun t =>
      t.rn a = 0 ∧ t.out = s.out ++ [Out.readData p a (s.regView p a)] ∧ s.Frame t [.out] [a])
  ∧ (∀ (s : State) (p : Fin 2) (a : Nat) (r : RegRow), s.linkUp p = true → a % 4 = 0 → a < 16777216 →
    regRow a = some r → s.responds a = true → r.acc = .snap → a = snapLow a → a / 65536 ≠ 0x11 →
    completes (.snapRead p .regs a 4) s fun t =>
      tget (t.port p).snap 0#32 a = BitVec.ofNat 32 (s.regView p a)
      ∧ tget (t.port p).snap 0#32 (a + 4) = BitVec.ofNat 32 (s.regView p (a + 4))
      ∧ t.out = s.out ++ [Out.readData p a (s.regView p a % 2 ^ 32)] ∧ s.Frame t [Part.port p, .out] [])
  ∧ (∀ (s : State) (p : Fin 2) (a : Nat), s.linkUp p = true → a ∈ [R.PCR_RST_CAUSE, R.PCR_PFAIL_CNT] →
    completes (.snapRead p .regs a 4) s fun t =>
      t.out = s.out ++ [Out.readData p a (s.regView p a)] ∧ s.Frame t [.out] [])

/-- A power failure in SERVICE begins a holdup, 21.0 V ends it, and a return before 21.0 V is ridden through. (R50, R51, R52, R53, R54, R300) -/
def Obligations.PowerFailureAndReturn : Prop :=
  (∀ (s : State) (vin bank : Fin 65536), s.g F.PCR_STATUS_PFAIL = 0 → s.pwr.railsOff = false →
    s.pwr.resetting = false → s.phase = 5 →
    completes (.powerFailDetect vin bank) s fun t =>
      t.phase = 6 ∧ t.g F.PCR_STATUS_PFAIL = 1 ∧ t.g F.PCR_STATUS_VIN_OK = 0 ∧ t.pwr.pfailLow = true
      ∧ t.pwr.inService = true ∧ t.log.stage = []
      ∧ t.rd R.PCR_PFAIL_CNT = s.rd R.PCR_PFAIL_CNT + 1#32
      ∧ t.reports = s.reports ++ [⟨13, 37, 0, 0⟩]
      ∧ s.Frame t (.pwr :: .mtr :: .saf :: .reports :: .page 0x60 :: Part.records)
          [R.PCR_PFAIL_CNT, R.PCR_STATUS, R.PCR_VIN, R.LOG_EVENT, R.PMON_HALF])
  ∧ (∀ s : State, s.g F.PCR_STATUS_PFAIL = 1 → s.pwr.committed = false → s.g F.MTR_STATUS_STATE = 1 →
    s.g F.PCR_STATUS_HOLDUP_FAULT = 0 → s.pwr.failUp + 100000 ≤ s.mtr.doneUp →
    completes .powerFailCommit s fun t =>
      t.pwr.committed = true ∧ t.mtr.tot = s.mtr.tot
      ∧ (∃ c : Commit, (t.mtr.bank0 = c.bytes ∨ t.mtr.bank1 = c.bytes) ∧ c.kind = 1 ∧ c.totals = s.mtr.done ∧ c.time = s.mtr.doneTime)
      ∧ s.Frame t (.pwr :: .mtr :: .free :: .page 0x60 :: Part.counts) [R.PMON_HALF])
  ∧ (∀ s : State, s.g F.PCR_STATUS_PFAIL = 1 → s.pwr.at21 = false → s.pwr.railsOff = false → s.phase = 6 →
    s.pwr.inService = true →
    completes .bankAt21v s fun t =>
      t.phase = 7 ∧ t.pwr.at21 = true ∧ t.pix = s.pix ∧ t.gates = s.gates ∧ t.settings = s.settings
      ∧ t.bkd = s.bkd ∧ t.sec = s.sec ∧ t.pending = s.pending)
  ∧ (∀ s : State, s.g F.PCR_STATUS_PFAIL = 1 → s.pwr.railsOff = false →
    completes .railsOff s fun t =>
      t.pwr.railsOff = true ∧ t.linkUp 0 = false ∧ t.linkUp 1 = false ∧ t.fio.dout.on = 0
      ∧ (∀ n : Fin 24, (t.isl n).link = false) ∧ t.pix = {} ∧ t.gates = [] ∧ t.scn.img = none
      ∧ t.pwr.domainsUp = false ∧ t.pwr.lossPending = s.pwr.lossPending
      ∧ t.settings = s.settings ∧ t.bkd = s.bkd
      ∧ t.scn.bank0 = s.scn.bank0 ∧ t.scn.bank1 = s.scn.bank1 ∧ t.olc.forces = s.olc.forces ∧ t.pending = s.pending)
  ∧ (∀ s : State, s.phase = 6 → s.pwr.inService = true → s.pwr.at21 = false → s.pwr.railsOff = false →
    completes .vinQualify s fun t =>
      t.phase = 5 ∧ t.g F.PCR_STATUS_PFAIL = 0 ∧ t.g F.PCR_STATUS_VIN_OK = 1 ∧ t.pwr.pfailLow = false
      ∧ t.gates = s.gates ∧ t.settings = s.settings ∧ t.bkd = s.bkd ∧ t.sec = s.sec ∧ t.pending = s.pending)
  ∧ (∀ s : State, s.phase ≠ 6 → s.g F.PCR_STATUS_PFAIL = 1 →
    completes .vinQualify s fun t =>
      t.phase = 0 ∧ t.rn R.PCR_RST_CAUSE = 3 + 64 * b2n s.pwr.lossPending ∧ t.scn.img = none ∧ t.gates = []
      ∧ t.pix = {} ∧ t.settings = s.settings ∧ t.bkd = s.bkd ∧ t.scn.bank0 = s.scn.bank0 ∧ t.scn.bank1 = s.scn.bank1
      ∧ t.olc.forces = s.olc.forces ∧ t.log.main = s.log.main ∧ t.pending = s.pending)
  ∧ (∀ (s : State) (e : Fin 65536), s.pwr.railsOff = false → e.val < 340 →
    completes (.bankMeasure e) s fun t =>
      t.rn R.PCR_HOLDUP = e.val ∧ t.g F.PCR_STATUS_HOLDUP_FAULT = 1
      ∧ s.Frame t (.pwr :: Part.records) [R.PCR_HOLDUP, R.PCR_STATUS, R.LOG_EVENT, R.PMON_HALF])
  ∧ (∀ (s : State) (e : Fin 65536), s.pwr.railsOff = false → 340 ≤ e.val →
    completes (.bankMeasure e) s fun t =>
      t.rn R.PCR_HOLDUP = e.val ∧ t.g F.PCR_STATUS_HOLDUP_FAULT = 0
      ∧ s.Frame t [.pwr] [R.PCR_HOLDUP, R.PCR_STATUS])

/-- A module reset is ordered, stops the module and resets every domain, and keeps what MRAM and the backup domain hold. (R57, R59, R66, R446, R465, R6) -/
def Obligations.ModuleResets : Prop :=
  (∀ (s : State) (p : Fin 2) (v : Word), s.linkUp p = true → s.holds p 0 = true → bits v.toNat 16 16 = 0x5A17 →
    natBit v.toNat 0 = true →
    completes (.softwareReset p v) s fun t => t.pwr.resetOrdered = some 2 ∧ s.Frame t [.pwr] [])
  ∧ (∀ (s : State) (p : Fin 2) (v : Word), s.linkUp p = true → s.holds p 0 = true → bits v.toNat 16 16 ≠ 0x5A17 →
    completes (.softwareReset p v) s fun t =>
      t.pwr = s.pwr ∧ t.rd (R.HP_RSV_WRITES p) = s.rd (R.HP_RSV_WRITES p) + 1#32
      ∧ t.log.mainNext = (s.log.mainNext + 1) % 2 ^ 64
      ∧ s.Frame t (.page 0 :: Part.records) [R.HP_RSV_WRITES p, R.LOG_EVENT, R.PMON_HALF])
  ∧ (∀ s : State, completes .smWatchdogExpire s fun t => t.pwr.resetOrdered = some 4 ∧ s.Frame t [.pwr] [])
  ∧ (∀ (s : State) (c : Nat), s.pwr.resetOrdered = some c → c < 32 → s.phase ≠ 6 → s.phase ≠ 7 → s.pwr.railsOff = false →
    completes .moduleReset s fun t =>
      t.phase = 7 ∧ t.pwr.resetting = true ∧ t.pwr.resetOrdered = none ∧ t.pwr.pfailLow = true ∧ t.log.stage = []
      ∧ t.bit R.PCR_RST_CAUSE c = true ∧ t.settings = s.settings ∧ t.pix = s.pix ∧ t.bkd = s.bkd ∧ t.sec = s.sec
      ∧ t.pending = s.pending)
  ∧ (∀ (s : State) (x : StrapPins), s.pwr.resetting = true → s.pwr.railsOff = false → s.g F.PCR_STATUS_PFAIL = 0 →
    strapCode x.alm0 ≠ 3 → strapCode x.alm1 ≠ 3 → strapCode x.alm2 ≠ 3 →
    completes (.resetDomains x) s fun t =>
      t.phase = 1 ∧ t.rn R.MOD_STRAP = strapWord x ∧ t.rd R.PCR_RST_CAUSE = s.rd R.PCR_RST_CAUSE
      ∧ t.rd R.PCR_PFAIL_CNT = s.rd R.PCR_PFAIL_CNT ∧ t.hpA = {} ∧ t.hpB = {} ∧ t.gates = [] ∧ t.pix = {}
      ∧ t.scn.img = none ∧ t.scn.bank0 = s.scn.bank0 ∧ t.scn.bank1 = s.scn.bank1 ∧ t.settings = s.settings
      ∧ t.olc.forces = s.olc.forces ∧ t.log.main = s.log.main ∧ t.log.audit = s.log.audit ∧ t.bkd = s.bkd
      ∧ t.pwr.resetting = false ∧ t.pending = s.pending)

/-- A start runs through its phases: POR_HOLD, BOOT_VERIFY, KEEL_START, DOMAIN_START, RESYNC, SERVICE. (R34, R47, R49, R60, R62, R121, R395, R419, R438) -/
def Obligations.StartPhasesFollowEachOther : Prop :=
  (∀ (s : State) (x : StrapPins), s.phase = 0 → s.pwr.railsOff = false → s.g F.PCR_STATUS_PFAIL = 0 →
    strapCode x.alm0 ≠ 3 → strapCode x.alm1 ≠ 3 → strapCode x.alm2 ≠ 3 →
    completes (.porHoldEnd x) s fun t =>
      t.phase = 1 ∧ t.rn R.MOD_STRAP = strapWord x ∧ t.pwr.pfailLow = false
      ∧ s.Frame t [.pwr, .dpx] [R.MOD_STRAP, R.PCR_STATUS, R.PCR_PLL_STATUS])
  ∧ (∀ s : State, s.g F.PCR_STATUS_XTAL_FAIL = 0 → s.pwr.railsOff = false →
    completes .referenceCrystalStart s fun t =>
      t.g F.PCR_STATUS_REFCLK_OK = 1 ∧ t.bit R.PCR_PLL_STATUS 1 = true ∧ t.bit R.PCR_PLL_STATUS 8 = true
      ∧ s.Frame t [] [R.PCR_STATUS, R.PCR_PLL_STATUS])
  ∧ (∀ s : State, s.phase = 1 → s.g F.PCR_STATUS_REFCLK_OK = 0 →
    completes .xtalFail s fun t => t.g F.PCR_STATUS_XTAL_FAIL = 1 ∧ t.phase = 1 ∧ s.Frame t [.pwr] [R.PCR_STATUS])
  ∧ (∀ (s : State) (f : BootFind), s.phase = 1 → s.g F.PCR_STATUS_REFCLK_OK = 1 → s.g F.PCR_STATUS_XTAL_FAIL = 0 →
    s.fwu.recovery = false → s.g F.MOD_STRAP_RECOVERY = 0 → f.map0Ok = true → f.map1Ok = true → f.rootOk = true →
    s.sec.debug = false → s.sec.debugNext = false → s.bootReason f s.partBanks = none →
    s.fwu.map0.ok = true → s.fwu.map1.ok = true →
    completes (.bootVerifyDone f) s fun t =>
      t.phase = 2 ∧ t.fwu.recovery = false ∧ t.sec.rootOk = true
      ∧ s.Frame t (.fwu :: .sec :: .settings :: .set :: Part.records)
          [R.PCR_STATUS, R.FWU_STATUS, R.FWU_EVENT, R.LOG_EVENT, R.PMON_HALF])
  ∧ (∀ (s : State) (b : Bool), s.phase = 2 → s.pwr.keelDone = false →
    completes (.keelStartDone b) s fun t =>
      t.pwr.keelDone = true ∧ t.log.epochSet = (s.log.epochSet && b)
      ∧ s.Frame t (.pwr :: Part.records) [R.LOG_EVENT, R.PMON_HALF])
  ∧ (∀ s : State, s.pwr.railsOff = false →
    completes .bankCharged s fun t =>
      t.g F.PCR_STATUS_BANK_CHARGED = 1 ∧ 3000 ≤ t.g F.PCR_VIN_BANK ∧ s.Frame t [.pwr] [R.PCR_STATUS, R.PCR_VIN])
  ∧ (∀ (s : State) (f : MramFind), s.phase = 2 → s.pwr.keelDone = true → s.g F.PCR_STATUS_BANK_CHARGED = 1 →
    completes (.domainStart f) s fun t =>
      t.phase = 3 ∧ t.g F.SCN_STATUS_PAIR_OK = 15 ∧ t.settings = s.settings ∧ (s.settings = [] → t.rep.own = s.set.own.map (fun (e : Nat × Own) => (e.1, s.startOwn e.2)))
      ∧ t.gates = s.gates ∧ t.sec = s.sec
      ∧ t.fwu = s.fwu ∧ t.bkd = s.bkd ∧ t.pending = s.pending)
  ∧ (∀ s : State, s.phase = 3 →
    completes .domainStartDone s fun t =>
      t.phase = 4 ∧ t.pwr.domainsUp = true ∧ t.scn.img = s.scn.img ∧ t.pix = s.pix ∧ t.gates = s.gates
      ∧ t.olc = s.olc ∧ t.le = s.le ∧ t.mtr = s.mtr ∧ t.pending = s.pending)
  ∧ (∀ s : State, s.phase = 4 →
    completes .resyncPhaseEnd s fun t =>
      t.phase = 5 ∧ t.scn.img = s.scn.img ∧ t.gates = s.gates ∧ t.settings = s.settings ∧ t.scn.bank0 = s.scn.bank0
      ∧ t.scn.bank1 = s.scn.bank1 ∧ t.pending = s.pending
      ∧ (s.g F.DPX_STATUS_GRANT_OUT = 1 → s.scn.img = none → t.olc = s.olc ∧ t.mode = s.mode)
      ∧ (s.g F.DPX_STATUS_GRANT_OUT = 1 → s.scn.img.isSome = true → s.saf.stormy = false → s.saf.stopStart = false →
          (s.g F.SCN_CTL_START_MODE = 2 → t.mode = 1 ∧ t.g F.SCN_STATUS_LAST_START = 2)
          ∧ (s.g F.SCN_CTL_START_MODE = 0 → t.mode = s.mode)))

/-- Sent Zader frames carry the node, the sequence and the slots, and a block service sends 26 frames of its block. (R17, R18, R112, R113, R114, R115, R119) -/
def Obligations.ZaderFramesSent : Prop :=
  (∀ s : State, s.repSends = true → s.updateSlots ≠ [] → (∀ i, (s.slot i).badCrc = none) →
    completes .updateFrameSend s fun t => let l := s.updateSlots
      (∃ f : ZFrame, f.kind = 1 ∧ f.origin = s.node ∧ f.seq = (s.rep.seq + 1) % 2 ^ 32 ∧ f.count = l.length
        ∧ f.building = s.rn R.REP_BUILDING ∧ f.sendTime = s.ptpNs % 2 ^ 64 ∧ f.body = .slots (l.map s.zslot)
        ∧ (s.g F.REP_CTL_ETH0_EN = 1 → s.zaderOut f 0 ∈ t.out) ∧ (s.g F.REP_CTL_ETH1_EN = 1 → s.zaderOut f 1 ∈ t.out))
      ∧ t.rep.seq = (s.rep.seq + 1) % 2 ^ 32 ∧ t.pix = { s.pix with dirty := s.pix.dirty.filter (fun i => !l.contains i) }
      ∧ t.rd R.REP_TX_FRAMES = s.rd R.REP_TX_FRAMES + 1#32
      ∧ s.Frame t (.pix :: Part.zader) [R.REP_TX_FRAMES, R.PMON_HALF])
  ∧ (∀ s : State, s.repSends = true →
    completes .heartbeatSend s fun t =>
      (∃ f : ZFrame, f.kind = 2 ∧ f.origin = s.node ∧ f.seq = s.rep.seq ∧ f.count = 0 ∧ f.body = .none
        ∧ (s.g F.REP_CTL_ETH0_EN = 1 → s.zaderOut f 0 ∈ t.out) ∧ (s.g F.REP_CTL_ETH1_EN = 1 → s.zaderOut f 1 ∈ t.out))
      ∧ t.rep.seq = s.rep.seq ∧ t.rd R.REP_TX_FRAMES = s.rd R.REP_TX_FRAMES + 1#32
      ∧ s.Frame t Part.zader [R.REP_TX_FRAMES, R.PMON_HALF])
  ∧ (∀ (s : State) (o : Fin 256), s.mayOriginate = true → s.core 1 = true →
    s.rep.wants.find? (fun w => w.1 == o.val) = some (o.val, []) →
    completes (.resyncReqSend o) s fun t =>
      (∃ f : ZFrame, f.kind = 3 ∧ f.origin = s.node ∧ f.body = .req o.val 0 [] true
        ∧ (s.g F.REP_CTL_ETH0_EN = 1 → s.zaderOut f 0 ∈ t.out) ∧ (s.g F.REP_CTL_ETH1_EN = 1 → s.zaderOut f 1 ∈ t.out))
      ∧ t.rep.wants = s.rep.wants.erase (o.val, []) ∧ t.rep.seq = s.rep.seq
      ∧ t.rd R.REP_RESYNC_REQ = s.rd R.REP_RESYNC_REQ + 1#32
      ∧ s.Frame t Part.zader [R.REP_TX_FRAMES, R.REP_RESYNC_REQ, R.PMON_HALF])
  ∧ (∀ (s : State) (b : Nat) (l : List Nat), s.repSends = true → s.core 1 = true → s.rep.serve = b :: l → s.owns b = true →
    (∀ i, (s.slot i).badCrc = none) →
    completes .blockService s fun t =>
      (∀ k, k < 26 → ∃ f : ZFrame, f.kind = 4 ∧ f.origin = s.node ∧ f.block = b ∧ f.part = k
        ∧ f.resyncEnd = (k == 25)
        ∧ f.body = .slots ((List.range (if k = 25 then 24 else 40)).map (fun j => s.zslot (1024 * b + 40 * k + j)))
        ∧ (s.g F.REP_CTL_ETH0_EN = 1 → s.zaderOut f 0 ∈ t.out) ∧ (s.g F.REP_CTL_ETH1_EN = 1 → s.zaderOut f 1 ∈ t.out))
      ∧ b ∉ t.rep.serve ∧ t.rd R.REP_RESYNC_SERVED = s.rd R.REP_RESYNC_SERVED + 1#32
      ∧ s.Frame t Part.zader [R.REP_TX_FRAMES, R.REP_RESYNC_SERVED, R.PMON_HALF])
  ∧ (∀ (s : State) (b : Nat), s.repSends = true → s.g F.REP_REFRESH_REFRESH_S ≠ 0 →
    (s.blocksOf s.node).find? (fun c => Nat.ble s.rep.sweepAt c) = some b → (∀ i, (s.slot i).badCrc = none) →
    completes .refreshSweep s fun t =>
      (∀ k, k < 26 → ∃ f : ZFrame, f.kind = 4 ∧ f.origin = s.node ∧ f.block = b ∧ f.part = k
        ∧ f.resyncEnd = (k == 25)
        ∧ f.body = .slots ((List.range (if k = 25 then 24 else 40)).map (fun j => s.zslot (1024 * b + 40 * k + j)))
        ∧ (s.g F.REP_CTL_ETH0_EN = 1 → s.zaderOut f 0 ∈ t.out) ∧ (s.g F.REP_CTL_ETH1_EN = 1 → s.zaderOut f 1 ∈ t.out))
      ∧ t.rep.sweepAt = (b + 1) % 256 ∧ t.rd R.REP_RESYNC_SERVED = s.rd R.REP_RESYNC_SERVED + 1#32
      ∧ s.Frame t Part.zader [R.REP_TX_FRAMES, R.REP_RESYNC_SERVED, R.PMON_HALF])

/-- A received frame is judged: echoes and bad frames are counted, and an entry replaces its slot only where it is newer. (R116, R117, R118) -/
def Obligations.ZaderFramesMerged : Prop :=
  (∀ (s : State) (l : List Byte), s.g F.REP_CTL_ETH0_EN = 0 →
    completes (.zaderFrameReceive 0 l) s fun t => t = s)
  ∧ (∀ (s : State) (l : List Byte), s.repOn = true → s.core 1 = true → s.g F.REP_CTL_ETH0_EN = 1 → s.frameForm (zframe l) = false →
    completes (.zaderFrameReceive 0 l) s fun t =>
      t.rd R.REP_BAD = s.rd R.REP_BAD + 1#32 ∧ t.rd R.REP_RX_FRAMES = s.rd R.REP_RX_FRAMES + 1#32
      ∧ s.Frame t Part.counts [R.REP_BAD, R.REP_RX_FRAMES, R.PMON_HALF])
  ∧ (∀ (s : State) (l : List Byte), s.repOn = true → s.core 1 = true → s.g F.REP_CTL_ETH1_EN = 1 → s.frameForm (zframe l) = true →
    (zframe l).origin = s.node →
    completes (.zaderFrameReceive 1 l) s fun t =>
      t.rd R.REP_OWN_ECHO = s.rd R.REP_OWN_ECHO + 1#32 ∧ t.rd R.REP_RX_FRAMES = s.rd R.REP_RX_FRAMES + 1#32
      ∧ s.Frame t Part.counts [R.REP_OWN_ECHO, R.REP_RX_FRAMES, R.PMON_HALF])
  ∧ (∀ (s : State) (l : List Byte) (f : ZFrame) (e : ZSlot) (h : Nat), s.repOn = true → s.g F.REP_CTL_ETH0_EN = 1 →
    zframe l = f → s.frameForm f = true → f.origin ≠ s.node → f.kind = 1 → f.body = .slots [e] → f.restart = false →
    (s.origin f.origin).seq = some h → f.seq = (h + 1) % 2 ^ 32 → e.crcOk = true →
    (s.ownOf (e.index % 262144 / 1024)).owner = f.origin →
    (s.clockValid = false ∨ e.time % 2 ^ 64 ≤ s.ptpNs + s.g F.REP_REFRESH_FUTURE_MS * 1000000) →
    completes (.zaderFrameReceive 0 l) s fun t =>
      t.slot (e.index % 262144)
        = (if mergeWins (s.slot (e.index % 262144)) e then slotOfEntry e else s.slot (e.index % 262144))
      ∧ (∀ j, j ≠ e.index % 262144 → t.slot j = s.slot j)
      ∧ (t.origin f.origin).seq = some f.seq ∧ (t.origin f.origin).silent = false
      ∧ (mergeWins (s.slot (e.index % 262144)) e = false → t.rd R.REP_OLDER = s.rd R.REP_OLDER + 1#32)
      ∧ s.Frame t (.rep :: Part.slots) [R.REP_RX_FRAMES, R.REP_OLDER, R.REP_EVENT, R.PMON_HALF])

/-- A block not repaired in time is asked for again, a silent origin and an exhausted resync make its slots STALE. (R119, R120, R131) -/
def Obligations.ReplicasResyncedAndScrubbed : Prop :=
  (∀ (s : State) (b : Fin 256) (r : Resync), tget s.rep.resync none b = some r → s.repOn = true → s.core 1 = true →
    (s.ownOf b).owner ≠ 0 → s.owns b = false → r.tries < 3 →
    completes (.resyncRetry b) s fun t =>
      tget t.rep.resync none b = some { r with tries := r.tries + 1 }
      ∧ (∃ w ∈ t.rep.wants, w.1 = (s.ownOf b).owner) ∧ s.Frame t [.rep] [])
  ∧ (∀ (s : State) (b : Fin 256) (r : Resync), tget s.rep.resync none b = some r → s.core 1 = true →
    (s.ownOf b).owner ≠ 0 → s.owns b = false → 3 ≤ r.tries → r.failed = false →
    completes (.resyncRetry b) s fun t =>
      tget t.rep.resync none b = some { r with failed := true } ∧ t.bit R.REP_EVENT 7 = true
      ∧ (∀ i, (t.slot i).value = (s.slot i).value ∧ (t.slot i).quality
          = (if i / 1024 = b.val ∧ (s.slot i).present = true then 4 else (s.slot i).quality))
      ∧ s.Frame t (.rep :: Part.slots) [R.REP_EVENT, R.PMON_HALF])
  ∧ (∀ (s : State) (o : Fin 256), s.repOn = true → o.val ≠ 0 → (s.origin o).heard = true →
    (s.origin o).silent = false →
    completes (.originSilent o) s fun t =>
      (t.origin o).silent = true ∧ t.bit R.REP_EVENT 1 = true
      ∧ (s.origin o).lastNs + s.g F.REP_TIMEOUT_ORIGIN_TIMEOUT_MS * 1000000 ≤ t.clk.upNs
      ∧ (∀ i, (t.slot i).value = (s.slot i).value)
      ∧ (∀ i, (s.ownOf (i / 1024)).owner = o.val → (s.slot i).present = true → (t.slot i).quality = 4)
      ∧ s.Frame t (.clk :: .rep :: Part.slots) [R.REP_EVENT, R.PMON_HALF])
  ∧ (∀ (s : State) (i c : Nat), s.canonical = true → s.g F.PIX_CTL_SCRUB_MS ≠ 0 → i < 262144 → c < 2 ^ 32 →
    c ≠ crc32c (s.slot i).body → (∀ j, (s.slot j).badCrc = none) → s.ownsSlot i = false →
    completes (.pixScrub [(i, c)]) s fun t =>
      t.slot i = { s.slot i with quality := 4 } ∧ (∀ j, j ≠ i → t.slot j = s.slot j)
      ∧ t.rd R.PIX_CRC_ERR = s.rd R.PIX_CRC_ERR + 1#32 ∧ t.bit R.PIX_EVENT 0 = true
      ∧ s.Frame t (.rep :: Part.slots) [R.PIX_CRC_ERR, R.PIX_CRC_LAST, R.PIX_EVENT, R.PMON_HALF])
  ∧ (∀ (s : State) (i c : Nat), s.canonical = true → s.g F.PIX_CTL_SCRUB_MS ≠ 0 → i < 262144 → c < 2 ^ 32 →
    c ≠ crc32c (s.slot i).body → (∀ j, (s.slot j).badCrc = none) → s.ownsSlot i = true → i ∉ s.pix.faulted →
    completes (.pixScrub [(i, c)]) s fun t =>
      t.slot i = { s.slot i with badCrc := some c } ∧ (∀ j, j ≠ i → t.slot j = s.slot j)
      ∧ t.rd R.PIX_CRC_ERR = s.rd R.PIX_CRC_ERR + 1#32 ∧ t.bit R.PIX_EVENT 1 = true
      ∧ t.reports = s.reports ++ [⟨8, 2, 0, i⟩] ∧ i ∈ t.pix.faulted
      ∧ s.Frame t (.pix :: .reports :: Part.counts) [R.PIX_CRC_ERR, R.PIX_CRC_LAST, R.PIX_EVENT, R.PMON_HALF])

/-- A claimed block is the node's with the next generation and its slots SUBSTITUTED; a released one is the new node's. (R110, R125, R126, R128, R129) -/
def Obligations.OwnershipChangesHands : Prop :=
  (∀ (s : State) (p : Fin 2) (b : Fin 256), s.mayWrite p R.REP_OWN_CMD = true → s.owns b = false →
    s.mayOriginate = true → s.core 1 = true →
    completes (.ownClaim p b) s fun t =>
      (t.ownOf b).owner = s.node ∧ (t.ownOf b).gen = ((s.ownOf b).gen + 1) % 2 ^ 32
      ∧ (∀ i, i / 1024 = b.val → (t.slot i).value = (s.slot i).value
          ∧ ((s.slot i).present = true → (s.slot i).forced = false → (t.slot i).quality = 3))
      ∧ (∀ i, i / 1024 ≠ b.val → t.slot i = s.slot i) ∧ t.g F.REP_OWN_RESULT_CODE = 1 ∧ b.val ∈ t.rep.serve
      ∧ s.Frame t (.log :: .olc :: (Part.zader ++ Part.slots))
          [R.REP_OWN_CMD, R.REP_OWN_RESULT, R.REP_EVENT, R.OLC_EVENT, R.REP_TX_FRAMES, R.LOG_EVENT, R.PMON_HALF])
  ∧ (∀ (s : State) (b : Fin 256), s.mayOriginate = true → s.core 1 = true → (s.ownOf b).auto = true → s.rank b ≠ 0 →
    (s.ownOf b).owner ≠ s.node → (s.ownOf b).owner ≠ 0 → (s.origin (s.ownOf b).owner).silent = true →
    completes (.autoTakeover b) s fun t =>
      (t.ownOf b).owner = s.node ∧ (t.ownOf b).gen = ((s.ownOf b).gen + 1) % 2 ^ 32
      ∧ (s.origin (s.ownOf b).owner).silentNs + s.rank b * s.g F.REP_TIMEOUT_TAKEOVER_MS * 1000000 ≤ t.clk.upNs
      ∧ (∀ i, i / 1024 = b.val → (t.slot i).value = (s.slot i).value
          ∧ ((s.slot i).present = true → (s.slot i).forced = false → (t.slot i).quality = 3))
      ∧ (∀ i, i / 1024 ≠ b.val → t.slot i = s.slot i)
      ∧ s.Frame t (.clk :: .log :: .olc :: (Part.zader ++ Part.slots))
          [R.REP_EVENT, R.OLC_EVENT, R.REP_TX_FRAMES, R.LOG_EVENT, R.PMON_HALF])
  ∧ (∀ (s : State) (p : Fin 2) (b n : Fin 256), s.mayWrite p R.REP_OWN_CMD = true → s.owns b = true →
    1 ≤ n.val → n.val ≤ 192 → s.mayOriginate = true → s.core 1 = true → s.rn64 R.REP_OWN_TIME_LO = 0 → (∀ i, (s.slot i).badCrc = none) →
    completes (.ownRelease p b n) s fun t =>
      (t.ownOf b).owner = n.val ∧ (t.ownOf b).gen = ((s.ownOf b).gen + 1) % 2 ^ 32
      ∧ (∀ i ∈ t.pix.dirty, i / 1024 ≠ b.val) ∧ (∀ i, i / 1024 = b.val → (t.slot i).value = (s.slot i).value)
      ∧ (∀ i, i / 1024 ≠ b.val → t.slot i = s.slot i) ∧ t.g F.REP_OWN_RESULT_CODE = 1
      ∧ s.Frame t (.pix :: .log :: .olc :: Part.zader)
          [R.REP_OWN_CMD, R.REP_OWN_RESULT, R.REP_EVENT, R.OLC_EVENT, R.REP_TX_FRAMES, R.LOG_EVENT, R.PMON_HALF])
  ∧ (∀ (s : State) (p : Fin 2) (b n : Fin 256), s.mayWrite p R.REP_OWN_CMD = true → s.owns b = true →
    1 ≤ n.val → n.val ≤ 192 → s.mayOriginate = true → s.core 1 = true → s.ptpNs < s.rn64 R.REP_OWN_TIME_LO →
    completes (.ownRelease p b n) s fun t =>
      t.rep.own = s.rep.own ∧ ⟨b.val, n.val, s.rn64 R.REP_OWN_TIME_LO⟩ ∈ t.rep.planned ∧ t.g F.REP_OWN_RESULT_CODE = 2
      ∧ s.Frame t [.rep] [R.REP_OWN_CMD, R.REP_OWN_RESULT])
  ∧ (∀ (s : State) (b : Fin 256) (r : PlannedRelease), s.rep.planned.find? (fun x => x.block == b.val) = some r →
    s.owns b = true → s.mayOriginate = true → s.core 1 = true → (∀ i, (s.slot i).badCrc = none) →
    completes (.ownReleaseEffective b) s fun t =>
      (t.ownOf b).owner = r.toNode ∧ (t.ownOf b).gen = ((s.ownOf b).gen + 1) % 2 ^ 32
      ∧ (∀ x ∈ t.rep.planned, x.block ≠ b.val) ∧ (∀ i ∈ t.pix.dirty, i / 1024 ≠ b.val)
      ∧ (∀ i, i / 1024 ≠ b.val → t.slot i = s.slot i) ∧ t.g F.REP_OWN_RESULT_CODE = 1
      ∧ s.Frame t (.clk :: .pix :: .log :: .olc :: Part.zader)
          [R.REP_OWN_RESULT, R.REP_EVENT, R.OLC_EVENT, R.REP_TX_FRAMES, R.LOG_EVENT, R.PMON_HALF])

/-- A release starts a task's cycle at its ENTRY with zero registers, and a second trigger while one waits overflows. (R139, R140, R146, R166, R168) -/
def Obligations.TasksReleased : Prop :=
  (∀ (s : State) (n : Fin 32) (e : TaskEnt), s.ent n = some e → s.releases = true → (s.task n).st = .idle →
    (s.task n).suspend = false → s.scn.ctl = [] →
    completes (.cyclicRelease n) s fun t =>
      t.begun e ∧ (t.task n).slotNs = some t.ptpNs ∧ s.othersKept t n ∧ t.scn.img = s.scn.img
      ∧ s.instIs t s.scn.inst
      ∧ (s.runningOn e.pair = none → 1 ≤ (s.img.layoutOf e.task).depth →
          t.instBytes e.pair (s.img.layoutOf e.task).frameBase 528 = List.replicate 516 0#8 ++ natLE 4 e.instBase
            ++ natLE 4 0xFFFFFFFF ++ List.replicate 4 0#8)
      ∧ s.Frame t (.clk :: .scn :: Part.counts) [R.SCN_EVENT, R.PMON_HALF])
  ∧ (∀ (s : State) (n : Fin 96) (e : TaskEnt), s.ent n = some e → n.val ∈ s.scn.trigs → e.kind ≠ 0 →
    s.releases = true → (s.task n).st = .idle → (s.task n).suspend = false → (s.task n).pend = false →
    s.intervalOver e = true →
    completes (.eventTrigger n) s fun t =>
      t.begun e ∧ s.othersKept t n ∧ t.scn.img = s.scn.img ∧ s.instIs t s.scn.inst
      ∧ s.Frame t (.scn :: Part.counts) [R.PMON_HALF])
  ∧ (∀ (s : State) (n : Fin 96) (e : TaskEnt), s.ent n = some e → n.val ∈ s.scn.trigs → e.kind ≠ 0 →
    (s.task n).st ≠ .absent → (s.task n).pend = true →
    completes (.eventTrigger n) s fun t =>
      t.rd (R.SCN_T_OVERFLOW n) = s.rd (R.SCN_T_OVERFLOW n) + 1#32 ∧ t.bit R.SCN_EVENT 9 = true
      ∧ t.scn.task = s.scn.task ∧ s.Frame t Part.events [R.SCN_T_OVERFLOW n, R.SCN_EVENT])
  ∧ (∀ (s : State) (n : Fin 96) (e : TaskEnt) (a : Nat), s.ent n = some e → (s.task n).armed = some a → e.kind ≠ 0 →
    s.releases = true → (s.task n).st = .idle → (s.task n).suspend = false → (s.task n).pend = false →
    s.intervalOver e = true →
    completes (.timeTriggerFire n) s fun t =>
      t.begun e ∧ (t.task n).armed = none ∧ s.othersKept t n ∧ t.scn.img = s.scn.img ∧ s.instIs t s.scn.inst
      ∧ s.Frame t (.clk :: .scn :: Part.counts) [R.PMON_HALF])
  ∧ (∀ (s : State) (n : Fin 96) (e : TaskEnt), s.ent n = some e → s.releases = true → (s.task n).pend = true →
    (s.task n).st = .idle → (s.task n).suspend = false →
    completes (.eventRelease n) s fun t =>
      t.begun e ∧ (t.task n).pend = false ∧ s.othersKept t n ∧ t.scn.img = s.scn.img ∧ s.instIs t s.scn.inst
      ∧ (∀ u, (s.task n).relUp = some u → u + e.period * 1000 ≤ t.clk.upNs)
      ∧ s.Frame t (.clk :: .scn :: Part.counts) [R.PMON_HALF])

/-- A cycle latches its inputs, commits its written outputs at one time, and counts when its retained bank is switched. (R142, R143, R144, R157, R158, R161, R174) -/
def Obligations.CycleLatchesCommitsAndCompletes : Prop :=
  (∀ (s : State) (n : Fin 96) (e : TaskEnt), s.ent n = some e → s.running = true →
    (s.synced = true → s.isButty = false) → (s.task n).st = .running → (s.task n).latched = false →
    s.pairRuns e.pair = true →
    completes (.inputLatch n) s fun t =>
      (t.task n).latched = true ∧ (t.task n).shipped = !s.synced
      ∧ (s.synced = true → tget t.dpx.shipUp none n.val = some s.clk.upNs)
      ∧ (s.olc.change = none → (∀ i, (s.slot i).badCrc = none) →
          (∀ i b, i < e.inCount → s.img.bind 0 n i = some b → (t.task n).inEnt i = s.latchEnt b)
          ∧ (t.task n).outImg = (s.task n).outImg ∧ (∀ m, m ≠ n.val → t.task m = s.task m)
          ∧ s.Frame t (.scn :: .dpx :: .out :: Part.counts) [R.PMON_HALF] ∧ (s.synced = false → t.out = s.out)))
  ∧ (∀ (s : State) (n : Fin 96) (e : TaskEnt), s.ent n = some e → s.running = true →
    (s.task n).st = .running → (s.task n).ended = true → (s.task n).commit = false → s.loopsDone n (s.task n) = true →
    s.pairRuns e.pair = true → ((s.outBinds n).map (fun b => b.index)).Nodup →
    completes (.outputCommit n) s fun t =>
      (t.task n).commit = true ∧ s.othersKept t n ∧ t.scn.inst = s.scn.inst
      ∧ (∀ i, (∀ b ∈ s.outBinds n, b.index ≠ i) → t.slot i = s.slot i)
      ∧ (∀ b ∈ s.outBinds n, let x := s.slot b.index
          let o := (s.task n).outEnt b.entry
          (x.forced = true ∨ s.ownsSlot b.index = false ∨ s.bound b = false ∨
            ((s.task n).cold = false ∧ o.value = none ∧ o.qual = none) → t.slot b.index = x)
          ∧ (x.forced = false → s.ownsSlot b.index = true → s.bound b = true → ∀ v, o.value = some v →
              (t.slot b.index).value = v
              ∧ (t.slot b.index).quality = (if b.station < 64 ∧ b.station ∈ s.scn.lost then 5
                  else match o.qual with | some q => q.1 | none => 1)
              ∧ (t.slot b.index).time = s.ptpNs % 2 ^ 64 ∧ (t.slot b.index).origin = s.node
              ∧ (t.slot b.index).seq = (x.seq + 1) % 2 ^ 32))
      ∧ t.clk = s.clk ∧ t.mtr = s.mtr ∧ t.olc = s.olc ∧ t.gates = s.gates ∧ t.settings = s.settings ∧ t.bkd = s.bkd
      ∧ t.eth = s.eth ∧ t.ptp = s.ptp ∧ t.sec = s.sec ∧ t.pending = s.pending
      ∧ (s.synced = false → (∀ b ∈ s.outBinds n, b.fieldOut / 256 = 0 ∧ s.ownsSlot b.index = true ∧ (b.station < 64 → b.station ∉ s.scn.lost)) →
          s.Frame t (.le :: Part.slots) [R.SCN_T_LOST_LO n, R.SCN_T_LOST_HI n, R.PMON_HALF]))
  ∧ (∀ (s : State) (n : Fin 96) (e : TaskEnt), s.ent n = some e → (s.task n).inCycle = true →
    (s.task n).commit = true → (s.task n).suspend = false → s.scn.stopping = none →
    completes (.retainedBankSwitch n) s fun t =>
      t.rn64 (R.SCN_T_CYC_LO n) = (s.rn64 (R.SCN_T_CYC_LO n) + 1) % 2 ^ 64
      ∧ (t.task n).inCycle = false ∧ (t.task n).first = (s.task n).firstNext ∧ (t.task n).commit = false
      ∧ ((s.img.layoutOf n).retSize ≠ 0 →
          (tget t.scn.ret {} n).cur = !(tget s.scn.ret {} n).cur ∧ (tget t.scn.ret {} n).now.digest = s.img.digest
          ∧ ∀ k, k < (s.img.layoutOf n).retSize → tget (tget t.scn.ret {} n).now.data 0#8 k
              = tget s.scn.inst 0#8 (524288 * e.pair + (e.instBase + (s.img.layoutOf n).retOff) + k))
      ∧ (∀ m, m ≠ n.val → t.task m = s.task m) ∧ t.scn.inst = s.scn.inst
      ∧ s.Frame t (.scn :: Part.counts)
          [R.SCN_T_CYC_LO n, R.SCN_T_CYC_HI n, R.SCN_T_EXEC_LAST n, R.SCN_T_EXEC_MAX n, R.PMON_HALF])

/-- A watchdog stops the controller, a breakpoint halts every cycle, a pair mismatch takes the pair out, a trap stops. (R134, R135, R147, R148, R150, R152, R178) -/
def Obligations.ControllerStopsOnFaults : Prop :=
  (∀ (s : State) (n : Fin 96) (e : TaskEnt), s.ent n = some e → s.running = true → s.mode = 1 →
    (s.task n).inCycle = true → (s.task n).commit = false →
    completes (.taskWatchdogExpire n) s fun t =>
      t.mode = 0 ∧ t.g F.SCN_STATUS_STOP_CAUSE = 2 ∧ t.rn R.SCN_FAULT_TASK = e.pair % 4 * 256 + n.val
      ∧ t.bit R.SCN_EVENT 1 = true ∧ (∀ x ∈ s.taskEnts, (t.task x.task).inCycle = false) ∧ t.scn.stopping = none
      ∧ t.gates = s.gates ∧ t.rep.own = s.rep.own ∧ t.mtr = s.mtr ∧ t.pending = s.pending)
  ∧ (∀ (s : State) (n : Fin 96), s.mode = 2 → (s.task n).st = .running → (s.task n).latched = true →
    (s.task n).shipped = true → (s.task n).ended = false → (s.task n).skipBreak = false →
    (n.val, (s.task n).pc) ∈ s.scn.breaks → (s.task n).pc < 2 ^ 32 → (∀ e, s.leWr e = none) →
    s.g F.SCN_CTL_HOLD_OUT = 0 →
    completes (.breakpointHit n) s fun t =>
      t.mode = 3 ∧ t.g F.SCN_STATUS_HALT_TASK = n.val ∧ t.rn R.SCN_BREAK_PC = (s.task n).pc ∧ t.bit R.SCN_EVENT 3 = true
      ∧ (∀ x ∈ s.taskEnts, (s.task x.task).inCycle = true → (t.task x.task).st = .halted)
      ∧ (∀ m, (t.task m).pc = (s.task m).pc ∧ (t.task m).regs = (s.task m).regs)
      ∧ s.Frame t (.scn :: Part.events) [R.SCN_STATUS, R.SCN_BREAK_PC, R.SCN_EVENT])
  ∧ (∀ (s : State) (k : Fin 4), completes (.pairCompareMismatch k) s fun t =>
      bits (t.rn R.SCN_PAIR_MISMATCH) (8 * k.val) 8 = min 255 (bits (s.rn R.SCN_PAIR_MISMATCH) (8 * k.val) 8 + 1)
      ∧ t.bit R.SCN_STATUS (8 + k.val) = false ∧ (∃ x, t.reports = s.reports ++ [x] ∧ x.cls = 1 ∧ x.inst = k.val)
      ∧ s.Frame t [.reports] [R.SCN_PAIR_MISMATCH, R.SCN_STATUS])
  ∧ (∀ (s : State) (k : Fin 4) (a : Fin 64) (imm : Fin 524288) (e : TaskEnt), s.executes k e → s.mode = 1 →
    (s.task e.task).ar a = 0#64 → (s.task e.task).pc < 2 ^ 32 →
    completes (.assertReg k a imm) s fun t =>
      t.mode = 0 ∧ t.g F.SCN_STATUS_STOP_CAUSE = 5 ∧ t.rn R.SCN_FAULT_PC = (s.task e.task).pc
      ∧ (t.task e.task).inCycle = false ∧ t.gates = s.gates ∧ t.mtr = s.mtr ∧ t.pending = s.pending)

/-- TASK_CTL actions that are not refused answer SUCCESS and do what the controller's modes say. (R150, R151, R152, R153, R154, R155) -/
def Obligations.TaskControlCarriedOut : Prop :=
  (∀ (s : State) (r : OpRef) (o : Op), s.ready r 0x12 o → o.entry.arg1 = 1 →
    s.taskRefusal o.entry.arg0 1 o.entry.arg2 = 0 → s.mode ≠ 3 → s.ctlInstant = none → s.scn.ctl = [] →
    completes (.taskRun r) s fun t =>
      t.mode = 1 ∧ (s.mode = 0 → t.g F.SCN_STATUS_LAST_START = 3 ∧ ∀ e ∈ s.taskEnts, (s.task e.task).inCycle = false → (t.task e.task).first = 3)
      ∧ t.answered r 0 (fun c => c.result = s.taskResult o.entry.arg0 % 2 ^ 64)
      ∧ s.Frame t (Part.port r.port :: .scn :: .out :: Part.counts) [R.SCN_STATUS, R.SCN_EVENT, R.PMON_HALF])
  ∧ (∀ (s : State) (r : OpRef) (o : Op), s.ready r 0x12 o → o.entry.arg1 = 2 →
    s.taskRefusal o.entry.arg0 2 o.entry.arg2 = 0 → (s.mode = 1 ∨ s.mode = 2) → (∀ e, s.leWr e = none) →
    s.olc.change = none → s.scn.stopping = none → s.scn.outsSafe = false → s.scn.held = [] →
    s.g F.SCN_CTL_STOP_OUT = 0 → s.ctlInstant = none → s.scn.ctl = [] →
    completes (.taskStop r) s fun t =>
      t.mode = 0 ∧ t.g F.SCN_STATUS_STOP_CAUSE = 1 ∧ t.scn.byCmd = true
      ∧ t.scn.stopping = (if s.taskEnts.any (fun e => (s.task e.task).inCycle) then some (.stop, []) else none)
      ∧ (∀ m, (t.task m).pc = (s.task m).pc ∧ (t.task m).regs = (s.task m).regs)
      ∧ t.answered r 0 (fun c => c.result = s.taskResult o.entry.arg0 % 2 ^ 64)
      ∧ s.Frame t (Part.port r.port :: .scn :: .out :: Part.counts) [R.SCN_STATUS, R.SCN_EVENT, R.PMON_HALF])
  ∧ (∀ (s : State) (r : OpRef) (o : Op), s.ready r 0x12 o → o.entry.arg1 = 3 →
    s.taskRefusal o.entry.arg0 3 o.entry.arg2 = 0 → s.scn.ctl = [] →
    completes (.taskHold r) s fun t =>
      t.mode = 2 ∧ t.answered r 0 (fun c => c.result = s.taskResult o.entry.arg0 % 2 ^ 64)
      ∧ s.Frame t (Part.port r.port :: Part.counts) [R.SCN_STATUS, R.SCN_EVENT, R.PMON_HALF])
  ∧ (∀ (s : State) (r : OpRef) (o : Op), s.ready r 0x12 o → o.entry.arg1 = 4 →
    s.taskRefusal o.entry.arg0 4 o.entry.arg2 = 0 → s.mode = 0 → s.badRetained = [] → s.scn.stopping = none → s.scn.ctl = [] →
    s.scn.outsSafe = false → s.scn.held = [] →
    completes (.warmRestart r) s fun t =>
      t.mode = 1 ∧ t.g F.SCN_STATUS_LAST_START = 1 ∧ t.g F.SCN_STATUS_STOP_CAUSE = 0 ∧ t.scn.breaks = []
      ∧ (∀ e ∈ s.taskEnts, (t.task e.task).first = 1 ∧ (t.task e.task).inCycle = false) ∧ t.answered r 0 (fun _ => True)
      ∧ s.Frame t (Part.port r.port :: .le :: .log :: .out :: .page 0x40 :: .page 0x41 :: .page 0x42 :: .page 0x43 :: Part.slots)
          [R.SCN_STATUS, R.SCN_EVENT, R.LOG_EVENT, R.PMON_HALF])
  ∧ (∀ (s : State) (r : OpRef) (o : Op), s.ready r 0x12 o → o.entry.arg1 = 5 →
    s.taskRefusal o.entry.arg0 5 o.entry.arg2 = 0 → s.mode = 0 → s.scn.stopping = none → s.scn.ctl = [] →
    s.scn.outsSafe = false → s.scn.held = [] →
    completes (.coldRestart r) s fun t =>
      t.mode = 1 ∧ t.g F.SCN_STATUS_LAST_START = 2 ∧ t.g F.SCN_STATUS_STOP_CAUSE = 0 ∧ t.scn.breaks = []
      ∧ (∀ e ∈ s.taskEnts, (t.task e.task).first = 2 ∧ (t.task e.task).inCycle = false
          ∧ t.rd (R.SCN_T_CYC_LO e.task) = 0#32) ∧ t.answered r 0 (fun _ => True)
      ∧ s.Frame t (Part.port r.port :: .page 0x30 :: .page 0x40 :: .page 0x41 :: .page 0x42 :: .page 0x43 :: .le :: .log
            :: .olc :: .out :: Part.slots)
          [R.LOG_EVENT, R.OLC_EVENT, R.PMON_HALF])
  ∧ (∀ (s : State) (r : OpRef) (o : Op) (e : TaskEnt), s.ready r 0x12 o → o.entry.arg1 = 6 →
    s.taskRefusal o.entry.arg0 6 o.entry.arg2 = 0 → s.ent o.entry.arg0 = some e → s.scn.ctl = [] →
    (s.task e.task).st = .halted → (s.task e.task).latched = true → (s.task e.task).ended = false →
    s.pairRuns e.pair = true → wOp (s.wordAt (s.task e.task).pc) = 0 → (s.task e.task).pc + 4 < 2 ^ 32 →
    completes (.stepTask r) s fun t =>
      (t.task e.task).pc = (s.task e.task).pc + 4 ∧ (t.task e.task).regs = (s.task e.task).regs ∧ t.mode = 3
      ∧ t.rn R.SCN_BREAK_PC = (s.task e.task).pc + 4 ∧ t.answered r 0 (fun _ => True)
      ∧ s.Frame t (Part.port r.port :: .scn :: Part.counts) [R.SCN_BREAK_PC, R.PMON_HALF])
  ∧ (∀ (s : State) (r : OpRef) (o : Op), s.ready r 0x12 o → o.entry.arg1 = 7 →
    s.taskRefusal o.entry.arg0 7 o.entry.arg2 = 0 → s.scn.outsSafe = false → s.scn.held = [] → s.scn.ctl = [] →
    completes (.continueTasks r) s fun t =>
      t.mode = 2 ∧ t.g F.SCN_STATUS_HALT_TASK = 0xFF
      ∧ (∀ m, (t.task m).pc = (s.task m).pc ∧ (t.task m).regs = (s.task m).regs) ∧ t.answered r 0 (fun _ => True)
      ∧ s.Frame t (Part.port r.port :: .scn :: .out :: Part.counts) [R.SCN_STATUS, R.SCN_EVENT, R.PMON_HALF])

/-- Breakpoints, suspension, ring triggers and armed times act on the named task alone and answer SUCCESS. (R140, R150, R151, R153, R154) -/
def Obligations.TasksSuspendedTriggeredAndArmed : Prop :=
  (∀ (s : State) (r : OpRef) (o : Op), s.ready r 0x12 o → o.entry.arg1 = 8 →
    s.taskRefusal o.entry.arg0 8 o.entry.arg2 = 0 → s.ctlInstant = none → s.scn.ctl = [] →
    completes (.setBreak r) s fun t =>
      (∀ b, b ∈ t.scn.breaks ↔ b ∈ s.scn.breaks ∨ b = (o.entry.arg0, o.entry.arg2)) ∧ t.scn.task = s.scn.task
      ∧ t.answered r 0 (fun c => c.result = s.taskResult o.entry.arg0 % 2 ^ 64)
      ∧ s.Frame t (Part.port r.port :: .scn :: .out :: Part.counts) [R.PMON_HALF])
  ∧ (∀ (s : State) (r : OpRef) (o : Op), s.ready r 0x12 o → o.entry.arg1 = 9 →
    s.taskRefusal o.entry.arg0 9 o.entry.arg2 = 0 → s.ctlInstant = none → s.scn.ctl = [] → o.entry.arg2 ≠ 0xFFFFFFFF →
    completes (.clearBreak r) s fun t =>
      (∀ b, b ∈ t.scn.breaks ↔ b ∈ s.scn.breaks ∧ b ≠ (o.entry.arg0, o.entry.arg2)) ∧ t.scn.task = s.scn.task
      ∧ t.answered r 0 (fun c => c.result = s.taskResult o.entry.arg0 % 2 ^ 64)
      ∧ s.Frame t (Part.port r.port :: .scn :: .out :: Part.counts) [R.PMON_HALF])
  ∧ (∀ (s : State) (r : OpRef) (o : Op), s.ready r 0x12 o → o.entry.arg1 = 10 →
    s.taskRefusal o.entry.arg0 10 o.entry.arg2 = 0 → s.ctlInstant = none → s.scn.ctl = [] → (∀ e, s.leWr e = none) →
    completes (.suspendTask r) s fun t =>
      (t.task o.entry.arg0).suspend = true
      ∧ (t.task o.entry.arg0).st = (if (s.task o.entry.arg0).inCycle then (s.task o.entry.arg0).st else .suspended)
      ∧ (∀ m, m ≠ o.entry.arg0 → t.task m = s.task m) ∧ t.answered r 0 (fun _ => True)
      ∧ s.Frame t (Part.port r.port :: .scn :: .out :: Part.counts) [R.PMON_HALF])
  ∧ (∀ (s : State) (r : OpRef) (o : Op), s.ready r 0x12 o → o.entry.arg1 = 11 →
    s.taskRefusal o.entry.arg0 11 o.entry.arg2 = 0 → s.ctlInstant = none → s.scn.ctl = [] → (s.task o.entry.arg0).suspend = true →
    completes (.resumeTask r) s fun t =>
      (t.task o.entry.arg0).suspend = false ∧ ((s.task o.entry.arg0).inCycle = false →
        (t.task o.entry.arg0).st = (if s.mode = 0 then .stopped else .idle))
      ∧ (∀ m, m ≠ o.entry.arg0 → t.task m = s.task m) ∧ t.answered r 0 (fun _ => True)
      ∧ s.Frame t (Part.port r.port :: .scn :: .out :: Part.counts) [R.PMON_HALF])
  ∧ (∀ (s : State) (r : OpRef) (o : Op) (e : TaskEnt), s.ready r 0x12 o → o.entry.arg1 = 12 →
    s.taskRefusal o.entry.arg0 12 o.entry.arg2 = 0 → s.ctlInstant = none → s.scn.ctl = [] → s.ent o.entry.arg0 = some e →
    (s.task e.task).suspend = false → (s.task e.task).pend = false → (s.task e.task).st ≠ .absent →
    completes (.ringTrigger r) s fun t =>
      (if s.releases && (s.task e.task).st == .idle && s.intervalOver e then t.begun e
        else t.task e.task = { s.task e.task with pend := true })
      ∧ s.othersKept t e.task ∧ t.answered r 0 (fun _ => True)
      ∧ s.Frame t (Part.port r.port :: .scn :: .out :: Part.counts) [R.PMON_HALF])
  ∧ (∀ (s : State) (r : OpRef) (o : Op), s.ready r 0x12 o → o.entry.arg1 = 13 →
    s.taskRefusal o.entry.arg0 13 o.entry.arg2 = 0 → s.ctlInstant = none → s.scn.ctl = [] →
    completes (.armTime r) s fun t =>
      t.task o.entry.arg0 = { s.task o.entry.arg0 with armed := some o.entry.arg2 }
      ∧ (∀ m, m ≠ o.entry.arg0 → t.task m = s.task m) ∧ t.answered r 0 (fun _ => True)
      ∧ s.Frame t (Part.port r.port :: .scn :: .out :: Part.counts) [R.PMON_HALF])
  ∧ (∀ (s : State) (r : OpRef) (o : Op) (a : Nat) (p : Instr × Nat), s.ready r 0x12 o → s.ctlInstant = some a →
    p ∈ [(.taskRun r, 1), (.taskStop r, 2), (.warmRestart r, 4), (.coldRestart r, 5), (.setBreak r, 8), (.clearBreak r, 9),
      (.suspendTask r, 10), (.resumeTask r, 11), (.ringTrigger r, 12), (.armTime r, 13)] →
    o.entry.arg1 = p.2 → s.taskRefusal o.entry.arg0 p.2 o.entry.arg2 = 0 →
    completes p.1 s fun t =>
      t.scn = { s.scn with ctl := s.scn.ctl ++ [⟨a, o.entry.arg0, p.2, o.entry.arg2, some r⟩], trigs := t.scn.trigs }
      ∧ s.ptpNs + 50000 ≤ a ∧ { o with started := true } ∈ (t.port r.port).ops
      ∧ (s.g F.DPX_STATUS_LANE0_UP = 1 →
          t.out = s.out ++ [.towline (.taskCtl o.entry.arg0 p.2 o.entry.arg2 (some a))])
      ∧ s.Frame t (Part.port r.port :: .scn :: .out :: Part.counts) [R.PMON_HALF])

/-- A checked image is installed in STOP, a checked change waits for its boundary or gap, and a wait that ends refuses it. (R187, R189, R199, R203, R204, R207) -/
def Obligations.ImagesLoadedAndChanged : Prop :=
  (∀ (s : State) (r : OpRef) (b : HostBuf) (o : Op), s.ready r 0x10 o → s.synced = false → s.olc.change = none →
    s.fwu.armed = none → readStatus o.entry b = 0 → s.active = false →
    s.imageChecks o.entry.bufLen (b.data.take o.entry.bufLen) true = none →
    completes (.imgLoad r b true none) s fun t =>
      t.scn.img = some (parseImage (b.data.take o.entry.bufLen)) ∧ t.bank = b.data.take o.entry.bufLen
      ∧ t.scn.curBank = !s.scn.curBank
      ∧ (∀ e ∈ (parseImage (b.data.take o.entry.bufLen)).tasks, t.task e.task = { st := .stopped })
      ∧ t.mode = s.mode ∧ t.answered r 0 (fun c => c.result = 0) ∧ t.gates = s.gates ∧ t.rep.own = s.rep.own
      ∧ t.mtr = s.mtr ∧ t.fwu = s.fwu ∧ t.pending = s.pending)
  ∧ (∀ (s : State) (r : OpRef) (b : HostBuf) (o : Op), s.ready r 0x11 o → o.entry.arg0 = 1 →
    natBit o.entry.flags 3 = false → s.synced = false → s.olc.change = none → s.fwu.armed = none →
    readStatus o.entry b = 0 → s.valuesChecks o.entry.bufLen (b.data.take o.entry.bufLen) = none →
    (∀ x ∈ parseItems (b.data.take o.entry.bufLen), x.1.op ≠ 2 ∧ (s.task x.1.task).inCycle = true) →
    completes (.imgChangeValues r b none) s fun t =>
      (∃ l, t.olc.change = some (.values r ((parseItems (b.data.take o.entry.bufLen)).map (fun x => x.1)) l 0 0)
        ∧ ∀ n, n ∈ l ↔ ∃ x ∈ parseItems (b.data.take o.entry.bufLen), x.1.task = n)
      ∧ t.olc.forces = s.olc.forces ∧ t.g F.OLC_STATUS_STATE = 4 ∧ s.Frame t [Part.port r.port, .olc] [R.OLC_STATUS])
  ∧ (∀ (s : State) (r : OpRef) (b : HostBuf) (o : Op), s.ready r 0x11 o → o.entry.arg0 = 2 → s.synced = false →
    s.olc.change = none → s.fwu.armed = none → readStatus o.entry b = 0 →
    s.switchChecks o.entry.bufLen (b.data.take o.entry.bufLen) (natBit o.entry.flags 3) true = none →
    completes (.imgChangeSwitch r b true none) s fun t =>
      t.olc.change = some (.switch r (b.data.take o.entry.bufLen) (parseImage (b.data.take o.entry.bufLen))
        (natBit o.entry.flags 3) s.clk.upNs)
      ∧ (if s.scn.curBank then t.scn.bank0 else t.scn.bank1) = b.data.take o.entry.bufLen ∧ t.bank = s.bank
      ∧ t.scn.img = s.scn.img ∧ t.scn.task = s.scn.task ∧ t.g F.OLC_STATUS_STATE = 2
      ∧ s.Frame t [Part.port r.port, .olc, .scn] [R.OLC_STATUS])
  ∧ (∀ (s : State) (r : OpRef) (o : Op) (bytes : List Byte) (m : Image) (rel : Bool) (since : Nat),
    s.olc.change = some (.switch r bytes m rel since) → s.opRunning r = some o →
    completes .switchWaitExpire s fun t =>
      t.olc.change = none ∧ t.g F.OLC_STATUS_STATE = 0 ∧ t.rn R.OLC_LAST_RESULT = 2 * 2 ^ 24 + 23
      ∧ t.bit R.OLC_EVENT 1 = true ∧ t.answered r 0x0B (fun c => c.result = 23)
      ∧ since + clampN 10 10000 (s.g F.OLC_CTL_SWITCH_WAIT_MS) * 1000000 ≤ t.clk.upNs
      ∧ s.Frame t (.clk :: .olc :: Part.port r.port :: Part.events) [R.OLC_STATUS, R.OLC_LAST_RESULT, R.OLC_EVENT])

/-- At its boundary a variable takes its new value and the change succeeds; in a gap the new image takes the old one's place. (R200, R201, R204, R205, R208, R209) -/
def Obligations.ChangesTakeEffectTogether : Prop :=
  (∀ (s : State) (n : Fin 96) (r : OpRef) (o : Op) (x : ValItem) (y : SymEnt) (e : TaskEnt),
    (s.task n).inCycle = false → s.olc.change = some (.values r [x] [n.val] 0 0) → x.op = 1 → x.task = n.val →
    s.forceOf (.var x.task x.hash x.typ) = none → s.img.variable? x.task x.hash x.typ = some y → s.ent n = some e →
    s.opRunning r = some o →
    completes (.valuesBoundary n) s fun t =>
      t.instBytes e.pair (e.instBase + y.off) y.size = natLE y.size x.value
      ∧ (∀ k, k < 524288 * e.pair + (e.instBase + y.off) ∨ 524288 * e.pair + (e.instBase + y.off) + y.size ≤ k →
          tget t.scn.inst 0#8 k = tget s.scn.inst 0#8 k)
      ∧ t.scn.task = s.scn.task ∧ t.scn.img = s.scn.img ∧ t.olc.change = none ∧ t.g F.OLC_STATUS_STATE = 0
      ∧ t.rd R.OLC_CHANGES = s.rd R.OLC_CHANGES + 1#32 ∧ t.bit R.OLC_EVENT 0 = true
      ∧ t.answered r 0 (fun c => c.result = 2 ^ 16)
      ∧ s.Frame t (.olc :: .scn :: Part.port r.port :: Part.events)
          [R.OLC_STATUS, R.OLC_LAST_RESULT, R.OLC_CHANGES, R.OLC_EVENT])
  ∧ (∀ (s : State) (tenths : Nat) (r : OpRef) (o : Op) (bytes : List Byte) (m : Image) (rel : Bool) (since : Nat),
    s.olc.change = some (.switch r bytes m rel since) → s.gapNow (switchNs s.img m) = true → s.opRunning r = some o →
    tenths < 2 ^ 32 → (rel = true ∨ s.lostEntry m = none) →
    completes (.switchGap tenths) s fun t =>
      t.scn.img = some m ∧ t.scn.curBank = !s.scn.curBank ∧ t.bank = bytes
      ∧ t.rn R.OLC_SWITCH_TIME = min tenths (switchNs s.img m / 100) ∧ t.olc.change = none
      ∧ t.g F.OLC_STATUS_STATE = 0 ∧ t.rd R.OLC_CHANGES = s.rd R.OLC_CHANGES + 1#32 ∧ t.bit R.OLC_EVENT 0 = true
      ∧ t.bit R.OLC_EVENT 2 = true ∧ t.mode = s.mode ∧ (∀ e ∈ m.tasks, (t.task e.task).first = 0)
      ∧ t.answered r 0 (fun _ => True) ∧ t.gates = s.gates ∧ t.rep.own = s.rep.own ∧ t.mtr = s.mtr
      ∧ t.pending = s.pending)
  ∧ (∀ (s : State) (tenths : Nat) (r : OpRef) (o : Op) (bytes : List Byte) (m : Image) (since : Nat) (x : Nat × Nat),
    s.olc.change = some (.switch r bytes m false since) → s.gapNow (switchNs s.img m) = true → s.opRunning r = some o →
    s.lostEntry m = some x →
    completes (.switchGap tenths) s fun t =>
      t.olc.change = none ∧ t.g F.OLC_STATUS_STATE = 0 ∧ t.bit R.OLC_EVENT 1 = true ∧ t.scn.img = s.scn.img
      ∧ t.scn.task = s.scn.task ∧ t.olc.forces = s.olc.forces ∧ t.answered r 0x0B (fun c => c.result % 256 = 22)
      ∧ s.Frame t (.olc :: Part.port r.port :: Part.events) [R.OLC_STATUS, R.OLC_LAST_RESULT, R.OLC_EVENT])

/-- Every well-formed block-code row has a legal 32-bit word, and a pair that decodes that word executes the row. (R169, R170, R171) -/
def Obligations.BlockCodeWordsDecode : Prop :=
  ∀ (c : Instr) (k : Fin 4) (w : Nat), c.wf = true → encodeBc c = some (k, w) →
    w < 2 ^ 32 ∧ legalWord w = true ∧ ∀ s : State, exec c s = .next (s.bc k (decodeBc w))

/-- DINT, LINT, TIME and ENUM arithmetic and comparisons write AR[D] as the opcode table says and touch nothing else. (R162, R163, R170, R171, R172) -/
def Obligations.BlockCodeIntegerArithmetic : Prop :=
  ∀ (s : State) (k : Fin 4) (e : TaskEnt) (d a b c : Fin 64) (sub : Fin 6) (imm : Fin 8192), s.executes k e →
    let x := (s.task e.task).ar a
    let y := (s.task e.task).ar b
    let z := (s.task e.task).ar c
    let x32 : BitVec 32 := x.setWidth 32
    let y32 : BitVec 32 := y.setWidth 32
    let holds := fun (p q : Int) => boolWord
      ([decide (p = q), decide (p ≠ q), decide (p < q), decide (p ≤ q), decide (q < p), decide (q ≤ p)].getD sub false)
    let wr := fun (v : Word64) (t : State) => s.wrote t e d v
    completes (.addD k d a b) s (wr ((x32 + y32).signExtend 64))
    ∧ completes (.subD k d a b) s (wr ((x32 - y32).signExtend 64))
    ∧ completes (.mulD k d a b) s (wr ((x32 * y32).signExtend 64))
    ∧ (y32 ≠ 0#32 → completes (.divD k d a b) s (wr ((BitVec.ofInt 32 (x32.toInt.tdiv y32.toInt)).signExtend 64)))
    ∧ (y32 ≠ 0#32 → completes (.modD k d a b) s (wr ((BitVec.ofInt 32 (x32.toInt.tmod y32.toInt)).signExtend 64)))
    ∧ completes (.cmpD k d a b sub) s (wr (holds x32.toInt y32.toInt))
    ∧ completes (.addL k d a b) s (wr (x + y)) ∧ completes (.subL k d a b) s (wr (x - y))
    ∧ completes (.mulL k d a b) s (wr (x * y))
    ∧ (y ≠ 0#64 → completes (.divL k d a b) s (wr (BitVec.ofInt 64 (x.toInt.tdiv y.toInt))))
    ∧ (y ≠ 0#64 → completes (.modL k d a b) s (wr (BitVec.ofInt 64 (x.toInt.tmod y.toInt))))
    ∧ completes (.cmpL k d a b sub) s (wr (holds x.toInt y.toInt))
    ∧ completes (.cmpE k d a b sub) s (wr (holds x32.toNat y32.toNat))
    ∧ completes (.addT k d a b) s (wr (BitVec.ofInt 64 (max (-2 ^ 63) (min (2 ^ 63 - 1) (x.toInt + y.toInt)))))
    ∧ completes (.subT k d a b) s (wr (BitVec.ofInt 64 (max (-2 ^ 63) (min (2 ^ 63 - 1) (x.toInt - y.toInt)))))
    ∧ completes (.cmpT k d a b sub) s (wr (holds x.toInt y.toInt))
    ∧ completes (.limL k d a b c) s (wr (BitVec.ofInt 64 (min (max x.toInt y.toInt) z.toInt)))
    ∧ completes (.addi k d a imm) s (wr (x + (BitVec.ofNat 13 imm.val).signExtend 64))

/-- REAL and LREAL arithmetic, comparisons, functions and limits write AR[D] in the width of their type. (R163, R170, R171, R172) -/
def Obligations.BlockCodeRealArithmetic : Prop :=
  ∀ (s : State) (k : Fin 4) (e : TaskEnt) (d a b c : Fin 64) (sub : Fin 6) (fn : Fin 19), s.executes k e →
    let x := fun (w : Nat) => ((s.task e.task).ar a).toNat % 2 ^ w
    let y := fun (w : Nat) => ((s.task e.task).ar b).toNat % 2 ^ w
    let z := fun (w : Nat) => ((s.task e.task).ar c).toNat % 2 ^ w
    let holds := fun (o : Option Ordering) => boolWord (match o with
      | none => sub.val == 1
      | some q => [q == .eq, q != .eq, q == .lt, q != .gt, q == .gt, q != .lt].getD sub false)
    let wr := fun (v : Word64) (t : State) => s.wrote t e d v
    let w32 := fun (n : Nat) => wr (BitVec.ofNat 64 (n % 2 ^ 32))
    let w64 := fun (n : Nat) => wr (BitVec.ofNat 64 n)
    completes (.addR k d a b) s (w32 (b32.add (x 32) (y 32)))
    ∧ completes (.subR k d a b) s (w32 (b32.add (x 32) (b32.negate (y 32))))
    ∧ completes (.mulR k d a b) s (w32 (b32.mul (x 32) (y 32)))
    ∧ completes (.divR k d a b) s (w32 (b32.div (x 32) (y 32)))
    ∧ completes (.cmpR k d a b sub) s (wr (holds (b32.cmp (x 32) (y 32))))
    ∧ completes (.funR k d a b fn) s (w32 (funReal 32 fn (x 32) (y 32)))
    ∧ completes (.funR k d a b 0) s (w32 (x 31)) ∧ completes (.funR k d a b 1) s (w32 (x 32 ^^^ 2 ^ 31))
    ∧ completes (.limR k d a b c) s (w32 (limReal 32 (x 32) (y 32) (z 32)))
    ∧ completes (.addLr k d a b) s (w64 (b64.add (x 64) (y 64)))
    ∧ completes (.subLr k d a b) s (w64 (b64.add (x 64) (b64.negate (y 64))))
    ∧ completes (.mulLr k d a b) s (w64 (b64.mul (x 64) (y 64)))
    ∧ completes (.divLr k d a b) s (w64 (b64.div (x 64) (y 64)))
    ∧ completes (.cmpLr k d a b sub) s (wr (holds (b64.cmp (x 64) (y 64))))
    ∧ completes (.funLr k d a b fn) s (w64 (funReal 64 fn (x 64) (y 64)))
    ∧ completes (.funLr k d a b 0) s (w64 (x 63)) ∧ completes (.funLr k d a b 1) s (w64 (x 64 ^^^ 2 ^ 63))
    ∧ completes (.limLr k d a b c) s (w64 (limReal 64 (x 64) (y 64) (z 64)))

/-- Moves, logic, shifts, conversions, branches, calls and returns do what the opcode table says and nothing else. (R162, R167, R168, R169, R170, R171) -/
def Obligations.BlockCodeLogicMovesAndBranches : Prop :=
  ∀ (s : State) (k : Fin 4) (e : TaskEnt) (d a b c : Fin 64) (imm : Fin 524288), s.executes k e →
    let r := s.task e.task
    let x := r.ar a
    let y := r.ar b
    let wr := fun (v : Word64) (t : State) => s.wrote t e d v
    let jump := fun (pc : Int) (t : State) => s.stepped t e { r with pc := pc.toNat } s.scn.inst
    let target := (r.pc : Int) + 4 * (BitVec.ofNat 19 imm.val).toInt
    completes (.nopInstruction k) s (jump (r.pc + 4))
    ∧ completes (.movReg k d a) s (wr x)
    ∧ completes (.ldi k d imm) s (wr ((BitVec.ofNat 19 imm.val).signExtend 64))
    ∧ (s.olc.change = none → completes (.ldk k d imm) s (wr (BitVec.ofNat 64 (s.img.consts.getD imm 0))))
    ∧ completes (.sel k d a b c) s (wr (if r.ar c ≠ 0#64 then x else y))
    ∧ (∀ n : Fin 8, completes (.sysRead k d n) s (wr (BitVec.ofNat 64 ([r.first, e.task, r.release, e.period * 1000,
        s.rn64 (R.SCN_T_CYC_LO e.task), s.rn64 (R.SCN_T_LOST_LO e.task), s.rn R.REP_NODE, s.mode].getD n 0))))
    ∧ completes (.andReg k d a b) s (wr (x &&& y)) ∧ completes (.orReg k d a b) s (wr (x ||| y))
    ∧ completes (.xorReg k d a b) s (wr (x ^^^ y)) ∧ completes (.notReg k d a) s (wr (~~~ x))
    ∧ completes (.notb k d a) s (wr (if x = 0#64 then 1#64 else 0#64))
    ∧ completes (.shl k d a b) s (wr (x <<< (y.toNat % 64))) ∧ completes (.shr k d a b) s (wr (x >>> (y.toNat % 64)))
    ∧ completes (.sar k d a b) s (wr (x.sshiftRight (y.toNat % 64)))
    ∧ (∀ (src dst : Fin 7) (rnd : Fin 4) (v : Word64), cvt src dst rnd x = some v →
        completes (.cvtReg k d a src dst rnd) s (wr v))
    ∧ completes (.br k imm) s (jump target)
    ∧ completes (.brt k a imm) s (jump (if x ≠ 0#64 then target else r.pc + 4))
    ∧ completes (.brf k a imm) s (jump (if x = 0#64 then target else r.pc + 4))
    ∧ completes (.brx k a imm) s (jump (r.pc + 4 * (1 + min x.toNat imm.val : Nat)))
    ∧ (x ≠ 0#64 → completes (.assertReg k a imm) s (jump (r.pc + 4)))
    ∧ (∀ (fn : FuncEnt) (base : Nat), s.img.funcs[imm.val]? = some fn → (r.ib : Int) + x.toInt = base →
        r.frames.length + 2 ≤ (s.img.layoutOf e.task).depth → base % 8 = 0 → e.instBase ≤ base →
        base + fn.size ≤ e.instBase + (s.img.layoutOf e.task).instSize →
        completes (.callFn k a imm) s fun t => ∃ q fr, s.stepped t e q s.scn.inst
          ∧ (∀ n, q.ar n = if 1 ≤ n ∧ n ≤ 8 then r.ar n else 0#64) ∧ q.ib = base ∧ q.pc = fn.off
          ∧ q.frames = fr :: r.frames ∧ fr.retPc = r.pc + 4 ∧ fr.callerIb = r.ib ∧ fr.func = imm.val)
    ∧ (∀ (fr : Frame) (l : List Frame), r.frames = fr :: l → completes (.retFn k) s fun t =>
        ∃ q, s.stepped t e q s.scn.inst ∧ (∀ n, q.ar n = if n ≤ 8 then r.ar n else tget fr.regs 0#64 n)
          ∧ q.ib = fr.callerIb ∧ q.pc = fr.retPc ∧ q.frames = l)
    ∧ (r.frames = [] → completes (.retFn k) s fun t => s.stepped t e { r with ended := true } s.scn.inst)

/-- Loads and stores reach IB + AR[A] + OFF × size in the task's own instance area, and no other byte. (R162, R165, R170, R196) -/
def Obligations.BlockCodeLoadsAndStores : Prop :=
  ∀ (s : State) (k : Fin 4) (e : TaskEnt) (d a : Fin 64) (off : Fin 8192) (x : Nat), s.executes k e →
    let r := s.task e.task
    let fits := fun (size : Nat) => (r.ib : Int) + (r.ar a).toInt + (off.val * size : Nat) = x ∧ e.instBase ≤ x
      ∧ x + size ≤ e.instBase + (s.img.layoutOf e.task).instSize ∧ x % size = 0
    let old := fun (j : Nat) => tget s.scn.inst 0#8 (524288 * e.pair + x + j)
    let stored := fun (size : Nat) (t : State) => ∃ mem, s.stepped t e r.adv mem
      ∧ (∀ j, j < size → tget mem 0#8 (524288 * e.pair + x + j)
          = if (s.forcedBytes e).contains (x + j) then old j else ((natLE 8 (r.ar d).toNat).getD j 0#8))
      ∧ ∀ n, n < 524288 * e.pair + x ∨ 524288 * e.pair + x + size ≤ n → tget mem 0#8 n = tget s.scn.inst 0#8 n
    let loaded := fun (size : Nat) => leNat ((List.range size).map old)
    (fits 1 → completes (.ldb k d a off) s fun t => s.wrote t e d (BitVec.ofNat 64 (loaded 1)))
    ∧ (fits 4 → completes (.ldw k d a off) s fun t => s.wrote t e d ((BitVec.ofNat 32 (loaded 4)).signExtend 64))
    ∧ (fits 4 → completes (.ldwu k d a off) s fun t => s.wrote t e d (BitVec.ofNat 64 (loaded 4)))
    ∧ (fits 8 → completes (.ldd k d a off) s fun t => s.wrote t e d (BitVec.ofNat 64 (loaded 8)))
    ∧ (fits 1 → completes (.stb k d a off) s (stored 1)) ∧ (fits 4 → completes (.stw k d a off) s (stored 4))
    ∧ (fits 8 → completes (.std k d a off) s (stored 8))

/-- Input entries, output entries, loop quantities and energy pairs are read and written as R174 to R177 say. (R163, R170, R174, R175, R176, R177) -/
def Obligations.BlockCodePointsLoopsAndEnergy : Prop :=
  ∀ (s : State) (k : Fin 4) (e : TaskEnt) (d a : Fin 64) (i : Fin 4096), s.executes k e →
    let r := s.task e.task
    completes (.ldin k d i) s (fun t => s.wrote t e d (r.inEnt i).value)
    ∧ completes (.ldiq k d i) s (fun t => s.wrote t e d (BitVec.ofNat 64 (r.inEnt i).qual))
    ∧ completes (.ldit k d i) s (fun t => s.wrote t e d (BitVec.ofNat 64 (r.inEnt i).time))
    ∧ ((r.ar a).toNat < e.inCount → completes (.ldinx k d a) s (fun t => s.wrote t e d (r.inEnt (r.ar a).toNat).value))
    ∧ (∀ b, s.img.bind 1 e.task i = some b →
        (isReal b.typ = true → (real (realWidth b.typ)).finite (typeBits b.typ (r.ar d)).toNat = true) →
        completes (.stout k d i) s fun t =>
          s.stepped t e (r.setOut i { r.outEnt i with value := some (typeBits b.typ (r.ar d)) }).adv s.scn.inst)
    ∧ ((r.ar d).toNat % 16 ∈ [1, 3, 6, 7, 8] → completes (.stoq k d i) s fun t =>
        s.stepped t e (r.setOut i { r.outEnt i with qual := some ((r.ar d).toNat % 16, (r.ar d).getLsbD 6) }).adv s.scn.inst)
    ∧ (∀ (loc : Fin 256) (q : Fin 32) (key : Nat) (x : LoopSlot), s.img.loopKey e.task loc = some key →
        s.loop? key = some x →
        (loc.val ∈ r.loops → completes (.ldlp k d loc q) s fun t => s.wrote t e d (BitVec.ofNat 64 (x.qty q)))
        ∧ (stlpOk x (s.hostComing e r (key / 512) (key % 512)) q (r.ar d) = true → completes (.stlp k d loc q) s fun t =>
            t.loop? key = some { x with stlp := x.stlp ++ [(q.val, (r.ar d).toNat)] }
            ∧ (∀ j, j ≠ key → t.loop? j = s.loop? j)
            ∧ { t.task e.task with st := .running } = { r.adv with st := .running, skipBreak := false }
            ∧ s.othersKept t e.task ∧ t.scn.inst = s.scn.inst ∧ s.Frame t (.scn :: .le :: Part.counts) [R.PMON_HALF]))
    ∧ (∀ m n p : Fin 32,
        completes (.esnap k m i) s (fun t => s.stepped t e (r.setPair (2 * m.val) (r.inEnt i).snap).adv s.scn.inst)
        ∧ completes (.esub k m n p) s (fun t => s.stepped t e
            (r.setPair (2 * m.val) ((r.pair (2 * n.val) + 2 ^ 128 - r.pair (2 * p.val)) % 2 ^ 128)).adv s.scn.inst)
        ∧ completes (.ecvt k d n) s (fun t => s.wrote t e d
            (BitVec.ofNat 64 (b64.ofRat (r.pair (2 * n.val)) (2 ^ 32 * 1000)))))

/-- A division by zero, an access out of bounds, a non-finite output and the other traps stop the controller. (R148, R165, R170, R172, R173, R174, R175, R178) -/
def Obligations.BlockCodeTraps : Prop :=
  ∀ (s : State) (k : Fin 4) (e : TaskEnt) (d a b : Fin 64) (off : Fin 8192) (i : Fin 4096), s.executes k e → s.mode = 1 →
    (s.task e.task).pc < 2 ^ 32 →
    let r := s.task e.task
    let trap := fun (c : Instr) => completes c s fun t => s.trapped t e
    let out := fun (size : Nat) => (r.ib : Int) + (r.ar a).toInt + (off.val * size : Nat) < e.instBase
      ∨ ((e.instBase + (s.img.layoutOf e.task).instSize : Nat) : Int)
          < (r.ib : Int) + (r.ar a).toInt + (off.val * size : Nat) + size
    let odd := fun (size : Nat) => ((r.ib : Int) + (r.ar a).toInt + (off.val * size : Nat)) % size ≠ 0
    ((r.ar b).setWidth 32 = 0#32 → trap (.divD k d a b) ∧ trap (.modD k d a b))
    ∧ (r.ar b = 0#64 → trap (.divL k d a b) ∧ trap (.modL k d a b))
    ∧ (out 1 → trap (.ldb k d a off) ∧ trap (.stb k d a off))
    ∧ (out 4 ∨ odd 4 → trap (.ldw k d a off) ∧ trap (.ldwu k d a off) ∧ trap (.stw k d a off))
    ∧ (out 8 ∨ odd 8 → trap (.ldd k d a off) ∧ trap (.std k d a off))
    ∧ (∀ (src dst : Fin 7) (rnd : Fin 4), cvt src dst rnd (r.ar a) = none → trap (.cvtReg k d a src dst rnd))
    ∧ (e.inCount ≤ (r.ar a).toNat → trap (.ldinx k d a))
    ∧ (∀ x, s.img.bind 1 e.task i = some x → isReal x.typ = true →
        (real (realWidth x.typ)).finite (typeBits x.typ (r.ar d)).toNat = false → trap (.stout k d i))
    ∧ ((r.ar d).toNat % 16 ∉ [1, 3, 6, 7, 8] → trap (.stoq k d i))
    ∧ (∀ (f : Fin 524288) (fn : FuncEnt), s.img.funcs[f.val]? = some fn →
        (s.img.layoutOf e.task).depth < r.frames.length + 2 → trap (.callFn k a f))

/-- An engine evaluates the loop it issues next by the control law and writes the loop's OUT entry; bins are saved in turn. (R145, R211, R214, R216, R217, R235, R238) -/
def Obligations.LoopsEvaluated : Prop :=
  (∀ (s : State) (e : Fin 4) (n : TaskEnt) (l : LoopEnt) (x : LoopSlot) (pv sp : Nat), s.running = true →
    s.nextLoop e = some (n, l) → s.loop? (512 * e.val + l.slot) = some x → s.leWr e = none → x.due = [] →
    x.mem = none → x.forceTrack = false → x.feAction ≠ 4 → l.ff = 0xFFFF →
    s.realIn n.task (s.task n.task) l.pv = some pv → s.realIn n.task (s.task n.task) l.sp = some sp →
    let r := s.task n.task
    let ns := sampleNs n x r.release
    let y := law { x with goodPv := some pv, goodSp := some sp, goodFf := some 0 }
      { h := b64.ofRat (ns.getD (n.loopPeriod * 1000) : Nat) 1000000000, reentry := ns.isNone, pv := pv, sp := sp,
        ff := 0, bad := false, force := none, outAt := s.realOut n.task l.out (tget r.outVal 0#64 l.out),
        safe := (match s.img.bind 1 n.task l.out with
          | some b => s.realOut n.task l.out (BitVec.ofNat 64 b.safe)
          | none => 0),
        rep := 0 }
    completes (.loopEvaluate e) s fun t =>
      (∃ z, t.loop? (512 * e.val + l.slot) = some z ∧ z.i = y.x.i ∧ z.uPrev = y.x.uPrev ∧ z.auto = y.x.auto
        ∧ z.par = y.x.par ∧ z.lastRel = some r.release ∧ tget z.q 0 0 = tget y.x.q 0 0)
      ∧ (t.task n.task).outEnt l.out = ⟨some (BitVec.ofNat 64 (if s.outType n.task l.out = 3
          then fconv b64 b32 (tget y.x.q 0 0) else tget y.x.q 0 0)), some (if y.sub then 3 else 1, false)⟩
      ∧ l.loc ∈ (t.task n.task).loops ∧ (∀ j, j ≠ 512 * e.val + l.slot → t.loop? j = s.loop? j)
      ∧ (t.task n.task).pc = r.pc ∧ s.othersKept t n.task ∧ t.scn.inst = s.scn.inst
      ∧ s.Frame t (.le :: .log :: .scn :: .page 0x40 :: .page 0x41 :: .page 0x42 :: .page 0x43 :: Part.counts)
          [R.LOG_EVENT, R.PMON_HALF])
  ∧ (∀ (s : State) (e b : Fin 4) (n : TaskEnt) (l : LoopEnt) (x : LoopSlot), s.running = true →
    s.nextLoop e = some (n, l) → s.loop? (512 * e.val + l.slot) = some x → s.leWr e = none → x.feAction ≠ 4 →
    (s.trace e b).captures = false → (s.trace e b).cmds = [(1, false)] → s.traceFetching e b = false →
    s.g (F.LE_TR_CFG_SLOT e b) = l.slot → 1 ≤ s.g (F.LE_TR_CFG_NNODES e b) → s.g (F.LE_TR_CFG_NNODES e b) ≤ 8 →
    (∀ k ∈ s.traceNodes e b, k ≠ 28) →
    completes (.loopEvaluate e) s fun t => (t.trace e b).captures = true ∧ (t.trace e b).cmds = []
      ∧ (t.trace e b).samples.length = 1 ∧ (t.trace e b).cfgErr = false)
  ∧ (∀ (s : State) (e : Fin 4) (m : Fin 64) (x : MemS) (j : Nat) (l : List Nat),
    s.mem? (64 * e.val + m.val) = some x → x.unsaved = j :: l →
    completes (.memorySave e m) s fun t =>
      (let v := tget t.le.saved {} (64 * e.val + m.val)
       tget v.bins 0 j = tget x.bins 0 j ∧ v.period = x.period ∧ v.nbins = x.nbins ∧ v.mode = x.mode)
      ∧ t.mem? (64 * e.val + m.val) = some { x with unsaved := l }
      ∧ (∀ k, k ≠ 64 * e.val + m.val → tget t.le.saved {} k = tget s.le.saved {} k) ∧ s.Frame t [.le] [])

/-- A host write of a loop parameter applies at once in STOP and waits for its instant in RUN; reads and cancels answer. (R229, R236, R242) -/
def Obligations.LoopStateWrittenByTheHost : Prop :=
  (∀ (s : State) (p : Fin 2) (e : Fin 4) (v : Word) (x y : LoopSlot), s.mayWrite p (R.LE_WR_CMD e) = true →
    s.mode = 0 → s.synced = false → s.leWr e = none → bits v.toNat 26 3 = 0 → natBit v.toNat 29 = false →
    s.loop? (512 * e.val + bits v.toNat 16 9) = some x →
    loopWrite x 0 (bits v.toNat 0 12) (s.rn64 (R.LE_WR_VAL_LO e)) = some y → x.auto = y.auto →
    loopValueOk x 0 (bits v.toNat 0 12) (s.rn64 (R.LE_WR_VAL_LO e)) = true →
    completes (.loopWrite p e v) s fun t =>
      t.loop? (512 * e.val + bits v.toNat 16 9) = some y
      ∧ (∀ j, j ≠ 512 * e.val + bits v.toNat 16 9 → t.loop? j = s.loop? j)
      ∧ t.g (F.LE_WR_RESULT_CODE e) = 2 ∧ t.bit (R.LE_EVENT e) 6 = true
      ∧ s.Frame t (.le :: Part.events) [R.LE_WR_RESULT e, R.LE_EVENT e])
  ∧ (∀ (s : State) (p : Fin 2) (e : Fin 4) (v : Word) (x y : LoopSlot), s.mayWrite p (R.LE_WR_CMD e) = true →
    s.mode = 1 → s.synced = false → s.leWr e = none → bits v.toNat 26 3 = 0 → natBit v.toNat 29 = false →
    s.loop? (512 * e.val + bits v.toNat 16 9) = some x →
    loopWrite x 0 (bits v.toNat 0 12) (s.rn64 (R.LE_WR_VAL_LO e)) = some y →
    loopValueOk x 0 (bits v.toNat 0 12) (s.rn64 (R.LE_WR_VAL_LO e)) = true →
    completes (.loopWrite p e v) s fun t =>
      (∃ w, t.leWr e = some w ∧ w.kind = 0 ∧ w.target = bits v.toNat 16 9 ∧ w.index = bits v.toNat 0 12
        ∧ w.value = s.rn64 (R.LE_WR_VAL_LO e) ∧ w.task = x.task ∧ s.ptpNs + 50000 ≤ w.due)
      ∧ t.le.slot = s.le.slot ∧ t.g (F.LE_WR_RESULT_CODE e) = 1 ∧ s.Frame t [.le] [R.LE_WR_RESULT e])
  ∧ (∀ (s : State) (p : Fin 2) (e : Fin 4) (v : Word) (x : LoopSlot), s.mayWrite p (R.LE_WR_CMD e) = true →
    bits v.toNat 26 3 = 0 → bits v.toNat 0 12 < 32 → s.loop? (512 * e.val + bits v.toNat 16 9) = some x →
    completes (.loopRead p e v) s fun t =>
      t.rn64 (R.LE_WR_VAL_LO e) = x.present (bits v.toNat 0 12) % 2 ^ 64 ∧ t.g (F.LE_WR_RESULT_CODE e) = 2
      ∧ t.bit (R.LE_EVENT e) 6 = true
      ∧ s.Frame t Part.events [R.LE_WR_VAL_LO e, R.LE_WR_VAL_HI e, R.LE_WR_RESULT e, R.LE_EVENT e])
  ∧ (∀ (s : State) (p : Fin 2) (e : Fin 4) (w : LeWrite), s.mayWrite p (R.LE_WR_CMD e) = true →
    s.leWr e = some w → (s.synced = true → s.ptpNs + 10000 ≤ w.due) →
    completes (.loopCancel p e) s fun t =>
      t.leWr e = none ∧ t.le.slot = s.le.slot ∧ t.g (F.LE_WR_RESULT_CODE e) = 7
      ∧ s.Frame t (.le :: .out :: Part.counts) [R.LE_WR_RESULT e, R.PMON_HALF])
  ∧ (∀ (s : State) (p : Fin 2) (e : Fin 4) (w : LeWrite), s.mayWrite p (R.LE_WR_CMD e) = true →
    s.leWr e = some w → s.synced = true → w.due ≤ s.ptpNs →
    completes (.loopCancel p e) s fun t => t.leWr e = some w ∧ s.Frame t [] [])
  ∧ (∀ (s : State) (e : Fin 4) (w : LeWrite) (x y : LoopSlot), s.leWr e = some w → w.kind = 0 → w.persist = false →
    (s.task w.task).inCycle = false → s.loop? (512 * e.val + w.target) = some x →
    loopWrite x 0 w.index w.value = some y →
    completes (.loopWriteApply e) s fun t =>
      t.leWr e = none ∧ (w.atRelease = false → t.loop? (512 * e.val + w.target) = some y)
      ∧ (w.atRelease = true → ∃ z, t.loop? (512 * e.val + w.target) = some z ∧ z.due = []
        ∧ z.auto = (x.takeAll (x.due ++ [(w.index, w.value)])).auto
        ∧ ∀ k, tget z.par 0 k = tget (x.takeAll (x.due ++ [(w.index, w.value)])).par 0 k)
      ∧ (∀ j, j ≠ 512 * e.val + w.target → t.loop? j = s.loop? j)
      ∧ t.g (F.LE_WR_RESULT_CODE e) = 2 ∧ t.bit (R.LE_EVENT e) 6 = true
      ∧ s.Frame t (.clk :: .le :: Part.events) [R.LE_WR_RESULT e, R.LE_EVENT e])

/-- A memory is cleared, frozen or unfrozen; a trace is armed, triggered, ended, and its samples fetched. (R236, R238, R239) -/
def Obligations.MemoriesAndTracesCommanded : Prop :=
  (∀ (s : State) (p : Fin 2) (e : Fin 4) (m : Fin 64), s.mayWrite p (R.LE_MEM_CMD e) = true →
    let x := tget s.le.mem {} (64 * e.val + m.val)
    completes (.memClear p e m) s (fun t =>
      tget t.le.mem {} (64 * e.val + m.val)
        = { x with bins := [], sum := 0, count := 0, nsum := 0, ncount := 0, unsaved := [] }
      ∧ (tget t.le.saved {} (64 * e.val + m.val)).bins = [] ∧ t.le.slot = s.le.slot
      ∧ s.Frame t (.le :: .out :: Part.counts) [R.PMON_HALF])
    ∧ completes (.memFreeze p e m) s (fun t => tget t.le.mem {} (64 * e.val + m.val) = { x with frozen := true }
      ∧ t.le.slot = s.le.slot ∧ t.le.saved = s.le.saved ∧ s.Frame t (.le :: .out :: Part.counts) [R.PMON_HALF])
    ∧ completes (.memUnfreeze p e m) s (fun t => tget t.le.mem {} (64 * e.val + m.val) = { x with frozen := false }
      ∧ t.le.slot = s.le.slot ∧ t.le.saved = s.le.saved ∧ s.Frame t (.le :: .out :: Part.counts) [R.PMON_HALF]))
  ∧ (∀ (s : State) (p : Fin 2) (e b : Fin 4), s.mayWrite p (R.LE_TR_CMD e b) = true →
    (s.loop? (512 * e.val + s.traceSlot e b)).isSome = true →
    let held := fun (n : Nat) (t : State) =>
      t.trace e b = { s.trace e b with cmds := (s.trace e b).cmds ++ [(n, s.traceFetching e b)] }
      ∧ (∀ c : Fin 4, c ≠ b → t.trace e c = s.trace e c) ∧ t.le.slot = s.le.slot ∧ s.Frame t [.le] []
    completes (.traceArm p e b) s (held 1) ∧ completes (.traceTrigger p e b) s (held 2)
    ∧ completes (.traceAbort p e b) s (held 3))
  ∧ (∀ (s : State) (e b : Fin 4), (s.trace e b).captures = false → 1 ≤ s.g (F.LE_TR_CFG_NNODES e b) →
    s.g (F.LE_TR_CFG_NNODES e b) ≤ 8 → (∀ k ∈ s.traceNodes e b, k ≠ 28) →
    (s.loop? (512 * e.val + s.g (F.LE_TR_CFG_SLOT e b))).isSome = true →
    let t := s.traceDo e b 1
    t.trace e b = { st := .armed, cfg := s.rn (R.LE_TR_CFG e b), cmds := (s.trace e b).cmds }
      ∧ t.rd (R.LE_TR_GAPS e b) = 0#32 ∧ (∀ c : Fin 4, c ≠ b → t.trace e c = s.trace e c)
      ∧ s.Frame t [.le] [R.LE_TR_GAPS e b])
  ∧ (∀ (s : State) (e b : Fin 4), (s.trace e b).st = .armed →
    (s.traceDo e b 2).trace e b = { s.trace e b with force := true } ∧ s.Frame (s.traceDo e b 2) [.le] []
    ∧ ((s.traceDo e b 3).trace e b).st = .idle ∧ ((s.traceDo e b 3).trace e b).samples = []
    ∧ s.Frame (s.traceDo e b 3) [.le] [])
  ∧ (∀ (s : State) (e b : Fin 4), (s.trace e b).st = .triggered →
    (s.traceDo e b 3).trace e b = { s.trace e b with st := .done } ∧ (s.traceDo e b 3).bit (R.LE_EVENT e) 5 = true
      ∧ s.Frame (s.traceDo e b 3) (.le :: Part.events) [R.LE_EVENT e])
  ∧ (∀ (s : State) (r : OpRef) (b : HostBuf) (o : Op), s.ready r 0x30 o →
    (s.trace (o.entry.arg0 / 4) (o.entry.arg0 % 4)).st = .done → writeStatus o.entry b = 0 →
    completes (.traceFetch r b) s fun t =>
      let l := ((s.trace (o.entry.arg0 / 4) (o.entry.arg0 % 4)).samples.drop o.entry.arg1).take o.entry.arg2
      t.answered r 0 (fun c => c.result = l.length % 2 ^ 64)
      ∧ s.delivered t r o.entry b (l.flatMap traceBytes) ∧ t.le.slot = s.le.slot
      ∧ ((∀ c ∈ (s.trace (o.entry.arg0 / 4) (o.entry.arg0 % 4)).cmds, c.2 = false) → s.Frame t [Part.port r.port, .out] [])
      ∧ s.Frame t (Part.port r.port :: .out :: .le :: .page (0x40 + o.entry.arg0 / 4) :: Part.events) [])

/-- A loop island changes mode only through OFF, and shows its measurements, COMPLY, HEADROOM, OPEN and THERMAL. (R244, R247, R251, R253, R254, R259, R262, R263) -/
def Obligations.IslandsMeasuredAndConfigured : Prop :=
  (∀ (s : State) (p : Fin 2) (n : Fin 24) (v : Word), s.mayWrite p (R.LI_CFG n) = true →
    let off : Nat → Prop := fun m => m % 4 = 0 ∨ m % 4 = 3
    let old := s.rn (R.LI_CFG n)
    let x := s.isl n
    completes (.islandCfgWrite p n v) s fun t =>
      (bits v.toNat 0 3 ≠ bits old 0 3 → ¬ off old → ¬ off v.toNat →
        bits (t.rn (R.LI_CFG n)) 0 3 = bits old 0 3 ∧ t.bit (R.LI_EVENT n) 8 = true ∧ t.fio = s.fio)
      ∧ (bits v.toNat 0 3 = bits old 0 3 ∨ off old ∨ off v.toNat → bits (t.rn (R.LI_CFG n)) 0 3 = bits v.toNat 0 3)
      ∧ bits (t.rn (R.LI_CFG n)) 3 3 = bits v.toNat 3 3
      ∧ bits (t.rn (R.LI_CFG n)) 8 5 = clampN 10 30 (bits v.toNat 8 5)
      ∧ (x.link = true → off old → ¬ off v.toNat →
          (t.isl n).st = (if s.actsOwn x.own x.peer then .driving else .standby) ∧ (t.isl n).code = none)
      ∧ (x.link = true → ¬ off old → off v.toNat → (t.isl n).st = .off ∧ t.islTarget n = 0)
      ∧ s.islandOnly t n ∧ s.Frame t (.fio :: Part.events) [R.LI_CFG n, R.LI_STATUS n, R.LI_EVENT n])
  ∧ (∀ (s : State) (n : Fin 24) (low : Bool) (m : IslMeas), (s.isl n).link = true →
    completes (.headroom n low m) s fun t =>
      s.measured t n m ∧ (low = false → t.g (F.LI_STATUS_HEADROOM n) = 0)
      ∧ (low = true → s.islCarries n = true → 2 ≤ s.islClock n → s.g (F.LI_STATUS_OPEN n) = 0 →
          t.g (F.LI_STATUS_HEADROOM n) = 1 ∧ (s.g (F.LI_STATUS_HEADROOM n) = 0 → t.bit (R.LI_EVENT n) 9 = true))
      ∧ t.fio = (s.measure n m).fio ∧ s.Frame t (.fio :: Part.events) [R.LI_MEAS n, R.LI_VOLT n, R.LI_TEMP n, R.LI_STATUS n, R.LI_EVENT n])
  ∧ (∀ (s : State) (n : Fin 24) (m : IslMeas), (s.isl n).link = true → s.islCarries n = true → 2 ≤ s.islClock n →
    s.g (F.LI_STATUS_OPEN n) = 0 → s.g (F.LI_STATUS_COMPLY n) = 0 →
    completes (.comply n true m) s fun t =>
      s.measured t n m ∧ t.g (F.LI_STATUS_COMPLY n) = 1 ∧ (t.isl n).short = some (m.primary % 2 ^ 16) ∧ t.bit (R.LI_EVENT n) 1 = true
      ∧ t.g (F.LI_FAULTS_COMPLY n) = min (s.g (F.LI_FAULTS_COMPLY n) + 1) (2 ^ (F.LI_FAULTS_COMPLY n).w - 1)
      ∧ (s.g (F.LI_COMPLY_COMPLY_TIME_MS n) = 0 → s.g (F.LI_CFG_COMPLY_LOW n) = 1 → t.g (F.LI_STATUS_FALLBACK n) = 1)
      ∧ (s.g (F.LI_COMPLY_COMPLY_TIME_MS n) ≠ 0 → t.g (F.LI_STATUS_FALLBACK n) = s.g (F.LI_STATUS_FALLBACK n))
      ∧ s.islandOnly t n ∧ s.Frame t (.fio :: Part.events) [R.LI_MEAS n, R.LI_VOLT n, R.LI_TEMP n, R.LI_STATUS n, R.LI_EVENT n, R.LI_FAULTS n])
  ∧ (∀ (s : State) (n : Fin 24) (m : IslMeas), (s.isl n).link = true → s.g (F.LI_STATUS_OPEN n) = 0 →
    completes (.comply n false m) s fun t =>
      s.measured t n m ∧ t.g (F.LI_STATUS_COMPLY n) = 0 ∧ (t.isl n).short = none
      ∧ s.islandOnly t n ∧ s.Frame t [.fio] [R.LI_MEAS n, R.LI_VOLT n, R.LI_TEMP n, R.LI_STATUS n])
  ∧ (∀ (s : State) (n : Fin 24) (m : IslMeas), (s.isl n).link = true → s.islCarries n = true →
    2 ≤ s.islClockAt n (s.islTarget n) → s.g (F.LI_STATUS_OPEN n) = 0 →
    (s.islMode n = 1 → almLow ≤ s.islTarget n) →
    completes (.openLoop n true m) s fun t =>
      s.measured t n m ∧ t.g (F.LI_STATUS_OPEN n) = 1 ∧ t.bit (R.LI_EVENT n) 0 = true
      ∧ t.g (F.LI_STATUS_COMPLY n) = 0 ∧ t.g (F.LI_STATUS_HEADROOM n) = 0
      ∧ t.g (F.LI_FAULTS_OPEN n) = min (s.g (F.LI_FAULTS_OPEN n) + 1) (2 ^ (F.LI_FAULTS_OPEN n).w - 1)
      ∧ s.islandOnly t n ∧ s.Frame t (.fio :: Part.events) [R.LI_MEAS n, R.LI_VOLT n, R.LI_TEMP n, R.LI_STATUS n, R.LI_EVENT n, R.LI_FAULTS n])
  ∧ (∀ (s : State) (n : Fin 24) (m : IslMeas), (s.isl n).link = true →
    completes (.openLoop n false m) s fun t =>
      s.measured t n m ∧ t.g (F.LI_STATUS_OPEN n) = 0 ∧ (t.isl n).short = none
      ∧ s.islandOnly t n ∧ s.Frame t [.fio] [R.LI_MEAS n, R.LI_VOLT n, R.LI_TEMP n, R.LI_STATUS n])
  ∧ (∀ (s : State) (n : Fin 24) (m : IslMeas), (s.isl n).link = true → s.g (F.LI_CFG_PROT n) = 1 →
    s.islCarries n = true → 1400 < m.stage →
    completes (.thermal n m) s fun t =>
      s.measured t n m ∧ t.g (F.LI_STATUS_THERMAL n) = 1
      ∧ (t.isl n) = { (s.measure n m).isl n with
          hot := true, derate := min (s.islTarget n) ((s.isl n).derate + 1000) }
      ∧ (s.g (F.LI_STATUS_THERMAL n) = 0 → t.bit (R.LI_EVENT n) 3 = true) ∧ s.islandOnly t n
      ∧ s.Frame t (.fio :: Part.events)
          [R.LI_MEAS n, R.LI_VOLT n, R.LI_TEMP n, R.LI_STATUS n, R.LI_EVENT n, R.LI_FAULTS n])
  ∧ (∀ (s : State) (n : Fin 24) (m : IslMeas), (s.isl n).link = true → m.stage ≤ 1300 →
    completes (.thermal n m) s fun t =>
      s.measured t n m ∧ t.g (F.LI_STATUS_THERMAL n) = 0
      ∧ (t.isl n) = { (s.measure n m).isl n with hot := false, derate := (s.isl n).derate - 1000 } ∧ s.islandOnly t n
      ∧ s.Frame t [.fio] [R.LI_MEAS n, R.LI_VOLT n, R.LI_TEMP n, R.LI_STATUS n])

/-- Compliance fallback drives 3.4 mA, latched faults need a clean recheck, and the release lines hand a loop over in 1 ms. (R246, R249, R252, R257, R258, R259) -/
def Obligations.IslandsFallBackLatchAndHandOver : Prop :=
  (∀ (s : State) (n : Fin 24), (s.isl n).link = true → s.g (F.LI_STATUS_COMPLY n) = 1 → s.g (F.LI_CFG_COMPLY_LOW n) = 1 →
    s.g (F.LI_STATUS_OPEN n) = 0 →
    completes (.fallback n) s fun t =>
      t.g (F.LI_STATUS_FALLBACK n) = 1
      ∧ (s.g (F.LI_STATUS_FALLBACK n) = 0 → t.bit (R.LI_EVENT n) 2 = true)
      ∧ ((s.isl n).st = .driving → s.ramping n = false → s.islMode n ≠ 0 → s.g (F.LI_STATUS_RETRYING n) = 0 →
          t.islTarget n = 6800)
      ∧ s.Frame t Part.events [R.LI_STATUS n, R.LI_EVENT n])
  ∧ (∀ (s : State) (n : Fin 24), (s.isl n).link = true → s.g (F.LI_COMPLY_RETRY_S n) ≠ 0 → s.g (F.LI_STATUS_FALLBACK n) = 1 →
    completes (.islandTimedRetry n) s fun t => t.g (F.LI_STATUS_RETRYING n) = 1 ∧ s.Frame t [] [R.LI_STATUS n])
  ∧ (∀ (s : State) (p : Fin 2) (n : Fin 24), s.mayWrite p (R.LI_CMD n) = true → (s.isl n).link = true →
    s.g (F.LI_STATUS_FALLBACK n) = 1 →
    completes (.islandRetry p n) s fun t => t.g (F.LI_STATUS_RETRYING n) = 1 ∧ s.Frame t [] [R.LI_STATUS n])
  ∧ (∀ (s : State) (n : Fin 24) (good : Bool), (s.isl n).link = true → s.g (F.LI_STATUS_RETRYING n) = 1 →
    completes (.retryWindowEnd n good) s fun t =>
      t.g (F.LI_STATUS_RETRYING n) = 0
      ∧ t.g (F.LI_STATUS_FALLBACK n) = (if good then 0 else s.g (F.LI_STATUS_FALLBACK n))
      ∧ t.g (F.LI_STATUS_COMPLY n) = (if good then 0 else s.g (F.LI_STATUS_COMPLY n))
      ∧ (t.isl n) = { s.isl n with short := if good then none else (s.isl n).short } ∧ s.islandOnly t n
      ∧ s.Frame t [.fio] [R.LI_STATUS n])
  ∧ (∀ (s : State) (n : Fin 24) (m : IslMeas), s.liWatches n = true →
    s.g (F.LI_STATUS_SENSE_FAULT n) = 0 →
    completes (.senseFault n m) s fun t =>
      s.measured t n m ∧ t.g (F.LI_STATUS_SENSE_FAULT n) = 1 ∧ t.bit (R.LI_EVENT n) 4 = true ∧ s.recorded t 1
      ∧ t.reports = s.reports ++ [⟨11, 8 + n.val / 8, n, 0⟩]
      ∧ t.g (F.LI_FAULTS_SENSE n) = min (s.g (F.LI_FAULTS_SENSE n) + 1) (2 ^ (F.LI_FAULTS_SENSE n).w - 1)
      ∧ t.fio = (s.measure n m).fio ∧ s.Frame t (.fio :: .reports :: Part.records) [R.LI_MEAS n, R.LI_VOLT n, R.LI_TEMP n, R.LI_STATUS n, R.LI_EVENT n,
          R.LI_FAULTS n, R.LOG_EVENT, R.PMON_HALF])
  ∧ (∀ (s : State) (n : Fin 24) (m : IslMeas), s.liWatches n = true →
    s.g (F.LI_STATUS_OPEN n) = 0 → s.g (F.LI_STATUS_STAGE_FAULT n) = 0 →
    completes (.stageFault n m) s fun t =>
      s.measured t n m ∧ t.g (F.LI_STATUS_STAGE_FAULT n) = 1 ∧ t.bit (R.LI_EVENT n) 5 = true ∧ s.recorded t 1
      ∧ t.reports = s.reports ++ [⟨11, 8 + n.val / 8, n, 0⟩]
      ∧ t.fio = (s.measure n m).fio ∧ s.Frame t (.fio :: .reports :: Part.records) [R.LI_MEAS n, R.LI_VOLT n, R.LI_TEMP n, R.LI_STATUS n, R.LI_EVENT n,
          R.LI_FAULTS n, R.LOG_EVENT, R.PMON_HALF])
  ∧ (∀ (s : State) (p : Fin 2) (n : Fin 24), s.mayWrite p (R.LI_CMD n) = true → (s.isl n).link = true →
    (s.g (F.LI_STATUS_SENSE_FAULT n) = 1 ∨ s.g (F.LI_STATUS_STAGE_FAULT n) = 1) →
    completes (.islandClear p n) s fun t =>
      (s.islCarries n = true → (t.isl n) = { s.isl n with recheck := true }
        ∧ t.rd (R.LI_STATUS n) = s.rd (R.LI_STATUS n))
      ∧ (s.islCarries n = false → t.g (F.LI_STATUS_SENSE_FAULT n) = 0 ∧ t.g (F.LI_STATUS_STAGE_FAULT n) = 0
        ∧ t.fio = s.fio)
      ∧ s.islandOnly t n ∧ s.Frame t [.fio] [R.LI_STATUS n])
  ∧ (∀ (s : State) (n : Fin 24) (sense stage : Bool) (m : IslMeas), (s.isl n).link = true → (s.isl n).recheck = true →
    completes (.recheckEnd n sense stage m) s fun t =>
      s.measured t n m ∧ (t.isl n) = { (s.measure n m).isl n with recheck := false }
      ∧ (sense = true → t.g (F.LI_STATUS_SENSE_FAULT n) = 1) ∧ (stage = true → t.g (F.LI_STATUS_STAGE_FAULT n) = 1)
      ∧ (sense = false → stage = false →
          t.g (F.LI_STATUS_SENSE_FAULT n) = 0 ∧ t.g (F.LI_STATUS_STAGE_FAULT n) = 0 ∧ t.reports = s.reports)
      ∧ (sense = true ∨ stage = true → s.recorded t (b2n sense + b2n stage)) ∧ s.islandOnly t n
      ∧ s.Frame t (.fio :: .reports :: Part.records) [R.LI_MEAS n, R.LI_VOLT n, R.LI_TEMP n, R.LI_STATUS n,
          R.LI_EVENT n, R.LI_FAULTS n, R.LOG_EVENT, R.PMON_HALF])
  ∧ (∀ (s : State) (n : Fin 24), (s.isl n).link = true →
    completes (.linkLost n) s fun t =>
      (t.isl n).link = false ∧ t.bit (R.LI_EVENT n) 6 = true
      ∧ (t.isl n).st = (if (s.isl n).st = .driving then (if s.dpx.fitted then .autonomous else .off) else (s.isl n).st)
      ∧ t.islDriven n = s.islDriven n
      ∧ s.islandOnly t n ∧ s.Frame t (.fio :: Part.events) [R.LI_EVENT n])
  ∧ (∀ (s : State) (n : Fin 24), (s.isl n).link = false → bits (s.isl n).cfg 0 3 = bits (s.rn (R.LI_CFG n)) 0 3 → s.pwr.railsOff = false → s.pwr.domainsUp = true →
    completes (.islandLinkReturn n) s fun t =>
      (t.isl n) = { s.isl n with
        link := true, measNs := none
        st := if (s.isl n).st = .autonomous ∧ s.actsOwn (s.isl n).own (s.isl n).peer then .driving else (s.isl n).st }
      ∧ s.islandOnly t n ∧ s.Frame t [.fio] [R.LI_STATUS n])
  ∧ (∀ (s : State) (n : Fin 24),
    let x := s.isl n
    let own := s.dpx.releaseOut
    let peer := s.g F.DPX_STATUS_RELEASE_IN == 1
    completes (.islandReleaseEdge n) s fun t =>
      (t.isl n).own = own ∧ (t.isl n).peer = peer
      ∧ (x.st = .standby → s.actsOwn own peer = true → s.actsOwn x.own x.peer = false →
          (t.isl n).st = .yieldIn ∧ ∃ d, (t.isl n).ramp = some ⟨s.islApplied n, d, s.clk.upNs, 1000000⟩)
      ∧ (x.st = .driving → peer = true → x.peer = false → s.actsOwn own peer = false →
          (t.isl n).st = .yieldOut ∧ (t.isl n).ramp = some ⟨s.islApplied n, 0, s.clk.upNs, 1000000⟩)
      ∧ (x.st = .autonomous → peer = true → x.peer = false → (t.isl n).st = .yieldOut)
      ∧ (x.st = .yieldOut → x.peer = true → peer = false → x.link = true → (t.isl n).st = .driving)
      ∧ (x.st = .off → (t.isl n).st = .off)
      ∧ s.islandOnly t n ∧ s.Frame t [.fio] [])
  ∧ (∀ (s : State) (n : Fin 24), s.pwr.railsOff = false → s.pwr.domainsUp = true →
    ((s.isl n).st = .yieldOut ∨ (s.isl n).st = .yieldIn ∧ (s.isl n).link = true) →
    completes (.handoverDone n) s fun t =>
      (t.isl n).st = (if (s.isl n).st = .yieldOut then .standby else .driving) ∧ (t.isl n).ramp = none
      ∧ (t.isl n).code = (s.isl n).code ∧ (t.isl n).link = (s.isl n).link
      ∧ (∀ r, (s.isl n).ramp = some r → r.startNs + r.durNs ≤ t.clk.upNs)
      ∧ t.rd (R.LI_HANDOVERS n) = s.rd (R.LI_HANDOVERS n) + 1#32 ∧ t.bit (R.LI_EVENT n) 7 = true
      ∧ s.islandOnly t n ∧ s.Frame t (.clk :: .fio :: Part.events) [R.LI_HANDOVERS n, R.LI_EVENT n])
  ∧ (∀ (s : State) (n : Fin 24), s.islCarries n = true → (s.isl n).link = false →
    completes (.storeSpent n) s fun t =>
      (t.isl n).st = .off ∧ t.islTarget n = 0 ∧ s.islandOnly t n ∧ s.Frame t [.fio] [])

/-- A conversion writes its channel's slots or shows its fault, and output drivers follow committed state but for shorts. (R264, R265, R266, R267, R268, R269, R270, R271) -/
def Obligations.InputsConvertedAndOutputsProtected : Prop :=
  (∀ (s : State) (n : Fin 32) (m : UiMeas), s.isMotor = true → s.pwr.domainsUp = true → s.phase ≠ 7 →
    let e := s.uiEnd n
    let typ := s.uiTypeAt n e
    let u := s.uiFor n typ e
    let x := s.uiMeas n typ m
    let fault := uiFault typ (s.g (F.UI_CFG_LIVE_ZERO n) == 1) u.shuntOff x
    1 ≤ typ → s.fio.uiFrom + uiOff n ≤ e → (s.fieldSlots 0x10 n).Nodup →
    let ok : Slot → Bool := fun x => x.typ == (if typ = 5 then 0 else 3)
    completes (.uiConversion n m) s fun t =>
      t.g (F.UI_RAW_CODE n) = m.code % 2 ^ 16 ∧ t.g (F.UI_STAT_CONDITIONS n) = 2 ^ fault
      ∧ t.bit R.UI_FAULTY n = decide (fault ≠ 0)
      ∧ (fault ≠ 0 → s.bit R.UI_FAULTY n = false → t.bit R.UI_EVENT n = true
          ∧ t.g (F.UI_STAT_FAULTS n) = min (s.g (F.UI_STAT_FAULTS n) + 1) (2 ^ (F.UI_STAT_FAULTS n).w - 1))
      ∧ (fault = 4 → (t.ui n).shuntOff = true)
      ∧ (fault = 0 → typ ≠ 5 → s.g (F.UI_CFG_FILT n) = 0 → s.channelWritten t 0x10 n ok 1 (fun _ => some x.x))
      ∧ (fault = 0 → typ = 5 → s.channelWritten t 0x10 n ok 1
          (fun _ => some (b2n ((t.ui n).contact.getD false != (s.g (F.UI_CFG_INVERT n) == 1)))))
      ∧ (fault = 1 ∨ fault = 2 ∨ fault = 4 → s.channelWritten t 0x10 n ok 6 (fun _ => u.good))
      ∧ (fault = 0 → (t.ui n).good = some ((t.ui n).value (s.g (F.UI_CFG_INVERT n) == 1)))
      ∧ s.Frame t (.clk :: .fio :: .out :: Part.slots) [R.UI_RAW n, R.UI_STAT n, R.UI_FAULTY, R.UI_EVENT, R.PMON_HALF])
  ∧ (∀ (s : State) (n : Fin 32), completes (.uiShuntRetry n) s fun t =>
      t.ui n = { s.ui n with shuntOff := false } ∧ (∀ k, k ≠ n.val → t.ui k = s.ui k)
      ∧ { t.fio with ui := s.fio.ui } = s.fio ∧ s.Frame t [.fio] [])
  ∧ (∀ (s : State) (p : Fin 2) (v : Word), s.mayWrite p R.DO_EN = true →
    completes (.doEnWrite p v) s fun t =>
      t.rn R.DO_EN = v.toNat % 2 ^ 24
      ∧ (∀ k < 24, (natBit v.toNat k = false → s.bit R.DO_EN k = true → natBit t.fio.dout.on k = false)
          ∧ (natBit v.toNat k = true → s.bit R.DO_EN k = false → s.doOwn = true →
              natBit t.fio.dout.on k = (s.bit R.DO_STATE k && (!s.bit R.DO_SHORT k || natBit s.fio.dout.retried k)))
          ∧ (natBit v.toNat k = s.bit R.DO_EN k → natBit t.fio.dout.on k = natBit s.fio.dout.on k))
      ∧ s.outsOnly t ∧ s.Frame t [.fio] [R.DO_EN, R.DO_READBACK])
  ∧ (∀ (s : State) (n : Fin 24), natBit s.fio.dout.on n = true →
    completes (.doShort n) s fun t =>
      natBit t.fio.dout.on n = false ∧ (∀ k, k ≠ n.val → natBit t.fio.dout.on k = natBit s.fio.dout.on k)
      ∧ t.bit R.DO_SHORT n = true ∧ t.bit R.DO_EVENT 0 = true ∧ s.recorded t 1 ∧ s.outsOnly t
      ∧ s.Frame t (.fio :: Part.records) [R.DO_READBACK, R.DO_SHORT, R.DO_EVENT, R.LOG_EVENT, R.PMON_HALF])
  ∧ (∀ (s : State) (p : Fin 2) (v : Word), s.mayWrite p R.DO_CMD = true →
    completes (.doShortClear p v) s fun t =>
      (∀ k < 24, t.bit R.DO_SHORT k = (s.bit R.DO_SHORT k && !natBit v.toNat k)
        ∧ natBit t.fio.dout.on k = (if s.bit R.DO_SHORT k && natBit v.toNat k && s.doOwn then
            s.bit R.DO_STATE k && s.bit R.DO_EN k else natBit s.fio.dout.on k))
      ∧ s.outsOnly t ∧ s.Frame t [.fio] [R.DO_SHORT, R.DO_READBACK])
  ∧ (∀ (s : State) (n : Fin 24), s.g F.DO_CTL_AUTO_RETRY = 1 → s.bit R.DO_SHORT n = true → s.doOwn = true →
    completes (.doAutoRetry n) s fun t =>
      natBit t.fio.dout.on n = (s.bit R.DO_STATE n && s.bit R.DO_EN n)
      ∧ (∀ k, k ≠ n.val → natBit t.fio.dout.on k = natBit s.fio.dout.on k)
      ∧ natBit t.fio.dout.retried n = true ∧ s.outsOnly t ∧ s.Frame t [.fio] [R.DO_READBACK])
  ∧ (∀ (s : State) (n : Fin 24), natBit s.fio.dout.on n = true → s.bit R.DO_OPEN n = false →
    completes (.openLoad n true) s fun t =>
      t.bit R.DO_OPEN n = true ∧ t.bit R.DO_EVENT 1 = true ∧ s.Frame t Part.events [R.DO_OPEN, R.DO_EVENT])
  ∧ (∀ (s : State) (n : Fin 24), completes (.openLoad n false) s fun t =>
      t.bit R.DO_OPEN n = false ∧ (∀ k, k ≠ n.val → t.bit R.DO_OPEN k = s.bit R.DO_OPEN k) ∧ s.Frame t [] [R.DO_OPEN])
  ∧ (∀ (s : State) (v0 v1 : Fin 65536), completes (.vsLow v0 v1) s fun t =>
      t.rn R.DO_VS = v0.val + 65536 * v1.val ∧ (v0.val < 1600 ∨ v1.val < 1600 → t.bit R.DO_EVENT 2 = true)
      ∧ s.Frame t Part.events [R.DO_VS, R.DO_EVENT])
  ∧ (∀ (s : State) (n : Fin 24) (high : Bool), s.bit R.DO_SHORT n = false → natBit s.fio.dout.on n = !high →
    completes (.stuck n high) s fun t =>
      t.bit R.DO_READBACK n = high ∧ t.bit R.DO_EVENT 3 = true ∧ s.recorded t 1
      ∧ natBit t.fio.dout.stuck n = true ∧ t.fio.dout.on = s.fio.dout.on ∧ s.outsOnly t ∧ s.Frame t (.fio :: Part.records) [R.DO_READBACK, R.DO_EVENT, R.LOG_EVENT, R.PMON_HALF])
  ∧ (∀ s : State,
    let is := s.actsOwn s.dpx.releaseOut (s.g F.DPX_STATUS_RELEASE_IN == 1)
    completes .doReleaseEdge s fun t =>
      t.fio.dout.own = s.dpx.releaseOut ∧ t.fio.dout.peer = (s.g F.DPX_STATUS_RELEASE_IN == 1)
      ∧ (is = true → s.doOwn = false → t.fio.dout.on = s.doWanted ∧ t.fio.dout.hold = false)
      ∧ (is = false → s.fio.dout.peer = false → s.g F.DPX_STATUS_RELEASE_IN = 1 →
          t.fio.dout.hold = true ∧ t.fio.dout.on = s.fio.dout.on)
      ∧ s.outsOnly t ∧ s.Frame t [.fio] [R.DO_READBACK])
  ∧ (∀ s : State, s.fio.dout.hold = true →
    completes .doYieldHoldEnd s fun t =>
      t.fio.dout.on = 0 ∧ t.fio.dout.hold = false ∧ t.rn R.DO_READBACK = t.fio.dout.stuck ∧ s.outsOnly t
      ∧ s.Frame t [.fio] [R.DO_READBACK])

/-- A DALI master sends pending levels, polls bound addresses, and answers raw frames, bus failures and takeovers. (R272, R273, R274, R275, R282) -/
def Obligations.DaliMastersTransmitAndPoll : Prop :=
  (∀ (s : State) (n : Fin 4) (d l : Nat), s.daliFree n = true → (s.dali n).due = false →
    (s.dali n).nextLevel = some (d, l) →
    completes (.daliLevelSend n) s fun t =>
      t.dali n = { s.dali n with
        pend := tset (s.dali n).pend none d none, sent := tset (s.dali n).sent none d (some l), tx := some (.level d l) }
      ∧ t.out = s.out ++ [.dali n false (dapcFrame d l)] ∧ s.daliOnly t n ∧ s.Frame t (.fio :: .out :: Part.counts) [R.DALI_STATUS n, R.PMON_HALF])
  ∧ (∀ (s : State) (n : Fin 4), s.daliFree n = true → s.daliBound n ≠ [] →
    completes (.daliPoll n) s fun t =>
      (∃ a ∈ s.daliBound n, t.dali n = { s.dali n with last := a, tx := some (.poll a false) }
        ∧ t.out = s.out ++ [.dali n false (queryFrame a)])
      ∧ s.daliOnly t n ∧ s.Frame t (.fio :: .out :: Part.counts) [R.DALI_STATUS n, R.PMON_HALF])
  ∧ (∀ (s : State) (n : Fin 4) (a frame : Nat), s.g (F.DALI_CTL_ENABLE n) = 1 → s.g (F.DALI_STATUS_BUS_DOWN n) = 0 →
    s.isMotor = true → (s.fieldSlots (0x20 + n) (64 + a % 64)).Nodup →
    completes (.daliFrameReceive n (.event a frame)) s fun t =>
      s.channelWritten t (0x20 + n) (64 + a % 64) (fun x => x.typ == 1) 1 (fun _ => some (frame % 2 ^ 24))
      ∧ s.Frame t (.out :: Part.slots) [R.PMON_HALF])
  ∧ (∀ (s : State) (n : Fin 4) (a b : Nat), s.g (F.DALI_CTL_ENABLE n) = 1 → s.g (F.DALI_STATUS_BUS_DOWN n) = 0 →
    (s.dali n).tx = some (.poll a false) → (s.fieldSlots (0x20 + n) a).Nodup →
    completes (.daliFrameReceive n (.answer b)) s fun t =>
      t.dali n = { s.dali n with tx := some (.poll a true), miss := tset (s.dali n).miss 0 a 0 }
      ∧ s.channelWritten t (0x20 + n) a (fun x => x.typ == 1) (if b % 256 = 255 then 6 else 1)
          (fun _ => if b % 256 = 255 then none else some (b % 256))
      ∧ s.daliOnly t n ∧ s.Frame t (.fio :: .out :: Part.slots) [R.DALI_STATUS n, R.PMON_HALF])
  ∧ (∀ (s : State) (n : Fin 4) (b : Nat) (r : DaliRaw), s.g (F.DALI_CTL_ENABLE n) = 1 →
    s.g (F.DALI_STATUS_BUS_DOWN n) = 0 → (s.dali n).tx = some (.raw false) → (s.dali n).raw = some r → r.expect = true →
    completes (.daliFrameReceive n (.answer b)) s fun t =>
      t.g (F.DALI_RAW_RX_RESULT n) = 2 ∧ t.g (F.DALI_RAW_RX_ANSWER n) = b % 256 ∧ t.bit (R.DALI_EVENT n) 2 = true
      ∧ (t.dali n).raw = none ∧ s.daliOnly t n
      ∧ s.Frame t (.fio :: Part.events) [R.DALI_STATUS n, R.DALI_RAW_RX n, R.DALI_EVENT n])
  ∧ (∀ (s : State) (n : Fin 4) (e : DaliEnd) (coll d l : Nat), (s.dali n).tx = some (.level d l) → (s.dali n).raw = none →
    completes (.daliFrameDone n e coll) s fun t =>
      (t.dali n).tx = none ∧ t.rd (R.DALI_COLLISIONS n) = s.rd (R.DALI_COLLISIONS n) + BitVec.ofNat 32 coll
      ∧ (t.dali n).pend = (if e = .collisionLimit ∧ tget (s.dali n).pend none d = none then
          tset (s.dali n).pend none d (some l) else (s.dali n).pend)
      ∧ s.daliOnly t n ∧ s.Frame t [.fio] [R.DALI_COLLISIONS n, R.DALI_STATUS n])
  ∧ (∀ (s : State) (n : Fin 4) (e : DaliEnd) (a : Nat), (s.dali n).tx = some (.poll a false) → (s.dali n).raw = none →
    (s.fieldSlots (0x20 + n) a).Nodup → 1 ≤ tget (s.dali n).miss 0 a →
    completes (.daliFrameDone n e 0) s fun t =>
      (t.dali n).tx = none ∧ t.rd (R.DALI_NOANSWER n) = s.rd (R.DALI_NOANSWER n) + 1#32
      ∧ s.channelWritten t (0x20 + n) a (fun x => x.typ == 1) 5 (fun _ => none)
      ∧ s.daliOnly t n ∧ s.Frame t (.fio :: .out :: Part.slots) [R.DALI_NOANSWER n, R.DALI_STATUS n, R.PMON_HALF])
  ∧ (∀ (s : State) (n : Fin 4) (e : DaliEnd) (r : DaliRaw), (s.dali n).tx = some (.raw false) → (s.dali n).raw = some r →
    completes (.daliFrameDone n e 0) s fun t =>
      t.g (F.DALI_RAW_RX_RESULT n) = (if e = .collisionLimit then 4 else if r.expect then 3 else 1)
      ∧ (t.dali n).tx = none ∧ (t.dali n).raw = none ∧ s.daliOnly t n
      ∧ s.Frame t (.fio :: Part.events) [R.DALI_NOANSWER n, R.DALI_STATUS n, R.DALI_RAW_RX n, R.DALI_EVENT n])
  ∧ (∀ (s : State) (n : Fin 4), (s.dali n).raw.isSome = true → (s.dali n).tx ≠ some (.raw false) →
    completes (.daliRawWaitExpire n) s fun t =>
      (s.daliFree n = true → (t.dali n).tx = some (.raw false)) ∧ (s.daliFree n = false → (t.dali n).due = true)
      ∧ (t.dali n).raw = (s.dali n).raw ∧ s.daliOnly t n
      ∧ s.Frame t (.fio :: .out :: Part.counts) [R.DALI_STATUS n, R.PMON_HALF])
  ∧ (∀ (s : State) (p : Fin 2) (n : Fin 4) (v : Word), s.mayWrite p (R.DALI_RAW_TX n) = true →
    (s.dali n).raw = none → bits v.toNat 28 2 < 2 →
    completes (.daliRawSend p n v) s fun t =>
      t.rn (R.DALI_RAW_TX n) = setBits v.toNat 31 1 1
      ∧ (t.dali n).raw = some ⟨natBit v.toNat 28, natBit v.toNat 30, bits v.toNat 0 24⟩
      ∧ s.daliOnly t n ∧ s.Frame t (.fio :: .out :: Part.counts) [R.DALI_RAW_TX n, R.DALI_STATUS n, R.PMON_HALF])
  ∧ (∀ (s : State) (p : Fin 2) (n : Fin 4) (v : Word), s.mayWrite p (R.DALI_RAW_TX n) = true →
    (s.dali n).raw.isSome = true →
    completes (.daliRawSend p n v) s fun t => t.g (F.DALI_RAW_RX_RESULT n) = 5 ∧ s.Frame t [] [R.DALI_RAW_RX n])
  ∧ (∀ (s : State) (n : Fin 4), s.g (F.DALI_STATUS_BUS_DOWN n) = 0 →
    completes (.daliBusDown n) s fun t =>
      t.g (F.DALI_STATUS_BUS_DOWN n) = 1 ∧ t.bit (R.DALI_EVENT n) 0 = true
      ∧ (t.dali n).tx = none ∧ (t.dali n).raw = none ∧ (t.dali n).pend = (s.dali n).pend
      ∧ ((s.dali n).raw.isSome = true → t.g (F.DALI_RAW_RX_RESULT n) = 6)
      ∧ (s.isMotor = true → ∀ c < 128, ∀ i ∈ s.fieldSlots (0x20 + n) c, (s.slot i).forced = false →
          (s.slot i).typ = 1 → (t.slot i).quality = 5 ∧ (t.slot i).value = (s.slot i).value)
      ∧ (s.isMotor = false → t.pix = s.pix)
      ∧ s.daliOnly t n
      ∧ s.Frame t (.fio :: .out :: Part.slots) [R.DALI_STATUS n, R.DALI_RAW_RX n, R.DALI_EVENT n, R.PMON_HALF])
  ∧ (∀ (s : State) (n : Fin 4), s.g (F.DALI_STATUS_BUS_DOWN n) = 1 →
    completes (.daliBusUp n) s fun t =>
      t.g (F.DALI_STATUS_BUS_DOWN n) = 0 ∧ t.bit (R.DALI_EVENT n) 1 = true
      ∧ t.dali n = (if s.isMotor then { s.dali n with miss := [], pend := (s.dali n).done, resend := false } else s.dali n)
      ∧ s.daliOnly t n ∧ s.Frame t (.fio :: Part.events) [R.DALI_STATUS n, R.DALI_EVENT n])
  ∧ (∀ (s : State) (n : Fin 4), (s.dali n).resend = true → s.isMotor = true →
    completes (.daliTakeoverResend n) s fun t =>
      (t.dali n).pend = (s.dali n).done ∧ (t.dali n).resend = false ∧ s.daliOnly t n
      ∧ s.Frame t (.fio :: .out :: Part.counts) [R.DALI_STATUS n, R.PMON_HALF])

/-- A serial port runs one transaction at a time, writes what replies carry, and loses a device that fails three times. (R276, R277, R278, R279, R283, R158) -/
def Obligations.SerialPortsPollAndWrite : Prop :=
  (∀ (s : State) (n : Fin 2) (c : Fin 256) (e : MbEntry), (s.mbEntries n)[c.val]? = some e → e.fn < 5 →
    s.serProto n = 1 → s.serFree n = true → (s.ser n).queue = [] →
    completes (.modbusPoll n c) s fun t =>
      t.ser n = { s.ser n with txn := some (.mbPoll c, s.serRetries n) }
      ∧ t.out = s.out ++ [.serial n (s.serBaud n) (s.serParity n) (mbRequest e none)]
      ∧ t.rd (R.SER_TXN n) = s.rd (R.SER_TXN n) + 1#32 ∧ t.g (F.SER_STATUS_BUSY n) = 1
      ∧ s.serOnly t n ∧ s.Frame t (.fio :: .out :: Part.counts) [R.SER_STATUS n, R.SER_TXN n, R.PMON_HALF])
  ∧ (∀ (s : State) (n : Fin 2) (k : SerKind) (rest : List SerKind), s.serProto n = 1 → s.serFree n = true →
    (s.ser n).queue = k :: rest →
    completes (.modbusWrite n) s fun t =>
      t.ser n = { s.ser n with queue := rest, txn := some (k, s.serRetries n) }
      ∧ t.rd (R.SER_TXN n) = s.rd (R.SER_TXN n) + 1#32 ∧ t.g (F.SER_STATUS_BUSY n) = 1
      ∧ s.serOnly t n ∧ s.Frame t (.free :: .fio :: .out :: Part.counts) [R.SER_STATUS n, R.SER_TXN n, R.PMON_HALF])
  ∧ (∀ (s : State) (n : Fin 2) (a : Fin 16), s.serProto n = 2 → s.serFree n = true →
    a.val < (s.readers n).length → a.val ∉ (s.ser n).reopen →
    completes (.osdpPoll n a false) s fun t =>
      (∀ k l, (t.ser n).txn = some (k, l) → l = s.serRetries n ∧ (k = .osdpPoll a ∨ ∃ v, k = .osdpSend a v))
      ∧ (t.ser n).txn.isSome = true ∧ ((∀ v, SerKind.osdpSend a v ∉ (s.ser n).queue) → t.ser n =
          { s.ser n with txn := some (.osdpPoll a, s.serRetries n) })
      ∧ t.rd (R.SER_TXN n) = s.rd (R.SER_TXN n) + 1#32
      ∧ s.serOnly t n ∧ s.Frame t (.fio :: .out :: Part.counts) [R.SER_STATUS n, R.SER_TXN n, R.PMON_HALF])
  ∧ (∀ (s : State) (n : Fin 2) (a : Fin 16), s.serProto n = 2 → s.serFree n = true →
    a.val < (s.readers n).length →
    completes (.osdpPoll n a true) s fun t =>
      (t.ser n).txn.isSome = true ∧ a.val ∈ (t.ser n).session ∧ a.val ∉ (t.ser n).reopen ∧ t.rd (R.SER_TXN n) = s.rd (R.SER_TXN n) + 1#32 ∧ s.serOnly t n
      ∧ t.pix = s.pix ∧ t.settings = s.settings ∧ t.pending = s.pending)
  ∧ (∀ (s : State) (n : Fin 2) (r : SerReply) (k : SerKind) (l : Nat), (s.ser n).txn = some (k, l) →
    completes (.serReply n r true) s fun t =>
      t.bit (R.SER_EVENT n) 3 = true ∧ s.Frame t Part.events [R.SER_EVENT n])
  ∧ (∀ (s : State) (n : Fin 2) (c l : Nat) (w : List Nat) (e : MbEntry), (s.ser n).txn = some (.mbPoll c, l) →
    (s.mbEntries n)[c]? = some e → (s.fieldSlots (0x30 + n) c).Nodup →
    completes (.serReply n (.words w) false) s fun t =>
      (t.ser n).txn = none ∧ s.serDevice n (.mbPoll c) ∈ (t.ser n).online
      ∧ tget (t.ser n).fails 0 (s.serDevice n (.mbPoll c)) = 0
      ∧ (∀ i ∈ s.fieldSlots (0x30 + n) c, (s.slot i).forced = false → (s.slot i).typ ∈ mbTypes →
          ∀ v, mbDecode e w (s.slot i).typ = some v → (t.slot i).value = BitVec.ofNat 64 v ∧ (t.slot i).quality = 1)
      ∧ (∀ i, i ∉ s.fieldSlots (0x30 + n) c → t.slot i = s.slot i)
      ∧ s.serOnly t n ∧ s.Frame t (.fio :: .out :: Part.slots) [R.SER_STATUS n, R.SER_EVENT n, R.SCN_EVENT, R.PMON_HALF])
  ∧ (∀ (s : State) (n : Fin 2) (a l card st : Nat), (s.ser n).txn = some (.osdpPoll a, l) →
    (s.fieldSlots (0x30 + n) (2 * a)).Nodup →
    completes (.serReply n (.reader (some card) st) false) s fun t =>
      (t.ser n).txn = none ∧ (256 + a) ∈ (t.ser n).online
      ∧ (∀ i ∈ s.fieldSlots (0x30 + n) (2 * a), i ∉ s.fieldSlots (0x30 + n) (2 * a + 1) → (s.slot i).forced = false →
          (s.slot i).typ = 2 → (t.slot i).value = BitVec.ofNat 64 card ∧ (t.slot i).quality = 1)
      ∧ s.serOnly t n ∧ s.Frame t (.fio :: .out :: Part.slots) [R.SER_STATUS n, R.SER_EVENT n, R.SCN_EVENT, R.PMON_HALF])
  ∧ (∀ (s : State) (n : Fin 2) (k : SerKind) (l code : Nat), (s.ser n).txn = some (k, l) →
    completes (.serReply n (.exception code) false) s fun t =>
      (t.ser n).txn = none ∧ t.bit (R.SER_EVENT n) 2 = true ∧ s.serOnly t n
      ∧ s.Frame t (.fio :: .out :: Part.slots) [R.SER_STATUS n, R.SER_EVENT n, R.SCN_EVENT, R.PMON_HALF])
  ∧ (∀ (s : State) (n : Fin 2) (k : SerKind) (l : Nat), (s.ser n).txn = some (k, l + 1) →
    completes (.serTimeout n) s fun t =>
      t.ser n = { s.ser n with txn := some (k, l) } ∧ s.serOnly t n ∧ s.Frame t [.free, .fio, .out] [R.SER_STATUS n])
  ∧ (∀ (s : State) (n : Fin 2) (k : SerKind), (s.ser n).txn = some (k, 0) →
    let d := s.serDevice n k
    let f := tget (s.ser n).fails 0 d + 1
    let st := s.serStation n k
    completes (.serTimeout n) s fun t =>
      (t.ser n).txn = none ∧ d ∉ (t.ser n).online ∧ tget (t.ser n).fails 0 d = f
      ∧ t.rd (R.SER_FAILED n) = s.rd (R.SER_FAILED n) + 1#32
      ∧ (3 ≤ f → st ≠ 255 → st ∉ (s.ser n).lost →
          st ∈ (t.ser n).lost ∧ st ∈ t.scn.lost ∧ t.bit (R.SER_EVENT n) 0 = true)
      ∧ (f < 3 → (t.ser n).lost = (s.ser n).lost)
      ∧ s.serOnly t n ∧ s.Frame t (.fio :: .out :: Part.slots)
          [R.SER_STATUS n, R.SER_FAILED n, R.SER_EVENT n, R.SCN_EVENT, R.PMON_HALF])
  ∧ (∀ (s : State) (n : Fin 2) (a : Fin 16), s.serProto n = 2 → a.val < (s.readers n).length → s.isMotor = true →
    (256 + a.val) ∉ (s.ser n).silent →
    completes (.osdpReaderSilent n a) s fun t =>
      (256 + a.val) ∈ (t.ser n).silent ∧ (256 + a.val) ∉ (t.ser n).online
      ∧ (s.serStation n (.osdpPoll a) ≠ 255 → s.serStation n (.osdpPoll a) ∈ (t.ser n).lost)
      ∧ s.serOnly t n ∧ s.Frame t (.fio :: .out :: Part.slots) [R.SER_STATUS n, R.SER_EVENT n, R.SCN_EVENT, R.PMON_HALF])
  ∧ (∀ (s : State) (p : Fin 2) (n : Fin 2) (v : Word), s.mayWrite p (R.SER_CFG n) = true →
    let off : Nat → Prop := fun m => m % 4 = 0 ∨ m % 4 = 3
    completes (.serCfgWrite p n v) s fun t =>
      (off (s.rn (R.SER_CFG n)) ∨ off v.toNat →
        t.rn (R.SER_CFG n) = bits v.toNat 0 11 + clampN 10 2000 (bits v.toNat 16 16) * 65536)
      ∧ (¬ off (s.rn (R.SER_CFG n)) → ¬ off v.toNat → t = s)
      ∧ (off v.toNat → (t.ser n).txn = none ∧ (t.ser n).queue = [] ∧ (t.ser n).online = [])
      ∧ s.serOnly t n ∧ s.Frame t [.fio] [R.SER_CFG n, R.SER_STATUS n])
  ∧ (∀ (s : State) (n : Fin 2), completes (.serTakeoverResume n) s fun t =>
      t.ser n = { s.ser n with wait := false } ∧ s.serOnly t n ∧ s.Frame t [.fio] [R.SER_STATUS n])

/-- A CAN controller enables only with legal bit timing, sends the winning pending buffer, and keeps each buffer's state. (R340, R341, R342, R343, R344, R345, R346, R350) -/
def Obligations.CanBuffersRequestedAndSent : Prop :=
  (∀ (s : State) (p : Fin 2) (n : Fin 4) (v : Word), s.mayWrite p (R.CAN_CTL n) = true →
    completes (.canEnable p n v) s fun t =>
      (s.canOn n = true → t.canOn n = true ∧ t.canState n = s.canState n
        ∧ t.g (F.CAN_CTL_FD_EN n) = s.g (F.CAN_CTL_FD_EN n))
      ∧ (s.canOn n = false → s.canTimingOk n = true → t.canOn n = true ∧ t.canState n = 1
          ∧ t.g (F.CAN_STATUS_SYNCING n) = 1 ∧ t.g (F.CAN_STATUS_TEC n) = 0 ∧ t.g (F.CAN_STATUS_REC n) = 0
          ∧ t.g (F.CAN_STATUS_LISTEN n) = b2n (natBit v.toNat 1 || s.isButty) ∧ t.g (F.CAN_CTL_FD_EN n) = bits v.toNat 3 1)
      ∧ (s.canOn n = false → s.canTimingOk n = false → t.canOn n = false ∧ t.bit (R.CAN_EVENT n) 14 = true)
      ∧ s.Frame t Part.events [R.CAN_CTL n, R.CAN_STATUS n, R.CAN_EVENT n])
  ∧ (∀ (s : State) (n : Fin 4), s.canOn n = true → s.g (F.CAN_STATUS_SYNCING n) = 1 →
    completes (.canBusJoin n) s fun t =>
      t.g (F.CAN_STATUS_SYNCING n) = 0 ∧ t.g (F.CAN_STATUS_IDLE n) = 1 ∧ s.Frame t [] [R.CAN_STATUS n])
  ∧ (∀ (s : State) (p : Fin 2) (n : Fin 4) (b : Fin 64), s.mayWrite p (R.CAN_TX_REQ_LO n + 4 * (b.val / 32)) = true →
    let x := s.txb n b
    completes (.txRequest p n b) s fun t =>
      ((s.canMapped n b = true ∨ x.free = false) → t = s)
      ∧ (s.canMapped n b = false → x.free = true → s.canFrameOk n x.ctl = false →
          t.can = s.can ∧ t.bit (R.CAN_EVENT n) 14 = true)
      ∧ (s.canMapped n b = false → x.free = true → s.canFrameOk n x.ctl = true →
          (t.txb n b).data = x.data ∧ (t.txb n b).attempts = 0
          ∧ (ctlBit x.ctl 8 = false → (t.txb n b).st = .pending ∧ (t.txb n b).late = false)
          ∧ (ctlBit x.ctl 8 = true → x.time ≤ s.ptpNs →
              (t.txb n b).st = .pending ∧ (t.txb n b).late = true ∧ t.bit (R.CAN_EVENT n) 3 = true)
          ∧ (ctlBit x.ctl 8 = true → s.ptpNs < x.time → (t.txb n b).st = .waitTime))
      ∧ s.bufferOnly t n b ∧ s.Frame t (.can :: Part.events) [R.CAN_EVENT n])
  ∧ (∀ (s : State) (p : Fin 2) (n : Fin 4) (b : Fin 64) (won : Bool),
    s.mayWrite p (R.CAN_TX_CANCEL_LO n + 4 * (b.val / 32)) = true →
    let x := s.txb n b
    completes (.txCancel p n b won) s fun t =>
      (x.st = .waitTime ∨ x.st = .pending → t.txb n b = { x with st := .cancelled } ∧ t.bit (R.CAN_EVENT n) 1 = true)
      ∧ (x.st = .active → won = true → t.txb n b = { x with cancel := true } ∧ t.rd (R.CAN_EVENT n) = s.rd (R.CAN_EVENT n))
      ∧ (x.st = .active → won = false → x.refill = false →
          (t.txb n b).st = .cancelled ∧ t.bit (R.CAN_EVENT n) 1 = true)
      ∧ (x.free = true → t = s)
      ∧ s.bufferOnly t n b ∧ s.Frame t (.can :: Part.events) [R.CAN_EVENT n])
  ∧ (∀ (s : State) (n : Fin 4) (b : Fin 64), (s.txb n b).st = .waitTime → 0 < s.rn R.PTP_ADDEND →
    completes (.txTimeReached n b) s fun t =>
      t.txb n b = { s.txb n b with st := .pending, late := (s.txb n b).late || s.canState n == 3 }
      ∧ (s.txb n b).time ≤ t.ptpNs ∧ s.bufferOnly t n b ∧ s.Frame t [.clk, .can] [])
  ∧ (∀ (s : State) (n : Fin 4) (b : Nat) (x : TxBuf), s.canOn n = true → s.served = true → s.g (F.CAN_STATUS_SYNCING n) = 0 →
    (s.canState n = 1 ∨ s.canState n = 2) → s.g (F.CAN_STATUS_SUSPEND n) = 0 → s.canListen n = false →
    s.canActive n = none → s.canTop n = some (b, x) →
    completes (.arbitrationStart n) s fun t =>
      t.txb n b = { x with st := .active, attempts := min 255 (x.attempts + 1) }
      ∧ (∀ e ∈ (s.canc n).buf, e.2.st = .pending → arbKey x ≤ arbKey e.2)
      ∧ t.g (F.CAN_STATUS_IDLE n) = 0 ∧ s.bufferOnly t n b ∧ s.Frame t [.can] [R.CAN_STATUS n])
  ∧ (∀ (s : State) (n : Fin 4) (b : Nat), s.canActive n = some b →
    completes (.arbitrationLost n) s fun t =>
      (t.txb n b).st = .pending ∧ (t.txb n b).data = (s.txb n b).next.getD (s.txb n b).data ∧ (t.txb n b).cancel = false
      ∧ t.rd (R.CAN_ARB_LOST n) = s.rd (R.CAN_ARB_LOST n) + 1#32
      ∧ s.bufferOnly t n b ∧ s.Frame t [.can] [R.CAN_ARB_LOST n])
  ∧ (∀ (s : State) (n : Fin 4) (b : Nat), s.canActive n = some b →
    let x := s.txb n b
    completes (.txDone n) s fun t =>
      (t.txb n b).st = (if x.refill then .pending else if x.cancel then .sentLate else .sent)
      ∧ t.rd (R.CAN_TX_FRAMES n) = s.rd (R.CAN_TX_FRAMES n) + 1#32 ∧ t.bit (R.CAN_EVENT n) 0 = true
      ∧ (x.cancel = true → t.bit (R.CAN_EVENT n) 2 = true)
      ∧ t.g (F.CAN_STATUS_TEC n) = s.g (F.CAN_STATUS_TEC n) - 1 ∧ t.g (F.CAN_STATUS_IDLE n) = 1
      ∧ t.g (F.CAN_STATUS_SUSPEND n) = b2n (s.canState n == 2)
      ∧ s.bufferOnly t n b
      ∧ s.Frame t (.can :: Part.counts) [R.CAN_TX_FRAMES n, R.CAN_EVENT n, R.CAN_STATUS n, R.PMON_HALF])
  ∧ (∀ (s : State) (n : Fin 4), completes (.suspendEnd n) s fun t =>
      t.g (F.CAN_STATUS_SUSPEND n) = 0 ∧ t.canState n = s.canState n ∧ s.Frame t [] [R.CAN_STATUS n])
  ∧ (∀ (s : State) (n : Fin 4) (b : Fin 64), s.canMapped n b = true →
    (s.canSet n).tx.any (fun g => g.ref == b.val && g.periodMs != 0) = true →
    let x := s.txb n b
    completes (.canRefillPeriod n b) s fun t =>
      (x.st = .active → t.txb n b = { x with refill := true, next := some (x.next.getD x.data) })
      ∧ (x.st = .pending ∨ x.st = .waitTime →
          t.txb n b = { x with data := x.next.getD x.data, coalesced := min 65535 (x.coalesced + 1) })
      ∧ (x.free = true → (t.txb n b).st = .pending ∧ (t.txb n b).data = x.next.getD x.data ∧ (t.txb n b).attempts = 0)
      ∧ s.bufferOnly t n b ∧ s.Frame t [.can] [])
  ∧ (∀ (s : State) (p : Fin 2) (n : Fin 4) (k : Fin 20) (v : Word),
    s.mayWrite p (R.CAN_TXBUF_CTL n + (if k.val < 4 then 4 * k.val else 0x3C + 4 * (k.val - 4))) = true →
    let b := s.prd p (R.CAN_TXBUF_SEL n) % 64
    let x := s.txb n b
    completes (.txbufWrite p n k v) s fun t =>
      (s.canMapped n b = true → t = s)
      ∧ (s.canMapped n b = false → x.st = .pending ∨ x.st = .active → t.can = s.can ∧ t.bit (R.CAN_EVENT n) 15 = true)
      ∧ (s.canMapped n b = false → x.st ≠ .pending → x.st ≠ .active →
          (k.val = 0 → t.txb n b = { x with ctl := v.toNat % 512 })
          ∧ (k.val = 1 → t.txb n b = { x with id := v.toNat % 2 ^ 29 })
          ∧ (k.val = 2 → t.txb n b = { x with time := setBits x.time 0 32 v.toNat })
          ∧ (k.val = 3 → t.txb n b = { x with time := setBits x.time 32 32 v.toNat })
          ∧ (4 ≤ k.val → t.txb n b = { x with data := setBits x.data (32 * (k.val - 4)) 32 v.toNat }))
      ∧ s.bufferOnly t n b ∧ s.Frame t (.can :: Part.events) [R.CAN_EVENT n])

/-- A received frame counts and goes where its filter sends it, errors raise the counts to passive and bus-off. (R339, R346, R347, R348, R349, R350, R351, R353) -/
def Obligations.CanFramesReceivedAndErrorsConfined : Prop :=
  (∀ (s : State) (n : Fin 4) (code : Fin 7) (ph heavy : Bool), code.val ≠ 0 → s.canOn n = true →
    (s.canState n = 1 ∨ s.canState n = 2) → s.canActive n = none → s.canListen n = false →
    completes (.canBusError n code ph heavy) s fun t =>
      t.g (F.CAN_STATUS_REC n) = min 255 (s.g (F.CAN_STATUS_REC n) + (if heavy then 8 else 1))
      ∧ t.canState n = (if 128 ≤ s.g (F.CAN_STATUS_TEC n) ∨ 128 ≤ t.g (F.CAN_STATUS_REC n) then 2 else 1)
      ∧ t.rd (R.CAN_BUS_ERRORS n) = s.rd (R.CAN_BUS_ERRORS n) + 1#32 ∧ t.g (F.CAN_LAST_ERR_CODE n) = code.val
      ∧ t.bit (R.CAN_EVENT n) 13 = true
      ∧ s.Frame t Part.events [R.CAN_LAST_ERR n, R.CAN_BUS_ERRORS n, R.CAN_EVENT n, R.CAN_STATUS n])
  ∧ (∀ (s : State) (n : Fin 4) (code : Fin 7) (ph heavy : Bool) (b : Nat), code.val ≠ 0 → s.canOn n = true →
    (s.canState n = 1 ∨ (s.canState n = 2 ∧ code.val ≠ 3)) → s.canActive n = some b →
    completes (.canBusError n code ph heavy) s fun t =>
      (s.g (F.CAN_STATUS_TEC n) + 8 ≤ 255 → t.g (F.CAN_STATUS_TEC n) = s.g (F.CAN_STATUS_TEC n) + 8
        ∧ t.canState n = (if 128 ≤ t.g (F.CAN_STATUS_TEC n) ∨ 128 ≤ s.g (F.CAN_STATUS_REC n) then 2 else 1))
      ∧ (255 < s.g (F.CAN_STATUS_TEC n) + 8 → t.canState n = 3 ∧ t.bit (R.CAN_EVENT n) 9 = true
        ∧ t.rd (R.CAN_BUSOFF_CNT n) = s.rd (R.CAN_BUSOFF_CNT n) + 1#32
        ∧ t.g (F.CAN_STATUS_RECOVERY_WAIT n) = 1 - s.g (F.CAN_CTL_AUTO_RECOVER n))
      ∧ (t.txb n b).st = (if (s.txb n b).cancel && !(s.txb n b).refill then .cancelled else .pending)
      ∧ t.g (F.CAN_LAST_ERR_TX n) = 1 ∧ t.g (F.CAN_LAST_ERR_DATA_PHASE n) = b2n ph
      ∧ t.rd (R.CAN_BUS_ERRORS n) = s.rd (R.CAN_BUS_ERRORS n) + 1#32 ∧ s.bufferOnly t n b
      ∧ s.Frame t (.can :: Part.events)
          [R.CAN_LAST_ERR n, R.CAN_BUS_ERRORS n, R.CAN_EVENT n, R.CAN_STATUS n, R.CAN_BUSOFF_CNT n])
  ∧ (∀ (s : State) (p : Fin 2) (n : Fin 4), s.mayWrite p (R.CAN_CMD n) = true →
    s.g (F.CAN_STATUS_RECOVERY_WAIT n) = 1 →
    completes (.recover p n) s fun t =>
      t.g (F.CAN_STATUS_RECOVERY_WAIT n) = 0 ∧ t.canState n = s.canState n ∧ s.Frame t [] [R.CAN_STATUS n])
  ∧ (∀ (s : State) (n : Fin 4), s.canState n = 3 → s.g (F.CAN_STATUS_RECOVERY_WAIT n) = 0 →
    completes (.recovered n) s fun t =>
      t.canState n = 1 ∧ t.g (F.CAN_STATUS_TEC n) = 0 ∧ t.g (F.CAN_STATUS_REC n) = 0
      ∧ t.g (F.CAN_STATUS_LISTEN n) = s.g (F.CAN_STATUS_LISTEN n) ∧ t.bit (R.CAN_EVENT n) 10 = true
      ∧ s.Frame t Part.events [R.CAN_STATUS n, R.CAN_EVENT n])
  ∧ (∀ (s : State) (p : Fin 2) (n which : Fin 4), s.mayWrite p (R.CAN_CMD n) = true →
    completes (.flush p n which) s fun t =>
      (t.canc n) = { s.canc n with
        fifo0 := if natBit which.val 0 then [] else (s.canc n).fifo0
        fifo1 := if natBit which.val 1 then [] else (s.canc n).fifo1 }
      ∧ s.canOnly t n ∧ s.Frame t [.can] [])
  ∧ (∀ (s : State) (p : Fin 2) (n : Fin 4) (f : Fin 2), s.mayWrite p (R.CAN_RXF_POP n f) = true →
    completes (.rxfPop p n f) s fun t =>
      (t.canc n).fifo f = ((s.canc n).fifo f).drop 1 ∧ (t.canc n).fifo (1 - f.val) = (s.canc n).fifo (1 - f.val)
      ∧ (t.canc n).buf = (s.canc n).buf ∧ s.canOnly t n ∧ s.Frame t [.can] [])
  ∧ (∀ (s : State) (n : Fin 4) (f : CanFrame), s.canOn n = true → s.canState n ≠ 3 → s.g (F.CAN_STATUS_SYNCING n) = 0 →
    completes (.canFrameReceive n f) s fun t =>
      t.rd (R.CAN_RX_FRAMES n) = s.rd (R.CAN_RX_FRAMES n) + 1#32 ∧ t.g (F.CAN_STATUS_IDLE n) = 1
      ∧ t.g (F.CAN_STATUS_REC n) = (if s.canListen n then s.g (F.CAN_STATUS_REC n)
          else if 127 < s.g (F.CAN_STATUS_REC n) then 127 else s.g (F.CAN_STATUS_REC n) - 1)
      ∧ (∀ k x, s.canFilter n f = some (k, x) → (tget (t.canc n).flt {} k).hits = (x.hits + 1) % 2 ^ 32)
      ∧ (∀ k x, s.canFilter n f = some (k, x) → x.action = 1 → natBit x.ctl 14 = false → (s.canc n).fifo0.length < 128 →
          (t.canc n).fifo0 = (s.canc n).fifo0 ++ [⟨f.id, f.flags, k, f.data, f.ts⟩] ∧ t.bit (R.CAN_EVENT n) 4 = true)
      ∧ (∀ k x, s.canFilter n f = some (k, x) → x.action = 2 → natBit x.ctl 14 = false → 128 ≤ (s.canc n).fifo1.length →
          (t.canc n).fifo1 = (s.canc n).fifo1 ∧ t.rd (R.CAN_RXF_OVF n 1) = s.rd (R.CAN_RXF_OVF n 1) + 1#32)
      ∧ (s.canFilter n f = none → s.g (F.CAN_CTL_UNMATCHED n) = 0 → (t.canc n).fifo0 = (s.canc n).fifo0
          ∧ (t.canc n).fifo1 = (s.canc n).fifo1 ∧ t.pix = s.pix)
      ∧ (∀ k x c g, s.canFilter n f = some (k, x) → x.action = 3 → s.isMotor = true → s.canonical = true →
          (s.canSet n).rx[c]? = some g → g.ref = k → ∀ i ∈ s.fieldSlots (0x40 + n) c, (s.slot i).forced = false →
          ∀ v, numSlot (s.slot i).typ (sigNum g (sigRead g f.data)) = some v →
          (t.slot i).value = BitVec.ofNat 64 v ∧ (t.slot i).quality = 1)
      ∧ s.canOnly t n
      ∧ s.Frame t (.can :: .out :: Part.slots) [R.CAN_RX_FRAMES n, R.CAN_STATUS n, R.CAN_EVENT n, R.CAN_ECHO_CNT n,
          R.CAN_RXF_OVF n 0, R.CAN_RXF_OVF n 1, R.CAN_STN_LOST_LO n, R.CAN_STN_LOST_HI n, R.SCN_EVENT, R.PMON_HALF])
  ∧ (∀ (s : State) (n : Fin 4) (k : Fin 64), s.canOn n = true → s.isMotor = true → s.stnBit n k = false →
    (s.canc n).flt.any (fun e => e.2.action != 0 && natBit e.2.ctl 14 && bits e.2.ctl 8 6 == k.val) = true →
    completes (.canStationTimeout n k) s fun t =>
      t.stnBit n k = true ∧ t.bit (R.CAN_EVENT n) 11 = true ∧ k.val ∈ t.scn.lost
      ∧ s.Frame t (.out :: Part.slots)
          [R.CAN_STN_LOST_LO n, R.CAN_STN_LOST_HI n, R.CAN_EVENT n, R.SCN_EVENT, R.PMON_HALF])
  ∧ (∀ (s : State) (n : Fin 4), completes (.dominantTimeout n) s fun t =>
      t.bit (R.CAN_EVENT n) 13 = true ∧ s.Frame t Part.events [R.CAN_EVENT n])
  ∧ (∀ (s : State) (n : Fin 4), s.g (F.CAN_CTL_LISTEN n) = 0 → s.isMotor = true →
    completes (.listenExit n) s fun t => t.canListen n = false ∧ s.Frame t [] [R.CAN_STATUS n])

/-- A MAC counts, filters, pauses and delivers received frames, sends in class order, and follows its medium. (R355, R356, R357, R358, R360, R361, R362, R364, R365, R366, R368, R370) -/
def Obligations.EthernetFramesReceivedSentAndPaused : Prop :=
  (∀ (s : State) (n : Fin 3) (f : EthFrame), s.g (F.ETH_CTL_ENABLE n) = 1 → s.macUp n = true →
    let good := f.fcsOk && !f.symErr
    let sized := 64 ≤ f.len ∧ f.len ≤ s.macMax n f.tag.isSome
    let vlan := s.g (F.ETH_VLAN_TAG_EN n) = 0 ∨ f.tag = none ∨ f.tag = some (s.g (F.ETH_VLAN_VID n))
    completes (.ethFrameReceive n f) s fun t =>
      t.rd (R.ETH_CNT n 1) = s.rd (R.ETH_CNT n 1) + BitVec.ofNat 32 f.len
      ∧ (good = false → sized → t.rd (R.ETH_CNT n 20) = s.rd (R.ETH_CNT n 20) + 1#32
          ∧ t.rd (R.ETH_CNT n 2) = s.rd (R.ETH_CNT n 2) ∧ t.eth = s.eth ∧ t.ptp = s.ptp ∧ t.scn.lost = s.scn.lost)
      ∧ (good = true → sized → t.rd (R.ETH_CNT n 2) = s.rd (R.ETH_CNT n 2) + 1#32)
      ∧ (good = true → sized → vlan → s.macAccepts n f.dst = false →
          t.rd (R.ETH_CNT n 23) = s.rd (R.ETH_CNT n 23) + 1#32 ∧ t.eth = s.eth ∧ t.ptp = s.ptp ∧ t.scn.lost = s.scn.lost)
      ∧ (good = true → f.tag = none → f.len = 64 → f.etype = 0x8808 → f.dst = macControl → f.opcode = 1 →
          s.g (F.ETH_CTL_PAUSE_EN n) = 1 → f.quanta % 65536 ≠ 0 →
          t.g (F.ETH_PAUSE_LAST_QUANTA n) = f.quanta % 65536 ∧ t.g (F.ETH_STATUS_PAUSED n) = 1
          ∧ (t.mac n).pauseEnd = some (s.clk.upNs + f.quanta % 65536 * quantum10 (s.g (F.ETH_STATUS_SPEED n)) / 10))
      ∧ (good = true → sized → vlan → s.macAccepts n f.dst = true → f.dst ≠ macControl → f.etype = 0x0806 → f.udp = none →
          s.stationOf n f = none →
          (f.room = true → (s.mac n).fits 31 f.len = true → t.rd (R.ETH_CNT n 31) = s.rd (R.ETH_CNT n 31) + 1#32
            ∧ (t.mac n).rx = (if s.core 0 then (s.mac n).rx else (s.mac n).rx ++ [(31, f.len)]))
          ∧ (f.room = false ∨ (s.mac n).fits 31 f.len = false → t.rd (R.ETH_CNT n 26) = s.rd (R.ETH_CNT n 26) + 1#32 ∧ t.bit (R.ETH_EVENT n) 3 = true))
      ∧ s.Frame t (.eth :: .ptp :: .scn :: .out :: .page (0x70 + n) :: .page 0x73 :: Part.counts) [R.SCN_EVENT, R.PMON_HALF])
  ∧ (∀ (s : State) (n : Fin 3) (f : TxFrame), s.g (F.ETH_CTL_ENABLE n) = 1 → s.macUp n = true → s.paused n = false →
    firstFrame (s.mac n).tx = some f →
    let insert := s.g (F.ETH_VLAN_TAG_EN n) = 1 ∧ f.tagged = false
    let len := max 64 (if insert then f.len + 4 else f.len)
    let fits := len ≤ s.macMax n (f.tagged || decide insert)
    completes (.ethFrameSend n []) s fun t =>
      (t.mac n).tx = (s.mac n).tx.erase f ∧ (∀ g ∈ (s.mac n).tx, g.cls < 4 → f.cls ≤ g.cls)
      ∧ (fits → t.rd (R.ETH_CNT n 33) = s.rd (R.ETH_CNT n 33) + 1#32
          ∧ t.rd (R.ETH_CNT n 32) = s.rd (R.ETH_CNT n 32) + BitVec.ofNat 32 len)
      ∧ (¬ fits → t.rd (R.ETH_CNT n 46) = s.rd (R.ETH_CNT n 46) + 1#32 ∧ t.bit (R.ETH_EVENT n) 7 = true
          ∧ t.rd (R.ETH_CNT n 33) = s.rd (R.ETH_CNT n 33) ∧ t.ptp = s.ptp)
      ∧ (∀ k, k ≠ n.val → t.mac k = s.mac k)
      ∧ s.Frame t (.eth :: .ptp :: .page (0x70 + n) :: .page 0x73 :: Part.counts) [R.PMON_HALF])
  ∧ (∀ (s : State) (n : Fin 3) (f : TxFrame), s.macUp n = true → s.paused n = true → s.core 0 = true →
    (s.mac n).tx.foldl (fun k g => k + g.len) 0 + f.len ≤ 131072 →
    completes (.ethFrameSend n [f]) s fun t =>
      (t.mac n).tx = (s.mac n).tx ++ [{ f with cls := if f.cls = 2 then 2 else 3, oneStep := false, stamp := none }]
      ∧ s.Frame t [.eth] [])
  ∧ (∀ (s : State) (n : Fin 3) (e : Nat), (s.mac n).pauseEnd = some e →
    completes (.pauseTimerExpire n) s fun t =>
      e ≤ t.clk.upNs ∧ (t.mac n).pauseEnd = none ∧ (t.mac n).tx = (s.mac n).tx ∧ t.g (F.ETH_STATUS_PAUSED n) = 0
      ∧ s.Frame t (.clk :: .eth :: .page (0x70 + n) :: Part.events) [])
  ∧ (∀ (s : State) (n : Fin 3) (b e : Nat),
    let warn := s.g (F.ETH_CTL_PAUSE_WARN_MS n)
    (s.mac n).heldFrom = some b → (s.mac n).pauseEnd = some e → warn ≠ 0 → (s.mac n).warned = false →
    b + warn * 1000000 ≤ e →
    completes (.pauseLong n) s fun t =>
      (t.mac n).warned = true ∧ t.bit (R.ETH_EVENT n) 2 = true ∧ b + warn * 1000000 ≤ t.clk.upNs ∧ s.recorded t 1
      ∧ s.Frame t (.clk :: .eth :: .page (0x70 + n) :: Part.records) [R.LOG_EVENT, R.PMON_HALF])
  ∧ (∀ (s : State) (n : Fin 2) (b : Option Nat), s.g (F.ETH_CTL_ENABLE n) = 1 → s.g (F.ETH_CTL_MODE n) = 2 →
    completes (.sfpRead n b) s fun t =>
      (∀ x, b = some x → 103 ≤ x → (t.mac n).medium = 1 ∧ t.rd (R.ETH_EVENT n) = s.rd (R.ETH_EVENT n))
      ∧ (b = some 12 ∨ b = some 13 → (t.mac n).medium = 2)
      ∧ (b = none → (t.mac n).medium = 0 ∧ t.bit (R.ETH_EVENT n) 5 = true)
      ∧ s.Frame t (.eth :: Part.events) [R.ETH_EVENT n])
  ∧ (∀ (s : State) (n : Fin 2) (abs los flt : Bool),
    bits (s.rn (R.ETH_STATUS n)) 24 3 ≠ b2n flt + 2 * b2n los + 4 * b2n abs →
    completes (.sfpChange n abs los flt) s fun t =>
      t.g (F.ETH_STATUS_SFP_ABS n) = b2n abs ∧ t.g (F.ETH_STATUS_SFP_LOS n) = b2n los
      ∧ t.g (F.ETH_STATUS_SFP_TXFLT n) = b2n flt ∧ t.bit (R.ETH_EVENT n) 6 = true
      ∧ s.Frame t (.page (0x70 + n) :: Part.events) [])
  ∧ (∀ (s : State) (p : Fin 2) (n : Fin 3) (k : Fin 16) (v : Word), s.mayWrite p (R.ETH_HASH n k) = true →
    completes (.ethHashWrite p n k v) s fun t => t.rd (R.ETH_HASH n k) = v ∧ s.Frame t [] [R.ETH_HASH n k])
  ∧ (∀ (s : State) (n : Fin 3) (k : Fin 64), s.stationFromMotor = false →
    (tget s.set.eth [] n.val).any (fun e => e.station == k.val) = true →
    completes (.ethStationTimeout n k) s fun t =>
      k.val ∈ t.scn.lost ∧ s.Frame t (.out :: Part.slots) [R.SCN_EVENT, R.PMON_HALF])
  ∧ (∀ (s : State) (n : Fin 3) (speed : Fin 8) (full mdix : Bool), s.g (F.ETH_CTL_ENABLE n) = 1 → s.sfpHolds n = false →
    s.macUp n = false →
    completes (.linkUp n speed full mdix) s fun t =>
      ((n.val = 2 → full = true) → s.macSpeed n speed ≠ 0 →
        t.macUp n = true ∧ t.g (F.ETH_STATUS_SPEED n) = s.macSpeed n speed ∧ t.bit (R.ETH_EVENT n) 0 = true
        ∧ t.g (F.ETH_STATUS_MDIX n) = b2n (n.val == 2 && mdix) ∧ t.g (F.ETH_STATUS_LOCAL_FAULT n) = 0)
      ∧ (n.val = 2 → full = false → t.macUp n = false ∧ t.g (F.ETH_STATUS_DUPLEX_FAIL n) = 1)
      ∧ s.Frame t (.ptp :: .page (0x70 + n) :: .page 0x73 :: Part.records) [R.LOG_EVENT, R.PMON_HALF])
  ∧ (∀ (s : State) (n : Fin 3) (loc rem : Bool), s.macUp n = true →
    completes (.linkDown n loc rem) s fun t =>
      t.macUp n = false ∧ (t.mac n).tx = [] ∧ (t.mac n).pauseEnd = none ∧ t.bit (R.ETH_EVENT n) 1 = true
      ∧ t.rd (R.ETH_CNT n 47) = s.rd (R.ETH_CNT n 47) + BitVec.ofNat 32 (s.mac n).tx.length
      ∧ t.rd (R.ETH_CNT n 51) = s.rd (R.ETH_CNT n 51) + 1#32 ∧ tget t.ptp.announce none n = none
      ∧ t.g (F.ETH_STATUS_LOCAL_FAULT n) = b2n loc ∧ t.g (F.ETH_STATUS_REMOTE_FAULT n) = b2n rem
      ∧ s.Frame t (.eth :: .ptp :: .page (0x70 + n) :: .page 0x73 :: Part.records) [R.LOG_EVENT, R.PMON_HALF])
  ∧ (∀ (s : State) (p : Fin 2) (n : Fin 3) (v : Word), s.mayWrite p (R.ETH_CTL n) = true →
    completes (.ethCtlWrite p n v) s fun t =>
      t.g (F.ETH_CTL_ENABLE n) = bits v.toNat 0 1
      ∧ t.g (F.ETH_CTL_PAUSE_WARN_MS n) = min 60000 (bits v.toNat 16 16)
      ∧ (s.g (F.ETH_CTL_ENABLE n) = 0 ∨ bits v.toNat 0 1 = 0 → t.g (F.ETH_CTL_MODE n) = bits v.toNat 1 3)
      ∧ (s.g (F.ETH_CTL_ENABLE n) = 1 → bits v.toNat 0 1 = 1 → t.g (F.ETH_CTL_MODE n) = s.g (F.ETH_CTL_MODE n)
          ∧ (bits v.toNat 1 3 ≠ s.g (F.ETH_CTL_MODE n) → t.bit (R.ETH_EVENT n) 5 = true))
      ∧ (bits v.toNat 0 1 = 0 → t.macUp n = false ∧ (t.mac n).medium = 0)
      ∧ s.Frame t (.eth :: .ptp :: .page (0x70 + n) :: .page 0x73 :: Part.records) [R.LOG_EVENT, R.PMON_HALF])

/-- The clock selects the announced master, steps or steers by each Sync, locks after 16, and holds over without a master. (R372, R374, R375, R376, R380, R381, R403) -/
def Obligations.NetworkTimeFollowsTheMaster : Prop :=
  (∀ (s : State) (m : PtpAnnounce), m.mac < 2 → m.mac ∈ s.ptpLinks → m.domain = s.g F.PTP_CTL_DOMAIN → m.steps < 255 →
    m.src / 65536 ≠ s.clockId → s.core 0 = true → s.g F.PTP_CTL_SLAVE_ONLY = 1 → s.ptp.announce = [] → s.ptp.master = none →
    completes (.announceReceive m) s fun t =>
      t.ptp.master = some ⟨m.mac, m.src, m.gm % 2 ^ 64⟩ ∧ (s.ptpState = 0 → t.ptpState = 1)
      ∧ (s.ptpState = 1 ∨ s.ptpState = 2 → t.ptpState = s.ptpState)
      ∧ t.rn R.PTP_UTC = b2n m.utcValid * 2 ^ 31 + b2n m.leap61 * 2 ^ 30 + b2n m.leap59 * 2 ^ 29 + m.utc % 65536
      ∧ t.clk = s.clk ∧ s.Frame t [.ptp, .page 0x73] [])
  ∧ (∀ (s u : State) (m : PtpMsg) (t2 : Int), s.fromMaster m = true → s.useStamp m 0 = some (t2, u) → m.twoStep = false →
    let diff := t2 - (m.time : Int) * 10 - corr10 m.corr
    let d := (diff - tget s.ptp.delay 0 m.mac) / 10
    let limit := max 1 (s.g F.PTP_SERVO_STEP_US) * 1000
    let valid := s.ptpState = 2 ∨ s.ptpState = 3
    completes (.syncReceive m) s fun t =>
      t.rn R.PTP_OFFSET = ofSigned 32 (satOffset d) ∧ tget t.ptp.diff 0 m.mac = diff
      ∧ (d.natAbs ≤ limit → 0x7FDF3B65 ≤ t.rn R.PTP_ADDEND ∧ t.rn R.PTP_ADDEND ≤ 0x8020C49B
          ∧ t.g F.PTP_STATUS_SLEWING = 0 ∧ t.clk = s.clk)
      ∧ (limit < d.natAbs → ¬ valid ∨ d < 0 → t.rd R.PTP_STEPS = s.rd R.PTP_STEPS + 1#32 ∧ t.bit R.PTP_EVENT 3 = true
          ∧ t.clk.ptp = (((s.clk.ptp : Int) - d * 2 ^ 28) % ((2 ^ 48 * 1000000000 * 2 ^ 28 : Nat) : Int)).toNat)
      ∧ ((limit : Int) < d → valid → t.rn R.PTP_ADDEND = 0x7FDF3B65 ∧ t.g F.PTP_STATUS_SLEWING = 1 ∧ t.clk = s.clk)
      ∧ (d.natAbs ≤ max 10 (s.g F.PTP_SERVO_LOCK_NS) → s.ptp.locks = 15 → s.ptpState = 1 →
          t.ptpState = 2 ∧ t.g F.PTP_STATUS_VALID = 1 ∧ t.bit R.PTP_EVENT 0 = true)
      ∧ (max 10 (s.g F.PTP_SERVO_LOCK_NS) < d.natAbs → t.ptp.locks = 0 ∧ t.ptpState = s.ptpState)
      ∧ s.Frame t (.clk :: .can :: .ptp :: .free :: .out :: .rep :: .log :: .page 0x58 :: .page 0x73 :: Part.slots)
          [R.REP_EVENT, R.LOG_EVENT, R.PMON_HALF])
  ∧ (∀ (s u : State) (m : PtpMsg) (t2 : Int), s.fromMaster m = true → s.useStamp m 0 = some (t2, u) → m.twoStep = true →
    completes (.syncReceive m) s fun t =>
      t.ptp.sync = some (m.mac, m.src, m.seq, t2, corr10 m.corr) ∧ s.Frame t [.ptp] [])
  ∧ (∀ (s : State) (m : PtpMsg) (t2 c : Int), s.fromMaster m = true →
    s.ptp.sync = some (m.mac, m.src, m.seq, t2, c) →
    let diff := t2 - (m.time : Int) * 10 - (c + corr10 m.corr)
    completes (.followUpReceive m) s fun t =>
      t.rn R.PTP_OFFSET = ofSigned 32 (satOffset ((diff - tget s.ptp.delay 0 m.mac) / 10))
      ∧ tget t.ptp.diff 0 m.mac = diff ∧ t.ptp.sync = none
      ∧ s.Frame t (.clk :: .can :: .ptp :: .free :: .out :: .rep :: .log :: .page 0x58 :: .page 0x73 :: Part.slots)
          [R.REP_EVENT, R.LOG_EVENT, R.PMON_HALF])
  ∧ (∀ (s : State) (m : Master), s.ptp.master = some m →
    ({ s with ptp := { s.ptp with announce := tset s.ptp.announce none m.port none } } : State).bestMaster = none →
    completes .masterLost s fun t =>
      t.ptp.master = none ∧ t.g F.PTP_STATUS_MASTER_SEEN = 0 ∧ t.rn64 R.PTP_GM_LO = 0
      ∧ (s.ptpState = 2 → t.ptpState = 3 ∧ t.g F.PTP_STATUS_VALID = 1 ∧ t.rn R.PTP_ADDEND = s.ptp.est % 2 ^ 32
          ∧ t.bit R.PTP_EVENT 1 = true ∧ s.recorded t 1 ∧ t.ptp.holdUp = s.clk.upNs)
      ∧ (s.ptpState = 1 → t.ptpState = 0)
      ∧ t.clk = s.clk ∧ s.Frame t (.ptp :: .page 0x73 :: Part.records) [R.LOG_EVENT, R.PMON_HALF])
  ∧ (∀ s : State, s.ptpState = 3 → s.g F.PTP_HOLDOVER_CFG_LIMIT_MIN ≠ 0 →
    completes .holdoverLimit s fun t =>
      t.ptpState = 4 ∧ t.g F.PTP_STATUS_VALID = 0 ∧ t.bit R.PTP_EVENT 7 = true ∧ s.recorded t 1
      ∧ s.ptp.holdUp + s.g F.PTP_HOLDOVER_CFG_LIMIT_MIN * 60000000000 ≤ t.clk.upNs
      ∧ s.Frame t (.clk :: .page 0x73 :: Part.records) [R.LOG_EVENT, R.PMON_HALF])
  ∧ (∀ (s : State) (x : Stamp) (rest : List Stamp), s.ptp.txq = x :: rest → x.kind = 0 → s.core 0 = true →
    completes (.stampTake 0) s fun t =>
      t.ptp = { s.ptp with txq := rest } ∧ t.out = s.out ++ [.ptp x.mac 8 x.seq x.time 0]
      ∧ s.Frame t (.ptp :: .eth :: .out :: .page (0x70 + x.mac) :: Part.events) [])
  ∧ (∀ (s : State) (q : Fin 4) (x : Stamp) (rest : List Stamp), 1 ≤ q.val → s.core 0 = true →
    tget s.ptp.rxq [] (q.val - 1) = x :: rest → s.ptp.taken.length < 128 →
    completes (.stampTake q) s fun t =>
      tget t.ptp.rxq [] (q.val - 1) = rest ∧ t.ptp.taken = s.ptp.taken ++ [x] ∧ t.ptp.txq = s.ptp.txq
      ∧ s.Frame t [.ptp] [])

/-- Delay messages measure the path, messages leave at their intervals, and host software sets the clock only in MODE 0. (R371, R373, R375, R376, R379, R380, R382) -/
def Obligations.PathDelayMeasuredAndHostSetsTheClock : Prop :=
  (∀ (s u : State) (m : PtpMsg) (t1 : Int), s.ptpHears m = true → s.ptpPort m.mac = 4 → s.g F.PTP_CTL_DELAY_MECH = 0 →
    s.useStamp m 1 = some (t1, u) →
    completes (.delayReqReceive m) s fun t =>
      t.out = s.out ++ [.ptp m.mac 9 m.seq t1 m.src] ∧ t.ptp = u.ptp
      ∧ s.Frame t (.ptp :: .eth :: .out :: .page (0x70 + m.mac) :: Part.events) [])
  ∧ (∀ (s : State) (m : PtpMsg) (t3 : Int), s.fromMaster m = true → m.requester = s.portId m.mac →
    tget s.ptp.req none m.mac = some (m.seq, some t3) →
    completes (.delayRespReceive m) s fun t =>
      tget t.ptp.delay 0 m.mac = (tget s.ptp.diff 0 m.mac + ((m.time : Int) * 10 - t3 - corr10 m.corr)) / 2
      ∧ tget t.ptp.req none m.mac = none ∧ (∀ k, k ≠ m.mac → tget t.ptp.delay 0 k = tget s.ptp.delay 0 k)
      ∧ s.Frame t [.ptp] [])
  ∧ (∀ (s u : State) (m : PtpMsg) (t2 : Int), s.ptpHears m = true → s.g F.PTP_CTL_DELAY_MECH = 1 →
    s.useStamp m 2 = some (t2, u) →
    completes (.pdelayReqReceive m) s fun t =>
      t.out = s.out ++ [.ptp m.mac 3 m.seq t2 m.src] ∧ t.ptp.answers = s.ptp.answers ++ [(m.mac, m.seq, m.src)]
      ∧ s.Frame t (.ptp :: .eth :: .out :: .page (0x70 + m.mac) :: Part.events) [])
  ∧ (∀ (s u : State) (m : PtpMsg) (t1 t4 : Int), s.ptpHears m = true → m.requester = s.portId m.mac →
    tget s.ptp.pdreq none m.mac = some (m.seq, some t1) → s.useStamp m 3 = some (t4, u) →
    completes (.pdelayRespReceive m) s fun t =>
      (m.twoStep = false → tget t.ptp.delay 0 m.mac = (t4 - t1 - corr10 m.corr) / 2 ∧ tget t.ptp.pdreq none m.mac = none)
      ∧ (m.twoStep = true →
          tget t.ptp.presp none m.mac = some (m.seq, t4, (m.time : Int) * 10, corr10 m.corr) ∧ t.ptp.delay = s.ptp.delay)
      ∧ s.Frame t [.ptp] [])
  ∧ (∀ (s : State) (m : PtpMsg) (t1 t2 t4 c : Int), s.ptpHears m = true → m.requester = s.portId m.mac →
    tget s.ptp.pdreq none m.mac = some (m.seq, some t1) → tget s.ptp.presp none m.mac = some (m.seq, t4, t2, c) →
    completes (.pdelayRespFollowUpReceive m) s fun t =>
      tget t.ptp.delay 0 m.mac = ((t4 - t1) - ((m.time : Int) * 10 - t2) - c - corr10 m.corr) / 2
      ∧ tget t.ptp.pdreq none m.mac = none ∧ tget t.ptp.presp none m.mac = none ∧ s.Frame t [.ptp] [])
  ∧ (∀ (s : State) (n : Fin 3) (k : PtpSend), n.val ∈ s.ptpLinks → s.core 0 = true →
    let kind : Nat := (match k with | .sync => 0 | .delayReq => 1 | .pdelayReq => 2 | .announce => 11)
    let seq := tget s.ptp.seqs 0 (16 * n.val + kind)
    (k = .sync ∨ k = .announce → s.ptpPort n = 4) →
    (k = .delayReq → (s.ptpPort n = 2 ∨ s.ptpPort n = 3) ∧ s.g F.PTP_CTL_DELAY_MECH = 0) →
    (k = .pdelayReq → s.g F.PTP_CTL_DELAY_MECH = 1) →
    completes (.ptpMessageSend n k) s fun t =>
      t.out = s.out ++ [.ptp n kind seq 0 0] ∧ tget t.ptp.seqs 0 (16 * n.val + kind) = (seq + 1) % 65536
      ∧ (k = .delayReq → tget t.ptp.req none n = some (seq, none))
      ∧ (k = .pdelayReq → tget t.ptp.pdreq none n = some (seq, none) ∧ tget t.ptp.presp none n = none)
      ∧ s.Frame t (.ptp :: .eth :: .out :: .page (0x70 + n) :: Part.events) [])
  ∧ (∀ (s : State) (p : Fin 2), s.mayWrite p R.PTP_CMD = true →
    let sec := (s.rn R.PTP_SET_SEC_LO + s.rn R.PTP_SET_SEC_HI * 2 ^ 32) % 2 ^ 48
    let new := (sec * 1000000000 + s.rn R.PTP_SET_NS) * 2 ^ 28
    let bad := s.ptpMode ≠ 0 ∨ 1000000000 ≤ s.rn R.PTP_SET_NS ∨ (s.mustRise = true ∧ new < s.clk.ptp)
    completes (.ptpSet p) s fun t =>
      (bad → t.clk = s.clk ∧ t.can = s.can ∧ t.bit R.PTP_EVENT 8 = true)
      ∧ (¬ bad → t.clk = { s.clk with ptp := new } ∧ t.rd R.PTP_EVENT = s.rd R.PTP_EVENT)
      ∧ s.Frame t (.clk :: .can :: .page 0x58 :: Part.events) [R.PTP_EVENT])
  ∧ (∀ (s : State) (p : Fin 2), s.mayWrite p R.PTP_CMD = true →
    let d := toSigned 32 (s.rn R.PTP_SET_NS)
    let bad := s.ptpMode ≠ 0 ∨ (s.mustRise = true ∧ d < 0)
    completes (.ptpAdjust p) s fun t =>
      (bad → t.clk = s.clk ∧ t.bit R.PTP_EVENT 8 = true)
      ∧ (¬ bad → t.clk.ptp = (((s.clk.ptp : Int) + d * 2 ^ 28) % ((2 ^ 48 * 1000000000 * 2 ^ 28 : Nat) : Int)).toNat)
      ∧ t.clk.upNs = s.clk.upNs ∧ t.clk.tick = s.clk.tick
      ∧ s.Frame t (.clk :: .can :: .page 0x58 :: Part.events) [R.PTP_EVENT])
  ∧ (∀ (s : State) (p : Fin 2) (v : Word), s.mayWrite p R.PTP_ADDEND = true →
    completes (.ptpAddendWrite p v) s fun t =>
      (s.ptpMode = 0 → t.rn R.PTP_ADDEND = clampN 0x7FDF3B65 0x8020C49B v.toNat)
      ∧ (s.ptpMode ≠ 0 → t.rd R.PTP_ADDEND = s.rd R.PTP_ADDEND ∧ t.bit R.PTP_EVENT 8 = true)
      ∧ s.Frame t Part.events [R.PTP_ADDEND, R.PTP_EVENT])
  ∧ (∀ (s : State) (p : Fin 2) (v : Word), s.mayWrite p R.PTP_CTL = true →
    let on := s.g F.PTP_CTL_ENABLE = 1 ∧ bits v.toNat 0 1 = 1
    completes (.ptpCtlWrite p v) s fun t =>
      t.g F.PTP_CTL_ENABLE = bits v.toNat 0 1
      ∧ (on → t.g F.PTP_CTL_MODE = s.g F.PTP_CTL_MODE ∧ t.g F.PTP_CTL_DOMAIN = s.g F.PTP_CTL_DOMAIN
          ∧ t.g F.PTP_CTL_DELAY_MECH = s.g F.PTP_CTL_DELAY_MECH ∧ t.g F.PTP_CTL_TRANSPORT = s.g F.PTP_CTL_TRANSPORT
          ∧ (bits v.toNat 1 2 ≠ s.g F.PTP_CTL_MODE → t.bit R.PTP_EVENT 8 = true))
      ∧ (¬ on → t.g F.PTP_CTL_MODE = bits v.toNat 1 2
          ∧ (bits v.toNat 16 8 ≤ 127 → t.g F.PTP_CTL_DOMAIN = bits v.toNat 16 8))
      ∧ (t.ptpMode = 0 → t.ptpState = 5)
      ∧ t.clk = s.clk ∧ s.Frame t (.eth :: .ptp :: .page 0x73 :: Part.records) [R.LOG_EVENT, R.PMON_HALF])

/-- A metering block adds an active channel's energies to its totals, which the journal keeps and the butty adopts. (R285, R286, R289, R291, R292, R293, R295, R296, R298, R300, R301, R302) -/
def Obligations.EnergyMeasuredAndKept : Prop :=
  (∀ (s : State) (m : MtrBlock), s.g F.MTR_STATUS_STATE = 1 → s.g F.MTR_CTL_ENABLE = 1 →
    completes (.meteringBlock m) s fun t =>
      let f := m.freq.getD t.freqPhase 0
      let mine := s.isMotor = true ∨ s.mtr.adopted < s.blockEnd
      t.mtr.last = s.blockEnd ∧ t.rn R.MTR_FREQ = f % 2 ^ 17
      ∧ t.g F.MTR_STATUS_FREQ_RANGE = b2n (f < 45000 || 65000 < f)
      ∧ (¬ (s.synced = true ∧ s.isMotor = true) → mine → t.mtr.done = counts128 t.mtr.tot ∧ t.mtr.doneTime = s.blockEnd
          ∧ t.mtr.held = none)
      ∧ (¬ mine → t.mtr.tot = s.mtr.tot ∧ t.mtr.done = s.mtr.done)
      ∧ (s.synced = true → s.isMotor = true → t.mtr.done = s.mtr.done ∧ t.mtr.doneTime = s.mtr.doneTime
          ∧ ∃ idle, t.mtr.held = some (s.blockEnd, idle))
      ∧ (∀ c, m.chans = [c] → c.ch < 48 → 4 + c.ch / 24 ∉ s.saf.restarting → s.mtr.old = [] → mine →
          (∀ k < 16, s.g (F.MTR_CIR_CFG_ENABLE k) = 0) →
          let e := s.chanBlock 0 m c
          let incs := quantities e.p e.q e.s
          t.g (F.MTR_CH_STATUS_STATE c.ch) = e.st
          ∧ (e.st = 2 →
              (∀ i ∈ incs, tget t.mtr.tot 0 (8 * c.ch + i.1) = (tget s.mtr.tot 0 (8 * c.ch + i.1) + i.2) % 2 ^ 192)
              ∧ ∀ a, (∀ i ∈ incs, a ≠ 8 * c.ch + i.1) → tget t.mtr.tot 0 a = tget s.mtr.tot 0 a)
          ∧ (e.st ≠ 2 → t.mtr.tot = s.mtr.tot))
      ∧ s.Frame t (.clk :: .mtr :: .out :: .page 0x60 :: Part.records) [R.LOG_EVENT, R.PMON_HALF])
  ∧ (∀ (s : State) (r : OpRef) (b : HostBuf) (o : Op) (acc : Nat), s.ready r 0x28 o →
    let x := s.slot o.entry.arg0
    x.present = true → s.sees o.ctx x = true → s.ownsSlot o.entry.arg0 = true → x.typ = 7 → slotAcc x = some acc →
    (s.accMembers acc).2 = true → writeStatus o.entry b = 0 →
    completes (.mtrSnap r b) s fun t =>
      t.answered r 0 (fun c => c.result = 0)
      ∧ s.delivered t r o.entry b (s.snapRecord acc)
      ∧ s.Frame t (Part.port r.port :: .out :: Part.counts) [R.PMON_HALF])
  ∧ (∀ s : State, s.g F.MTR_STATUS_STATE ≠ 2 → s.mtr.restored = true → s.pwr.railsOff = false →
    completes .journalCommit s fun t =>
      (∃ c : Commit, ((t.mtr.bank0 = c.bytes ∧ t.mtr.bank1 = s.mtr.bank1) ∨ (t.mtr.bank1 = c.bytes ∧ t.mtr.bank0 = s.mtr.bank0))
        ∧ c.kind = 0 ∧ c.totals = s.mtr.done ∧ c.time = s.mtr.doneTime ∧ c.wrapped = s.mtr.doneWr)
      ∧ t.mtr.tot = s.mtr.tot ∧ t.pwr = { s.pwr with committed := s.pwr.committed || s.phase == 6 }
      ∧ s.Frame t (.pwr :: .mtr :: .free :: .page 0x60 :: Part.counts) [R.PMON_HALF])
  ∧ (∀ s : State, s.isMotor = true → s.pwr.domainsUp = true →
    completes .energyDisplayWrite s fun t =>
      (s.canonical = true → ∀ i acc, (s.slot i).present = true → (s.slot i).typ = 7 → s.ownsSlot i = true →
        slotAcc (s.slot i) = some acc → (s.slot i).forced = false → (t.slot i).value = BitVec.ofNat 64 (s.display acc)
          ∧ (t.slot i).quality = (if (s.accMembers acc).2 then (if s.accFault acc then 6 else 1) else 8))
      ∧ s.Frame t (.out :: Part.slots) [R.PMON_HALF])
  ∧ (∀ (s : State) (p : Fin 2) (n : Fin 49) (v : Word), n.val < 48 → s.mayWrite p (R.MTR_CH_CFG n) = true →
    completes (.mtrChCfgWrite p n false v) s fun t =>
      (bits v.toNat 2 2 ≠ 3 → t.rn (R.MTR_CH_CFG n) = v.toNat % 32)
      ∧ (bits v.toNat 2 2 = 3 → t.g (F.MTR_CH_CFG_VPHASE n) = s.g (F.MTR_CH_CFG_VPHASE n) ∧ t.bit R.MTR_EVENT 7 = true)
      ∧ (t.rn (R.MTR_CH_CFG n) ≠ s.rn (R.MTR_CH_CFG n) → s.recorded t 1)
      ∧ t.mtr.tot = s.mtr.tot
      ∧ s.Frame t (.mtr :: Part.records) [R.MTR_CH_CFG n, R.MTR_EVENT, R.LOG_EVENT, R.PMON_HALF])
  ∧ (∀ (s : State) (p : Fin 2) (n : Fin 49) (v : Word), n.val < 48 → s.mayWrite p (R.MTR_CH_PRIMARY n) = true →
    completes (.mtrChCfgWrite p n true v) s fun t =>
      t.rn (R.MTR_CH_PRIMARY n) = clampN 1 10000 (bits v.toNat 0 14) + bits v.toNat 16 16 * 65536
      ∧ (t.g (F.MTR_CH_PRIMARY_PRIMARY n) ≠ s.g (F.MTR_CH_PRIMARY_PRIMARY n) → s.recorded t 1)
      ∧ s.Frame t (.mtr :: Part.records) [R.MTR_CH_PRIMARY n, R.LOG_EVENT, R.PMON_HALF])
  ∧ (∀ (s : State) (p : Fin 2) (k : Fin 16) (v : Word), s.mayWrite p (R.MTR_CIR_CFG k) = true →
    let w := v.toNat &&& 0x803F3F3F
    let bad := ∃ c ∈ cirMembers w, 47 < c ∨ ∃ j < 16, j ≠ k.val ∧ c ∈ cirMembers (s.rn (R.MTR_CIR_CFG j))
    completes (.mtrCirCfgWrite p k v) s fun t =>
      (bad → t.rd (R.MTR_CIR_CFG k) = s.rd (R.MTR_CIR_CFG k) ∧ t.bit R.MTR_EVENT 7 = true)
      ∧ (¬ bad → t.rn (R.MTR_CIR_CFG k) = w)
      ∧ s.Frame t (.mtr :: Part.events) [R.MTR_CIR_CFG k, R.MTR_EVENT])
  ∧ (∀ (s : State) (time id : Nat) (w : List Nat) (l : List (Nat × Nat)), s.isMotor = false →
    completes (.totalsReceive time id w l) s fun t =>
      (s.mtr.own = [] → ∀ a ∈ accOrder, tget t.mtr.tot 0 a = tget l 0 a % 2 ^ 192)
      ∧ t.mtr.done = counts128 t.mtr.tot ∧ t.rn R.MTR_JOURNAL_ID = id % 2 ^ 32 ∧ t.mtr.adopted = time
      ∧ (∀ a ∈ s.mtr.wrapped, a ∈ t.mtr.wrapped) ∧ (∀ a ∈ w, accOk a = true → a ∈ t.mtr.wrapped)
      ∧ t.g F.MTR_STATUS_PARTNER_TOTALS = 1 ∧ t.g F.MTR_STATUS_GAP = 0
      ∧ (s.g F.DPX_STATUS_LANE0_UP = 1 → t.out = s.out ++ [.towline (.totalsAck time)])
      ∧ s.Frame t (.mtr :: .out :: .page 0x60 :: Part.counts) [R.PMON_HALF])
  ∧ (∀ (s : State) (time : Nat) (idle : List Nat), s.mtr.held = some (time, idle) →
    completes (.totalsAckReceive time) s fun t =>
      t.mtr.done = counts128 s.mtr.tot ∧ t.mtr.doneTime = time ∧ t.mtr.doneIdle = idle ∧ t.mtr.held = none
      ∧ t.mtr.tot = s.mtr.tot ∧ t.mtr.doneWr = s.mtr.wrapped
      ∧ t.g F.MTR_STATUS_WRAPPED_ANY = b2n (!s.mtr.wrapped.isEmpty)
      ∧ s.Frame t (.mtr :: Part.events) [R.MTR_STATUS, R.MTR_EVENT])
  ∧ (∀ s : State, s.isMotor = false → completes .dpxDisagreeWindow s fun t =>
      t.mtr = { s.mtr with winOwn := [], winBase := s.mtr.winLast }
      ∧ s.Frame t (.mtr :: Part.records) [R.MTR_DPX_DIFF, R.MTR_EVENT, R.LOG_EVENT, R.PMON_HALF])

/-- Compensation points are committed within limits or restored, and assay visits verify, calibrate and latch faults. (R303, R304, R305, R306, R307, R308, R309, R310) -/
def Obligations.MeteringCompensatedAndAssayed : Prop :=
  (∀ (s : State) (die mod : Int), s.pwr.domainsUp = true →
    let bad : Int → Prop := fun x => x < -500 ∨ 1300 < x
    completes (.mtcTempRead die mod) s fun t =>
      t.rn R.MTC_TEMP = ofSigned 16 die + ofSigned 16 mod * 65536
      ∧ (t.g F.MTC_STATUS_DIE_FAULT = 1 ↔ bad die) ∧ (t.g F.MTC_STATUS_MODULE_FAULT = 1 ↔ bad mod)
      ∧ (t.g F.MTC_STATUS_HOLDING = 1 ↔ (bad die ∧ bad mod) ∨ (¬ bad die ∧ ¬ bad mod ∧ 400 < (die - mod).natAbs))
      ∧ (bad die → s.g F.MTC_STATUS_DIE_FAULT = 0 → t.bit R.MTC_EVENT 0 = true)
      ∧ (bad die → t.mtr.dieT = s.mtr.dieT) ∧ t.mtr.tot = s.mtr.tot
      ∧ s.Frame t (.mtr :: Part.events) [R.MTC_TEMP, R.MTC_STATUS, R.MTC_EVENT])
  ∧ (∀ (s : State) (p : Fin 2) (k : Nat), s.mayWrite p R.MTC_CMD = true → s.mtcPoint p = some k →
    let g := toSigned 32 (s.mtcRead p 0)
    let f := toSigned 32 (s.mtcRead p 1)
    let ok := natBit (s.prd p R.MTC_SEL) 15 = false ∧ g.natAbs ≤ 53687091 ∧ f.natAbs ≤ 5000000
    completes (.mtcCommit p) s fun t =>
      (ok → tget t.mtr.gain 0 k = g ∧ tget t.mtr.phase 0 k = f
        ∧ (∀ j, j ≠ k → tget t.mtr.gain 0 j = tget s.mtr.gain 0 j ∧ tget t.mtr.phase 0 j = tget s.mtr.phase 0 j)
        ∧ tget t.mtr.staged none (2 * p.val) = none ∧ tget t.mtr.staged none (2 * p.val + 1) = none
        ∧ t.bit R.MTC_EVENT 2 = true)
      ∧ (¬ ok → t.mtr = s.mtr ∧ t.bit R.MTC_EVENT 3 = true)
      ∧ t.mtr.fgain = s.mtr.fgain ∧ t.mtr.fphase = s.mtr.fphase ∧ s.Frame t (.mtr :: Part.events) [R.MTC_EVENT])
  ∧ (∀ (s : State) (p : Fin 2) (k : Nat), s.mayWrite p R.MTC_CMD = true → s.mtcPoint p = some k →
    completes (.mtcRestore p) s fun t =>
      (∀ j, j / 32 = k / 32 → tget t.mtr.gain 0 j = tget s.mtr.fgain 0 j ∧ tget t.mtr.phase 0 j = tget s.mtr.fphase 0 j)
      ∧ (∀ j, j / 32 ≠ k / 32 → tget t.mtr.gain 0 j = tget s.mtr.gain 0 j ∧ tget t.mtr.phase 0 j = tget s.mtr.phase 0 j)
      ∧ t.mtr.fgain = s.mtr.fgain ∧ s.Frame t [.mtr] [])
  ∧ (∀ (s : State) (m : AssayMeas) (x : MtrStep), s.mtr.step = some x → x.cal = false → x.target = 48 →
    completes (.assayStepEnd m) s fun t =>
      t.mtr.refNs = some t.clk.upNs ∧ x.endNs ≤ t.clk.upNs ∧ t.mtr.tot = s.mtr.tot ∧ t.mtr.fails = s.mtr.fails
      ∧ s.Frame t (.clk :: .mtr :: .page 0x60 :: Part.counts) [R.PMON_HALF])
  ∧ (∀ (s : State) (m : AssayMeas) (x : MtrStep), s.mtr.step = some x → x.cal = false → x.target < 48 →
    let c := x.target
    let code := verifyCode m
    completes (.assayStepEnd m) s fun t =>
      t.g (F.MTR_CH_STATUS_LAST_RESULT c) = code
      ∧ t.g (F.MTR_CH_STATUS_VISITS c) = min (s.g (F.MTR_CH_STATUS_VISITS c) + 1) (2 ^ 16 - 1)
      ∧ (code = 1 → tget t.mtr.fails 0 c = 0)
      ∧ ((code = 2 ∨ code = 3) → 1 ≤ tget s.mtr.fails 0 c → s.g (F.MTR_CH_STATUS_ASSAY_FAULT c) = 0 →
          t.g (F.MTR_CH_STATUS_ASSAY_FAULT c) = 1 ∧ t.bit R.MTR_EVENT 4 = true ∧ s.recorded t 1)
      ∧ x.endNs ≤ t.clk.upNs ∧ t.mtr.tot = s.mtr.tot
      ∧ s.Frame t (.clk :: .mtr :: .page 0x60 :: Part.records) [R.LOG_EVENT, R.PMON_HALF])
  ∧ (∀ (s : State) (m : AssayMeas) (x : MtrStep), s.mtr.step = some x → x.cal = true → x.target < 48 →
    let c := x.target
    let g := toSigned 32 (s.rn (R.MTR_CH_TRIM c)) + m.trim
    let f := toSigned 32 (s.rn (R.MTR_CH_TRIMPH c)) + m.trimPh
    let large := 5368709 < g.natAbs ∨ 500000 < f.natAbs
    completes (.calStepEnd m) s fun t =>
      (m.noSignal = true → t.g (F.MTR_CH_STATUS_LAST_RESULT c) = 4 ∧ c ∈ t.mtr.again)
      ∧ (m.noSignal = false → large → t.g (F.MTR_CH_STATUS_LAST_RESULT c) = 6)
      ∧ (m.noSignal = false → ¬ large → m.checkOk = true → t.g (F.MTR_CH_STATUS_LAST_RESULT c) = 5
          ∧ t.rn (R.MTR_CH_TRIM c) = ofSigned 32 g ∧ t.rn (R.MTR_CH_TRIMPH c) = ofSigned 32 f ∧ t.bit R.MTR_EVENT 5 = true)
      ∧ (m.noSignal = true ∨ large ∨ m.checkOk = false →
          t.rd (R.MTR_CH_TRIM c) = s.rd (R.MTR_CH_TRIM c) ∧ t.rd (R.MTR_CH_TRIMPH c) = s.rd (R.MTR_CH_TRIMPH c))
      ∧ (m.noSignal = false → c ∉ t.mtr.again) ∧ t.mtr.tot = s.mtr.tot
      ∧ s.Frame t (.clk :: .mtr :: .page 0x60 :: Part.records) [R.LOG_EVENT, R.PMON_HALF])
  ∧ (∀ (s : State) (p : Fin 2) (c : Fin 64), c.val < 48 → s.mayWrite p R.MTR_CAL_CMD = true →
    completes (.verify p c) s fun t =>
      t.mtr.queue = (if s.mtr.queue.any (fun q => q.1 == c.val) then s.mtr.queue else s.mtr.queue ++ [(c.val, false)])
      ∧ c.val ∉ t.mtr.again ∧ t.g (F.MTR_CH_STATUS_CAL_PENDING c) = 1 ∧ s.Frame t [.mtr, .page 0x60] [])
  ∧ (∀ (s : State) (p : Fin 2) (c : Fin 64), c.val < 48 → s.mayWrite p R.MTR_CAL_CMD = true →
    completes (.calibrate p c) s fun t =>
      (c.val, true) ∈ t.mtr.queue ∧ (∀ q, q.1 ≠ c.val → (q ∈ t.mtr.queue ↔ q ∈ s.mtr.queue))
      ∧ t.g (F.MTR_CH_STATUS_CAL_PENDING c) = 1 ∧ s.Frame t [.mtr, .page 0x60] [])
  ∧ (∀ (s : State) (p : Fin 2) (c : Fin 64), s.mayWrite p R.MTR_CAL_CMD = true →
    completes (.clearFault p c) s fun t =>
      (∀ d < 48, (c.val = d ∨ c.val = 63) → t.g (F.MTR_CH_STATUS_ASSAY_FAULT d) = 0 ∧ tget t.mtr.fails 0 d = 0)
      ∧ (∀ d < 48, c.val ≠ d → c.val ≠ 63 →
          t.rd (R.MTR_CH_STATUS d) = s.rd (R.MTR_CH_STATUS d) ∧ tget t.mtr.fails 0 d = tget s.mtr.fails 0 d)
      ∧ t.mtr.queue = s.mtr.queue ∧ s.Frame t [.mtr, .page 0x60] [])

/-- A declared fault is counted, shown and recorded and has its class's reaction; tests run in slices and end with a result. (R445, R446, R447, R448, R450, R451, R453, R456, R457) -/
def Obligations.FaultsDeclaredAndTested : Prop :=
  (∀ (s : State) (f : FaultRep) (rest : List FaultRep) (task : Option (Fin 96)), s.reports = f :: rest → f.cls = 13 →
    completes (.faultDeclare none task) s fun t =>
      t.reports = rest ∧ t.rd R.SAF_FAULTS = s.rd R.SAF_FAULTS + 1#32
      ∧ t.rn R.SAF_FAULT_LAST = 13 * 2 ^ 28 + 6 * 2 ^ 24 + f.unit % 256 * 2 ^ 16 + f.inst % 256 * 2 ^ 8
      ∧ t.rn64 R.SAF_FAULT_TIME_LO = s.ptpNs % 2 ^ 64 ∧ t.bit R.SAF_EVENT 0 = true ∧ s.recorded t 1
      ∧ s.Frame t (.reports :: Part.records)
          [R.SAF_FAULTS, R.SAF_FAULT_LAST, R.SAF_FAULT_TIME_LO, R.SAF_FAULT_TIME_HI, R.SAF_EVENT, R.LOG_EVENT, R.PMON_HALF])
  ∧ (∀ (s : State) (f : FaultRep) (task : Option (Fin 96)), s.hasPartner = false → s.isMotor = true → f.cls = 5 ∨ f.cls = 9 →
    completes (.faultDeclare (some f) task) s fun t =>
      t.pwr = { s.pwr with resetOrdered := some 3 } ∧ t.rd R.SAF_FAULTS = s.rd R.SAF_FAULTS + 1#32
      ∧ t.g F.SAF_FAULT_LAST_CLASS = f.cls ∧ t.g F.SAF_FAULT_LAST_REACTION = 3
      ∧ (f.cls = 5 → t.rd R.SAF_ECC_UNCORR = s.rd R.SAF_ECC_UNCORR + 1#32 ∧ t.rn R.SAF_ECC_LAST = f.pc &&& 0xF03FFFFF)
      ∧ (f.cls = 9 → t.rd R.SAF_ECC_UNCORR = s.rd R.SAF_ECC_UNCORR ∧ t.rd R.SAF_ECC_LAST = s.rd R.SAF_ECC_LAST)
      ∧ t.bit R.SAF_EVENT 0 = true ∧ s.recorded t 1
      ∧ s.Frame t (.pwr :: Part.records) [R.SAF_FAULTS, R.SAF_FAULT_LAST, R.SAF_FAULT_TIME_LO, R.SAF_FAULT_TIME_HI,
          R.SAF_ECC_UNCORR, R.SAF_ECC_LAST, R.SAF_EVENT, R.LOG_EVENT, R.PMON_HALF])
  ∧ (∀ (s : State) (f : FaultRep) (task : Option (Fin 96)), s.hasPartner = false → s.isMotor = true → s.active = true →
    f.cls = 4 ∨ f.cls = 8 → completes (.faultDeclare (some f) task) s fun t =>
      t.mode = 0 ∧ t.g F.SCN_STATUS_STOP_CAUSE = 5 ∧ t.g F.SAF_FAULT_LAST_CLASS = f.cls
      ∧ t.g F.SAF_FAULT_LAST_REACTION = 1 ∧ t.rd R.SAF_FAULTS = s.rd R.SAF_FAULTS + 1#32 ∧ t.mtr = s.mtr
      ∧ t.pending = s.pending)
  ∧ (∀ (s : State) (f : FaultRep) (task : Option (Fin 96)), s.g F.MOD_STRAP_PARTNER_PRESENT = 1 →
    s.g F.DPX_STATUS_GRANT_OUT = 1 → s.active = true → f.cls = 4 ∨ f.cls = 8 →
    completes (.faultDeclare (some f) task) s fun t =>
      t.g F.DPX_STATUS_GRANT_OUT = 0 ∧ t.dpx.releaseOut = false ∧ t.g F.DPX_STATUS_PAIR_STATE = 4
      ∧ t.g F.SAF_FAULT_LAST_REACTION = 2 ∧ t.mode = 0 ∧ t.g F.SCN_STATUS_STOP_CAUSE = 5)
  ∧ (∀ (s : State) (u : Fin 8) (task : Option (Fin 96)), 4 ≤ u.val → s.saf.restarting.contains u.val = false →
    completes (.heartbeatMiss u task) s fun t =>
      t.rd R.SAF_HB_MISS = s.rd R.SAF_HB_MISS + 1#32 ∧ t.rd R.SAF_FAULTS = s.rd R.SAF_FAULTS + 1#32
      ∧ t.g F.SAF_FAULT_LAST_CLASS = 10
      ∧ (s.missedAgain u = false → u.val ∈ t.saf.restarting ∧ tget t.saf.missed none u = some s.clk.upNs
          ∧ t.bit R.SAF_EVENT 3 = true ∧ t.pwr = s.pwr)
      ∧ (s.missedAgain u = true → t.pwr = { s.pwr with resetOrdered := some 3 } ∧ t.saf = s.saf)
      ∧ s.recorded t 1
      ∧ s.Frame t (.saf :: .pwr :: Part.records) [R.SAF_HB_MISS, R.SAF_FAULTS, R.SAF_FAULT_LAST, R.SAF_FAULT_TIME_LO,
          R.SAF_FAULT_TIME_HI, R.SAF_EVENT, R.LOG_EVENT, R.PMON_HALF])
  ∧ (∀ (s : State) (u : Fin 8) (task : Option (Fin 96)), u.val < 4 → s.saf.restarting.contains u.val = false →
    s.hasPartner = false → s.isMotor = true → s.active = true → completes (.heartbeatMiss u task) s fun t =>
      t.rd R.SAF_HB_MISS = s.rd R.SAF_HB_MISS + 1#32 ∧ t.mode = 0 ∧ t.g F.SCN_STATUS_STOP_CAUSE = 5 ∧ t.mtr = s.mtr)
  ∧ (∀ (s : State) (u : Fin 8) (ok : Bool), s.saf.restarting.contains u.val = true →
    completes (.unitRestartDone u ok) s fun t =>
      (∀ x, x ∈ t.saf.restarting ↔ x ∈ s.saf.restarting ∧ x ≠ u.val)
      ∧ (ok = false → t.pwr = { s.pwr with resetOrdered := some 3 }) ∧ (ok = true → t.pwr = s.pwr)
      ∧ (ok = true → u.val = 4 ∨ u.val = 5 → t.mtr.gapFrom.isSome = true ∧ t.mtr.tot = s.mtr.tot)
      ∧ (ok = true → u.val = 6 → ∀ n < 3, (t.mac n).rx = [])
      ∧ (u.val ≠ 7 ∨ s.rep.waiting = none →
          s.Frame t [.saf, .pwr, .mtr, .eth] [R.ETH_STATUS 0, R.ETH_STATUS 1, R.ETH_STATUS 2]))
  ∧ (∀ (s : State) (n : Nat), completes (.eccHigh n) s fun t =>
      let next := s.saf.hourFrom + 3600000000000 ≤ s.clk.upNs
      let hour := (if next then 0 else s.saf.hour) + n
      let warn := s.g F.SAF_CTL_ECC_WARN
      let say := warn ≠ 0 ∧ warn < hour ∧ (next ∨ s.saf.hourSent = false)
      t.rd R.SAF_ECC_CORR = s.rd R.SAF_ECC_CORR + BitVec.ofNat 32 n ∧ t.saf.hour = hour
      ∧ (say → t.bit R.SAF_EVENT 1 = true ∧ s.recorded t 1 ∧ t.saf.hourSent = true)
      ∧ (¬ say → t.log = s.log ∧ t.rd R.SAF_EVENT = s.rd R.SAF_EVENT)
      ∧ t.saf.targets = s.saf.targets
      ∧ s.Frame t (.saf :: Part.records) [R.SAF_ECC_CORR, R.SAF_EVENT, R.LOG_EVENT, R.PMON_HALF])
  ∧ (∀ (s : State) (n : Fin 9), s.inService = true → (s.target n).inSlice = false →
    (s.target n).st = 2 ∨ ((s.target n).st = 1
      ∧ ∀ k ∈ sameResource n, (s.target k).st ≠ 2 ∧ (n.val ≤ k ∨ (s.target k).st ≠ 1)) →
    completes (.assaySliceStart n) s fun t =>
      let forced := b2n (!s.slack n)
      (t.target n).inSlice = true ∧ (t.target n).st = 2 ∧ (∀ k, k ≠ n.val → t.target k = s.target k)
      ∧ (t.target n).forced = min 255 ((if (s.target n).st = 1 then 0 else (s.target n).forced) + forced)
      ∧ t.rd R.ASY_FORCED = s.rd R.ASY_FORCED + BitVec.ofNat 32 forced
      ∧ s.Frame t (.saf :: Part.counts) [R.ASY_FORCED, R.PMON_HALF])
  ∧ (∀ (s : State) (n : Fin 9) (fail : Bool), (s.target n).inSlice = true → completes (.assaySliceEnd n fail) s fun t =>
      let x := s.target n
      let last := fail = true ∨ sliceCount n ≤ x.slices + 1
      (t.target n).slices = x.slices + 1 ∧ (t.target n).inSlice = false
      ∧ (∀ k, k ≠ n.val → t.target k = s.target k) ∧ s.clk.upNs + sliceNs n ≤ t.clk.upNs
      ∧ (last → (t.target n).result = (if fail = true then 2 else 1) ∧ (t.target n).st = b2n x.again
          ∧ t.rd R.ASY_RUNS = s.rd R.ASY_RUNS + 1#32 ∧ t.bit R.ASY_EVENT 0 = true ∧ s.recorded t 1)
      ∧ (fail = true → t.bit R.ASY_EVENT 1 = true
          ∧ t.reports = s.reports ++ [⟨12, (targetUnit n).1, (targetUnit n).2, 0⟩]
          ∧ (n.val < 4 → t.bit R.SCN_STATUS (8 + n.val) = false))
      ∧ (fail = false → t.reports = s.reports)
      ∧ (¬ last → (t.target n).st = x.st ∧ (t.target n).result = x.result ∧ t.log = s.log)
      ∧ s.Frame t (.clk :: .saf :: .reports :: .scn :: Part.records)
          [R.ASY_EVENT, R.ASY_RUNS, R.SCN_STATUS, R.LOG_EVENT, R.PMON_HALF])
  ∧ (∀ s : State, s.g F.ASY_CTL_PERIODIC = 1 → s.inService = true → completes .assayPeriodicRequest s fun t =>
      (∀ k < 33, (t.target k).st ≠ 0) ∧ (∀ k < 33, (s.target k).st = 2 → (t.target k).again = true)
      ∧ (∀ k, 33 ≤ k → t.target k = s.target k) ∧ s.Frame t [.saf] [])
  ∧ (∀ (s : State) (p : Fin 2) (n : Fin 64), s.mayWrite p R.ASY_CMD = true → n.val < 9 →
    completes (.asyTest p n) s fun t =>
      ((s.target n).st = 0 → t.target n = { s.target n with st := 1, cal := false })
      ∧ ((s.target n).st = 1 → t.target n = s.target n)
      ∧ ((s.target n).st = 2 → (t.target n).again = true ∧ (t.target n).st = 2)
      ∧ (∀ k < 35, k < 9 ∨ 33 ≤ k → k ≠ n.val → t.target k = s.target k) ∧ s.Frame t [.saf] [])
  ∧ (∀ (s : State) (p : Fin 2) (n : Fin 64), s.mayWrite p R.ASY_CMD = true → 9 ≤ n.val → n.val < 33 →
    completes (.asyCalibrate p n) s fun t =>
      ((s.target n).st = 0 → (t.target n).st ≠ 0 ∧ (t.target n).cal = true)
      ∧ ((s.target n).st = 2 → (s.target n).again = false → t.target n = { s.target n with again := true, againCal := true })
      ∧ (∀ k < 35, k < 9 ∨ 33 ≤ k → t.target k = s.target k) ∧ s.Frame t [.saf] [])
  ∧ (∀ (s : State) (n : Fin 24) (fail limit : Bool), (s.target (9 + n.val)).st = 2 →
    completes (.islandTestEnd n fail limit) s fun t =>
      let x := s.target (9 + n.val)
      let skip := s.islMode n = 0 ∨ (s.isl n).st = .off ∨ s.g (F.LI_STATUS_OPEN n) = 1
      (t.target (9 + n.val)).result = (if skip then 6 else if fail = true then 2 else if x.cal = false then 1
        else if limit = true then 5 else 4)
      ∧ x.since + 20000000 ≤ t.clk.upNs ∧ t.rd R.ASY_RUNS = s.rd R.ASY_RUNS + 1#32 ∧ t.bit R.ASY_EVENT 0 = true
      ∧ s.recorded t 1
      ∧ (¬ skip → fail = true → t.bit R.ASY_EVENT 1 = true ∧ t.reports = s.reports ++ [⟨12, 8 + n.val / 8, n.val, 0⟩])
      ∧ (skip ∨ fail = false → t.reports = s.reports)
      ∧ s.Frame t (.clk :: .saf :: .reports :: Part.records) [R.ASY_EVENT, R.ASY_RUNS, R.LOG_EVENT, R.PMON_HALF])
  ∧ (∀ (s : State) (mram : Bool) (n : Nat),
    let k := if mram then 34 else 33
    (s.target k).st = 2 → completes (.scrubPassEnd mram n) s fun t =>
      (t.target k).result = 1 ∧ (t.target k).st = 2 ∧ (∀ j, j ≠ k → t.target j = s.target j)
      ∧ t.rd R.SAF_ECC_CORR = (if mram then s.rd R.SAF_ECC_CORR else s.rd R.SAF_ECC_CORR + BitVec.ofNat 32 n)
      ∧ t.rd R.ASY_RUNS = s.rd R.ASY_RUNS + 1#32 ∧ t.bit R.ASY_EVENT 0 = true ∧ s.recorded t 1
      ∧ s.Frame t (.saf :: Part.records) [R.SAF_ECC_CORR, R.ASY_EVENT, R.ASY_RUNS, R.LOG_EVENT, R.PMON_HALF])

/-- The logbook returns, keeps and clears its records, takes a new epoch at once, and the counters count, freeze and clear. (R398, R401, R404, R405, R406, R407, R417, R454, R455, R458) -/
def Obligations.LogbookReadClearedAndCounted : Prop :=
  (∀ (s : State) (r : OpRef) (b : HostBuf) (damaged : List (Nat × List Byte)) (o : Op), s.ready r 0x20 o →
    writeStatus o.entry b = 0 →
    let l := logPick (if o.entry.arg0 = 0 then s.log.main else s.log.audit) o.entry.arg1 o.entry.arg2
    let first := (match l with | q :: _ => q.1 % 2 ^ 32 | [] => o.entry.arg1)
    let stored := fun (q : Nat × LogRec) => match damaged.find? (fun d => d.1 == q.1) with
      | some d => d.2
      | none => q.2.bytes
    completes (.logRead r b damaged) s fun t =>
      t.answered r 0 (fun c => c.result = (l.length + first * 2 ^ 32) % 2 ^ 64)
      ∧ s.delivered t r o.entry b (l.flatMap (fun q => (stored q).take 32))
      ∧ t.rd R.LOG_CRC_ERR = s.rd R.LOG_CRC_ERR
          + BitVec.ofNat 32 (l.filter (fun q => crc32c ((stored q).take 28) != leNat ((stored q).drop 28))).length
      ∧ s.Frame t [Part.port r.port, .out] [R.LOG_CRC_ERR])
  ∧ (∀ (s : State) (r : OpRef) (b : HostBuf) (o : Op), s.ready r 0x21 o → s.log.clear = none → s.sec.rootOk = false →
    completes (.logClear r b) s fun t =>
      t.answered r 0x0B (fun c => c.result = 10) ∧ t.bit R.LOG_EVENT 4 = true ∧ s.recorded t 1 ∧ t.log.clear = none
      ∧ s.Frame t (Part.port r.port :: Part.records) [R.LOG_EVENT, R.PMON_HALF])
  ∧ (∀ (s : State) (r : OpRef) (b : HostBuf) (o : Op), s.ready r 0x21 o → s.log.clear = none → s.sec.rootOk = true →
    readStatus o.entry b = 0 →
    let tok := b.data.take o.entry.bufLen
    completes (.logClear r b) s fun t =>
      ((s.tokenReason 2 [0#8] tok).isSome = true → t.answered r 0x0A (fun _ => True) ∧ t.bit R.LOG_EVENT 4 = true
          ∧ t.bit R.CRU_EVENT 1 = true ∧ t.rd R.CRU_TOKEN_FAILS = s.rd R.CRU_TOKEN_FAILS + 1#32 ∧ s.recorded t 2
          ∧ t.log.clear = none)
      ∧ (s.tokenReason 2 [0#8] tok = none →
          t.log.clear = some ⟨r, callerOf r o, tokCounter tok, s.mainReaders⟩ ∧ t.bit R.CRU_EVENT 2 = true
            ∧ s.recorded t 1 ∧ t.tokenCtr 2 = s.tokenCtr 2)
      ∧ s.Frame t (Part.port r.port :: .free :: Part.records)
          [R.CRU_TOKEN_FAILS, R.CRU_EVENT, R.LOG_EVENT, R.PMON_HALF])
  ∧ (∀ (s : State) (c : ClearWait) (o : Op), s.log.clear = some c →
    (∀ r ∈ c.readers, ∀ q ∈ (s.port r.port).ops, q.is r = false) → s.opRunning c.op = some o →
    completes .logClearSwitch s fun t =>
      (∃ e, t.log.main.head? = some (s.log.mainNext, e) ∧ e.code = 0x7001
        ∧ e.p0 = min (s.log.main.length + s.log.stage.length) (2 ^ 32 - 1) ∧ e.p2 = c.counter % 2 ^ 32)
      ∧ t.log.main.length = 1 ∧ t.log.clear = none ∧ s.recorded t 1
      ∧ t.rd R.LOG_CLEARS = s.rd R.LOG_CLEARS + 1#32 ∧ t.bit R.LOG_EVENT 3 = true
      ∧ t.tokenCtr 2 = c.counter ∧ t.answered c.op 0 (fun x => x.result = 0))
  ∧ (∀ (s : State) (x : StagedRec) (rest : List StagedRec), s.log.stage = x :: rest →
    completes .logRecordWrite s fun t =>
      t.log.stage = rest
      ∧ (s.log.main.length < 1048576 → t.log.main = s.log.main ++ [(x.num, x.entry)])
      ∧ (1048576 ≤ s.log.main.length → t.log.main = s.log.main.drop 1 ++ [(x.num, x.entry)] ∧ t.log.mainOver = true)
      ∧ (x.auditNum = none → t.log.audit = s.log.audit)
      ∧ (∀ a, x.auditNum = some a → s.log.audit.length < 65536 → t.log.audit = s.log.audit ++ [(a, x.entry)])
      ∧ t.log.mainNext = s.log.mainNext
      ∧ (∀ c < 16, tget t.pmon 0 c =
          (if s.pmonTakes c 577 = true then (tget s.pmon 0 c + 1) % 2 ^ 48 else tget s.pmon 0 c))
      ∧ s.Frame t Part.records [R.LOG_EVENT, R.PMON_HALF])
  ∧ (∀ s : State, completes .logFloodSecond s fun t =>
      t.log = { s.log with posts := 0, flooded := false } ∧ s.Frame t [.log] [])
  ∧ (∀ (s : State) (p : Fin 2), s.mayWrite p R.LOG_EPOCH_CMD = true →
    completes (.epochApply p true) s fun t =>
      t.log.epochMs = s.epochRead p R.LOG_EPOCH_MS_LO + s.epochRead p R.LOG_EPOCH_MS_HI * 2 ^ 32
      ∧ t.log.epochTick = s.epochRead p R.LOG_EPOCH_TICK_LO + s.epochRead p R.LOG_EPOCH_TICK_HI * 2 ^ 32
      ∧ t.log.epochSet = true ∧ (t.port p).epoch = [] ∧ s.recorded t 1
      ∧ s.Frame t (Part.port p :: Part.records) [R.LOG_EVENT, R.PMON_HALF])
  ∧ (∀ (s : State) (p : Fin 2), s.mayWrite p R.LOG_EPOCH_CMD = true →
    completes (.epochApply p false) s fun t => s.Frame t [] [])
  ∧ (∀ (s : State) (p : Fin 2), s.mayWrite p R.PMON_CTL = true →
    completes (.pmonClear p) s fun t =>
      t.pmon = [] ∧ t.g F.PMON_CTL_FREEZE = s.g F.PMON_CTL_FREEZE ∧ s.Frame t [.pmon] [R.PMON_CTL])
  ∧ (∀ (s : State) (p : Fin 2) (freeze : Bool), s.mayWrite p R.PMON_CTL = true →
    completes (.pmonFreeze p freeze) s fun t =>
      t.g F.PMON_CTL_FREEZE = b2n freeze ∧ (∀ c src, freeze = true → t.pmonTakes c src = false)
      ∧ s.Frame t [] [R.PMON_CTL])
  ∧ (∀ (s : State) (p : Fin 2) (c : Fin 16) (v : Word), s.mayWrite p (R.PMON_C_SEL c) = true →
    completes (.pmonSelWrite p c v) s fun t =>
      t.rn (R.PMON_C_SEL c) = v.toNat &&& 0xC00003FF ∧ t.pmon = s.pmon ∧ s.Frame t [.pmon] [R.PMON_C_SEL c])

/-- Each module judges its partner by ALIVE, GRANT and the lanes, and takes over or gives up its role as the table decides. (R313, R314, R315, R316, R317, R325, R326, R328, R337) -/
def Obligations.PairJudgesItsPartner : Prop :=
  (∀ s : State, completes .aliveSilent s fun t =>
      t.g F.DPX_STATUS_ALIVE_OK = 0 ∧ t.dpx.silentAt = some s.clk.upNs ∧ t.g F.DPX_STATUS_GRANT_OUT = s.g F.DPX_STATUS_GRANT_OUT
      ∧ (s.hasPartner = false → s.g F.DPX_STATUS_ALIVE_OK = 0 → s.Frame t [.dpx] [R.DPX_STATUS])
      ∧ (s.hasPartner = true ∨ s.g F.DPX_STATUS_ALIVE_OK = 1 → s.g F.DPX_STATUS_GRANT_OUT = 1 → t.bit R.DPX_EVENT 2 = true
          ∧ (1 ≤ s.pairState → s.pairState ≤ 3 → s.pairNow t 4 9)
          ∧ (s.pairState = 0 ∨ 3 < s.pairState → t.pairState = s.pairState))
      ∧ (s.hasPartner = true ∨ s.g F.DPX_STATUS_ALIVE_OK = 1 → s.g F.DPX_STATUS_GRANT_OUT = 0 → s.eligible = true → s.dpx.taking = none →
          t.dpx.taking = some (2, s.clk.upNs) ∧ t.pairState = s.pairState)
      ∧ s.Frame t Part.pairs pairRegs)
  ∧ (∀ s : State, completes .aliveGood s fun t =>
      t.g F.DPX_STATUS_ALIVE_OK = 1 ∧ t.dpx = { s.dpx with silentAt := none }
      ∧ (s.g F.DPX_STATUS_ALIVE_OK = 0 → s.hasPartner = true → s.grantOut = true → t.bit R.DPX_EVENT 3 = true)
      ∧ (s.g F.DPX_STATUS_ALIVE_OK ≠ 0 → t.rd R.DPX_EVENT = s.rd R.DPX_EVENT)
      ∧ t.pairState = s.pairState ∧ s.Frame t (.dpx :: Part.events) [R.DPX_STATUS, R.DPX_EVENT])
  ∧ (∀ s : State, completes .aliveGeneratorStop s fun t =>
      t.g F.DPX_STATUS_GRANT_OUT = 0 ∧ t.dpx.releaseOut = false ∧ t.pairState = s.pairState
      ∧ (s.grantOut = true → t.rd R.DPX_SWITCHES = s.rd R.DPX_SWITCHES + 1#32 ∧ t.rn R.DPX_LAST_SWITCH = 6 * 2 ^ 24
          ∧ t.rn64 R.DPX_SWITCH_TIME_LO = s.ptpNs % 2 ^ 64 ∧ t.dpx.switchAt = none)
      ∧ (s.grantOut = false → t.rd R.DPX_SWITCHES = s.rd R.DPX_SWITCHES)
      ∧ s.Frame t [.dpx] [R.DPX_STATUS, R.DPX_SWITCHES, R.DPX_LAST_SWITCH, R.DPX_SWITCH_TIME_LO, R.DPX_SWITCH_TIME_HI])
  ∧ (∀ (s : State) (grant release : Bool), completes (.grantInEdge grant release) s fun t =>
      let near := ∃ a, s.dpx.abdAt = some a ∧ s.clk.upNs ≤ a + 20000
      t.g F.DPX_STATUS_GRANT_IN = b2n grant ∧ t.g F.DPX_STATUS_RELEASE_IN = b2n release ∧ t.pairState = s.pairState
      ∧ (s.g F.DPX_STATUS_GRANT_IN = 1 → grant = false → t.dpx.grantLow = some s.clk.upNs
          ∧ (s.eligible = true → s.dpx.taking = none → near ∨ s.lanesDown = true →
              t.dpx.taking = some (if s.dpx.xcAbd then 4 else 1, s.clk.upNs))
          ∧ (¬ near → s.lanesDown = false → t.dpx.taking = s.dpx.taking))
      ∧ (grant = true → t.dpx = { s.dpx with grantLow := none })
      ∧ s.Frame t [.dpx] [R.DPX_STATUS])
  ∧ (∀ s : State, completes .abdicate s fun t =>
      t.dpx.abdAt = some s.clk.upNs
      ∧ (∀ n, s.g F.DPX_STATUS_GRANT_IN = 0 → s.dpx.grantLow = some n → s.eligible = true → s.dpx.taking = none →
          t.dpx.taking = some (if s.dpx.xcAbd then 4 else 1, n))
      ∧ (s.eligible = false → t.dpx.taking = s.dpx.taking) ∧ s.Frame t [.dpx] [])
  ∧ (∀ (s : State) (n : Nat), s.dpx.grantLow = some n → s.isButty = true → s.dpx.taking = none → s.lanesDown = false →
    completes .abdicateWindowExpire s fun t =>
      t.g F.DPX_STATUS_LINE_FAULT = 1 ∧ t.bit R.DPX_EVENT 9 = true ∧ n + 20000 ≤ t.clk.upNs
      ∧ t.pairState = s.pairState ∧ s.Frame t (.clk :: Part.events) [R.DPX_STATUS, R.DPX_EVENT])
  ∧ (∀ s : State, s.g F.DPX_STATUS_GRANT_OUT = 1 → s.g F.DPX_STATUS_GRANT_IN = 1 → completes .dualMotor s fun t =>
      t.bit R.DPX_EVENT 10 = true
      ∧ (s.posB = false → t.g F.DPX_STATUS_GRANT_OUT = 1 ∧ s.Frame t Part.events [R.DPX_EVENT])
      ∧ (s.posB = true → t.g F.DPX_STATUS_GRANT_OUT = 0 ∧ t.dpx.releaseOut = false ∧ t.rn R.DPX_LAST_SWITCH = 5 * 2 ^ 24
          ∧ t.rd R.DPX_SWITCHES = s.rd R.DPX_SWITCHES + 1#32
          ∧ (s.synced = true → t.synced = true) ∧ (s.synced = false → s.pairNow t 4 6))
      ∧ s.Frame t Part.pairs pairRegs)
  ∧ (∀ (s : State) (k : Fin 2), completes (.laneDown k) s fun t =>
      let was := s.bit R.DPX_STATUS (4 + k.val)
      t.bit R.DPX_STATUS (4 + k.val) = false ∧ t.bit R.DPX_STATUS (5 - k.val) = s.bit R.DPX_STATUS (5 - k.val)
      ∧ (was = true → t.bit R.DPX_EVENT 8 = true)
      ∧ (was = true → s.bit R.DPX_STATUS (5 - k.val) = false → t.dpx.downAt = some s.clk.upNs)
      ∧ (was = false ∨ s.bit R.DPX_STATUS (5 - k.val) = true → t.dpx = s.dpx)
      ∧ t.pairState = s.pairState ∧ s.Frame t (.dpx :: Part.events) [R.DPX_STATUS, R.DPX_EVENT])
  ∧ (∀ (s : State) (k : Fin 2), completes (.laneUp k) s fun t =>
      t.bit R.DPX_STATUS (4 + k.val) = true ∧ t.bit R.DPX_STATUS (5 - k.val) = s.bit R.DPX_STATUS (5 - k.val)
      ∧ t.dpx = { s.dpx with downAt := none } ∧ t.pairState = s.pairState ∧ s.Frame t [.dpx] [R.DPX_STATUS])
  ∧ (∀ (s : State) (n : Nat), s.dpx.downAt = some n → completes .lanesDown s fun t =>
      (1 ≤ s.pairState → s.pairState ≤ 3 → s.pairNow t 4 6)
      ∧ (s.pairState = 0 ∨ 3 < s.pairState → t.pairState = s.pairState)
      ∧ t.g F.DPX_STATUS_GRANT_OUT = s.g F.DPX_STATUS_GRANT_OUT ∧ n + 1000000 ≤ t.clk.upNs
      ∧ s.Frame t (.clk :: Part.pairs) pairRegs)
  ∧ (∀ s : State, s.isMotor = true → completes .notReady s fun t =>
      t.bit R.DPX_EVENT 2 = true ∧ (s.pairState = 0 → t.pairState = 0) ∧ (s.pairState ≠ 0 → s.pairNow t 4 9)
      ∧ t.isMotor = true ∧ s.Frame t Part.pairs pairRegs)
  ∧ (∀ (s : State) (x : Nat × Nat), s.dpx.taking = some x → s.isButty = true → completes (.takeover false) s fun t =>
      t.dpx.taking = none ∧ t.isButty = true ∧ (s.pairState ≠ 4 → s.pairState ≠ 5 → s.pairNow t 4 9)
      ∧ s.Frame t (.out :: Part.pairs) pairRegs)
  ∧ (∀ (s : State) (cause start : Nat), s.dpx.taking = some (cause, start) → cause < 256 →
    completes (.takeover true) s fun t =>
      t.g F.DPX_STATUS_GRANT_OUT = 1 ∧ t.dpx.releaseOut = true ∧ t.dpx.taking = none ∧ t.isMotor = true
      ∧ t.rn R.DPX_LAST_SWITCH = cause * 2 ^ 24 + min ((s.clk.upNs - start) / 100) 65535
      ∧ t.rd R.DPX_SWITCHES = s.rd R.DPX_SWITCHES + 1#32 ∧ t.bit R.DPX_EVENT 0 = true ∧ t.pairState = (if s.hasPartner then 4 else 0)
      ∧ t.g F.DPX_STATUS_LINE_FAULT = 0 ∧ t.rep.seq = s.dpx.seqReport.getD s.rep.seq
      ∧ t.clk = s.clk ∧ t.mtr = s.mtr ∧ t.gates = s.gates ∧ t.can = s.can ∧ t.le = s.le ∧ t.saf = s.saf ∧ t.bkd = s.bkd
      ∧ t.sec = s.sec ∧ t.eth = s.eth ∧ t.ptp = s.ptp ∧ t.settings = s.settings ∧ t.pending = s.pending)

/-- The pair ships inputs and hashes, mirrors writes, and cross-checks a mismatch as the table of findings decides. (R301, R319, R320, R321, R323, R329, R330, R331, R337) -/
def Obligations.PairRunsInStep : Prop :=
  (∀ (s : State) (n : Fin 96) (e : TaskEnt) (ref : Nat) (l : List ShipEnt) (outs : List (Nat × Option Word64)),
    s.ent n = some e → s.synced = true → s.isButty = true →
    completes (.inputs n ref l outs) s fun t =>
      let now := (s.task n).st = .running ∧ (s.task n).latched = false ∧ s.running = true ∧ (s.task n).release = ref
      (¬ now → tget t.dpx.inbuf none n.val = some ⟨ref, l, outs⟩ ∧ t.scn.task = s.scn.task)
      ∧ (now → (t.task n).latched = true ∧ (t.task n).shipped = true ∧ tget t.dpx.inbuf none n.val = none
          ∧ ∀ (i : Nat) (x : ShipEnt), l[i]? = some x →
              (t.task n).inEnt i = ⟨x.value, x.time % 2 ^ 64, x.qual % 256, x.snap⟩)
      ∧ (¬ now → s.g F.DPX_STATUS_LANE0_UP = 1 → t.out = s.out ++ [.towline (.inputsAck n ref)]
          ∧ s.Frame t (.dpx :: .out :: Part.counts) [R.PMON_HALF])
      ∧ t.mtr = s.mtr ∧ t.pix = s.pix ∧ t.le = s.le ∧ t.fio = s.fio ∧ t.clk = s.clk ∧ t.pending = s.pending)
  ∧ (∀ (s : State) (n : Fin 96) (ref up : Nat), tget s.dpx.shipUp none n.val = some up → (s.task n).release = ref →
    (s.task n).latched = true → (s.task n).shipped = false → completes (.inputsAck n ref) s fun t =>
      t.task n = { s.task n with shipped := true } ∧ (∀ m, m ≠ n.val → t.task m = s.task m)
      ∧ tget t.dpx.shipUp none n.val = none
      ∧ t.g F.DPX_SHIP_MAX_TIME = max (s.g F.DPX_SHIP_MAX_TIME) (min 65535 ((s.clk.upNs - up) / 100))
      ∧ s.Frame t [.dpx, .scn] [R.DPX_SHIP_MAX])
  ∧ (∀ (s : State) (n : Fin 96) (e : TaskEnt) (up : Nat), s.ent n = some e → tget s.dpx.shipUp none n.val = some up →
    s.synced = true → s.isMotor = true → completes (.shipTimeout n) s fun t =>
      s.pairNow t 4 6 ∧ t.isMotor = true ∧ up + 50000 + 30 * e.inCount ≤ t.clk.upNs
      ∧ (∀ x ∈ s.taskEnts, (s.task x.task).latched = true → (t.task x.task).shipped = true)
      ∧ s.Frame t (.clk :: Part.pairs) pairRegs)
  ∧ (∀ (s : State) (n : Fin 96) (ref h : Nat), s.synced = true → tget s.dpx.own none n.val = none →
    completes (.hash n ref h) s fun t =>
      tget t.dpx.peer none n.val = some (ref, h) ∧ t.rd R.DPX_MISMATCH = s.rd R.DPX_MISMATCH ∧ s.Frame t [.dpx] [])
  ∧ (∀ (s : State) (n : Fin 96) (ref h r own : Nat), s.synced = true → tget s.dpx.own none n.val = some (r, own) →
    completes (.hash n ref h) s fun t =>
      tget t.dpx.own none n.val = none
      ∧ (r = ref → own = h → s.Frame t [.dpx] [])
      ∧ (r ≠ ref ∨ own ≠ h → s.mismatch t n ref)
      ∧ t.pairState = s.pairState ∧ s.Frame t (.out :: Part.pairs) pairRegs)
  ∧ (∀ (s : State) (n : Fin 96) (r own : Nat), s.synced = true → s.lanesDown = false →
    tget s.dpx.own none n.val = some (r, own) → completes (.hashTimeout n) s fun t =>
      tget t.dpx.own none n.val = none ∧ s.mismatch t n r ∧ t.pairState = s.pairState
      ∧ s.Frame t (.out :: Part.pairs) pairRegs)
  ∧ (∀ (s : State) (m : FwdMsg), s.synced = true → (m.kind = .field ∨ m.kind = .ptWrite ∨ m.kind = .display) → m.index < 262144 → (s.slot m.index).present = true →
    (s.slot m.index).forced = false → completes (.forward (.slot m)) s fun t =>
      (s.fwdWins m = true → t.slot m.index = { s.slot m.index with
          value := m.value, time := m.time % 2 ^ 64, seq := m.seq % 2 ^ 32, origin := s.node, quality := m.quality % 16
          alarm := m.alarm, badCrc := none })
      ∧ (s.fwdWins m = false → t.slot m.index = s.slot m.index)
      ∧ (∀ i, i ≠ m.index → t.slot i = s.slot i) ∧ s.Frame t Part.slots [R.PMON_HALF])
  ∧ (∀ (s : State) (q : Nat), completes (.seqReport q) s fun t =>
      t.dpx = { s.dpx with seqReport := some (q % 2 ^ 32) } ∧ s.Frame t [.dpx] [])
  ∧ (∀ (s : State) (n : Fin 96) (ref crc : Nat), s.synced = true → completes (.xcheck n ref crc) s fun t =>
      t.dpx.xcPeer = some crc
      ∧ (s.dpx.xc = none → t.dpx.xc = some (n.val, ref) ∧ t.g F.DPX_STATUS_XCHECK_ACTIVE = 1 ∧ t.dpx.switchAt = none)
      ∧ (∀ x, s.dpx.xc = some x → t.dpx.xc = some x)
      ∧ t.pairState = s.pairState ∧ s.Frame t (.out :: Part.pairs) pairRegs)
  ∧ (∀ (s : State) (rm rb qm qb : Bool) (n ref : Nat), s.dpx.xc = some (n, ref) →
    completes (.xcheckDecide rm rb qm qb) s fun t =>
      let late := s.dpx.xcPeer = none
      let differ := s.dpx.xcPeer ≠ some (tget s.dpx.inCrc (0, 0) n).2
      let m := (rm || qm) = true
      let b := (rb || qb) = true
      let row : Nat → Prop := fun k => t.g F.DPX_XCHECK_ROW = k
      t.g F.DPX_XCHECK_TASK = n % 256 ∧ t.bit R.DPX_XCHECK 1 = rm ∧ t.bit R.DPX_XCHECK 2 = rb ∧ t.bit R.DPX_XCHECK 3 = qm
      ∧ t.bit R.DPX_XCHECK 4 = qb ∧ (¬ late → (t.bit R.DPX_XCHECK 0 = true ↔ differ))
      ∧ t.bit R.DPX_EVENT 7 = true ∧ t.dpx.xc = none ∧ t.g F.DPX_STATUS_XCHECK_ACTIVE = 0
      ∧ (late → row 1 ∧ t.pairState = 4 ∧ t.g F.DPX_STATUS_REASON = 10)
      ∧ (¬ late → m → b → row 2 ∧ t.g F.DPX_STATUS_GRANT_OUT = s.g F.DPX_STATUS_GRANT_OUT
          ∧ (s.active = true → t.mode = 0 ∧ t.g F.SCN_STATUS_STOP_CAUSE = 5))
      ∧ (¬ late → m → ¬ b → row 3
          ∧ (s.grantOut = true → s.hasPartner = true → t.g F.DPX_STATUS_GRANT_OUT = 0 ∧ t.dpx.releaseOut = false
              ∧ (s.active = true → t.mode = 0))
          ∧ (s.isButty = true → t.dpx.xcAbd = true ∧ t.pairState = s.pairState))
      ∧ (¬ late → ¬ m → b ∨ differ → row 4 ∧ t.pairState = 4 ∧ t.g F.DPX_STATUS_REASON = 10)
      ∧ (¬ late → ¬ m → ¬ b → ¬ differ → row 5 ∧ t.pairState = 4 ∧ t.g F.DPX_STATUS_REASON = 11
          ∧ ∀ k < 4, (t.target k).st ≠ 0 ∧ ((s.target k).st = 2 → (t.target k).again = true))
      ∧ t.mtr = s.mtr ∧ t.clk = s.clk ∧ t.pending = s.pending)
  ∧ (∀ (s : State) (n : Nat) (idle : List Nat), s.mtr.held = some (n, idle) → completes .totalsAckTimeout s fun t =>
      t.mtr.done = counts128 s.mtr.tot ∧ t.mtr.doneTime = n ∧ t.mtr.doneIdle = idle ∧ t.mtr.held = none
      ∧ t.mtr.tot = s.mtr.tot ∧ t.mtr.doneWr = s.mtr.wrapped
      ∧ (s.synced = true → s.pairNow t 4 6) ∧ (s.synced = false → t.pairState = s.pairState)
      ∧ s.Frame t (.clk :: .mtr :: Part.pairs) (R.MTR_STATUS :: R.MTR_EVENT :: pairRegs))

/-- A planned switch is made at its boundary, and a module joins through the checks, the transfer and a gap. (R331, R332, R333, R334, R335, R336, R337) -/
def Obligations.PairSwitchesAndJoins : Prop :=
  (∀ (s : State) (p : Fin 2) (d : Fin 65536), s.mayWrite p R.DPX_CMD = true →
    let may := s.synced = true ∧ s.dpx.xc = none ∧ s.mode ≠ 3 ∧ s.fwu.armed = none
    let lo := s.ptpNs + max 1 (min d.val 60000) * 1000000
    completes (.dpxSwitch p d) s fun t =>
      (may → ∃ b, b % 1000000 = 0 ∧ lo ≤ b ∧ b < lo + 1000000 ∧ t.dpx = { s.dpx with switchAt := some b }
        ∧ t.g F.DPX_STATUS_SWITCH_PENDING = 1
        ∧ (s.g F.DPX_STATUS_LANE0_UP = 1 → t.out = s.out ++ [.towline (.switchAt b)]))
      ∧ (¬ may → t.g F.DPX_STATUS_REASON = 12 ∧ s.Frame t [] [R.DPX_STATUS])
      ∧ t.pairState = s.pairState ∧ s.Frame t (.dpx :: .out :: Part.counts) [R.DPX_STATUS, R.PMON_HALF])
  ∧ (∀ (s : State) (b : Nat), s.dpx.switchAt = some b → 0 < s.rn R.PTP_ADDEND → completes .plannedSwitch s fun t =>
      b ≤ t.ptpNs ∧ t.dpx.switchAt = none ∧ t.g F.DPX_STATUS_SWITCH_PENDING = 0 ∧ t.bit R.DPX_EVENT 11 = true
      ∧ t.rn R.DPX_LAST_SWITCH = 3 * 2 ^ 24 ∧ t.rd R.DPX_SWITCHES = s.rd R.DPX_SWITCHES + 1#32 ∧ t.pairState = s.pairState
      ∧ t.g F.DPX_STATUS_GRANT_OUT = 1 - s.g F.DPX_STATUS_GRANT_OUT ∧ t.dpx.releaseOut = !s.grantOut
      ∧ t.mtr = s.mtr ∧ t.gates = s.gates ∧ t.saf = s.saf ∧ t.bkd = s.bkd ∧ t.pending = s.pending)
  ∧ (∀ (s : State) (p : Fin 2), s.mayWrite p R.DPX_CMD = true → completes (.detach p) s fun t =>
      (s.isMotor = true → t.g F.DPX_STATUS_REASON = 12 ∧ t.pairState = s.pairState ∧ s.Frame t [] [R.DPX_STATUS])
      ∧ (s.isMotor = false → s.synced = true → s.pairNow t 4 12)
      ∧ (s.isMotor = false → s.synced = false → s.Frame t [] [])
      ∧ s.Frame t Part.pairs pairRegs)
  ∧ (∀ (s : State) (p : Fin 2), s.mayWrite p R.DPX_CMD = true → completes (.join p) s fun t =>
      let may := s.isButty = true ∧ (s.pairState = 4 ∨ s.pairState = 5)
      (may → t.pairState = 1 ∧ t.g F.DPX_STATUS_REASON = 0
        ∧ (s.g F.DPX_STATUS_LANE0_UP = 1 → t.out = s.out ++ [.towline (.hello s.hello)]))
      ∧ (¬ may → s.Frame t [] []) ∧ s.Frame t (.out :: Part.counts) [R.DPX_STATUS, R.PMON_HALF])
  ∧ (∀ s : State, completes .joinRetry s fun t =>
      let well := s.faulty = false ∧ s.pairsOk = true ∧ s.lanesUp = true
      let may := s.g F.DPX_CTL_AUTO_JOIN = 1 ∧ s.isButty = true
        ∧ (s.pairState = 5 ∨ (s.pairState = 4 ∧ s.g F.DPX_STATUS_REASON ≠ 12 ∧ well))
      (may → t.pairState = 1 ∧ t.g F.DPX_STATUS_REASON = 0) ∧ (¬ may → s.Frame t [] [])
      ∧ s.Frame t (.out :: Part.counts) [R.DPX_STATUS, R.PMON_HALF])
  ∧ (∀ (s : State) (h : HelloMsg), s.hasPartner = true → s.grantOut = true → s.pairState ≠ 2 → s.pairState ≠ 3 →
    completes (.hello h) s fun t =>
      (h.almHi = s.hello.almHi → h.pos ≠ s.posB → h.node ≠ s.node → t.pairState = 5 ∧ t.g F.DPX_STATUS_REASON = 2
        ∧ t.bit R.DPX_EVENT 12 = true ∧ s.recorded t 1)
      ∧ (h = { s.hello with pos := !s.posB } → sameMajors s.ctrlProvides s.ctrlProvides = true → s.pairsOk = true →
          s.mode ≠ 2 → s.mode ≠ 3 → t.pairState = 2 ∧ t.g F.DPX_STATUS_REASON = 0 ∧ t.rn R.DPX_CFG_DIFF = 0
          ∧ t.g F.DPX_XFER_PASSES = 1 ∧ t.g F.DPX_XFER_WAITS = 0 ∧ t.dpx.waitFrom = some s.clk.upNs ∧ t.log = s.log)
      ∧ t.grantOut = true ∧ s.Frame t (.dpx :: .out :: .page 0x80 :: Part.records) [R.LOG_EVENT, R.PMON_HALF])
  ∧ (∀ (s : State) (h : HelloMsg), s.hasPartner = true → s.phase = 4 → h.inResync = true → s.grantOut = false →
    s.g F.DPX_STATUS_GRANT_IN = 0 → s.g F.DPX_STATUS_ALIVE_OK = 1 → s.pairState = 0 → completes (.hello h) s fun t =>
      (s.posB = true → t.grantOut = false)
      ∧ (s.posB = false → t.grantOut = true ∧ t.dpx.releaseOut = true ∧ t.rn R.DPX_LAST_SWITCH = 7 * 2 ^ 24
          ∧ t.rd R.DPX_SWITCHES = s.rd R.DPX_SWITCHES + 1#32)
      ∧ t.mtr = s.mtr ∧ t.clk = s.clk ∧ t.pending = s.pending)
  ∧ (∀ (s : State) (l : List XferItem) (kib : Nat), s.pairState = 2 → s.isButty = true →
    (∀ e ∈ s.taskEnts, e.task < 96) →
    completes (.xfer l kib) s fun t =>
      t.g F.DPX_XFER_KIB_LEFT = min 65535 kib
      ∧ (kib = 0 → t.synced = true ∧ t.bit R.DPX_EVENT 4 = true) ∧ (kib ≠ 0 → t.pairState = 2)
      ∧ (∀ i x, l = [.slot i x] → s.ownsSlot i = true → t.slot i = { x with badCrc := none })
      ∧ (∀ n, l = [.seq n] → t.dpx.seqReport = some n)
      ∧ (∀ n f, l = [.force n f] → tget t.olc.forces none n = f)
      ∧ t.mtr = s.mtr ∧ t.log = s.log ∧ t.bkd = s.bkd ∧ t.clk = s.clk ∧ t.pending = s.pending)
  ∧ (∀ (s : State) (kib : Fin 257), s.pairState = 2 → s.isMotor = true → completes (.xferGap kib) s fun t =>
      let gap := s.gapNow (20000 + 500 * kib.val) = true
      (gap → t.synced = true ∧ t.bit R.DPX_EVENT 4 = true ∧ t.dpx = { s.dpx with waitFrom := none }
        ∧ t.g F.DPX_XFER_KIB_LEFT = 0
        ∧ (s.g F.DPX_STATUS_LANE0_UP = 1 → t.out = s.out ++ [.towline (.xfer s.xferItems 0)]))
      ∧ (¬ gap → s.Frame t [] [])
      ∧ s.Frame t (.dpx :: .out :: Part.counts) [R.DPX_STATUS, R.DPX_XFER, R.DPX_EVENT, R.PMON_HALF])
  ∧ (∀ (s : State) (n : Nat), s.dpx.waitFrom = some n → s.pairState = 2 → s.isMotor = true →
    completes .joinWaitExpire s fun t =>
      let w := s.g F.DPX_XFER_WAITS + 1
      n + clampN 10 10000 (s.g F.DPX_CTL_JOIN_WAIT_MS) * 1000000 ≤ t.clk.upNs ∧ t.g F.DPX_XFER_WAITS = min 3 w
      ∧ (3 ≤ w → t.pairState = 5 ∧ t.g F.DPX_STATUS_REASON = 8 ∧ t.bit R.DPX_EVENT 12 = true ∧ t.dpx.waitFrom = none
          ∧ s.recorded t 1)
      ∧ (w < 3 → t.pairState = 2 ∧ t.dpx.waitFrom = some t.clk.upNs
          ∧ t.g F.DPX_XFER_PASSES = min (s.g F.DPX_XFER_PASSES + 1) 255 ∧ t.log = s.log)
      ∧ s.Frame t (.clk :: .dpx :: .out :: .page 0x80 :: Part.records) [R.LOG_EVENT, R.PMON_HALF])
  ∧ (∀ s : State, completes (.partnerPresentChange true) s fun t =>
      t.g F.MOD_STRAP_PARTNER_PRESENT = 1 ∧ t.dpx = { s.dpx with alone := false } ∧ s.Frame t [.dpx] [R.MOD_STRAP])
  ∧ (∀ s : State, s.hasPartner = true → completes (.partnerPresentChange false) s fun t =>
      t.g F.MOD_STRAP_PARTNER_PRESENT = 0 ∧ t.isMotor = s.isMotor ∧ t.dpx.taking = s.dpx.taking
      ∧ (s.isMotor = true → t.bit R.DPX_EVENT 2 = true ∧ s.pairNow t 0 0)
      ∧ (s.isMotor = false → t.dpx = { s.dpx with alone := false } ∧ s.Frame t [.dpx] [R.MOD_STRAP])
      ∧ s.Frame t Part.pairs (R.MOD_STRAP :: pairRegs))

/-- The tick count is trimmed, set and captured at crystal edges, and drives the alarm and the periodic wake. (R387, R388, R389, R390, R391, R392, R393, R397) -/
def Obligations.CountTrimmedSetAndCaptured : Prop :=
  let steady : State → Prop := fun s => s.clk.tickRun = true ∧ s.clk.tick < 2 ^ 48 ∧ s.clk.tickAcc < 1000000000
  (∀ s : State, steady s → s.clk.tick / 2 ^ 22 = s.bkd.win / 2 ^ 22 → s.bkd.pulse < s.bkd.trim.natAbs →
    let due := s.bkd.win + 16384 * s.bkd.pulse
    due / 2 ^ 22 = s.bkd.win / 2 ^ 22 → s.clk.tick ≤ due → due + 2 < 2 ^ 48 →
    completes .trimPulse s fun t =>
      t.clk.tick = (if s.bkd.trim < 0 then due else due + 2) ∧ t.bkd = { s.bkd with pulse := s.bkd.pulse + 1 }
      ∧ s.clk.upNs < t.clk.upNs ∧ s.Frame t [.clk, .bkd] [])
  ∧ (∀ s : State, s.clk.wrapped = true ∨ steady s → completes .bkdWrap s fun t =>
      t.bit R.BKD_EVENT 2 = true ∧ t.clk.wrapped = false
      ∧ (s.clk.wrapped = true → t.clk = { s.clk with wrapped := false })
      ∧ (s.clk.wrapped = false → t.clk.tick = 0)
      ∧ (s.inService = false → t.edges = s.edges)
      ∧ s.Frame t (.clk :: Part.events) [R.BKD_EVENT])
  ∧ (∀ (s : State) (p : Fin 2), s.mayWrite p R.BKD_CMD = true → completes (.setCount p) s fun t =>
      t.bkd = { s.bkd with setTo := some (s.rn64 R.BKD_SET_LO % 2 ^ 48) } ∧ t.clk = s.clk ∧ s.Frame t [.bkd] [])
  ∧ (∀ (s : State) (v : Nat), s.bkd.setTo = some v → v < 2 ^ 48 → s.clk.tickRun = true →
    completes .setCountLoad s fun t =>
      let period := s.g F.BKD_WAKE_PERIOD
      let waits := s.g F.BKD_STATUS_ARMED = 1 ∧ s.g F.BKD_STATUS_FIRED = 0
      t.clk.tick = v ∧ t.bkd.setTo = none ∧ t.bkd.win = v ∧ t.bkd.pulse = 0 ∧ t.bkd.trim = toSigned 9 (s.g F.BKD_TRIM_TRIM)
      ∧ t.bkd.next = (if period = 0 then s.bkd.next else (v + 128 * period) % 2 ^ 48)
      ∧ (waits → s.clk.tick < s.bkd.alarm → s.bkd.alarm ≤ v → t.g F.BKD_STATUS_FIRED = 1
          ∧ t.g F.BKD_STATUS_STEPPED = 1 ∧ t.bit R.BKD_EVENT 0 = true)
      ∧ (¬ waits ∨ v < s.bkd.alarm → t.rd R.BKD_STATUS = s.rd R.BKD_STATUS ∧ t.rd R.BKD_EVENT = s.rd R.BKD_EVENT)
      ∧ s.Frame t (.clk :: .bkd :: Part.events) [R.BKD_STATUS, R.BKD_EVENT])
  ∧ (∀ (s : State) (p : Fin 2), s.mayWrite p R.BKD_CMD = true → completes (.capture p) s fun t =>
      t.bkd = { s.bkd with capture := true } ∧ t.g F.BKD_STATUS_CAP_DONE = 0 ∧ s.Frame t [.bkd] [R.BKD_STATUS])
  ∧ (∀ s : State, steady s → s.bkd.capture = true → completes .captureLatch s fun t =>
      t.clk.tick = (s.clk.tick + 1) % 2 ^ 48 ∧ t.rn64 R.BKD_CAP_COUNT_LO = t.clk.tick
      ∧ t.rn64 R.BKD_CAP_PTP_LO = t.ptpNs % 2 ^ 64 ∧ t.g F.BKD_STATUS_CAP_DONE = 1
      ∧ t.g F.BKD_STATUS_CAP_PTP_VALID = s.g F.PTP_STATUS_VALID ∧ t.bkd = { s.bkd with capture := false }
      ∧ s.Frame t [.clk, .bkd] [R.BKD_STATUS, R.BKD_CAP_COUNT_LO, R.BKD_CAP_COUNT_HI, R.BKD_CAP_PTP_LO, R.BKD_CAP_PTP_HI])
  ∧ (∀ s : State, s.g F.BKD_STATUS_ARMED = 1 → s.g F.BKD_STATUS_FIRED = 0 → s.bkd.alarm < 2 ^ 48 →
    s.bkd.alarm ≤ s.clk.tick ∨ steady s → completes .bkdAlarm s fun t =>
      t.g F.BKD_STATUS_FIRED = 1 ∧ t.g F.BKD_STATUS_ARMED = 1 ∧ t.bit R.BKD_EVENT 0 = true
      ∧ t.clk.tick = max s.clk.tick s.bkd.alarm ∧ t.g F.BKD_STATUS_STEPPED = s.g F.BKD_STATUS_STEPPED
      ∧ (s.inService = false → t.edges = s.edges)
      ∧ s.Frame t (.clk :: Part.events) [R.BKD_STATUS, R.BKD_EVENT])
  ∧ (∀ (s : State) (p : Fin 2), s.mayWrite p R.BKD_CMD = true → completes (.bkdArm p) s fun t =>
      let alarm := s.rn64 R.BKD_ALARM_LO % 2 ^ 48
      t.bkd = { s.bkd with alarm := alarm } ∧ t.g F.BKD_STATUS_ARMED = 1 ∧ t.g F.BKD_STATUS_STEPPED = 0
      ∧ (alarm ≤ s.clk.tick → t.g F.BKD_STATUS_FIRED = 1 ∧ t.bit R.BKD_EVENT 0 = true)
      ∧ (s.clk.tick < alarm → t.g F.BKD_STATUS_FIRED = 0 ∧ t.rd R.BKD_EVENT = s.rd R.BKD_EVENT)
      ∧ s.Frame t (.bkd :: Part.events) [R.BKD_STATUS, R.BKD_EVENT])
  ∧ (∀ (s : State) (p : Fin 2), s.mayWrite p R.BKD_CMD = true → completes (.disarm p) s fun t =>
      t.g F.BKD_STATUS_ARMED = 0 ∧ t.g F.BKD_STATUS_FIRED = s.g F.BKD_STATUS_FIRED ∧ s.Frame t [] [R.BKD_STATUS])
  ∧ (∀ s : State, s.g F.BKD_WAKE_PERIOD ≠ 0 →
    let past := (s.clk.tick + 2 ^ 48 - s.bkd.next) % 2 ^ 48
    past < 2 ^ 47 ∨ (steady s ∧ s.bkd.next < 2 ^ 48 ∧ 2 ^ 47 < past) → completes .bkdWake s fun t =>
      t.rd R.BKD_WAKE_CNT = s.rd R.BKD_WAKE_CNT + 1#32 ∧ t.bit R.BKD_EVENT 1 = true
      ∧ t.bkd = { s.bkd with next := (s.bkd.next + 128 * s.g F.BKD_WAKE_PERIOD) % 2 ^ 48 }
      ∧ (past < 2 ^ 47 → t.clk = s.clk) ∧ (2 ^ 47 < past → t.clk.tick = s.bkd.next)
      ∧ (s.inService = false → t.edges = s.edges)
      ∧ s.Frame t (.clk :: .bkd :: Part.events) [R.BKD_WAKE_CNT, R.BKD_EVENT])
  ∧ (∀ (s : State) (p : Fin 2) (v : Word), s.mayWrite p R.BKD_WAKE = true → completes (.bkdWakeWrite p v) s fun t =>
      let period := min (v.toNat % 2 ^ 26) 33177600
      t.g F.BKD_WAKE_PERIOD = period ∧ t.bkd = { s.bkd with next := (s.clk.tick + 128 * period) % 2 ^ 48 }
      ∧ s.Frame t [.bkd] [R.BKD_WAKE])

/-- The backup bytes are sealed and checked, and lockout, a stopped crystal and a reset of the domain lose continuity. (R383, R385, R386, R393, R394, R395, R397, R403) -/
def Obligations.BackupBytesAndContinuity : Prop :=
  (∀ (s : State) (p : Fin 2), s.mayWrite p R.BKD_CMD = true → completes (.crcCheck p) s fun t =>
      let ok := crc32c s.bkdBytes = s.rn R.BKD_CRC
      t.g F.BKD_STATUS_CRC_CHECKED = 1 ∧ (t.g F.BKD_STATUS_CRC_OK = 1 ↔ ok)
      ∧ (¬ ok → t.bit R.BKD_EVENT 3 = true) ∧ (ok → t.rd R.BKD_EVENT = s.rd R.BKD_EVENT)
      ∧ s.Frame t Part.events [R.BKD_STATUS, R.BKD_EVENT])
  ∧ (∀ (s : State) (p : Fin 2), s.mayWrite p R.BKD_CMD = true → completes (.restored p) s fun t =>
      t.g F.BKD_STATUS_TICK_CONTINUITY = 1 ∧ t.g F.BKD_STATUS_DOMAIN_RESET = 0 ∧ t.g F.BKD_STATUS_OSC_STOP = 0
      ∧ t.g F.BKD_STATUS_LOCKOUT_SEEN = 0 ∧ t.g F.BKD_STATUS_SOURCE = s.g F.BKD_STATUS_SOURCE
      ∧ s.Frame t [] [R.BKD_STATUS])
  ∧ (∀ (s : State) (p : Fin 2) (key : Fin 65536), s.mayWrite p R.BKD_CMD = true → completes (.erase p key) s fun t =>
      (key.val = 0xB4CD → (∀ k < 16, t.rd (R.BKD_BYTE k) = 0#32) ∧ t.rn R.BKD_CRC = crc32c (List.replicate 64 0#8)
        ∧ t.g F.BKD_STATUS_CRC_OK = 1 ∧ s.Frame t [] (R.BKD_STATUS :: R.BKD_CRC :: (List.range 16).map R.BKD_BYTE))
      ∧ (key.val ≠ 0xB4CD → s.recorded t 1 ∧ s.Frame t Part.records [R.LOG_EVENT, R.PMON_HALF]))
  ∧ (∀ (s : State) (p : Fin 2) (k : Fin 16) (v : Word), s.mayWrite p (R.BKD_BYTE k) = true →
    completes (.bkdByteWrite p k v) s fun t =>
      t.rd (R.BKD_BYTE k) = v ∧ t.rn R.BKD_CRC = crc32c t.bkdBytes ∧ s.Frame t [] [R.BKD_BYTE k, R.BKD_CRC])
  ∧ (∀ (s : State) (upsets : List (Nat × Nat)), s.g F.BKD_STATUS_SOURCE = 0 →
    completes (.bkdSupplySwitch true upsets) s fun t => t.g F.BKD_STATUS_SOURCE = 1 ∧ s.Frame t [] [R.BKD_STATUS])
  ∧ (∀ s : State, s.g F.BKD_STATUS_SOURCE = 1 → completes (.bkdSupplySwitch false []) s fun t =>
      t.g F.BKD_STATUS_SOURCE = 0 ∧ t.g F.BKD_STATUS_CRC_CHECKED = 1
      ∧ (t.g F.BKD_STATUS_CRC_OK = 1 ↔ crc32c s.bkdBytes = s.rn R.BKD_CRC)
      ∧ (crc32c s.bkdBytes ≠ s.rn R.BKD_CRC → t.bit R.BKD_EVENT 3 = true)
      ∧ s.Frame t Part.events [R.BKD_STATUS, R.BKD_EVENT])
  ∧ (∀ s : State, s.bkd.lockout = false → completes .lockout s fun t =>
      t.bkd = { s.bkd with lockout := true } ∧ t.clk = { s.clk with tickRun := false }
      ∧ t.g F.BKD_STATUS_LOCKOUT_SEEN = 1 ∧ t.g F.BKD_STATUS_TICK_CONTINUITY = 0 ∧ t.bit R.BKD_EVENT 4 = true
      ∧ (s.inService = false → t.edges = s.edges)
      ∧ s.Frame t (.clk :: .bkd :: Part.events) [R.BKD_STATUS, R.BKD_EVENT])
  ∧ (∀ s : State, s.bkd.lockout = true → completes .lockoutExit s fun t =>
      t.bkd = { s.bkd with lockout := false } ∧ t.clk = { s.clk with tickRun := !s.bkd.stopped } ∧ s.Frame t [.clk, .bkd] [])
  ∧ (∀ s : State, completes .backupDomainReset s fun t =>
      t.clk.tick = 0 ∧ t.clk.tickRun = true ∧ t.clk.upNs = s.clk.upNs ∧ t.bkd = {}
      ∧ (∀ k < 16, t.rd (R.BKD_BYTE k) = 0#32) ∧ t.rn R.BKD_CRC = crc32c (List.replicate 64 0#8)
      ∧ (∀ a ∈ bkdPlain, a ≠ R.BKD_EVENT → t.rd a = regReset a)
      ∧ t.g F.BKD_STATUS_CRC_OK = 1 ∧ t.g F.BKD_STATUS_CRC_CHECKED = 1 ∧ t.g F.BKD_STATUS_DOMAIN_RESET = 1
      ∧ t.g F.BKD_STATUS_TICK_CONTINUITY = 0 ∧ t.g F.BKD_STATUS_ARMED = 0
      ∧ t.g F.BKD_STATUS_SOURCE = s.g F.BKD_STATUS_SOURCE
      ∧ s.Frame t (.clk :: .bkd :: .page 0x90 :: Part.events) [])
  ∧ (∀ s : State, s.bkd.stopped = false → completes .oscStop s fun t =>
      t.bkd = { s.bkd with stopped := true } ∧ t.clk = { s.clk with tickRun := false }
      ∧ t.g F.BKD_STATUS_OSC_STOP = 1 ∧ t.g F.BKD_STATUS_TICK_CONTINUITY = 0 ∧ t.bit R.BKD_EVENT 4 = true
      ∧ s.Frame t (.clk :: .bkd :: Part.events) [R.BKD_STATUS, R.BKD_EVENT])
  ∧ (∀ s : State, s.bkd.stopped = true → completes .tickCrystalRestart s fun t =>
      t.bkd = { s.bkd with stopped := false } ∧ t.clk = { s.clk with tickRun := !s.bkd.lockout }
      ∧ t.g F.BKD_STATUS_TICK_CONTINUITY = s.g F.BKD_STATUS_TICK_CONTINUITY ∧ s.Frame t [.clk, .bkd] [])
  ∧ (∀ (s : State) (v : Nat), s.g F.BKD_STATUS_SOURCE = 0 → completes (.bkdVbatMeasure v) s fun t =>
      t.g F.BKD_VBAT_VOLTS = min v 65535 ∧ (t.g F.BKD_STATUS_VBAT_LOW = 1 ↔ v < 200)
      ∧ (v < 200 → s.g F.BKD_STATUS_VBAT_LOW = 0 → t.bit R.BKD_EVENT 5 = true)
      ∧ (200 ≤ v ∨ s.g F.BKD_STATUS_VBAT_LOW = 1 → t.rd R.BKD_EVENT = s.rd R.BKD_EVENT)
      ∧ s.Frame t Part.events [R.BKD_STATUS, R.BKD_VBAT, R.BKD_EVENT])

/-- Keys are derived, unwrapped, stored and used only as their attribute and LOAD_ID allow, and every load is recorded. (R408, R410, R411, R412, R413, R415, R421) -/
def Obligations.CrucibleLoadedAndUsed : Prop :=
  let parts : OpRef → List Part := fun r => Part.port r.port :: .sec :: Part.records
  let regs : List Nat := [R.CRU_LOAD_ID, R.CRU_STATUS, R.CRU_REFUSALS, R.CRU_EVENT, R.LOG_EVENT, R.PMON_HALF]
  (∀ (s : State) (r : OpRef) (o : Op), s.keyReady r 1 o → natBit o.entry.arg1 3 = false →
    completes (.derive r) s fun t =>
      let len := bits o.entry.arg1 2 1
      (s.sec.rootOk = true → s.loaded t r ⟨kmac256 s.root (o.entry.arg3.take 32) (if len = 1 then 256 else 128)
        (ascii "CF880-HOST"), bits o.entry.arg1 0 2, len⟩)
      ∧ (s.sec.rootOk = false → s.keyRefused t r 10) ∧ s.Frame t (parts r) regs)
  ∧ (∀ (s : State) (r : OpRef) (o : Op), s.keyReady r 1 o → natBit o.entry.arg1 3 = true → s.sec.rootOk = true →
    s.g F.CRU_STATUS_LOADED = 1 → completes (.derive r) s fun t =>
      let len := bits o.entry.arg1 2 1
      (s.mayUse o 3 → s.loaded t r ⟨kmac256 s.sec.key (o.entry.arg3.take 32) (if len = 1 then 256 else 128)
        (ascii "CF880-CHAIN"), bits o.entry.arg1 0 2, len⟩)
      ∧ (o.entry.arg2 ≠ s.rn R.CRU_LOAD_ID → s.keyRefused t r 3)
      ∧ (o.entry.arg2 = s.rn R.CRU_LOAD_ID → s.g F.CRU_STATUS_ATTR ≠ 3 → s.keyRefused t r 2)
      ∧ s.Frame t (parts r) regs)
  ∧ (∀ (s : State) (r : OpRef) (b : HostBuf) (o : Op), s.keyReady r 2 o → s.sec.rootOk = true → readStatus o.entry b = 0 →
    o.entry.arg1 ≠ 1 ∨ s.mayUse o 2 → completes (.unwrap r b) s fun t =>
      let got := unwrapKey (if o.entry.arg1 = 1 then s.sec.key else s.storeKek) (b.data.take o.entry.bufLen)
      (∀ k, got = some k → s.loaded t r k) ∧ (got = none → s.keyRefused t r 4) ∧ s.Frame t (parts r) regs)
  ∧ (∀ (s : State) (r : OpRef) (o : Op), s.keyReady r 3 o → s.sec.rootOk = true → completes (.loadSlot r) s fun t =>
      let slot := if o.entry.arg1 < 32 then none else tget s.part.slots none o.entry.arg1
      (slot = none → s.keyRefused t r 5)
      ∧ (∀ x k, slot = some x → unwrapKey s.storeKek x.1 = some k → s.loaded t r k)
      ∧ (∀ x, slot = some x → unwrapKey s.storeKek x.1 = none → s.keyRefused t r 4)
      ∧ s.Frame t (parts r) regs)
  ∧ (∀ (s : State) (r : OpRef) (b : HostBuf) (o : Op), s.keyReady r 4 o → s.mayUse o 2 → writeStatus o.entry b = 0 →
    completes (.generate r b) s fun t =>
      let attr := bits o.entry.arg1 0 2
      let len := bits o.entry.arg1 2 1
      let n := bits o.entry.arg1 8 8
      let k : KeyVal := ⟨natLE (if len = 1 then 32 else 16) s.fresh, attr, len⟩
      let d := wrapKey s.sec.key k
      (slotTakes n attr len = false → s.keyRefused t r 5)
      ∧ (slotTakes n attr len = true → tget t.part.slots none n = some (wrapKey s.storeKek k, attr, len)
          ∧ (∀ m, m ≠ n → tget t.part.slots none m = tget s.part.slots none m)
          ∧ s.delivered t r o.entry b d
          ∧ t.answered r 0 (fun _ => True) ∧ s.recorded t 1 ∧ t.sec.key = s.sec.key)
      ∧ s.Frame t (.out :: .free :: parts r) regs)
  ∧ (∀ (s : State) (r : OpRef) (b : HostBuf) (o : Op), s.keyReady r 5 o → s.mayUse o 2 → readStatus o.entry b = 0 →
    completes (.store r b) s fun t =>
      let n := bits o.entry.arg1 8 8
      let got := unwrapKey s.sec.key (b.data.take o.entry.bufLen)
      (got = none → s.keyRefused t r 4)
      ∧ (∀ k, got = some k → slotTakes n k.attr k.len = false → s.keyRefused t r 5)
      ∧ (∀ k, got = some k → slotTakes n k.attr k.len = true →
          tget t.part.slots none n = some (wrapKey s.storeKek k, k.attr, k.len)
          ∧ (∀ m, m ≠ n → tget t.part.slots none m = tget s.part.slots none m)
          ∧ t.answered r 0 (fun _ => True) ∧ s.recorded t 1 ∧ t.sec.key = s.sec.key)
      ∧ s.Frame t (.free :: parts r) regs)
  ∧ (∀ (s : State) (r : OpRef) (o : Op), s.keyReady r 6 o → s.sec.rootOk = true → completes (.eraseSlot r) s fun t =>
      tget t.part.slots none o.entry.arg1 = none
      ∧ (∀ m, m ≠ o.entry.arg1 → tget t.part.slots none m = tget s.part.slots none m)
      ∧ t.answered r 0 (fun _ => True) ∧ s.recorded t 1 ∧ t.sec.key = s.sec.key
      ∧ s.Frame t (.free :: parts r) [R.LOG_EVENT, R.PMON_HALF])
  ∧ (∀ (s : State) (r : OpRef) (b : HostBuf) (o : Op), s.keyReady r 7 o → readStatus o.entry b = 0 →
    writeStatus o.entry b = 0 → s.sec.rootOk = true → s.g F.CRU_STATUS_LOADED = 1 →
    o.entry.arg2 = s.rn R.CRU_LOAD_ID → completes (.encrypt r b) s fun t =>
      let l := b.data.take o.entry.bufLen
      let d := bytesOf (gcmSeal (nats s.sec.key) (nonceOf o.entry) (aadOf o.entry) (nats (l.take (l.length - 16))))
      (s.g F.CRU_STATUS_ATTR = 0 → s.delivered t r o.entry b d
          ∧ t.rd R.CRU_USES = s.rd R.CRU_USES + 1#32 ∧ t.answered r 0 (fun _ => True) ∧ t.sec = s.sec ∧ t.log = s.log)
      ∧ (s.g F.CRU_STATUS_ATTR ≠ 0 → s.keyRefused t r 2)
      ∧ s.Frame t (.out :: .free :: parts r) (R.CRU_USES :: regs))
  ∧ (∀ (s : State) (r : OpRef) (b : HostBuf) (o : Op), s.keyReady r 8 o → s.mayUse o 1 → readStatus o.entry b = 0 →
    writeStatus o.entry b = 0 → completes (.decrypt r b) s fun t =>
      let got := gcmOpen (nats s.sec.key) (nonceOf o.entry) (aadOf o.entry) (nats (b.data.take o.entry.bufLen))
      (∀ m, got = some m → s.delivered t r o.entry b (bytesOf m)
          ∧ t.rd R.CRU_USES = s.rd R.CRU_USES + 1#32 ∧ t.answered r 0 (fun _ => True) ∧ t.sec = s.sec)
      ∧ (got = none → s.keyRefused t r 7 ∧ t.rd R.CRU_USES = s.rd R.CRU_USES)
      ∧ s.Frame t (.out :: .free :: parts r) (R.CRU_USES :: regs))
  ∧ (∀ (s : State) (r : OpRef) (o : Op), s.keyReady r 9 o → s.sec.rootOk = true → completes (.keyClear r) s fun t =>
      t.sec = { s.sec with key := [] } ∧ t.g F.CRU_STATUS_LOADED = 0 ∧ t.g F.CRU_STATUS_ATTR = 0
      ∧ t.g F.CRU_STATUS_LEN = 0 ∧ t.rd R.CRU_LOAD_ID = s.rd R.CRU_LOAD_ID ∧ t.answered r 0 (fun _ => True)
      ∧ s.Frame t [Part.port r.port, .sec, .free] [R.CRU_STATUS])
  ∧ (∀ (s : State) (r : OpRef) (b : HostBuf) (o : Op), s.keyReady r 13 o → s.sec.rootOk = true →
    s.g F.CRU_STATUS_LOADED = 1 → o.entry.arg2 = s.rn R.CRU_LOAD_ID → writeStatus o.entry b = 0 →
    completes (.exportTest r b) s fun t =>
      let d := s.sec.key ++ List.replicate (32 - s.sec.key.length) 0#8
      (s.sec.debug = false → s.keyRefused t r 9)
      ∧ (s.sec.debug = true → s.delivered t r o.entry b d ∧ t.answered r 0 (fun _ => True))
      ∧ t.sec = s.sec ∧ s.Frame t [Part.port r.port, .out, .free] [])

/-- A token that passes every check takes effect once, one that fails changes nothing, and a report is signed. (R97, R411, R413, R416, R417, R419, R420, R421) -/
def Obligations.TokensDebugBindingsAndAttestation : Prop :=
  let parts : OpRef → List Part := fun r => Part.port r.port :: .sec :: .free :: Part.records
  let regs : List Nat := [R.CRU_TOKEN_FAILS, R.CRU_EVENT, R.LOG_EVENT, R.PMON_HALF]
  (∀ (s : State) (r : OpRef) (b : HostBuf) (o : Op), s.keyReady r 10 o → s.sec.rootOk = true → o.entry.bufLen = 2592 →
    readStatus o.entry b = 0 → completes (.setOperator r b) s fun t =>
      (s.part.opKey = [] → t.part = { s.part with opKey := b.data.take 2592 } ∧ t.bit R.CRU_EVENT 3 = true
        ∧ s.recorded t 1 ∧ t.answered r 0 (fun _ => True) ∧ t.sec.key = s.sec.key)
      ∧ (s.part.opKey ≠ [] → s.keyRefused t r 8) ∧ s.Frame t (parts r) regs)
  ∧ (∀ (s : State) (r : OpRef) (b : HostBuf) (o : Op), s.keyReady r 10 o → s.sec.rootOk = true → o.entry.bufLen ≠ 2592 →
    readStatus o.entry b = 0 → completes (.setOperator r b) s fun t =>
      let l := b.data.take o.entry.bufLen
      let why := s.tokenReason 4 ((sha3_512 (l.drop 4755)).take 32) (l.take 4755)
      (why.isSome = true → s.tokenRefused t r)
      ∧ (why = none → t.part.opKey = l.drop 4755 ∧ t.tokenCtr 4 = tokCounter (l.take 4755)
          ∧ (∀ k, k ≠ 4 → t.tokenCtr k = s.tokenCtr k) ∧ t.bit R.CRU_EVENT 2 = true ∧ t.bit R.CRU_EVENT 3 = true
          ∧ s.recorded t 2 ∧ t.answered r 0 (fun _ => True))
      ∧ t.part.slots = s.part.slots ∧ s.Frame t (parts r) regs)
  ∧ (∀ (s : State) (r : OpRef) (b : HostBuf) (o : Op), s.keyReady r 11 o → s.sec.rootOk = true →
    readStatus o.entry b = 0 → completes (.debugUnlock r b) s fun t =>
      let l := b.data.take o.entry.bufLen
      let why := s.tokenReason 3 [1#8] l
      (why.isSome = true → s.tokenRefused t r)
      ∧ (why = none → t.sec.debugNext = true ∧ t.tokenCtr 3 = tokCounter l ∧ t.bit R.CRU_EVENT 2 = true
          ∧ t.bit R.CRU_EVENT 4 = true ∧ s.recorded t 2 ∧ t.answered r 0 (fun _ => True))
      ∧ t.sec.debug = s.sec.debug ∧ t.sec.key = s.sec.key ∧ s.Frame t (parts r) regs)
  ∧ (∀ (s : State) (r : OpRef) (o : Op), s.keyReady r 12 o → s.sec.rootOk = true → completes (.debugLock r) s fun t =>
      t.sec = { s.sec with debugNext := false } ∧ t.bit R.CRU_EVENT 4 = true ∧ s.recorded t 1
      ∧ t.answered r 0 (fun _ => True) ∧ s.Frame t (parts r) regs)
  ∧ (∀ (s : State) (r : OpRef) (b : HostBuf) (o : Op), s.ready r 0x50 o → readStatus o.entry b = 0 →
    completes (.ctxBind r b) s fun t =>
      let e := o.entry
      let tok := b.data.take e.bufLen
      let why := s.tokenReason 1 (natLE 1 e.arg0 ++ natLE 1 e.arg1 ++ e.arg3.take 8) tok
      (s.sec.rootOk = false → t.answered r 0x0B (fun c => c.result = 10) ∧ t.sec = s.sec)
      ∧ (s.sec.rootOk = true → why.isSome = true → s.tokenRefused t r)
      ∧ (s.sec.rootOk = true → why = none → s.ctxNamed e.arg0 = true → t.answered r 0x0C (fun _ => True) ∧ t.sec = s.sec
          ∧ t.bit R.CRU_EVENT 2 = true ∧ s.recorded t 1)
      ∧ (s.sec.rootOk = true → why = none → s.ctxNamed e.arg0 = false →
          tget (if s.sec.debug then t.sec.ctx1 else t.sec.ctx0) [] e.arg0 = bindTags e
          ∧ t.tokenCtr 1 = tokCounter tok ∧ t.bit R.CRU_EVENT 2 = true ∧ s.recorded t 1
          ∧ t.answered r 0 (fun c => c.result = 0))
      ∧ t.sec.key = s.sec.key ∧ t.part.opKey = s.part.opKey ∧ s.Frame t (parts r) regs)
  ∧ (∀ (s : State) (r : OpRef) (b : HostBuf) (o : Op), s.ready r 0x49 o → writeStatus o.entry b = 0 →
    completes (.attest r b) s fun t =>
      (s.sec.rootOk = false → t.answered r 0x0B (fun c => c.result = 10) ∧ t.out = s.out)
      ∧ (s.sec.rootOk = true → t.answered r 0 (fun c => c.result = 7491)
          ∧ ∃ sig : List Byte, sig.length = 4627
            ∧ s.delivered t r o.entry b (s.report2864 (o.entry.arg3.take 32) ++ sig))
      ∧ s.Frame t [Part.port r.port, .out, .free] [])

/-- Header, table, hallmark and blocks are accepted in order into the bank that no part runs from, or refused by reason. (R424, R425, R426, R427, R428, R429, R441, R442) -/
def Obligations.FirmwareStagedItemByItem : Prop :=
  let parts : OpRef → List Part := fun r => Part.port r.port :: .fwu :: .page 0xA1 :: Part.records
  let regs : List Nat := [R.LOG_EVENT, R.PMON_HALF]
  let kept : State → State → Nat → Prop := fun s t k =>
    t.fwu.map0 = s.fwu.map0 ∧ t.fwu.map1 = s.fwu.map1 ∧ t.fwu.armed = none ∧ ∀ j < 2, j ≠ k → t.fwBank j = s.fwBank j
  (∀ (s : State) (r : OpRef) (b : HostBuf) (o : Op) (mram : Bool), s.ready r 0x40 o → o.entry.arg0 = 0 →
    s.fwu.armed = none → s.blockBank o.entry = none → completes (.fwBlockHeader r b mram) s fun t =>
      s.itemRefusedAs t r 7 0 ∧ t.fwu = s.fwu ∧ s.Frame t (parts r) regs)
  ∧ (∀ (s : State) (r : OpRef) (b : HostBuf) (o : Op) (mram : Bool) (k : Nat), s.ready r 0x40 o → o.entry.arg0 = 0 →
    s.fwu.armed = none → s.blockBank o.entry = some k → k < 2 → o.entry.bufLen = 512 → readStatus o.entry b = 0 →
    completes (.fwBlockHeader r b mram) s fun t =>
      let h := b.data.take 512
      let low := fwSecurity h < s.rn R.FWU_FLOOR
      (headerOk h = false → s.itemRefusedAs t r 2 0 ∧ t.fwBank k = {})
      ∧ (headerOk h = true → low → s.itemRefusedAs t r 6 0 ∧ t.fwBank k = {})
      ∧ (headerOk h = true → ¬ low → mram = false → s.itemRefusedAs t r 15 0 ∧ t.fwBank k = {})
      ∧ (headerOk h = true → ¬ low → mram = true → t.fwBank k = { header := h } ∧ t.fwu.lastBank = k
          ∧ t.answered r 0 (fun c => c.result = 0) ∧ s.recorded t 1)
      ∧ kept s t k ∧ s.Frame t (parts r) regs)
  ∧ (∀ (s : State) (r : OpRef) (b : HostBuf) (o : Op) (mram : Bool) (k : Nat), s.ready r 0x40 o → o.entry.arg0 = 1 →
    s.fwu.armed = none → s.blockBank o.entry = some k → k < 2 → readStatus o.entry b = 0 →
    completes (.fwBlockTable r b mram) s fun t =>
      let x := s.fwBank k
      let l := b.data.take o.entry.bufLen
      let long := o.entry.bufLen ≠ 64 * fwBlocks x.head
      let order := x.head = [] ∨ x.tab ≠ []
      (long → s.itemRefusedAs t r 3 x.received) ∧ (¬ long → order → s.itemRefusedAs t r 1 x.received)
      ∧ (¬ long → ¬ order → mram = false → s.itemRefusedAs t r 15 x.received)
      ∧ (long ∨ order ∨ mram = false → t.fwBank k = x)
      ∧ (¬ long → ¬ order → mram = true → t.fwBank k = { x with table := l } ∧ t.answered r 0 (fun _ => True))
      ∧ kept s t k ∧ s.Frame t (parts r) regs)
  ∧ (∀ (s : State) (r : OpRef) (b : HostBuf) (o : Op) (mram : Bool) (k : Nat), s.ready r 0x40 o → o.entry.arg0 = 2 →
    s.fwu.armed = none → s.blockBank o.entry = some k → k < 2 → o.entry.bufLen = 4627 → readStatus o.entry b = 0 →
    completes (.fwBlockHallmark r b mram) s fun t =>
      let x := s.fwBank k
      let y : FwBank := { x with hallmark := b.data.take 4627, hallOk := true }
      let order := x.factory = true ∨ x.table = [] ∨ x.hallOk = true
      (order → s.itemRefusedAs t r 1 0) ∧ (¬ order → y.verified = false → s.itemRefusedAs t r 4 0)
      ∧ (¬ order → y.verified = true → mram = false → s.itemRefusedAs t r 15 0)
      ∧ (order ∨ y.verified = false ∨ mram = false → t.fwBank k = {})
      ∧ (¬ order → y.verified = true → mram = true → t.fwBank k = y ∧ t.answered r 0 (fun _ => True))
      ∧ kept s t k ∧ s.Frame t (parts r) regs)
  ∧ (∀ (s : State) (r : OpRef) (b : HostBuf) (o : Op) (mram : Bool) (k : Nat), s.ready r 0x40 o → 256 ≤ o.entry.arg0 →
    s.fwu.armed = none → s.blockBank o.entry = some k → k < 2 → o.entry.bufLen = 65536 → readStatus o.entry b = 0 →
    completes (.fwBlockData r b mram) s fun t =>
      let x := s.fwBank k
      let n := o.entry.arg0 - 256
      let l := b.data.take 65536
      let order := x.hallOk = false ∨ x.factory = true ∨ fwBlocks x.header ≤ n
      (order → s.itemRefusedAs t r 1 x.received) ∧ (¬ order → x.blockOk n l = false → s.itemRefusedAs t r 5 x.received)
      ∧ (¬ order → x.blockOk n l = true → mram = false → s.itemRefusedAs t r 15 x.received)
      ∧ (order ∨ x.blockOk n l = false ∨ mram = false → t.fwBank k = x)
      ∧ (¬ order → x.blockOk n l = true → mram = true →
          let y : FwBank := { x with blocks := tset x.blocks none n (some l) }
          t.fwBank k = y ∧ t.answered r 0 (fun c => c.result = y.received * 2 ^ 16 % 2 ^ 64)
          ∧ (y.complete = true → x.complete = false → t.bit R.FWU_EVENT 0 = true ∧ s.recorded t 1))
      ∧ kept s t k ∧ s.Frame t (parts r) regs)
  ∧ (∀ (s : State) (p : Fin 2), s.mayWrite p R.FWU_CMD = true → completes (.abandonStaging p) s fun t =>
      (s.fwu.armed.isSome = true → s.Frame t [] [])
      ∧ (∀ k, s.fwu.armed = none → s.fwu.recovery = false → s.stageBank = some k → t.fwBank k = {} ∧ kept s t k)
      ∧ (s.fwu.armed = none → s.fwu.recovery = false → s.stageBank = none → t.fwu = s.fwu)
      ∧ s.Frame t [.fwu] [R.FWU_STATUS])

/-- An activation that passes its checks is armed, hands over at its instant, or is abandoned with its reason. (R424, R429, R431, R432, R433, R434, R435, R436, R437, R439, R441, R442) -/
def Obligations.FirmwareActivatedInGapsAndSequence : Prop :=
  let regs : List Nat := [R.LOG_EVENT, R.PMON_HALF]
  let moved : State → State → Nat → Prop := fun s t mask => t.partBanks = (s.partBanks ^^^ mask) % 32
  (∀ (s : State) (r : OpRef) (butty : Bool) (o : Op), s.ready r 0x41 o → o.entry.arg1 = 0 → s.fwu.armed = none →
    s.fwu.recovery = false → completes (.fwActivate r butty) s fun t =>
      let mask := o.entry.arg0
      let when := o.entry.arg2
      let why := if s.maskOk mask = false then some 10
        else (s.activateChecks mask (s.mapAfter mask)).or (s.classReason mask (s.mapAfter mask) when butty)
      (∀ x, why = some x → t.answered r (if x = 4 then 0x0A else 0x0B) (fun c => c.result = x)
          ∧ t.bit R.FWU_EVENT 4 = true ∧ t.rn R.FWU_LAST = mask % 32 * 2 ^ 16 + 0x41 * 2 ^ 8 + x ∧ s.recorded t 1
          ∧ t.fwu = s.fwu)
      ∧ (why = none → (∃ a, t.fwu = { s.fwu with armed := some a } ∧ a.mask = mask ∧ a.arg2 = when
            ∧ (a.stage = .net ↔ mask = 8) ∧ a.pair = (mask != 8 && !s.actsAlone))
          ∧ t.rn64 R.FWU_ARM_TIME_LO = when % 2 ^ 64 ∧ t.g F.FWU_STATUS_STATE = (if s.ptpNs < when then 4 else 5)
          ∧ t.bit R.FWU_EVENT 2 = true ∧ s.recorded t 1 ∧ t.answered r 0 (fun c => c.result = mask * 2 ^ 8))
      ∧ s.Frame t (Part.port r.port :: .fwu :: .page 0xA1 :: Part.records) regs)
  ∧ (∀ (s : State) (r : OpRef) (o : Op), s.ready r 0x41 o → o.entry.arg1 = 1 → s.fwu.armed = none →
    s.fwu.recovery = false → completes (.fwActivateCold r) s fun t =>
      let mask := o.entry.arg0
      let why := if s.maskOk mask = false then some 10
        else (s.activateChecks mask (s.mapAfter mask)).or s.coldReason
      (∀ x, why = some x → t.answered r (if x = 4 then 0x0A else 0x0B) (fun c => c.result = x) ∧ t.pwr = s.pwr
          ∧ t.fwu = s.fwu ∧ s.recorded t 1)
      ∧ (why = none → moved s t mask ∧ t.pwr = { s.pwr with resetOrdered := some 2 } ∧ t.bit R.FWU_EVENT 3 = true
          ∧ s.recorded t 2 ∧ t.answered r 0 (fun c => c.result = mask * 2 ^ 8))
      ∧ s.Frame t (Part.port r.port :: .pwr :: .fwu :: .page 0xA1 :: Part.records) regs)
  ∧ (∀ (s : State) (m : Fin 32) (a : Armed) (ok : Bool), s.fwu.armed = some a → a.stage = .gap → a.pair = false →
    a.arg2 ≤ s.ptpNs → s.fwGap a.mask = true → completes (.fwActivateGap m ok) s fun t =>
      (ok = false → s.abandoned t a 14)
      ∧ (ok = true → moved s t (a.mask % 16)
          ∧ (natBit a.mask 4 = true → t.fwu.armed = some { a with stage := .islands 0 0, since := s.clk.upNs })
          ∧ (natBit a.mask 4 = false → t.fwu.armed = none ∧ t.bit R.FWU_EVENT 3 = true))
      ∧ s.Frame t (.fwu :: .settings :: .set :: .page 0xA1 :: Part.records) regs)
  ∧ (∀ (s : State) (m : Fin 32) (a : Armed) (ok : Bool), s.fwu.armed = some a → a.stage = .gap → a.pair = true →
    a.arg2 ≤ s.ptpNs → s.isMotor = true → completes (.fwActivateGap m ok) s fun t =>
      t.fwu = { s.fwu with armed := some { a with stage := .soak, since := s.clk.upNs } }
      ∧ t.g F.FWU_STATUS_STATE = 6 ∧ s.Frame t [.fwu] [R.FWU_STATUS])
  ∧ (∀ (s : State) (a : Armed), s.fwu.armed = some a → a.stage = .gap ∨ a.stage = .former →
    completes .fwGapWaitExpire s fun t =>
      s.abandoned t a 11 ∧ a.since + clampN 10 10000 (s.g F.FWU_CTL_GAP_WAIT_MS) * 1000000 ≤ t.clk.upNs
      ∧ s.Frame t (.clk :: .fwu :: .page 0xA1 :: Part.records) regs)
  ∧ (∀ (s : State) (a : Armed) (n k : Nat) (ok : Bool), s.fwu.armed = some a → a.stage = .islands n k →
    completes (.islIslandSwitch ok) s fun t =>
      (n + 1 < 24 → t.fwu = { s.fwu with armed := some { a with stage := .islands (n + 1) k, since := t.clk.upNs } })
      ∧ (24 ≤ n + 1 → ok = false → s.abandoned t a 14)
      ∧ (24 ≤ n + 1 → ok = true → moved s t 16 ∧ (k = 0 → t.fwu.armed = none ∧ t.bit R.FWU_EVENT 3 = true)
          ∧ (k = 1 → t.g F.FWU_STATUS_STATE = 6 ∧ ∃ u, t.fwu.armed = some { a with stage := .soak, since := u }))
      ∧ a.since + (if n = 0 then 0 else 10000000) ≤ t.clk.upNs
      ∧ s.Frame t (.clk :: .settings :: .set :: .fwu :: .page 0xA1 :: Part.records) regs)
  ∧ (∀ (s : State) (a : Armed), s.fwu.armed = some a → a.stage = .soak → s.synced = true →
    completes .soakEnd s fun t =>
      a.since + max 1 (s.g F.FWU_CTL_SOAK_S) * 1000000000 ≤ t.clk.upNs
      ∧ t.fwu = { s.fwu with armed := some { a with stage := .switch, since := t.clk.upNs } }
      ∧ (s.isMotor = true → ∃ b, b % 1000000 = 0 ∧ t.ptpNs + 1000000 ≤ b ∧ b < t.ptpNs + 2000000
          ∧ t.dpx = { s.dpx with switchAt := some b } ∧ t.g F.DPX_STATUS_SWITCH_PENDING = 1)
      ∧ (s.isMotor = false → t.dpx = s.dpx)
      ∧ s.Frame t (.clk :: .fwu :: .dpx :: .out :: Part.counts) [R.DPX_STATUS, R.PMON_HALF])
  ∧ (∀ (s : State) (a : Armed) (ok : Bool), s.fwu.armed = some a → a.stage = .net → 0 < s.rn R.PTP_ADDEND →
    completes (.fwNetSwitch ok) s fun t =>
      a.arg2 ≤ t.ptpNs ∧ (ok = false → s.abandoned t a 14)
      ∧ (ok = true → moved s t 8 ∧ t.fwu.armed = none ∧ t.bit R.FWU_EVENT 3 = true)
      ∧ s.Frame t (.clk :: .settings :: .set :: .fwu :: .page 0xA1 :: Part.records) regs)
  ∧ (∀ (s : State) (p : Fin 2), s.mayWrite p R.FWU_CMD = true → completes (.confirm p) s fun t =>
      t.fwu = { s.fwu with kept := [] } ∧ t.bit R.FWU_EVENT 7 = true ∧ s.recorded t 1
      ∧ t.rn R.FWU_FLOOR = (if s.stageBank.isSome
          then max (s.rn R.FWU_FLOOR) (fwSecurity (s.fwBank (s.partBank 0)).head) % 2 ^ 32 else s.rn R.FWU_FLOOR)
      ∧ s.Frame t (.fwu :: Part.records) [R.FWU_FLOOR, R.FWU_EVENT, R.LOG_EVENT, R.PMON_HALF])
  ∧ (∀ (s : State) (p : Fin 2), s.mayWrite p R.FWU_CMD = true → s.fwu.armed = none →
    completes (.cancel p) s fun t => s.Frame t [] [])
  ∧ (∀ (s : State) (p : Fin 2) (a : Armed), s.mayWrite p R.FWU_CMD = true → s.fwu.armed = some a →
    completes (.cancel p) s fun t =>
      (a.pair = false → (∀ n k, a.stage ≠ .islands n k) → t.fwu = { s.fwu with armed := none }
        ∧ t.bit R.FWU_EVENT 4 = true ∧ t.g F.FWU_LAST_OPCODE = 0x41 ∧ s.recorded t 1)
      ∧ (a.pair = true → s.isMotor = true → a.stage ≠ .back → s.abandoned t a 13)
      ∧ t.fwu.map0 = s.fwu.map0 ∧ t.fwu.map1 = s.fwu.map1
      ∧ s.Frame t (.fwu :: .free :: .page 0xA1 :: Part.records) regs)

/-- Reserved address space of BAR0 reads as zero, and a write to it is ignored and counted on its own port only. (R5) -/
def Obligations.ReservedSpaceReadsZeroAndIgnoresWrites : Prop :=
  (∀ (s : State) (p : Fin 2) (a : Nat), s.linkUp p = true → a % 4 = 0 → a < 16777216 → regRow a = none →
    completes (.snapRead p .regs a 4) s fun t => t.out = s.out ++ [Out.readData p a 0] ∧ s.Frame t [.out] [])
  ∧ (∀ (s : State) (p : Fin 2) (a : Nat), s.linkUp p = true → a % 4 = 0 → a < 16777216 → regRow a = none →
    completes (.rcRead p a 4) s fun t => t.out = s.out ++ [Out.readData p a 0] ∧ s.Frame t [.out] [])
  ∧ (∀ (s : State) (p : Fin 2) (a : Nat) (v : Word), s.linkUp p = true → a % 4 = 0 → a < 16777216 → regRow a = none →
    completes (.registerWrite p .regs a ((natLE 4 v.toNat).map some)) s fun t =>
      t.rd (R.HP_RSV_WRITES p) = s.rd (R.HP_RSV_WRITES p) + 1#32
      ∧ t.rd (R.HP_RSV_WRITES (1 - p.val)) = s.rd (R.HP_RSV_WRITES (1 - p.val))
      ∧ s.Frame t Part.events ([R.HP_RSV_WRITES p, R.HP_ERR p, R.MOD_EVENT]
          ++ (match blockAt a with
            | some b => [if p.val = 0 then R.MOD_BLK_RSV_A b.desc else R.MOD_BLK_RSV_B b.desc]
            | none => [])))

/-- A port's own block is written only through that port; the other port's write is ignored, counted and shown. (R70) -/
def Obligations.OwnBlockWritableOnlyThroughItsPort : Prop :=
  (∀ (s : State) (p : Fin 2) (a : Nat) (v : Word) (b : Block), s.linkUp p = true → a % 4 = 0 → blockAt a = some b →
    b.desc = 2 - p.val → completes (.registerWrite p .regs a ((natLE 4 v.toNat).map some)) s fun t =>
      t.rd (R.HP_RSV_WRITES p) = s.rd (R.HP_RSV_WRITES p) + 1#32 ∧ t.g (F.HP_ERR_FOREIGN_WRITE p) = 1
      ∧ (∀ x, b.base ≤ x → x < b.base + b.span → t.rd x = s.rd x)
      ∧ s.Frame t Part.events [R.HP_RSV_WRITES p, R.HP_ERR p, R.MOD_EVENT,
          if p.val = 0 then R.MOD_BLK_RSV_A b.desc else R.MOD_BLK_RSV_B b.desc])
  ∧ (∀ (s : State) (p : Fin 2) (a : Nat) (v : Word) (r : RegRow) (b : Block), s.linkUp p = true → a % 4 = 0 →
    blockAt a = some b → b.desc = 1 + p.val → regRow a = some r → r.acc = .w1c →
    completes (.registerWrite p .regs a ((natLE 4 v.toNat).map some)) s fun t =>
      t.rn a = s.rn a &&& (2 ^ 32 - 1 - (v.toNat &&& r.cmask)) ∧ s.Frame t [] [a])
  ∧ (∀ (s : State) (p : Fin 2) (v : Word), s.linkUp p = true →
    completes (.registerWrite p .regs (R.HP_CTL p) ((natLE 4 v.toNat).map some)) s fun t =>
      t.g (F.HP_CTL_HALT p) = bits v.toNat 0 1 ∧ t.g (F.HP_CTL_GATE_LEASE_MS p) = bits v.toNat 16 10
      ∧ s.Frame t [] [R.HP_CTL p])
  ∧ (∀ (s : State) (p : Fin 2) (a : Nat) (r : RegRow) (b : Block), s.linkUp p = true → a % 4 = 0 → blockAt a = some b →
    b.desc = 1 ∨ b.desc = 2 → regRow a = some r → r.acc ≠ .rc → r.acc ≠ .snap →
    completes (.snapRead p .regs a 4) s fun t => t.out = s.out ++ [Out.readData p a (s.regView p a)] ∧ s.Frame t [.out] [])

/-- Every step keeps registers, point image and instance data in their one canonical form, and takes one command. (R2, R85) -/
def Obligations.EveryCommandKeepsTheCanonicalForm : Prop :=
  ∀ s t : State, s.canonical = true → step s = .next t → t.canonical = true ∧ t.pending = s.pending.drop 1

/-- After reset every register holds its Reset column, every slot is absent, no gate is held and nothing waits. (R6, R66, R85, R93, R105, R465) -/
def Obligations.ResetLeavesTheResetColumn : Prop :=
  (∀ a, State.reset.rd a = regReset a) ∧ State.reset.canonical = true ∧ State.reset.phase = 0
    ∧ (∀ i, (State.reset.slot i).present = false ∧ (State.reset.slot i).value = 0#64 ∧ (State.reset.slot i).forced = false)
    ∧ (∀ n, (State.reset.gate n).holder = none ∧ (State.reset.gate n).gen = 0)
    ∧ (State.reset.port 0).ops = [] ∧ (State.reset.port 1).ops = [] ∧ State.reset.pending = [] ∧ State.reset.out = []
end

