-- ==== Sys2Proof/Laws/Bits.lean ====
section
/-! SUPPORT. What replacing a bit field does to that field and to the others. -/

namespace Sys2Proof

theorem setBits_eq (n lo w v : Nat) :
    setBits n lo w v = (n / 2 ^ (lo + w) * 2 ^ w + v % 2 ^ w) * 2 ^ lo + n % 2 ^ lo := by
  unfold setBits
  rw [Nat.add_mul, Nat.mul_assoc, ← Nat.pow_add, Nat.add_comm w lo]

theorem mul_pow_add_div (q r k : Nat) (h : r < 2 ^ k) : (q * 2 ^ k + r) / 2 ^ k = q := by
  rw [Nat.mul_comm, Nat.mul_add_div (Nat.two_pow_pos _), Nat.div_eq_of_lt h, Nat.add_zero]

/-- A field reads as what was written, cut to its width. -/
@[simp] theorem bits_setBits_same (n lo w v : Nat) : bits (setBits n lo w v) lo w = v % 2 ^ w := by
  rw [setBits_eq, bits, mul_pow_add_div _ _ _ (Nat.mod_lt _ (Nat.two_pow_pos _)), Nat.mul_comm, Nat.mul_add_mod,
    Nat.mod_mod]

theorem setBits_div_high (n lo w v : Nat) : setBits n lo w v / 2 ^ (lo + w) = n / 2 ^ (lo + w) := by
  rw [setBits_eq, Nat.pow_add, ← Nat.div_div_eq_div_mul, mul_pow_add_div _ _ _ (Nat.mod_lt _ (Nat.two_pow_pos _)),
    mul_pow_add_div _ _ _ (Nat.mod_lt _ (Nat.two_pow_pos _))]

theorem setBits_mod_low (n lo w v : Nat) : setBits n lo w v % 2 ^ lo = n % 2 ^ lo := by
  rw [setBits_eq, Nat.mul_comm, Nat.mul_add_mod, Nat.mod_mod]

theorem bits_eq_mod_div (n lo w : Nat) : bits n lo w = n % 2 ^ (lo + w) / 2 ^ lo := by
  rw [bits, Nat.pow_add, Nat.mod_mul_right_div_self]

/-- A field above the one written stays. -/
theorem bits_setBits_high {n lo w v lo' w' : Nat} (h : lo + w ≤ lo') :
    bits (setBits n lo w v) lo' w' = bits n lo' w' := by
  obtain ⟨k, rfl⟩ := Nat.exists_eq_add_of_le h
  rw [bits, bits, Nat.pow_add 2 (lo + w), ← Nat.div_div_eq_div_mul, ← Nat.div_div_eq_div_mul, setBits_div_high]

/-- A field below the one written stays. -/
theorem bits_setBits_low {n lo w v lo' w' : Nat} (h : lo' + w' ≤ lo) :
    bits (setBits n lo w v) lo' w' = bits n lo' w' := by
  rw [bits_eq_mod_div, bits_eq_mod_div, ← Nat.mod_mod_of_dvd (setBits n lo w v) (Nat.pow_dvd_pow 2 h),
    setBits_mod_low, Nat.mod_mod_of_dvd _ (Nat.pow_dvd_pow 2 h)]

theorem setBits_lt {n lo w v m : Nat} (hn : n < 2 ^ m) (h : lo + w ≤ m) : setBits n lo w v < 2 ^ m := by
  obtain ⟨k, rfl⟩ := Nat.exists_eq_add_of_le h
  have hq : setBits n lo w v / 2 ^ (lo + w) < 2 ^ k := by
    rw [setBits_div_high]
    exact Nat.div_lt_of_lt_mul (by rwa [← Nat.pow_add])
  rw [Nat.pow_add]
  rw [Nat.mul_comm]
  exact (Nat.div_lt_iff_lt_mul (Nat.two_pow_pos _)).1 hq

@[simp] theorem b2n_true : b2n true = 1 := rfl
@[simp] theorem b2n_false : b2n false = 0 := rfl

end Sys2Proof
end

