-- ==== Sys2Proof/Laws/State.lean ====
section
/-! SUPPORT. One lemma for each field of the state and each update of it that leaves the field alone, so that no proof
unfolds a record update. -/

namespace Sys2Proof.Machine

variable (s : State)

/-! ## wr -/

@[simp] theorem State.wr_settings (a : Nat) (v : Word) : (s.wr a v).settings = s.settings := rfl
@[simp] theorem State.wr_clk (a : Nat) (v : Word) : (s.wr a v).clk = s.clk := rfl
@[simp] theorem State.wr_log (a : Nat) (v : Word) : (s.wr a v).log = s.log := rfl
@[simp] theorem State.wr_hpA (a : Nat) (v : Word) : (s.wr a v).hpA = s.hpA := rfl
@[simp] theorem State.wr_hpB (a : Nat) (v : Word) : (s.wr a v).hpB = s.hpB := rfl
@[simp] theorem State.wr_gates (a : Nat) (v : Word) : (s.wr a v).gates = s.gates := rfl
@[simp] theorem State.wr_deny (a : Nat) (v : Word) : (s.wr a v).deny = s.deny := rfl
@[simp] theorem State.wr_edges (a : Nat) (v : Word) : (s.wr a v).edges = s.edges := rfl
@[simp] theorem State.wr_pix (a : Nat) (v : Word) : (s.wr a v).pix = s.pix := rfl
@[simp] theorem State.wr_rep (a : Nat) (v : Word) : (s.wr a v).rep = s.rep := rfl
@[simp] theorem State.wr_scn (a : Nat) (v : Word) : (s.wr a v).scn = s.scn := rfl
@[simp] theorem State.wr_olc (a : Nat) (v : Word) : (s.wr a v).olc = s.olc := rfl
@[simp] theorem State.wr_le (a : Nat) (v : Word) : (s.wr a v).le = s.le := rfl
@[simp] theorem State.wr_out (a : Nat) (v : Word) : (s.wr a v).out = s.out := rfl
@[simp] theorem State.wr_free (a : Nat) (v : Word) : (s.wr a v).free = s.free := rfl
@[simp] theorem State.wr_pwr (a : Nat) (v : Word) : (s.wr a v).pwr = s.pwr := rfl
@[simp] theorem State.wr_sec (a : Nat) (v : Word) : (s.wr a v).sec = s.sec := rfl
@[simp] theorem State.wr_dpx (a : Nat) (v : Word) : (s.wr a v).dpx = s.dpx := rfl
@[simp] theorem State.wr_fio (a : Nat) (v : Word) : (s.wr a v).fio = s.fio := rfl
@[simp] theorem State.wr_can (a : Nat) (v : Word) : (s.wr a v).can = s.can := rfl
@[simp] theorem State.wr_set (a : Nat) (v : Word) : (s.wr a v).set = s.set := rfl
@[simp] theorem State.wr_mtr (a : Nat) (v : Word) : (s.wr a v).mtr = s.mtr := rfl
@[simp] theorem State.wr_reports (a : Nat) (v : Word) : (s.wr a v).reports = s.reports := rfl
@[simp] theorem State.wr_pmon (a : Nat) (v : Word) : (s.wr a v).pmon = s.pmon := rfl
@[simp] theorem State.wr_pmonOpen (a : Nat) (v : Word) : (s.wr a v).pmonOpen = s.pmonOpen := rfl
@[simp] theorem State.wr_fwu (a : Nat) (v : Word) : (s.wr a v).fwu = s.fwu := rfl
@[simp] theorem State.wr_eth (a : Nat) (v : Word) : (s.wr a v).eth = s.eth := rfl
@[simp] theorem State.wr_ptp (a : Nat) (v : Word) : (s.wr a v).ptp = s.ptp := rfl
@[simp] theorem State.wr_bkd (a : Nat) (v : Word) : (s.wr a v).bkd = s.bkd := rfl
@[simp] theorem State.wr_saf (a : Nat) (v : Word) : (s.wr a v).saf = s.saf := rfl
@[simp] theorem State.wr_pending (a : Nat) (v : Word) : (s.wr a v).pending = s.pending := rfl

/-! ## wn -/

@[simp] theorem State.wn_settings (a v : Nat) : (s.wn a v).settings = s.settings := rfl
@[simp] theorem State.wn_clk (a v : Nat) : (s.wn a v).clk = s.clk := rfl
@[simp] theorem State.wn_log (a v : Nat) : (s.wn a v).log = s.log := rfl
@[simp] theorem State.wn_hpA (a v : Nat) : (s.wn a v).hpA = s.hpA := rfl
@[simp] theorem State.wn_hpB (a v : Nat) : (s.wn a v).hpB = s.hpB := rfl
@[simp] theorem State.wn_gates (a v : Nat) : (s.wn a v).gates = s.gates := rfl
@[simp] theorem State.wn_deny (a v : Nat) : (s.wn a v).deny = s.deny := rfl
@[simp] theorem State.wn_edges (a v : Nat) : (s.wn a v).edges = s.edges := rfl
@[simp] theorem State.wn_pix (a v : Nat) : (s.wn a v).pix = s.pix := rfl
@[simp] theorem State.wn_rep (a v : Nat) : (s.wn a v).rep = s.rep := rfl
@[simp] theorem State.wn_scn (a v : Nat) : (s.wn a v).scn = s.scn := rfl
@[simp] theorem State.wn_olc (a v : Nat) : (s.wn a v).olc = s.olc := rfl
@[simp] theorem State.wn_le (a v : Nat) : (s.wn a v).le = s.le := rfl
@[simp] theorem State.wn_out (a v : Nat) : (s.wn a v).out = s.out := rfl
@[simp] theorem State.wn_free (a v : Nat) : (s.wn a v).free = s.free := rfl
@[simp] theorem State.wn_pwr (a v : Nat) : (s.wn a v).pwr = s.pwr := rfl
@[simp] theorem State.wn_sec (a v : Nat) : (s.wn a v).sec = s.sec := rfl
@[simp] theorem State.wn_dpx (a v : Nat) : (s.wn a v).dpx = s.dpx := rfl
@[simp] theorem State.wn_fio (a v : Nat) : (s.wn a v).fio = s.fio := rfl
@[simp] theorem State.wn_can (a v : Nat) : (s.wn a v).can = s.can := rfl
@[simp] theorem State.wn_set (a v : Nat) : (s.wn a v).set = s.set := rfl
@[simp] theorem State.wn_mtr (a v : Nat) : (s.wn a v).mtr = s.mtr := rfl
@[simp] theorem State.wn_reports (a v : Nat) : (s.wn a v).reports = s.reports := rfl
@[simp] theorem State.wn_pmon (a v : Nat) : (s.wn a v).pmon = s.pmon := rfl
@[simp] theorem State.wn_pmonOpen (a v : Nat) : (s.wn a v).pmonOpen = s.pmonOpen := rfl
@[simp] theorem State.wn_fwu (a v : Nat) : (s.wn a v).fwu = s.fwu := rfl
@[simp] theorem State.wn_eth (a v : Nat) : (s.wn a v).eth = s.eth := rfl
@[simp] theorem State.wn_ptp (a v : Nat) : (s.wn a v).ptp = s.ptp := rfl
@[simp] theorem State.wn_bkd (a v : Nat) : (s.wn a v).bkd = s.bkd := rfl
@[simp] theorem State.wn_saf (a v : Nat) : (s.wn a v).saf = s.saf := rfl
@[simp] theorem State.wn_pending (a v : Nat) : (s.wn a v).pending = s.pending := rfl

/-! ## p -/

@[simp] theorem State.p_settings (f : Fld) (v : Nat) : (s.p f v).settings = s.settings := rfl
@[simp] theorem State.p_clk (f : Fld) (v : Nat) : (s.p f v).clk = s.clk := rfl
@[simp] theorem State.p_log (f : Fld) (v : Nat) : (s.p f v).log = s.log := rfl
@[simp] theorem State.p_hpA (f : Fld) (v : Nat) : (s.p f v).hpA = s.hpA := rfl
@[simp] theorem State.p_hpB (f : Fld) (v : Nat) : (s.p f v).hpB = s.hpB := rfl
@[simp] theorem State.p_gates (f : Fld) (v : Nat) : (s.p f v).gates = s.gates := rfl
@[simp] theorem State.p_deny (f : Fld) (v : Nat) : (s.p f v).deny = s.deny := rfl
@[simp] theorem State.p_edges (f : Fld) (v : Nat) : (s.p f v).edges = s.edges := rfl
@[simp] theorem State.p_pix (f : Fld) (v : Nat) : (s.p f v).pix = s.pix := rfl
@[simp] theorem State.p_rep (f : Fld) (v : Nat) : (s.p f v).rep = s.rep := rfl
@[simp] theorem State.p_scn (f : Fld) (v : Nat) : (s.p f v).scn = s.scn := rfl
@[simp] theorem State.p_olc (f : Fld) (v : Nat) : (s.p f v).olc = s.olc := rfl
@[simp] theorem State.p_le (f : Fld) (v : Nat) : (s.p f v).le = s.le := rfl
@[simp] theorem State.p_out (f : Fld) (v : Nat) : (s.p f v).out = s.out := rfl
@[simp] theorem State.p_free (f : Fld) (v : Nat) : (s.p f v).free = s.free := rfl
@[simp] theorem State.p_pwr (f : Fld) (v : Nat) : (s.p f v).pwr = s.pwr := rfl
@[simp] theorem State.p_sec (f : Fld) (v : Nat) : (s.p f v).sec = s.sec := rfl
@[simp] theorem State.p_dpx (f : Fld) (v : Nat) : (s.p f v).dpx = s.dpx := rfl
@[simp] theorem State.p_fio (f : Fld) (v : Nat) : (s.p f v).fio = s.fio := rfl
@[simp] theorem State.p_can (f : Fld) (v : Nat) : (s.p f v).can = s.can := rfl
@[simp] theorem State.p_set (f : Fld) (v : Nat) : (s.p f v).set = s.set := rfl
@[simp] theorem State.p_mtr (f : Fld) (v : Nat) : (s.p f v).mtr = s.mtr := rfl
@[simp] theorem State.p_reports (f : Fld) (v : Nat) : (s.p f v).reports = s.reports := rfl
@[simp] theorem State.p_pmon (f : Fld) (v : Nat) : (s.p f v).pmon = s.pmon := rfl
@[simp] theorem State.p_pmonOpen (f : Fld) (v : Nat) : (s.p f v).pmonOpen = s.pmonOpen := rfl
@[simp] theorem State.p_fwu (f : Fld) (v : Nat) : (s.p f v).fwu = s.fwu := rfl
@[simp] theorem State.p_eth (f : Fld) (v : Nat) : (s.p f v).eth = s.eth := rfl
@[simp] theorem State.p_ptp (f : Fld) (v : Nat) : (s.p f v).ptp = s.ptp := rfl
@[simp] theorem State.p_bkd (f : Fld) (v : Nat) : (s.p f v).bkd = s.bkd := rfl
@[simp] theorem State.p_saf (f : Fld) (v : Nat) : (s.p f v).saf = s.saf := rfl
@[simp] theorem State.p_pending (f : Fld) (v : Nat) : (s.p f v).pending = s.pending := rfl

/-! ## setBit -/

@[simp] theorem State.setBit_settings (a b : Nat) (v : Bool) : (s.setBit a b v).settings = s.settings := rfl
@[simp] theorem State.setBit_clk (a b : Nat) (v : Bool) : (s.setBit a b v).clk = s.clk := rfl
@[simp] theorem State.setBit_log (a b : Nat) (v : Bool) : (s.setBit a b v).log = s.log := rfl
@[simp] theorem State.setBit_hpA (a b : Nat) (v : Bool) : (s.setBit a b v).hpA = s.hpA := rfl
@[simp] theorem State.setBit_hpB (a b : Nat) (v : Bool) : (s.setBit a b v).hpB = s.hpB := rfl
@[simp] theorem State.setBit_gates (a b : Nat) (v : Bool) : (s.setBit a b v).gates = s.gates := rfl
@[simp] theorem State.setBit_deny (a b : Nat) (v : Bool) : (s.setBit a b v).deny = s.deny := rfl
@[simp] theorem State.setBit_edges (a b : Nat) (v : Bool) : (s.setBit a b v).edges = s.edges := rfl
@[simp] theorem State.setBit_pix (a b : Nat) (v : Bool) : (s.setBit a b v).pix = s.pix := rfl
@[simp] theorem State.setBit_rep (a b : Nat) (v : Bool) : (s.setBit a b v).rep = s.rep := rfl
@[simp] theorem State.setBit_scn (a b : Nat) (v : Bool) : (s.setBit a b v).scn = s.scn := rfl
@[simp] theorem State.setBit_olc (a b : Nat) (v : Bool) : (s.setBit a b v).olc = s.olc := rfl
@[simp] theorem State.setBit_le (a b : Nat) (v : Bool) : (s.setBit a b v).le = s.le := rfl
@[simp] theorem State.setBit_out (a b : Nat) (v : Bool) : (s.setBit a b v).out = s.out := rfl
@[simp] theorem State.setBit_free (a b : Nat) (v : Bool) : (s.setBit a b v).free = s.free := rfl
@[simp] theorem State.setBit_pwr (a b : Nat) (v : Bool) : (s.setBit a b v).pwr = s.pwr := rfl
@[simp] theorem State.setBit_sec (a b : Nat) (v : Bool) : (s.setBit a b v).sec = s.sec := rfl
@[simp] theorem State.setBit_dpx (a b : Nat) (v : Bool) : (s.setBit a b v).dpx = s.dpx := rfl
@[simp] theorem State.setBit_fio (a b : Nat) (v : Bool) : (s.setBit a b v).fio = s.fio := rfl
@[simp] theorem State.setBit_can (a b : Nat) (v : Bool) : (s.setBit a b v).can = s.can := rfl
@[simp] theorem State.setBit_set (a b : Nat) (v : Bool) : (s.setBit a b v).set = s.set := rfl
@[simp] theorem State.setBit_mtr (a b : Nat) (v : Bool) : (s.setBit a b v).mtr = s.mtr := rfl
@[simp] theorem State.setBit_reports (a b : Nat) (v : Bool) : (s.setBit a b v).reports = s.reports := rfl
@[simp] theorem State.setBit_pmon (a b : Nat) (v : Bool) : (s.setBit a b v).pmon = s.pmon := rfl
@[simp] theorem State.setBit_pmonOpen (a b : Nat) (v : Bool) : (s.setBit a b v).pmonOpen = s.pmonOpen := rfl
@[simp] theorem State.setBit_fwu (a b : Nat) (v : Bool) : (s.setBit a b v).fwu = s.fwu := rfl
@[simp] theorem State.setBit_eth (a b : Nat) (v : Bool) : (s.setBit a b v).eth = s.eth := rfl
@[simp] theorem State.setBit_ptp (a b : Nat) (v : Bool) : (s.setBit a b v).ptp = s.ptp := rfl
@[simp] theorem State.setBit_bkd (a b : Nat) (v : Bool) : (s.setBit a b v).bkd = s.bkd := rfl
@[simp] theorem State.setBit_saf (a b : Nat) (v : Bool) : (s.setBit a b v).saf = s.saf := rfl
@[simp] theorem State.setBit_pending (a b : Nat) (v : Bool) : (s.setBit a b v).pending = s.pending := rfl

/-! ## inc -/

@[simp] theorem State.inc_settings (a n : Nat) : (s.inc a n).settings = s.settings := rfl
@[simp] theorem State.inc_clk (a n : Nat) : (s.inc a n).clk = s.clk := rfl
@[simp] theorem State.inc_log (a n : Nat) : (s.inc a n).log = s.log := rfl
@[simp] theorem State.inc_hpA (a n : Nat) : (s.inc a n).hpA = s.hpA := rfl
@[simp] theorem State.inc_hpB (a n : Nat) : (s.inc a n).hpB = s.hpB := rfl
@[simp] theorem State.inc_gates (a n : Nat) : (s.inc a n).gates = s.gates := rfl
@[simp] theorem State.inc_deny (a n : Nat) : (s.inc a n).deny = s.deny := rfl
@[simp] theorem State.inc_edges (a n : Nat) : (s.inc a n).edges = s.edges := rfl
@[simp] theorem State.inc_pix (a n : Nat) : (s.inc a n).pix = s.pix := rfl
@[simp] theorem State.inc_rep (a n : Nat) : (s.inc a n).rep = s.rep := rfl
@[simp] theorem State.inc_scn (a n : Nat) : (s.inc a n).scn = s.scn := rfl
@[simp] theorem State.inc_olc (a n : Nat) : (s.inc a n).olc = s.olc := rfl
@[simp] theorem State.inc_le (a n : Nat) : (s.inc a n).le = s.le := rfl
@[simp] theorem State.inc_out (a n : Nat) : (s.inc a n).out = s.out := rfl
@[simp] theorem State.inc_free (a n : Nat) : (s.inc a n).free = s.free := rfl
@[simp] theorem State.inc_pwr (a n : Nat) : (s.inc a n).pwr = s.pwr := rfl
@[simp] theorem State.inc_sec (a n : Nat) : (s.inc a n).sec = s.sec := rfl
@[simp] theorem State.inc_dpx (a n : Nat) : (s.inc a n).dpx = s.dpx := rfl
@[simp] theorem State.inc_fio (a n : Nat) : (s.inc a n).fio = s.fio := rfl
@[simp] theorem State.inc_can (a n : Nat) : (s.inc a n).can = s.can := rfl
@[simp] theorem State.inc_set (a n : Nat) : (s.inc a n).set = s.set := rfl
@[simp] theorem State.inc_mtr (a n : Nat) : (s.inc a n).mtr = s.mtr := rfl
@[simp] theorem State.inc_reports (a n : Nat) : (s.inc a n).reports = s.reports := rfl
@[simp] theorem State.inc_pmon (a n : Nat) : (s.inc a n).pmon = s.pmon := rfl
@[simp] theorem State.inc_pmonOpen (a n : Nat) : (s.inc a n).pmonOpen = s.pmonOpen := rfl
@[simp] theorem State.inc_fwu (a n : Nat) : (s.inc a n).fwu = s.fwu := rfl
@[simp] theorem State.inc_eth (a n : Nat) : (s.inc a n).eth = s.eth := rfl
@[simp] theorem State.inc_ptp (a n : Nat) : (s.inc a n).ptp = s.ptp := rfl
@[simp] theorem State.inc_bkd (a n : Nat) : (s.inc a n).bkd = s.bkd := rfl
@[simp] theorem State.inc_saf (a n : Nat) : (s.inc a n).saf = s.saf := rfl
@[simp] theorem State.inc_pending (a n : Nat) : (s.inc a n).pending = s.pending := rfl

/-! ## incHold -/

@[simp] theorem State.incHold_settings (f : Fld) (n : Nat) : (s.incHold f n).settings = s.settings := rfl
@[simp] theorem State.incHold_clk (f : Fld) (n : Nat) : (s.incHold f n).clk = s.clk := rfl
@[simp] theorem State.incHold_log (f : Fld) (n : Nat) : (s.incHold f n).log = s.log := rfl
@[simp] theorem State.incHold_hpA (f : Fld) (n : Nat) : (s.incHold f n).hpA = s.hpA := rfl
@[simp] theorem State.incHold_hpB (f : Fld) (n : Nat) : (s.incHold f n).hpB = s.hpB := rfl
@[simp] theorem State.incHold_gates (f : Fld) (n : Nat) : (s.incHold f n).gates = s.gates := rfl
@[simp] theorem State.incHold_deny (f : Fld) (n : Nat) : (s.incHold f n).deny = s.deny := rfl
@[simp] theorem State.incHold_edges (f : Fld) (n : Nat) : (s.incHold f n).edges = s.edges := rfl
@[simp] theorem State.incHold_pix (f : Fld) (n : Nat) : (s.incHold f n).pix = s.pix := rfl
@[simp] theorem State.incHold_rep (f : Fld) (n : Nat) : (s.incHold f n).rep = s.rep := rfl
@[simp] theorem State.incHold_scn (f : Fld) (n : Nat) : (s.incHold f n).scn = s.scn := rfl
@[simp] theorem State.incHold_olc (f : Fld) (n : Nat) : (s.incHold f n).olc = s.olc := rfl
@[simp] theorem State.incHold_le (f : Fld) (n : Nat) : (s.incHold f n).le = s.le := rfl
@[simp] theorem State.incHold_out (f : Fld) (n : Nat) : (s.incHold f n).out = s.out := rfl
@[simp] theorem State.incHold_free (f : Fld) (n : Nat) : (s.incHold f n).free = s.free := rfl
@[simp] theorem State.incHold_pwr (f : Fld) (n : Nat) : (s.incHold f n).pwr = s.pwr := rfl
@[simp] theorem State.incHold_sec (f : Fld) (n : Nat) : (s.incHold f n).sec = s.sec := rfl
@[simp] theorem State.incHold_dpx (f : Fld) (n : Nat) : (s.incHold f n).dpx = s.dpx := rfl
@[simp] theorem State.incHold_fio (f : Fld) (n : Nat) : (s.incHold f n).fio = s.fio := rfl
@[simp] theorem State.incHold_can (f : Fld) (n : Nat) : (s.incHold f n).can = s.can := rfl
@[simp] theorem State.incHold_set (f : Fld) (n : Nat) : (s.incHold f n).set = s.set := rfl
@[simp] theorem State.incHold_mtr (f : Fld) (n : Nat) : (s.incHold f n).mtr = s.mtr := rfl
@[simp] theorem State.incHold_reports (f : Fld) (n : Nat) : (s.incHold f n).reports = s.reports := rfl
@[simp] theorem State.incHold_pmon (f : Fld) (n : Nat) : (s.incHold f n).pmon = s.pmon := rfl
@[simp] theorem State.incHold_pmonOpen (f : Fld) (n : Nat) : (s.incHold f n).pmonOpen = s.pmonOpen := rfl
@[simp] theorem State.incHold_fwu (f : Fld) (n : Nat) : (s.incHold f n).fwu = s.fwu := rfl
@[simp] theorem State.incHold_eth (f : Fld) (n : Nat) : (s.incHold f n).eth = s.eth := rfl
@[simp] theorem State.incHold_ptp (f : Fld) (n : Nat) : (s.incHold f n).ptp = s.ptp := rfl
@[simp] theorem State.incHold_bkd (f : Fld) (n : Nat) : (s.incHold f n).bkd = s.bkd := rfl
@[simp] theorem State.incHold_saf (f : Fld) (n : Nat) : (s.incHold f n).saf = s.saf := rfl
@[simp] theorem State.incHold_pending (f : Fld) (n : Nat) : (s.incHold f n).pending = s.pending := rfl

/-! ## wn64 -/

@[simp] theorem State.wn64_settings (a v : Nat) : (s.wn64 a v).settings = s.settings := rfl
@[simp] theorem State.wn64_clk (a v : Nat) : (s.wn64 a v).clk = s.clk := rfl
@[simp] theorem State.wn64_log (a v : Nat) : (s.wn64 a v).log = s.log := rfl
@[simp] theorem State.wn64_hpA (a v : Nat) : (s.wn64 a v).hpA = s.hpA := rfl
@[simp] theorem State.wn64_hpB (a v : Nat) : (s.wn64 a v).hpB = s.hpB := rfl
@[simp] theorem State.wn64_gates (a v : Nat) : (s.wn64 a v).gates = s.gates := rfl
@[simp] theorem State.wn64_deny (a v : Nat) : (s.wn64 a v).deny = s.deny := rfl
@[simp] theorem State.wn64_edges (a v : Nat) : (s.wn64 a v).edges = s.edges := rfl
@[simp] theorem State.wn64_pix (a v : Nat) : (s.wn64 a v).pix = s.pix := rfl
@[simp] theorem State.wn64_rep (a v : Nat) : (s.wn64 a v).rep = s.rep := rfl
@[simp] theorem State.wn64_scn (a v : Nat) : (s.wn64 a v).scn = s.scn := rfl
@[simp] theorem State.wn64_olc (a v : Nat) : (s.wn64 a v).olc = s.olc := rfl
@[simp] theorem State.wn64_le (a v : Nat) : (s.wn64 a v).le = s.le := rfl
@[simp] theorem State.wn64_out (a v : Nat) : (s.wn64 a v).out = s.out := rfl
@[simp] theorem State.wn64_free (a v : Nat) : (s.wn64 a v).free = s.free := rfl
@[simp] theorem State.wn64_pwr (a v : Nat) : (s.wn64 a v).pwr = s.pwr := rfl
@[simp] theorem State.wn64_sec (a v : Nat) : (s.wn64 a v).sec = s.sec := rfl
@[simp] theorem State.wn64_dpx (a v : Nat) : (s.wn64 a v).dpx = s.dpx := rfl
@[simp] theorem State.wn64_fio (a v : Nat) : (s.wn64 a v).fio = s.fio := rfl
@[simp] theorem State.wn64_can (a v : Nat) : (s.wn64 a v).can = s.can := rfl
@[simp] theorem State.wn64_set (a v : Nat) : (s.wn64 a v).set = s.set := rfl
@[simp] theorem State.wn64_mtr (a v : Nat) : (s.wn64 a v).mtr = s.mtr := rfl
@[simp] theorem State.wn64_reports (a v : Nat) : (s.wn64 a v).reports = s.reports := rfl
@[simp] theorem State.wn64_pmon (a v : Nat) : (s.wn64 a v).pmon = s.pmon := rfl
@[simp] theorem State.wn64_pmonOpen (a v : Nat) : (s.wn64 a v).pmonOpen = s.pmonOpen := rfl
@[simp] theorem State.wn64_fwu (a v : Nat) : (s.wn64 a v).fwu = s.fwu := rfl
@[simp] theorem State.wn64_eth (a v : Nat) : (s.wn64 a v).eth = s.eth := rfl
@[simp] theorem State.wn64_ptp (a v : Nat) : (s.wn64 a v).ptp = s.ptp := rfl
@[simp] theorem State.wn64_bkd (a v : Nat) : (s.wn64 a v).bkd = s.bkd := rfl
@[simp] theorem State.wn64_saf (a v : Nat) : (s.wn64 a v).saf = s.saf := rfl
@[simp] theorem State.wn64_pending (a v : Nat) : (s.wn64 a v).pending = s.pending := rfl

/-! ## freshen -/

@[simp] theorem State.freshen_regs : (s.freshen).regs = s.regs := rfl
@[simp] theorem State.freshen_settings : (s.freshen).settings = s.settings := rfl
@[simp] theorem State.freshen_clk : (s.freshen).clk = s.clk := rfl
@[simp] theorem State.freshen_log : (s.freshen).log = s.log := rfl
@[simp] theorem State.freshen_hpA : (s.freshen).hpA = s.hpA := rfl
@[simp] theorem State.freshen_hpB : (s.freshen).hpB = s.hpB := rfl
@[simp] theorem State.freshen_gates : (s.freshen).gates = s.gates := rfl
@[simp] theorem State.freshen_deny : (s.freshen).deny = s.deny := rfl
@[simp] theorem State.freshen_edges : (s.freshen).edges = s.edges := rfl
@[simp] theorem State.freshen_pix : (s.freshen).pix = s.pix := rfl
@[simp] theorem State.freshen_rep : (s.freshen).rep = s.rep := rfl
@[simp] theorem State.freshen_scn : (s.freshen).scn = s.scn := rfl
@[simp] theorem State.freshen_olc : (s.freshen).olc = s.olc := rfl
@[simp] theorem State.freshen_le : (s.freshen).le = s.le := rfl
@[simp] theorem State.freshen_out : (s.freshen).out = s.out := rfl
@[simp] theorem State.freshen_pwr : (s.freshen).pwr = s.pwr := rfl
@[simp] theorem State.freshen_sec : (s.freshen).sec = s.sec := rfl
@[simp] theorem State.freshen_dpx : (s.freshen).dpx = s.dpx := rfl
@[simp] theorem State.freshen_fio : (s.freshen).fio = s.fio := rfl
@[simp] theorem State.freshen_can : (s.freshen).can = s.can := rfl
@[simp] theorem State.freshen_set : (s.freshen).set = s.set := rfl
@[simp] theorem State.freshen_mtr : (s.freshen).mtr = s.mtr := rfl
@[simp] theorem State.freshen_reports : (s.freshen).reports = s.reports := rfl
@[simp] theorem State.freshen_pmon : (s.freshen).pmon = s.pmon := rfl
@[simp] theorem State.freshen_pmonOpen : (s.freshen).pmonOpen = s.pmonOpen := rfl
@[simp] theorem State.freshen_fwu : (s.freshen).fwu = s.fwu := rfl
@[simp] theorem State.freshen_eth : (s.freshen).eth = s.eth := rfl
@[simp] theorem State.freshen_ptp : (s.freshen).ptp = s.ptp := rfl
@[simp] theorem State.freshen_bkd : (s.freshen).bkd = s.bkd := rfl
@[simp] theorem State.freshen_saf : (s.freshen).saf = s.saf := rfl
@[simp] theorem State.freshen_pending : (s.freshen).pending = s.pending := rfl

/-! ## setGate -/

@[simp] theorem State.setGate_regs (n : Nat) (g : Gate) : (s.setGate n g).regs = s.regs := rfl
@[simp] theorem State.setGate_settings (n : Nat) (g : Gate) : (s.setGate n g).settings = s.settings := rfl
@[simp] theorem State.setGate_clk (n : Nat) (g : Gate) : (s.setGate n g).clk = s.clk := rfl
@[simp] theorem State.setGate_log (n : Nat) (g : Gate) : (s.setGate n g).log = s.log := rfl
@[simp] theorem State.setGate_hpA (n : Nat) (g : Gate) : (s.setGate n g).hpA = s.hpA := rfl
@[simp] theorem State.setGate_hpB (n : Nat) (g : Gate) : (s.setGate n g).hpB = s.hpB := rfl
@[simp] theorem State.setGate_deny (n : Nat) (g : Gate) : (s.setGate n g).deny = s.deny := rfl
@[simp] theorem State.setGate_edges (n : Nat) (g : Gate) : (s.setGate n g).edges = s.edges := rfl
@[simp] theorem State.setGate_pix (n : Nat) (g : Gate) : (s.setGate n g).pix = s.pix := rfl
@[simp] theorem State.setGate_rep (n : Nat) (g : Gate) : (s.setGate n g).rep = s.rep := rfl
@[simp] theorem State.setGate_scn (n : Nat) (g : Gate) : (s.setGate n g).scn = s.scn := rfl
@[simp] theorem State.setGate_olc (n : Nat) (g : Gate) : (s.setGate n g).olc = s.olc := rfl
@[simp] theorem State.setGate_le (n : Nat) (g : Gate) : (s.setGate n g).le = s.le := rfl
@[simp] theorem State.setGate_out (n : Nat) (g : Gate) : (s.setGate n g).out = s.out := rfl
@[simp] theorem State.setGate_free (n : Nat) (g : Gate) : (s.setGate n g).free = s.free := rfl
@[simp] theorem State.setGate_pwr (n : Nat) (g : Gate) : (s.setGate n g).pwr = s.pwr := rfl
@[simp] theorem State.setGate_sec (n : Nat) (g : Gate) : (s.setGate n g).sec = s.sec := rfl
@[simp] theorem State.setGate_dpx (n : Nat) (g : Gate) : (s.setGate n g).dpx = s.dpx := rfl
@[simp] theorem State.setGate_fio (n : Nat) (g : Gate) : (s.setGate n g).fio = s.fio := rfl
@[simp] theorem State.setGate_can (n : Nat) (g : Gate) : (s.setGate n g).can = s.can := rfl
@[simp] theorem State.setGate_set (n : Nat) (g : Gate) : (s.setGate n g).set = s.set := rfl
@[simp] theorem State.setGate_mtr (n : Nat) (g : Gate) : (s.setGate n g).mtr = s.mtr := rfl
@[simp] theorem State.setGate_reports (n : Nat) (g : Gate) : (s.setGate n g).reports = s.reports := rfl
@[simp] theorem State.setGate_pmon (n : Nat) (g : Gate) : (s.setGate n g).pmon = s.pmon := rfl
@[simp] theorem State.setGate_pmonOpen (n : Nat) (g : Gate) : (s.setGate n g).pmonOpen = s.pmonOpen := rfl
@[simp] theorem State.setGate_fwu (n : Nat) (g : Gate) : (s.setGate n g).fwu = s.fwu := rfl
@[simp] theorem State.setGate_eth (n : Nat) (g : Gate) : (s.setGate n g).eth = s.eth := rfl
@[simp] theorem State.setGate_ptp (n : Nat) (g : Gate) : (s.setGate n g).ptp = s.ptp := rfl
@[simp] theorem State.setGate_bkd (n : Nat) (g : Gate) : (s.setGate n g).bkd = s.bkd := rfl
@[simp] theorem State.setGate_saf (n : Nat) (g : Gate) : (s.setGate n g).saf = s.saf := rfl
@[simp] theorem State.setGate_pending (n : Nat) (g : Gate) : (s.setGate n g).pending = s.pending := rfl

/-! ## releaseGate -/

@[simp] theorem State.releaseGate_regs (n : Nat) : (s.releaseGate n).regs = s.regs := rfl
@[simp] theorem State.releaseGate_settings (n : Nat) : (s.releaseGate n).settings = s.settings := rfl
@[simp] theorem State.releaseGate_clk (n : Nat) : (s.releaseGate n).clk = s.clk := rfl
@[simp] theorem State.releaseGate_log (n : Nat) : (s.releaseGate n).log = s.log := rfl
@[simp] theorem State.releaseGate_hpA (n : Nat) : (s.releaseGate n).hpA = s.hpA := rfl
@[simp] theorem State.releaseGate_hpB (n : Nat) : (s.releaseGate n).hpB = s.hpB := rfl
@[simp] theorem State.releaseGate_deny (n : Nat) : (s.releaseGate n).deny = s.deny := rfl
@[simp] theorem State.releaseGate_edges (n : Nat) : (s.releaseGate n).edges = s.edges := rfl
@[simp] theorem State.releaseGate_pix (n : Nat) : (s.releaseGate n).pix = s.pix := rfl
@[simp] theorem State.releaseGate_rep (n : Nat) : (s.releaseGate n).rep = s.rep := rfl
@[simp] theorem State.releaseGate_scn (n : Nat) : (s.releaseGate n).scn = s.scn := rfl
@[simp] theorem State.releaseGate_olc (n : Nat) : (s.releaseGate n).olc = s.olc := rfl
@[simp] theorem State.releaseGate_le (n : Nat) : (s.releaseGate n).le = s.le := rfl
@[simp] theorem State.releaseGate_out (n : Nat) : (s.releaseGate n).out = s.out := rfl
@[simp] theorem State.releaseGate_free (n : Nat) : (s.releaseGate n).free = s.free := rfl
@[simp] theorem State.releaseGate_pwr (n : Nat) : (s.releaseGate n).pwr = s.pwr := rfl
@[simp] theorem State.releaseGate_sec (n : Nat) : (s.releaseGate n).sec = s.sec := rfl
@[simp] theorem State.releaseGate_dpx (n : Nat) : (s.releaseGate n).dpx = s.dpx := rfl
@[simp] theorem State.releaseGate_fio (n : Nat) : (s.releaseGate n).fio = s.fio := rfl
@[simp] theorem State.releaseGate_can (n : Nat) : (s.releaseGate n).can = s.can := rfl
@[simp] theorem State.releaseGate_set (n : Nat) : (s.releaseGate n).set = s.set := rfl
@[simp] theorem State.releaseGate_mtr (n : Nat) : (s.releaseGate n).mtr = s.mtr := rfl
@[simp] theorem State.releaseGate_reports (n : Nat) : (s.releaseGate n).reports = s.reports := rfl
@[simp] theorem State.releaseGate_pmon (n : Nat) : (s.releaseGate n).pmon = s.pmon := rfl
@[simp] theorem State.releaseGate_pmonOpen (n : Nat) : (s.releaseGate n).pmonOpen = s.pmonOpen := rfl
@[simp] theorem State.releaseGate_fwu (n : Nat) : (s.releaseGate n).fwu = s.fwu := rfl
@[simp] theorem State.releaseGate_eth (n : Nat) : (s.releaseGate n).eth = s.eth := rfl
@[simp] theorem State.releaseGate_ptp (n : Nat) : (s.releaseGate n).ptp = s.ptp := rfl
@[simp] theorem State.releaseGate_bkd (n : Nat) : (s.releaseGate n).bkd = s.bkd := rfl
@[simp] theorem State.releaseGate_saf (n : Nat) : (s.releaseGate n).saf = s.saf := rfl
@[simp] theorem State.releaseGate_pending (n : Nat) : (s.releaseGate n).pending = s.pending := rfl

/-! ## report -/

@[simp] theorem State.report_regs (c u i w : Nat) : (s.report c u i w).regs = s.regs := rfl
@[simp] theorem State.report_settings (c u i w : Nat) : (s.report c u i w).settings = s.settings := rfl
@[simp] theorem State.report_clk (c u i w : Nat) : (s.report c u i w).clk = s.clk := rfl
@[simp] theorem State.report_log (c u i w : Nat) : (s.report c u i w).log = s.log := rfl
@[simp] theorem State.report_hpA (c u i w : Nat) : (s.report c u i w).hpA = s.hpA := rfl
@[simp] theorem State.report_hpB (c u i w : Nat) : (s.report c u i w).hpB = s.hpB := rfl
@[simp] theorem State.report_gates (c u i w : Nat) : (s.report c u i w).gates = s.gates := rfl
@[simp] theorem State.report_deny (c u i w : Nat) : (s.report c u i w).deny = s.deny := rfl
@[simp] theorem State.report_edges (c u i w : Nat) : (s.report c u i w).edges = s.edges := rfl
@[simp] theorem State.report_pix (c u i w : Nat) : (s.report c u i w).pix = s.pix := rfl
@[simp] theorem State.report_rep (c u i w : Nat) : (s.report c u i w).rep = s.rep := rfl
@[simp] theorem State.report_scn (c u i w : Nat) : (s.report c u i w).scn = s.scn := rfl
@[simp] theorem State.report_olc (c u i w : Nat) : (s.report c u i w).olc = s.olc := rfl
@[simp] theorem State.report_le (c u i w : Nat) : (s.report c u i w).le = s.le := rfl
@[simp] theorem State.report_out (c u i w : Nat) : (s.report c u i w).out = s.out := rfl
@[simp] theorem State.report_free (c u i w : Nat) : (s.report c u i w).free = s.free := rfl
@[simp] theorem State.report_pwr (c u i w : Nat) : (s.report c u i w).pwr = s.pwr := rfl
@[simp] theorem State.report_sec (c u i w : Nat) : (s.report c u i w).sec = s.sec := rfl
@[simp] theorem State.report_dpx (c u i w : Nat) : (s.report c u i w).dpx = s.dpx := rfl
@[simp] theorem State.report_fio (c u i w : Nat) : (s.report c u i w).fio = s.fio := rfl
@[simp] theorem State.report_can (c u i w : Nat) : (s.report c u i w).can = s.can := rfl
@[simp] theorem State.report_set (c u i w : Nat) : (s.report c u i w).set = s.set := rfl
@[simp] theorem State.report_mtr (c u i w : Nat) : (s.report c u i w).mtr = s.mtr := rfl
@[simp] theorem State.report_pmon (c u i w : Nat) : (s.report c u i w).pmon = s.pmon := rfl
@[simp] theorem State.report_pmonOpen (c u i w : Nat) : (s.report c u i w).pmonOpen = s.pmonOpen := rfl
@[simp] theorem State.report_fwu (c u i w : Nat) : (s.report c u i w).fwu = s.fwu := rfl
@[simp] theorem State.report_eth (c u i w : Nat) : (s.report c u i w).eth = s.eth := rfl
@[simp] theorem State.report_ptp (c u i w : Nat) : (s.report c u i w).ptp = s.ptp := rfl
@[simp] theorem State.report_bkd (c u i w : Nat) : (s.report c u i w).bkd = s.bkd := rfl
@[simp] theorem State.report_saf (c u i w : Nat) : (s.report c u i w).saf = s.saf := rfl
@[simp] theorem State.report_pending (c u i w : Nat) : (s.report c u i w).pending = s.pending := rfl

/-! ## advance -/

@[simp] theorem State.advance_regs (n : Nat) : (s.advance n).regs = s.regs := rfl
@[simp] theorem State.advance_settings (n : Nat) : (s.advance n).settings = s.settings := rfl
@[simp] theorem State.advance_log (n : Nat) : (s.advance n).log = s.log := rfl
@[simp] theorem State.advance_hpA (n : Nat) : (s.advance n).hpA = s.hpA := rfl
@[simp] theorem State.advance_hpB (n : Nat) : (s.advance n).hpB = s.hpB := rfl
@[simp] theorem State.advance_gates (n : Nat) : (s.advance n).gates = s.gates := rfl
@[simp] theorem State.advance_deny (n : Nat) : (s.advance n).deny = s.deny := rfl
@[simp] theorem State.advance_edges (n : Nat) : (s.advance n).edges = s.edges := rfl
@[simp] theorem State.advance_pix (n : Nat) : (s.advance n).pix = s.pix := rfl
@[simp] theorem State.advance_rep (n : Nat) : (s.advance n).rep = s.rep := rfl
@[simp] theorem State.advance_scn (n : Nat) : (s.advance n).scn = s.scn := rfl
@[simp] theorem State.advance_olc (n : Nat) : (s.advance n).olc = s.olc := rfl
@[simp] theorem State.advance_le (n : Nat) : (s.advance n).le = s.le := rfl
@[simp] theorem State.advance_out (n : Nat) : (s.advance n).out = s.out := rfl
@[simp] theorem State.advance_free (n : Nat) : (s.advance n).free = s.free := rfl
@[simp] theorem State.advance_pwr (n : Nat) : (s.advance n).pwr = s.pwr := rfl
@[simp] theorem State.advance_sec (n : Nat) : (s.advance n).sec = s.sec := rfl
@[simp] theorem State.advance_dpx (n : Nat) : (s.advance n).dpx = s.dpx := rfl
@[simp] theorem State.advance_fio (n : Nat) : (s.advance n).fio = s.fio := rfl
@[simp] theorem State.advance_can (n : Nat) : (s.advance n).can = s.can := rfl
@[simp] theorem State.advance_set (n : Nat) : (s.advance n).set = s.set := rfl
@[simp] theorem State.advance_mtr (n : Nat) : (s.advance n).mtr = s.mtr := rfl
@[simp] theorem State.advance_reports (n : Nat) : (s.advance n).reports = s.reports := rfl
@[simp] theorem State.advance_pmon (n : Nat) : (s.advance n).pmon = s.pmon := rfl
@[simp] theorem State.advance_pmonOpen (n : Nat) : (s.advance n).pmonOpen = s.pmonOpen := rfl
@[simp] theorem State.advance_fwu (n : Nat) : (s.advance n).fwu = s.fwu := rfl
@[simp] theorem State.advance_eth (n : Nat) : (s.advance n).eth = s.eth := rfl
@[simp] theorem State.advance_ptp (n : Nat) : (s.advance n).ptp = s.ptp := rfl
@[simp] theorem State.advance_bkd (n : Nat) : (s.advance n).bkd = s.bkd := rfl
@[simp] theorem State.advance_saf (n : Nat) : (s.advance n).saf = s.saf := rfl
@[simp] theorem State.advance_pending (n : Nat) : (s.advance n).pending = s.pending := rfl

/-! ## setPort -/

@[simp] theorem State.setPort_regs (p : Nat) (q : PortS) : (s.setPort p q).regs = s.regs := by unfold State.setPort; split <;> rfl
@[simp] theorem State.setPort_settings (p : Nat) (q : PortS) : (s.setPort p q).settings = s.settings := by unfold State.setPort; split <;> rfl
@[simp] theorem State.setPort_clk (p : Nat) (q : PortS) : (s.setPort p q).clk = s.clk := by unfold State.setPort; split <;> rfl
@[simp] theorem State.setPort_log (p : Nat) (q : PortS) : (s.setPort p q).log = s.log := by unfold State.setPort; split <;> rfl
@[simp] theorem State.setPort_gates (p : Nat) (q : PortS) : (s.setPort p q).gates = s.gates := by unfold State.setPort; split <;> rfl
@[simp] theorem State.setPort_deny (p : Nat) (q : PortS) : (s.setPort p q).deny = s.deny := by unfold State.setPort; split <;> rfl
@[simp] theorem State.setPort_edges (p : Nat) (q : PortS) : (s.setPort p q).edges = s.edges := by unfold State.setPort; split <;> rfl
@[simp] theorem State.setPort_pix (p : Nat) (q : PortS) : (s.setPort p q).pix = s.pix := by unfold State.setPort; split <;> rfl
@[simp] theorem State.setPort_rep (p : Nat) (q : PortS) : (s.setPort p q).rep = s.rep := by unfold State.setPort; split <;> rfl
@[simp] theorem State.setPort_scn (p : Nat) (q : PortS) : (s.setPort p q).scn = s.scn := by unfold State.setPort; split <;> rfl
@[simp] theorem State.setPort_olc (p : Nat) (q : PortS) : (s.setPort p q).olc = s.olc := by unfold State.setPort; split <;> rfl
@[simp] theorem State.setPort_le (p : Nat) (q : PortS) : (s.setPort p q).le = s.le := by unfold State.setPort; split <;> rfl
@[simp] theorem State.setPort_out (p : Nat) (q : PortS) : (s.setPort p q).out = s.out := by unfold State.setPort; split <;> rfl
@[simp] theorem State.setPort_free (p : Nat) (q : PortS) : (s.setPort p q).free = s.free := by unfold State.setPort; split <;> rfl
@[simp] theorem State.setPort_pwr (p : Nat) (q : PortS) : (s.setPort p q).pwr = s.pwr := by unfold State.setPort; split <;> rfl
@[simp] theorem State.setPort_sec (p : Nat) (q : PortS) : (s.setPort p q).sec = s.sec := by unfold State.setPort; split <;> rfl
@[simp] theorem State.setPort_dpx (p : Nat) (q : PortS) : (s.setPort p q).dpx = s.dpx := by unfold State.setPort; split <;> rfl
@[simp] theorem State.setPort_fio (p : Nat) (q : PortS) : (s.setPort p q).fio = s.fio := by unfold State.setPort; split <;> rfl
@[simp] theorem State.setPort_can (p : Nat) (q : PortS) : (s.setPort p q).can = s.can := by unfold State.setPort; split <;> rfl
@[simp] theorem State.setPort_set (p : Nat) (q : PortS) : (s.setPort p q).set = s.set := by unfold State.setPort; split <;> rfl
@[simp] theorem State.setPort_mtr (p : Nat) (q : PortS) : (s.setPort p q).mtr = s.mtr := by unfold State.setPort; split <;> rfl
@[simp] theorem State.setPort_reports (p : Nat) (q : PortS) : (s.setPort p q).reports = s.reports := by unfold State.setPort; split <;> rfl
@[simp] theorem State.setPort_pmon (p : Nat) (q : PortS) : (s.setPort p q).pmon = s.pmon := by unfold State.setPort; split <;> rfl
@[simp] theorem State.setPort_pmonOpen (p : Nat) (q : PortS) : (s.setPort p q).pmonOpen = s.pmonOpen := by unfold State.setPort; split <;> rfl
@[simp] theorem State.setPort_fwu (p : Nat) (q : PortS) : (s.setPort p q).fwu = s.fwu := by unfold State.setPort; split <;> rfl
@[simp] theorem State.setPort_eth (p : Nat) (q : PortS) : (s.setPort p q).eth = s.eth := by unfold State.setPort; split <;> rfl
@[simp] theorem State.setPort_ptp (p : Nat) (q : PortS) : (s.setPort p q).ptp = s.ptp := by unfold State.setPort; split <;> rfl
@[simp] theorem State.setPort_bkd (p : Nat) (q : PortS) : (s.setPort p q).bkd = s.bkd := by unfold State.setPort; split <;> rfl
@[simp] theorem State.setPort_saf (p : Nat) (q : PortS) : (s.setPort p q).saf = s.saf := by unfold State.setPort; split <;> rfl
@[simp] theorem State.setPort_pending (p : Nat) (q : PortS) : (s.setPort p q).pending = s.pending := by unfold State.setPort; split <;> rfl

end Sys2Proof.Machine
end

