-- ==== Sys2Proof/Laws/Table.lean ====
section
/-! SUPPORT. What the sparse tables do: a read after a write, and the canonical form that every write keeps. -/

namespace Sys2Proof.Machine

variable {α : Type}

@[simp] theorem tget_nil (d : α) (k : Nat) : tget ([] : Tbl α) d k = d := rfl

theorem tget_cons (p : Nat × α) (r : Tbl α) (d : α) (k : Nat) :
    tget (p :: r) d k = if p.1 = k then p.2 else tget r d k := rfl

theorem tget_tdel_same (t : Tbl α) (d : α) (k : Nat) : tget (tdel t k) d k = d := by
  induction t with
  | nil => rfl
  | cons p r ih =>
    simp only [tdel, List.filter_cons] at ih ⊢
    by_cases h : p.1 = k
    · simpa [h] using ih
    · simp [h, tget, ih]

theorem tget_tdel_other (t : Tbl α) (d : α) {j k : Nat} (h : j ≠ k) : tget (tdel t k) d j = tget t d j := by
  induction t with
  | nil => rfl
  | cons p r ih =>
    simp only [tdel, List.filter_cons] at ih ⊢
    by_cases hk : p.1 = k
    · have : p.1 ≠ j := fun e => h (e.symm.trans hk)
      simp [hk, tget, ih, Ne.symm h]
    · by_cases hj : p.1 = j <;> simp [hk, tget, ih, hj, h]

theorem tget_tins_other (t : Tbl α) (d v : α) {j k : Nat} (h : j ≠ k) : tget (tins k v t) d j = tget t d j := by
  induction t with
  | nil => simp [tins, tget, Ne.symm h]
  | cons p r ih =>
    simp only [tins]
    split
    · simp [tget, Ne.symm h]
    · simp [tget, ih]

theorem tget_tins_same (t : Tbl α) (d v : α) (k : Nat) (h : ∀ p ∈ t, p.1 ≠ k) : tget (tins k v t) d k = v := by
  induction t with
  | nil => simp [tins, tget]
  | cons p r ih =>
    simp only [tins]
    split
    · simp [tget]
    · have hp : p.1 ≠ k := h p (by simp)
      simp [tget, hp, ih (fun q hq => h q (by simp [hq]))]

theorem tdel_keys (t : Tbl α) (k : Nat) : ∀ p ∈ tdel t k, p.1 ≠ k := by
  intro p hp
  simpa using (List.mem_filter.1 hp).2

/-- A read after a write of the same key gives what was written. -/
@[simp] theorem tget_tset_same [DecidableEq α] (t : Tbl α) (d v : α) (k : Nat) : tget (tset t d k v) d k = v := by
  unfold tset
  split
  · next h => rw [tget_tdel_same, h]
  · exact tget_tins_same _ _ _ _ (tdel_keys t k)

/-- A write leaves every other key alone. -/
theorem tget_tset_other [DecidableEq α] (t : Tbl α) (d e v : α) {j k : Nat} (h : j ≠ k) : tget (tset t d k v) e j = tget t e j := by
  unfold tset
  split
  · exact tget_tdel_other _ _ h
  · rw [tget_tins_other _ _ _ h, tget_tdel_other _ _ h]

theorem tget_tset [DecidableEq α] (t : Tbl α) (d v : α) (j k : Nat) : tget (tset t d k v) d j = if j = k then v else tget t d j := by
  by_cases h : j = k
  · subst h; simp
  · simp [h, tget_tset_other t d d v h]

/-! ## The canonical form -/

/-- The keys of a table rise strictly, said of each entry and the entries after it. -/
theorem tsorted_iff (t : Tbl α) : tsorted t = true ↔ t.Pairwise (fun p q => p.1 < q.1) := by
  induction t with
  | nil => simp [tsorted]
  | cons p r ih =>
    cases r with
    | nil => simp [tsorted]
    | cons q r =>
      rw [List.pairwise_cons, ← ih]
      simp only [tsorted, Bool.and_eq_true, Nat.blt_eq, List.mem_cons, forall_eq_or_imp]
      constructor
      · rintro ⟨h, hs⟩
        refine ⟨⟨h, fun x hx => ?_⟩, hs⟩
        have := (List.pairwise_cons.1 (ih.1 hs)).1 x hx
        omega
      · rintro ⟨⟨h, -⟩, hs⟩
        exact ⟨h, hs⟩

theorem mem_tins {t : Tbl α} {k : Nat} {v : α} {p : Nat × α} (h : p ∈ tins k v t) : p = (k, v) ∨ p ∈ t := by
  induction t with
  | nil => simpa [tins] using h
  | cons q r ih =>
    simp only [tins] at h
    split at h
    · simpa using h
    · rcases List.mem_cons.1 h with rfl | h
      · simp
      · rcases ih h with rfl | h <;> simp [*]

theorem tins_sorted {t : Tbl α} {k : Nat} {v : α} (h : t.Pairwise (fun p q => p.1 < q.1)) (hk : ∀ p ∈ t, p.1 ≠ k) :
    (tins k v t).Pairwise (fun p q => p.1 < q.1) := by
  induction t with
  | nil => simp [tins]
  | cons q r ih =>
    rw [List.pairwise_cons] at h
    simp only [tins]
    split
    · next hlt =>
      refine List.pairwise_cons.2 ⟨fun p hp => ?_, List.pairwise_cons.2 h⟩
      rcases List.mem_cons.1 hp with rfl | hp
      · exact hlt
      · exact Nat.lt_trans hlt (h.1 p hp)
    · next hge =>
      refine List.pairwise_cons.2 ⟨fun p hp => ?_, ih h.2 (fun p hp => hk p (by simp [hp]))⟩
      rcases mem_tins hp with rfl | hp
      · have := hk q (by simp)
        simp only
        omega
      · exact h.1 p hp

/-- A write keeps the canonical form. -/
theorem twf_tset [DecidableEq α] {d : Nat → α} {t : Tbl α} (k : Nat) (v : α) (h : twf d t = true) : twf d (tset t (d k) k v) = true := by
  simp only [twf, Bool.and_eq_true, List.all_eq_true, decide_eq_true_eq] at h ⊢
  have hs := (tsorted_iff t).1 h.1
  have hd : (tdel t k).Pairwise (fun p q => p.1 < q.1) := hs.sublist List.filter_sublist
  have hm : ∀ p ∈ tdel t k, p.2 ≠ d p.1 := fun p hp => h.2 p (List.mem_filter.1 hp).1
  unfold tset
  split
  · exact ⟨(tsorted_iff _).2 hd, hm⟩
  · next hv =>
    refine ⟨(tsorted_iff _).2 (tins_sorted hd (tdel_keys t k)), fun p hp => ?_⟩
    rcases mem_tins hp with rfl | hp
    · exact hv
    · exact hm p hp

/-- Two tables in canonical form that read alike are equal. -/
theorem twf_ext [DecidableEq α] {d : Nat → α} {t u : Tbl α} (ht : twf d t = true) (hu : twf d u = true)
    (h : ∀ k, tget t (d k) k = tget u (d k) k) : t = u := by
  have key : ∀ {t u : Tbl α}, t.Pairwise (fun p q => p.1 < q.1) → (∀ p ∈ t, p.2 ≠ d p.1) →
      u.Pairwise (fun p q => p.1 < q.1) → (∀ p ∈ u, p.2 ≠ d p.1) →
      (∀ k, tget t (d k) k = tget u (d k) k) → t = u := by
    intro t
    have low : ∀ (r : Tbl α) (k : Nat), (∀ p ∈ r, k < p.1) → tget r (d k) k = d k := by
      intro r k hr
      induction r with
      | nil => rfl
      | cons p r ih =>
        have : p.1 ≠ k := by have := hr p (by simp); omega
        simp [tget, this, ih (fun q hq => hr q (by simp [hq]))]
    induction t with
    | nil =>
      intro u _ _ hus hum hk
      cases u with
      | nil => rfl
      | cons q r =>
        have := hk q.1
        rw [tget_nil, tget_cons, if_pos rfl] at this
        exact absurd this.symm (hum q (by simp))
    | cons p t ih =>
      intro u hts htm hus hum hk
      cases u with
      | nil =>
        have := hk p.1
        rw [tget_nil, tget_cons, if_pos rfl] at this
        exact absurd this (htm p (by simp))
      | cons q r =>
        rw [List.pairwise_cons] at hts hus
        have hpq : p.1 = q.1 := by
          rcases Nat.lt_trichotomy p.1 q.1 with hlt | he | hlt
          · have := hk p.1
            rw [tget_cons, if_pos rfl, low (q :: r) p.1 (by
              intro x hx
              rcases List.mem_cons.1 hx with rfl | hx
              · exact hlt
              · exact Nat.lt_trans hlt (hus.1 x hx))] at this
            exact absurd this (htm p (by simp))
          · exact he
          · have := hk q.1
            rw [low (p :: t) q.1 (by
              intro x hx
              rcases List.mem_cons.1 hx with rfl | hx
              · exact hlt
              · exact Nat.lt_trans hlt (hts.1 x hx)), tget_cons, if_pos rfl] at this
            exact absurd this.symm (hum q (by simp))
        have hv : p.2 = q.2 := by
          have := hk p.1
          simpa [tget_cons, hpq] using this
        have hp : p = q := Prod.ext hpq hv
        subst hp
        congr 1
        refine ih hts.2 (fun x hx => htm x (by simp [hx])) hus.2 (fun x hx => hum x (by simp [hx])) (fun k => ?_)
        by_cases hkp : p.1 = k
        · subst hkp
          rw [low t p.1 hts.1, low r p.1 hus.1]
        · have := hk k
          simpa [tget_cons, hkp] using this
  simp only [twf, Bool.and_eq_true, List.all_eq_true, decide_eq_true_eq] at ht hu
  exact key ((tsorted_iff t).1 ht.1) ht.2 ((tsorted_iff u).1 hu.1) hu.2 h

end Sys2Proof.Machine
end

