-- ==== Sys2Proof/Laws/Regs.lean ====
section
/-! SUPPORT. Reads of registers and fields after writes. -/

namespace Sys2Proof.Machine

variable (s : State)

theorem State.rd_congr {s t : State} (h : t.regs = s.regs) (a : Nat) : t.rd a = s.rd a := by
  rw [State.rd, State.rd, h]

theorem State.g_congr {s t : State} (f : Fld) (h : t.rd f.off = s.rd f.off) : t.g f = s.g f := by
  rw [State.g, State.g, State.rn, State.rn, h]

@[simp] theorem State.rd_wr_same (a : Nat) (v : Word) : (s.wr a v).rd a = v := tget_tset_same _ _ _ _

theorem State.rd_wr_other {a b : Nat} (v : Word) (h : b ≠ a) : (s.wr a v).rd b = s.rd b :=
  tget_tset_other _ _ _ _ h

theorem State.rd_wr (a b : Nat) (v : Word) : (s.wr a v).rd b = if b = a then v else s.rd b := by
  by_cases h : b = a
  · subst h; simp
  · simp [h, s.rd_wr_other v h]

@[simp] theorem State.rn_wn_same (a v : Nat) : (s.wn a v).rn a = v % 2 ^ 32 := by
  simp [State.rn, State.wn]

theorem State.rd_wn_other {a b : Nat} (v : Nat) (h : b ≠ a) : (s.wn a v).rd b = s.rd b := s.rd_wr_other _ h

theorem State.rd_p_other {f : Fld} {b : Nat} (v : Nat) (h : b ≠ f.off) : (s.p f v).rd b = s.rd b := s.rd_wr_other _ h

theorem State.rn_p (f : Fld) (v : Nat) (h : f.lo + f.w ≤ 32) :
    (s.p f v).rn f.off = setBits (s.rn f.off) f.lo f.w v := by
  rw [State.p, State.rn_wn_same]; exact Nat.mod_eq_of_lt (setBits_lt (s.rd f.off).isLt h)

/-- A field reads as what was written into it. -/
theorem State.g_p_same (f : Fld) (v : Nat) (h : f.lo + f.w ≤ 32) : (s.p f v).g f = v % 2 ^ f.w := by
  rw [State.g, State.rn_p _ _ _ h, bits_setBits_same]

/-- A field of another register stays. -/
theorem State.g_p_off {f k : Fld} (v : Nat) (h : k.off ≠ f.off) : (s.p f v).g k = s.g k :=
  State.g_congr k (s.rd_p_other v h)

/-- Another field of the same register stays. -/
theorem State.g_p_apart {f k : Fld} (v : Nat) (h : f.lo + f.w ≤ 32) (ho : k.off = f.off)
    (hd : f.lo + f.w ≤ k.lo ∨ k.lo + k.w ≤ f.lo) : (s.p f v).g k = s.g k := by
  rw [State.g, ho, State.rn_p _ _ _ h, State.g, ho]
  rcases hd with hd | hd
  · exact bits_setBits_high hd
  · exact bits_setBits_low hd

theorem State.rd_inc_other {a b : Nat} (n : Nat) (h : b ≠ a) : (s.inc a n).rd b = s.rd b := s.rd_wr_other _ h

@[simp] theorem State.rd_inc_same (a n : Nat) : (s.inc a n).rd a = s.rd a + BitVec.ofNat 32 n := s.rd_wr_same _ _

theorem State.rd_setBit_other {a b : Nat} (i : Nat) (v : Bool) (h : b ≠ a) : (s.setBit a i v).rd b = s.rd b :=
  s.rd_wr_other _ h

theorem State.rn_setBit (a i : Nat) (v : Bool) (h : i < 32) :
    (s.setBit a i v).rn a = setBits (s.rn a) i 1 (b2n v) := by
  rw [State.setBit, State.rn_wn_same]; exact Nat.mod_eq_of_lt (setBits_lt (s.rd a).isLt (by omega))

theorem natBit_setBits (n i : Nat) (v : Bool) : natBit (setBits n i 1 (b2n v)) i = v := by
  have h := bits_setBits_same n i 1 (b2n v)
  cases v <;> simp_all [natBit, bits, b2n]

/-- A bit reads as what was written into it. -/
theorem State.bit_setBit (a i : Nat) (v : Bool) (h : i < 32) : (s.setBit a i v).bit a i = v := by
  rw [State.bit, State.rn_setBit _ _ _ _ h, natBit_setBits]

@[simp] theorem State.setPort_same (p : Nat) (q : PortS) : (s.setPort p q).port p = q := by
  unfold State.setPort State.port; split <;> rfl

theorem State.setPort_other {p r : Nat} (q : PortS) (h : (r = 0) ≠ (p = 0)) : (s.setPort p q).port r = s.port r := by
  unfold State.setPort State.port
  by_cases hp : p = 0 <;> by_cases hr : r = 0 <;> simp_all

@[simp] theorem State.gate_setGate_same (n : Nat) (g : Gate) : (s.setGate n g).gate n = g := tget_tset_same _ _ _ _

theorem State.gate_setGate_other {n m : Nat} (g : Gate) (h : m ≠ n) : (s.setGate n g).gate m = s.gate m :=
  tget_tset_other _ _ _ _ h

end Sys2Proof.Machine
end

