-- ==== Sys2Proof/Laws/Frame.lean ====
section
/-! SUPPORT. The frames of the shared operations: what each leaves as it was, and how frames compose. -/

namespace Sys2Proof.Machine

variable {s t u : State}

theorem State.Frame.refl (s : State) : s.Frame s [] [] := by
  constructor <;> simp

/-- A frame may leave more open. -/
theorem State.Frame.mono {ps qs : List Part} {rs us : List Nat} (h : s.Frame t ps rs) (hp : ps ⊆ qs) (hr : rs ⊆ us) :
    s.Frame t qs us where
  regs a ha hb := h.regs a (fun m => ha (hr m)) (fun m => hb (hp m))
  settings := h.settings.imp (@hp _) id
  clk := h.clk.imp (@hp _) id
  log := h.log.imp (@hp _) id
  hpA := h.hpA.imp (@hp _) id
  hpB := h.hpB.imp (@hp _) id
  gates := h.gates.imp (@hp _) id
  deny := h.deny.imp (@hp _) id
  edges := h.edges.imp (@hp _) id
  pix := h.pix.imp (@hp _) id
  rep := h.rep.imp (@hp _) id
  olc := h.olc.imp (@hp _) id
  le := h.le.imp (@hp _) id
  out := h.out.imp (@hp _) id
  free := h.free.imp (@hp _) id
  pwr := h.pwr.imp (@hp _) id
  sec := h.sec.imp (@hp _) id
  dpx := h.dpx.imp (@hp _) id
  fio := h.fio.imp (@hp _) id
  can := h.can.imp (@hp _) id
  set := h.set.imp (@hp _) id
  mtr := h.mtr.imp (@hp _) id
  reports := h.reports.imp (@hp _) id
  fwu := h.fwu.imp (@hp _) id
  eth := h.eth.imp (@hp _) id
  ptp := h.ptp.imp (@hp _) id
  bkd := h.bkd.imp (@hp _) id
  saf := h.saf.imp (@hp _) id
  scn := h.scn.imp (@hp _) (Or.imp (And.imp (@hp _) id) id)
  pmon := h.pmon.imp (@hp _) id
  pending := h.pending

theorem agree_trans {α : Type} {x y z : α} {p q r : Prop} (h : p ∨ y = x) (k : q ∨ z = y) (hp : p → r) (hq : q → r) :
    r ∨ z = x := by
  rcases h with h | h
  · exact .inl (hp h)
  · rcases k with k | k
    · exact .inl (hq k)
    · exact .inr (k.trans h)

/-- Frames compose. -/
theorem State.Frame.trans {ps qs : List Part} {rs us : List Nat} (h : s.Frame t ps rs) (k : t.Frame u qs us) :
    s.Frame u (ps ++ qs) (rs ++ us) where
  regs a ha hb := by
    rw [k.regs a (fun m => ha (List.mem_append_right _ m)) (fun m => hb (List.mem_append_right _ m)),
      h.regs a (fun m => ha (List.mem_append_left _ m)) (fun m => hb (List.mem_append_left _ m))]
  settings := agree_trans h.settings k.settings (List.mem_append_left _) (List.mem_append_right _)
  clk := agree_trans h.clk k.clk (List.mem_append_left _) (List.mem_append_right _)
  log := agree_trans h.log k.log (List.mem_append_left _) (List.mem_append_right _)
  hpA := agree_trans h.hpA k.hpA (List.mem_append_left _) (List.mem_append_right _)
  hpB := agree_trans h.hpB k.hpB (List.mem_append_left _) (List.mem_append_right _)
  gates := agree_trans h.gates k.gates (List.mem_append_left _) (List.mem_append_right _)
  deny := agree_trans h.deny k.deny (List.mem_append_left _) (List.mem_append_right _)
  edges := agree_trans h.edges k.edges (List.mem_append_left _) (List.mem_append_right _)
  pix := agree_trans h.pix k.pix (List.mem_append_left _) (List.mem_append_right _)
  rep := agree_trans h.rep k.rep (List.mem_append_left _) (List.mem_append_right _)
  olc := agree_trans h.olc k.olc (List.mem_append_left _) (List.mem_append_right _)
  le := agree_trans h.le k.le (List.mem_append_left _) (List.mem_append_right _)
  out := agree_trans h.out k.out (List.mem_append_left _) (List.mem_append_right _)
  free := agree_trans h.free k.free (List.mem_append_left _) (List.mem_append_right _)
  pwr := agree_trans h.pwr k.pwr (List.mem_append_left _) (List.mem_append_right _)
  sec := agree_trans h.sec k.sec (List.mem_append_left _) (List.mem_append_right _)
  dpx := agree_trans h.dpx k.dpx (List.mem_append_left _) (List.mem_append_right _)
  fio := agree_trans h.fio k.fio (List.mem_append_left _) (List.mem_append_right _)
  can := agree_trans h.can k.can (List.mem_append_left _) (List.mem_append_right _)
  set := agree_trans h.set k.set (List.mem_append_left _) (List.mem_append_right _)
  mtr := agree_trans h.mtr k.mtr (List.mem_append_left _) (List.mem_append_right _)
  reports := agree_trans h.reports k.reports (List.mem_append_left _) (List.mem_append_right _)
  fwu := agree_trans h.fwu k.fwu (List.mem_append_left _) (List.mem_append_right _)
  eth := agree_trans h.eth k.eth (List.mem_append_left _) (List.mem_append_right _)
  ptp := agree_trans h.ptp k.ptp (List.mem_append_left _) (List.mem_append_right _)
  bkd := agree_trans h.bkd k.bkd (List.mem_append_left _) (List.mem_append_right _)
  saf := agree_trans h.saf k.saf (List.mem_append_left _) (List.mem_append_right _)
  scn := by
    rcases h.scn with h | ⟨hm, h⟩ | h
    · exact .inl (List.mem_append_left _ h)
    · rcases k.scn with k | ⟨-, k⟩ | k
      · exact .inl (List.mem_append_right _ k)
      · exact .inr (.inl ⟨List.mem_append_left _ hm, by rw [k, h]⟩)
      · exact .inr (.inl ⟨List.mem_append_left _ hm, by rw [k, h]⟩)
    · rcases k.scn with k | ⟨km, k⟩ | k
      · exact .inl (List.mem_append_right _ k)
      · exact .inr (.inl ⟨List.mem_append_right _ km, by rw [k, h]⟩)
      · exact .inr (.inr (k.trans h))
  pmon := by
    rcases h.pmon with h | h
    · exact .inl (List.mem_append_left _ h)
    · rcases k.pmon with k | k
      · exact .inl (List.mem_append_right _ k)
      · exact .inr ⟨k.1.trans h.1, k.2.trans h.2⟩
  pending := k.pending.trans h.pending

/-- Two frames with the same open parts and registers compose to one with the same. -/
theorem State.Frame.comp {ps : List Part} {rs : List Nat} (h : s.Frame t ps rs) (k : t.Frame u ps rs) :
    s.Frame u ps rs := (h.trans k).mono (by simp) (by simp)

/-- A fold of steps that each keep a frame keeps it. -/
theorem State.Frame.foldl {α : Type} {ps : List Part} {rs : List Nat} {f : State → α → State}
    (h : ∀ (s : State) (x : α), s.Frame (f s x) ps rs) (l : List α) (s : State) : s.Frame (l.foldl f s) ps rs := by
  induction l generalizing s with
  | nil => exact (State.Frame.refl s).mono (by simp) (by simp)
  | cons x l ih => exact (h s x).comp (ih (f s x))

/-! ## Registers, free values, lists -/

theorem frame_wr (s : State) (a : Nat) (v : Word) : s.Frame (s.wr a v) [] [a] := by
  constructor <;> simp (config := { contextual := true }) [State.rd_wr_other]

theorem frame_wn (s : State) (a v : Nat) : s.Frame (s.wn a v) [] [a] := frame_wr _ _ _

theorem frame_p (s : State) (f : Fld) (v : Nat) : s.Frame (s.p f v) [] [f.off] := frame_wr _ _ _

theorem frame_setBit (s : State) (a b : Nat) (v : Bool) : s.Frame (s.setBit a b v) [] [a] := frame_wr _ _ _

theorem frame_inc (s : State) (a n : Nat) : s.Frame (s.inc a n) [] [a] := frame_wr _ _ _

theorem frame_incHold (s : State) (f : Fld) (n : Nat) : s.Frame (s.incHold f n) [] [f.off] := frame_wr _ _ _

theorem frame_wn64 (s : State) (a v : Nat) : s.Frame (s.wn64 a v) [] [a, a + 4] :=
  (frame_wn s a v).trans (frame_wn _ _ _)

theorem frame_freshen (s : State) : s.Frame s.freshen [.free] [] := by
  constructor <;> simp [State.rd]

theorem frame_setGate (s : State) (n : Nat) (g : Gate) : s.Frame (s.setGate n g) [.gates] [] := by
  constructor <;> simp [State.rd]

theorem frame_releaseGate (s : State) (n : Nat) : s.Frame (s.releaseGate n) [.gates] [] := frame_setGate _ _ _

theorem frame_report (s : State) (c u i w : Nat) : s.Frame (s.report c u i w) [.reports] [] := by
  constructor <;> simp [State.rd]

theorem frame_advance (s : State) (n : Nat) : s.Frame (s.advance n) [.clk] [] := by
  constructor <;> simp [State.rd]

theorem frame_advanceToUp (s : State) (n : Nat) : s.Frame (s.advanceToUp n) [.clk] [] := by
  unfold State.advanceToUp; split
  · exact frame_advance _ _
  · exact (State.Frame.refl s).mono (by simp) (by simp)

theorem frame_advanceToPtp (s : State) (n : Nat) : s.Frame (s.advanceToPtp n) [.clk] [] := by
  unfold State.advanceToPtp; split
  · exact frame_advance _ _
  · exact (State.Frame.refl s).mono (by simp) (by simp)

theorem frame_advanceToTick (s : State) (n : Nat) : s.Frame (s.advanceToTick n) [.clk] [] := by
  unfold State.advanceToTick; simp only; split
  · exact frame_advance _ _
  · exact (State.Frame.refl s).mono (by simp) (by simp)

theorem frame_out (s : State) (l : List Out) : s.Frame { s with out := l } [.out] [] := by
  constructor <;> simp [State.rd]

theorem frame_setPort (s : State) (p : Nat) (q : PortS) : s.Frame (s.setPort p q) [Part.port p] [] := by
  unfold State.setPort Part.port
  split <;> (constructor <;> simp [State.rd])

theorem frame_pwp (s : State) (p a v : Nat) : s.Frame (s.pwp p a v) [Part.port p] [] := frame_setPort _ _ _

/-! ## Events, counts, records -/

theorem frame_trigger (s : State) (k r : Nat) : s.Frame (s.trigger k r) [.trigs] [] := by
  unfold State.trigger
  split
  · exact (State.Frame.refl s).mono (by simp) (by simp)
  · simp only; split
    · exact (State.Frame.refl s).mono (by simp) (by simp)
    · constructor <;> simp [State.rd]

theorem frame_edge (s : State) (src : Nat) : s.Frame (s.edge src) [.edges, .trigs] [] :=
  (show s.Frame { s with edges := s.edges ++ [src] } [.edges] [] by constructor <;> simp [State.rd]).trans
    (frame_trigger _ _ _)

theorem frame_edgeFrom (s : State) (src : Nat) (b : Bool) : s.Frame (s.edgeFrom src b) [.edges, .trigs] [] := by
  unfold State.edgeFrom; split
  · exact frame_edge _ _
  · exact (State.Frame.refl s).mono (by simp) (by simp)

/-- An event changes its status register, and its line may rise (R92). -/
theorem frame_raise (s : State) (e : EvPort) (b : Nat) : s.Frame (s.raise e b) [.edges, .trigs] [e.ev] :=
  ((frame_setBit s e.ev b true).trans (frame_edgeFrom _ _ _)).mono (by simp) (by simp)

theorem frame_pulse (s : State) (src : Nat) : s.Frame (s.pulse src) [.edges, .trigs] [] := frame_edge _ _

theorem frame_pmonAdd (s : State) (c n : Nat) : s.Frame (s.pmonAdd c n) [.pmon, .edges, .trigs] [R.PMON_HALF] := by
  have h : ∀ x, s.Frame { s with pmon := x } [.pmon] [] := fun x => by constructor <;> simp [State.rd]
  unfold State.pmonAdd; simp only; split
  · exact ((h _).trans (frame_raise _ evPMON _)).mono (by simp) (by simp [evPMON])
  · exact (h _).mono (by simp) (by simp)

/-- An occurrence that the performance monitor counts changes its counters and PMON_HALF (R454). -/
theorem frame_count (s : State) (src n : Nat) : s.Frame (s.count src n) [.pmon, .edges, .trigs] [R.PMON_HALF] := by
  unfold State.count
  refine State.Frame.foldl (f := fun t c => if t.pmonTakes c src then t.pmonAdd c n else t) (fun t c => ?_) _ _
  split
  · exact frame_pmonAdd _ _ _
  · exact (State.Frame.refl t).mono (by simp) (by simp)

theorem frame_tow (s : State) (m : TowMsg) : s.Frame (s.tow m) [.out, .pmon, .edges, .trigs] [R.PMON_HALF] := by
  unfold State.tow; split
  · exact ((frame_out s _).trans (frame_count _ _ _)).mono (by simp) (by simp)
  · exact (State.Frame.refl s).mono (by simp) (by simp)

theorem frame_log (s : State) (l : LogS) : s.Frame { s with log := l } [.log] [] := by
  constructor <;> simp [State.rd]

theorem frame_logAck (s : State) (r : StagedRec) :
    s.Frame (s.logAck r) [.log, .pmon, .edges, .trigs] [R.LOG_EVENT, R.PMON_HALF] := by
  unfold State.logAck
  simp only
  have h1 : ∀ l : LogS, s.Frame (({ s with log := l } : State).count 577) [.log, .pmon, .edges, .trigs]
      [R.LOG_EVENT, R.PMON_HALF] := fun l =>
    ((frame_log s l).trans (frame_count _ _ _)).mono (by simp) (by simp)
  have h2 : ∀ (t : State) (b : Nat), t.Frame (t.raise evLOG b) [.log, .pmon, .edges, .trigs]
      [R.LOG_EVENT, R.PMON_HALF] := fun t b => (frame_raise t evLOG b).mono (by simp) (by simp [evLOG])
  split
  · split
    · exact ((h1 _).comp (h2 _ _)).comp (h2 _ _)
    · exact (h1 _).comp (h2 _ _)
  · split
    · exact (h1 _).comp (h2 _ _)
    · exact h1 _

theorem frame_logFlush (s : State) :
    s.Frame s.logFlush [.log, .pmon, .edges, .trigs] [R.LOG_EVENT, R.PMON_HALF] :=
  ((frame_log s _).trans (State.Frame.foldl (f := fun t r => t.logAck r) frame_logAck _ _)).mono (by simp) (by simp)

/-- A posted record changes the logbook, LOG_EVENT and what the performance monitor counts (R398, R405). -/
theorem frame_post (s : State) (c u i p0 p1 p2 p3 : Nat) :
    s.Frame (s.post c u i p0 p1 p2 p3) [.log, .pmon, .edges, .trigs] [R.LOG_EVENT, R.PMON_HALF] := by
  have hl : ∀ (t : State) (l : LogS), t.Frame { t with log := l } [.log, .pmon, .edges, .trigs]
      [R.LOG_EVENT, R.PMON_HALF] := fun t l => (frame_log t l).mono (by simp) (by simp)
  have hr : ∀ (t : State) (b : Nat), t.Frame (t.raise evLOG b) [.log, .pmon, .edges, .trigs]
      [R.LOG_EVENT, R.PMON_HALF] := fun t b => (frame_raise t evLOG b).mono (by simp) (by simp [evLOG])
  have hc : ∀ (t : State) (c n : Nat), t.Frame (t.count c n) [.log, .pmon, .edges, .trigs]
      [R.LOG_EVENT, R.PMON_HALF] := fun t c n => (frame_count t c n).mono (by simp) (by simp)
  unfold State.post
  simp only
  generalize (LogRec.mk c u _ _ _ _ _ _ _ _ _ _) = e
  have h1 := (hl s _).comp (hc { s with log := { s.log with
    mainNext := (s.log.mainNext + 1) % 2 ^ 64
    auditNext := if auditCode c then (s.log.auditNext + 1) % 2 ^ 64 else s.log.auditNext
    posts := s.log.posts + 1 } } 576 1)
  generalize State.count _ 576 = s1 at h1 ⊢
  have h2 : s.Frame (if s.g F.LOG_CTL_FLOOD_RATE ≠ 0 ∧ s.g F.LOG_CTL_FLOOD_RATE < s1.log.posts ∧ !s.log.flooded then
      ({ s1 with log := { s1.log with flooded := true } } : State).raise evLOG 0 else s1)
      [.log, .pmon, .edges, .trigs] [R.LOG_EVENT, R.PMON_HALF] := by
    split
    · exact (h1.comp (hl _ _)).comp (hr _ _)
    · exact h1
  generalize (if s.g F.LOG_CTL_FLOOD_RATE ≠ 0 ∧ s.g F.LOG_CTL_FLOOD_RATE < s1.log.posts ∧ !s.log.flooded then
      ({ s1 with log := { s1.log with flooded := true } } : State).raise evLOG 0 else s1) = s2 at h2 ⊢
  split
  · exact (h2.comp (frame_logFlush _)).comp (frame_logAck _ _)
  · split
    · split
      · exact (h2.comp (hl _ _)).comp (frame_logAck _ _)
      · exact h2.comp (hl _ _)
    · exact h2.comp (hl _ _)

/-! ## Dropped and reserved writes -/

theorem frame_msix (s : State) (p v : Nat) :
    s.Frame (s.msix p v) [Part.port p, .out, .pmon, .edges, .trigs] [R.PMON_HALF] := by
  unfold State.msix; simp only
  split
  · exact (State.Frame.refl s).mono (by simp) (by simp)
  · split
    · exact (frame_setPort s p _).mono (by simp) (by simp)
    · exact ((frame_out s _).trans (frame_count _ _ _)).mono (by simp) (by simp)

/-- A register command of a block that responds, by the holder of the block's gate or where the block has none, has its own
effect (R62, R96). -/
theorem regWrite_held {s : State} {p a : Nat} {f : State → State} (h : s.responds a = true)
    (hg : ∀ n, (blockAt a).bind (fun b => b.gate) = some n → s.holds p n = true) : s.regWrite p a f = f s := by
  unfold State.regWrite State.gatedWrite
  rw [if_pos h]
  split
  · rfl
  · next n hn => rw [if_pos (hg n hn)]

/-! ## Operations in flight -/

/-- An operation that may start is executed (R81, R83). -/
theorem withOp_start {s : State} {r : OpRef} {code : Nat} {sel : SubEntry → Bool} {f : Op → State → State} {o : Op}
    (hp : s.phase ≠ 7) (h : findStart r [] (s.port r.port).ops = some o) (hc : o.entry.opcode = code)
    (hs : sel o.entry = true) : s.withOp r code sel f = f o (s.startOp r) := by
  simp [State.withOp, hp, h, hc, hs]

theorem frame_startOp (s : State) (r : OpRef) : s.Frame (s.startOp r) [Part.port r.port] [] := frame_setPort _ _ _

theorem frame_finish (s : State) (r : OpRef) (c : Comp) : s.Frame (s.finish r c) [Part.port r.port] [] :=
  frame_setPort _ _ _

theorem frame_finishWith (s : State) (r : OpRef) (st v q f : Nat) :
    s.Frame (s.finishWith r st v q f) [Part.port r.port, .free] [] := by
  unfold State.finishWith
  split
  · split
    · exact (frame_finish _ _ _).mono (by simp) (by simp)
    · exact ((frame_finish s r _).trans (frame_freshen _)).mono (by simp) (by simp)
  · exact (State.Frame.refl s).mono (by simp) (by simp)

end Sys2Proof.Machine
end

