-- ==== Sys2Proof/Laws/PerInstr.lean ====
section
/-! SUPPORT. For every command: where it is a block-code row, its word has 32 bits. -/

namespace Sys2Proof.Laws.BlockWord

open Sys2Proof Sys2Proof.Machine

/-- The word of a block-code row has 32 bits (R169). -/
def Statement (i : Instr) : Prop := ∀ k w, encodeBc i = some (k, w) → w < 2 ^ 32

/-- A word whose fields fit has 32 bits. -/
theorem bcWord_lt {op d rest : Nat} (h : op < 128) (hd : d < 64) (hr : rest < 2 ^ 19) : bcWord op d rest < 2 ^ 32 := by
  unfold bcWord; omega

/-- The fields of form T fit. -/
theorem bcABSub_lt {a b sub : Nat} (h : a < 64) (hb : b < 64) (hs : sub < 128) : bcABSub a b sub < 2 ^ 19 := by
  unfold bcABSub; omega

theorem of_word {i : Instr} {k : Fin 4} {w : Nat} (h : encodeBc i = some (k, w)) (hw : w < 2 ^ 32) : Statement i := by
  intro k' w' h'
  rw [h] at h'
  injection h' with h'
  injection h' with _ h'
  omega

theorem of_none {i : Instr} (h : encodeBc i = none) : Statement i := by
  intro k w h'
  rw [h] at h'
  cases h'

theorem powerFailDetect (vin bank : Fin 65536) : Statement (.powerFailDetect vin bank) := of_none rfl

theorem powerFailCommit : Statement (.powerFailCommit) := of_none rfl

theorem bankAt21v : Statement (.bankAt21v) := of_none rfl

theorem railsOff : Statement (.railsOff) := of_none rfl

theorem vinQualify : Statement (.vinQualify) := of_none rfl

theorem bankMeasure (energy : Fin 65536) : Statement (.bankMeasure energy) := of_none rfl

theorem xtalFail : Statement (.xtalFail) := of_none rfl

theorem softwareReset (p : Fin 2) (v : Word) : Statement (.softwareReset p v) := of_none rfl

theorem moduleReset : Statement (.moduleReset) := of_none rfl

theorem resetDomains (x : StrapPins) : Statement (.resetDomains x) := of_none rfl

theorem smWatchdogExpire : Statement (.smWatchdogExpire) := of_none rfl

theorem portReset (p : Fin 2) (kind : PortResetKind) : Statement (.portReset p kind) := of_none rfl

theorem functionLevelReset (p : Fin 2) : Statement (.functionLevelReset p) := of_none rfl

theorem porHoldEnd (x : StrapPins) : Statement (.porHoldEnd x) := of_none rfl

theorem bootVerifyDone (f : BootFind) : Statement (.bootVerifyDone f) := of_none rfl

theorem keelStartDone (epochOk : Bool) : Statement (.keelStartDone epochOk) := of_none rfl

theorem bankCharged : Statement (.bankCharged) := of_none rfl

theorem domainStart (f : MramFind) : Statement (.domainStart f) := of_none rfl

theorem domainStartDone : Statement (.domainStartDone) := of_none rfl

theorem resyncPhaseEnd : Statement (.resyncPhaseEnd) := of_none rfl

theorem ringEnable (p : Fin 2) (cq : Bool) (n : Fin 64) (v : Word) : Statement (.ringEnable p cq n v) := of_none rfl

theorem sqDisable (p : Fin 2) (n : Fin 64) (v : Word) : Statement (.sqDisable p n v) := of_none rfl

theorem cqDisable (p : Fin 2) (n : Fin 64) (v : Word) : Statement (.cqDisable p n v) := of_none rfl

theorem sqTailDoorbell (p : Fin 2) (n : Fin 64) (v : Word) : Statement (.sqTailDoorbell p n v) := of_none rfl

theorem cqHeadDoorbell (p : Fin 2) (n : Fin 64) (v : Word) : Statement (.cqHeadDoorbell p n v) := of_none rfl

theorem entryFetch (p : Fin 2) (entry : Option (List Byte)) : Statement (.entryFetch p entry) := of_none rfl

theorem completionWrite (p : Fin 2) (n : Fin 64) (ok : Bool) : Statement (.completionWrite p n ok) := of_none rfl

theorem coalescingTimer (p : Fin 2) (n : Fin 64) : Statement (.coalescingTimer p n) := of_none rfl

theorem irqSourceEdge (src : Fin 64) : Statement (.irqSourceEdge src) := of_none rfl

theorem subscriptionNotify (p : Fin 2) (n : Fin 64) (ok : Bool) : Statement (.subscriptionNotify p n ok) := of_none rfl

theorem nop (r : OpRef) : Statement (.nop r) := of_none rfl

theorem ptRead (r : OpRef) (b : HostBuf) : Statement (.ptRead r b) := of_none rfl

theorem ptWrite (r : OpRef) : Statement (.ptWrite r) := of_none rfl

theorem ptSubscribe (r : OpRef) : Statement (.ptSubscribe r) := of_none rfl

theorem ptSubscribeCancel (r : OpRef) : Statement (.ptSubscribeCancel r) := of_none rfl

theorem ptForce (r : OpRef) : Statement (.ptForce r) := of_none rfl

theorem ptUnforce (r : OpRef) : Statement (.ptUnforce r) := of_none rfl

theorem imgLoad (r : OpRef) (b : HostBuf) (bankOk : Bool) (partner : Option (Nat × Nat × Nat)) : Statement (.imgLoad r b bankOk partner) := of_none rfl

theorem imgChangeValues (r : OpRef) (b : HostBuf) (partner : Option (Nat × Nat × Nat)) : Statement (.imgChangeValues r b partner) := of_none rfl

theorem imgChangeSwitch (r : OpRef) (b : HostBuf) (bankOk : Bool) (partner : Option (Nat × Nat × Nat)) : Statement (.imgChangeSwitch r b bankOk partner) := of_none rfl

theorem taskRun (r : OpRef) : Statement (.taskRun r) := of_none rfl

theorem taskStop (r : OpRef) : Statement (.taskStop r) := of_none rfl

theorem taskHold (r : OpRef) : Statement (.taskHold r) := of_none rfl

theorem warmRestart (r : OpRef) : Statement (.warmRestart r) := of_none rfl

theorem coldRestart (r : OpRef) : Statement (.coldRestart r) := of_none rfl

theorem stepTask (r : OpRef) : Statement (.stepTask r) := of_none rfl

theorem continueTasks (r : OpRef) : Statement (.continueTasks r) := of_none rfl

theorem setBreak (r : OpRef) : Statement (.setBreak r) := of_none rfl

theorem clearBreak (r : OpRef) : Statement (.clearBreak r) := of_none rfl

theorem suspendTask (r : OpRef) : Statement (.suspendTask r) := of_none rfl

theorem resumeTask (r : OpRef) : Statement (.resumeTask r) := of_none rfl

theorem ringTrigger (r : OpRef) : Statement (.ringTrigger r) := of_none rfl

theorem armTime (r : OpRef) : Statement (.armTime r) := of_none rfl

theorem logRead (r : OpRef) (b : HostBuf) (damaged : List (Nat × List Byte)) : Statement (.logRead r b damaged) := of_none rfl

theorem logClear (r : OpRef) (b : HostBuf) : Statement (.logClear r b) := of_none rfl

theorem logClearSwitch : Statement (.logClearSwitch) := of_none rfl

theorem mtrSnap (r : OpRef) (b : HostBuf) : Statement (.mtrSnap r b) := of_none rfl

theorem traceFetch (r : OpRef) (b : HostBuf) : Statement (.traceFetch r b) := of_none rfl

theorem derive (r : OpRef) : Statement (.derive r) := of_none rfl

theorem unwrap (r : OpRef) (b : HostBuf) : Statement (.unwrap r b) := of_none rfl

theorem loadSlot (r : OpRef) : Statement (.loadSlot r) := of_none rfl

theorem generate (r : OpRef) (b : HostBuf) : Statement (.generate r b) := of_none rfl

theorem store (r : OpRef) (b : HostBuf) : Statement (.store r b) := of_none rfl

theorem eraseSlot (r : OpRef) : Statement (.eraseSlot r) := of_none rfl

theorem encrypt (r : OpRef) (b : HostBuf) : Statement (.encrypt r b) := of_none rfl

theorem decrypt (r : OpRef) (b : HostBuf) : Statement (.decrypt r b) := of_none rfl

theorem keyClear (r : OpRef) : Statement (.keyClear r) := of_none rfl

theorem setOperator (r : OpRef) (b : HostBuf) : Statement (.setOperator r b) := of_none rfl

theorem debugUnlock (r : OpRef) (b : HostBuf) : Statement (.debugUnlock r b) := of_none rfl

theorem debugLock (r : OpRef) : Statement (.debugLock r) := of_none rfl

theorem exportTest (r : OpRef) (b : HostBuf) : Statement (.exportTest r b) := of_none rfl

theorem attest (r : OpRef) (b : HostBuf) : Statement (.attest r b) := of_none rfl

theorem ctxBind (r : OpRef) (b : HostBuf) : Statement (.ctxBind r b) := of_none rfl

theorem gateTake (p : Fin 2) (n : Fin 64) : Statement (.gateTake p n) := of_none rfl

theorem gateRenew (p : Fin 2) (n : Fin 64) (ms : Fin 1024) : Statement (.gateRenew p n ms) := of_none rfl

theorem gateRelease (p : Fin 2) (n : Fin 64) : Statement (.gateRelease p n) := of_none rfl

theorem leaseExpire (n : Fin 64) : Statement (.leaseExpire n) := of_none rfl

theorem gateAuditSecond (n : Fin 64) : Statement (.gateAuditSecond n) := of_none rfl

theorem ctxDenySecond (c : Fin 256) : Statement (.ctxDenySecond c) := of_none rfl

theorem registerWrite (p : Fin 2) (w : HostSpace) (a : Nat) (data : List (Option Byte)) : Statement (.registerWrite p w a data) := of_none rfl

theorem snapRead (p : Fin 2) (w : HostSpace) (a len : Nat) : Statement (.snapRead p w a len) := of_none rfl

theorem rcRead (p : Fin 2) (a len : Nat) : Statement (.rcRead p a len) := of_none rfl

theorem updateFrameSend : Statement (.updateFrameSend) := of_none rfl

theorem heartbeatSend : Statement (.heartbeatSend) := of_none rfl

theorem refreshSweep : Statement (.refreshSweep) := of_none rfl

theorem zaderFrameReceive (link : Fin 2) (payload : List Byte) : Statement (.zaderFrameReceive link payload) := of_none rfl

theorem resyncReqSend (target : Fin 256) : Statement (.resyncReqSend target) := of_none rfl

theorem blockService : Statement (.blockService) := of_none rfl

theorem resyncRetry (b : Fin 256) : Statement (.resyncRetry b) := of_none rfl

theorem originSilent (o : Fin 256) : Statement (.originSilent o) := of_none rfl

theorem autoTakeover (b : Fin 256) : Statement (.autoTakeover b) := of_none rfl

theorem ownRelease (p : Fin 2) (b : Fin 256) (n : Fin 256) : Statement (.ownRelease p b n) := of_none rfl

theorem ownReleaseEffective (b : Fin 256) : Statement (.ownReleaseEffective b) := of_none rfl

theorem ownClaim (p : Fin 2) (b : Fin 256) : Statement (.ownClaim p b) := of_none rfl

theorem pixScrub (upsets : List (Nat × Nat)) : Statement (.pixScrub upsets) := of_none rfl

theorem cyclicRelease (n : Fin 32) : Statement (.cyclicRelease n) := of_none rfl

theorem eventTrigger (n : Fin 96) : Statement (.eventTrigger n) := of_none rfl

theorem timeTriggerFire (n : Fin 96) : Statement (.timeTriggerFire n) := of_none rfl

theorem eventRelease (n : Fin 96) : Statement (.eventRelease n) := of_none rfl

theorem inputLatch (n : Fin 96) : Statement (.inputLatch n) := of_none rfl

theorem outputCommit (n : Fin 96) : Statement (.outputCommit n) := of_none rfl

theorem retainedBankSwitch (n : Fin 96) : Statement (.retainedBankSwitch n) := of_none rfl

theorem taskWatchdogExpire (n : Fin 96) : Statement (.taskWatchdogExpire n) := of_none rfl

theorem breakpointHit (n : Fin 96) : Statement (.breakpointHit n) := of_none rfl

theorem pairCompareMismatch (k : Fin 4) : Statement (.pairCompareMismatch k) := of_none rfl

theorem nopInstruction (k : Fin 4) : Statement (.nopInstruction k) :=
  of_word rfl (bcWord_lt (by omega) (by omega) (by omega))

theorem br (k : Fin 4) (disp : Fin 524288) : Statement (.br k disp) :=
  of_word rfl (bcWord_lt (by omega) (by have := disp.isLt; omega) (by have := disp.isLt; omega))

theorem brt (k : Fin 4) (a : Fin 64) (disp : Fin 524288) : Statement (.brt k a disp) :=
  of_word rfl (bcWord_lt (by omega) (by have := a.isLt; have := disp.isLt; omega) (by have := a.isLt; have := disp.isLt; omega))

theorem brf (k : Fin 4) (a : Fin 64) (disp : Fin 524288) : Statement (.brf k a disp) :=
  of_word rfl (bcWord_lt (by omega) (by have := a.isLt; have := disp.isLt; omega) (by have := a.isLt; have := disp.isLt; omega))

theorem callFn (k : Fin 4) (a : Fin 64) (f : Fin 524288) : Statement (.callFn k a f) :=
  of_word rfl (bcWord_lt (by omega) (by have := a.isLt; have := f.isLt; omega) (by have := a.isLt; have := f.isLt; omega))

theorem retFn (k : Fin 4) : Statement (.retFn k) :=
  of_word rfl (bcWord_lt (by omega) (by omega) (by omega))

theorem assertReg (k : Fin 4) (a : Fin 64) (imm : Fin 524288) : Statement (.assertReg k a imm) :=
  of_word rfl (bcWord_lt (by omega) (by have := a.isLt; have := imm.isLt; omega) (by have := a.isLt; have := imm.isLt; omega))

theorem sysRead (k : Fin 4) (d : Fin 64) (imm : Fin 8) : Statement (.sysRead k d imm) :=
  of_word rfl (bcWord_lt (by omega) (by have := d.isLt; have := imm.isLt; omega) (by have := d.isLt; have := imm.isLt; omega))

theorem movReg (k : Fin 4) (d a : Fin 64) : Statement (.movReg k d a) :=
  of_word rfl (bcWord_lt (by omega) (by have := d.isLt; have := a.isLt; omega) (bcABSub_lt (by have := d.isLt; have := a.isLt; omega) (by have := d.isLt; have := a.isLt; omega) (by have := d.isLt; have := a.isLt; omega)))

theorem ldi (k : Fin 4) (d : Fin 64) (imm : Fin 524288) : Statement (.ldi k d imm) :=
  of_word rfl (bcWord_lt (by omega) (by have := d.isLt; have := imm.isLt; omega) (by have := d.isLt; have := imm.isLt; omega))

theorem ldk (k : Fin 4) (d : Fin 64) (imm : Fin 524288) : Statement (.ldk k d imm) :=
  of_word rfl (bcWord_lt (by omega) (by have := d.isLt; have := imm.isLt; omega) (by have := d.isLt; have := imm.isLt; omega))

theorem sel (k : Fin 4) (d a b c : Fin 64) : Statement (.sel k d a b c) :=
  of_word rfl (bcWord_lt (by omega) (by have := d.isLt; have := a.isLt; have := b.isLt; have := c.isLt; omega) (bcABSub_lt (by have := d.isLt; have := a.isLt; have := b.isLt; have := c.isLt; omega) (by have := d.isLt; have := a.isLt; have := b.isLt; have := c.isLt; omega) (by have := d.isLt; have := a.isLt; have := b.isLt; have := c.isLt; omega)))

theorem ldb (k : Fin 4) (d a : Fin 64) (off : Fin 8192) : Statement (.ldb k d a off) :=
  of_word rfl (bcWord_lt (by omega) (by have := d.isLt; have := a.isLt; have := off.isLt; omega) (by have := d.isLt; have := a.isLt; have := off.isLt; omega))

theorem ldw (k : Fin 4) (d a : Fin 64) (off : Fin 8192) : Statement (.ldw k d a off) :=
  of_word rfl (bcWord_lt (by omega) (by have := d.isLt; have := a.isLt; have := off.isLt; omega) (by have := d.isLt; have := a.isLt; have := off.isLt; omega))

theorem ldwu (k : Fin 4) (d a : Fin 64) (off : Fin 8192) : Statement (.ldwu k d a off) :=
  of_word rfl (bcWord_lt (by omega) (by have := d.isLt; have := a.isLt; have := off.isLt; omega) (by have := d.isLt; have := a.isLt; have := off.isLt; omega))

theorem ldd (k : Fin 4) (d a : Fin 64) (off : Fin 8192) : Statement (.ldd k d a off) :=
  of_word rfl (bcWord_lt (by omega) (by have := d.isLt; have := a.isLt; have := off.isLt; omega) (by have := d.isLt; have := a.isLt; have := off.isLt; omega))

theorem stb (k : Fin 4) (src a : Fin 64) (off : Fin 8192) : Statement (.stb k src a off) :=
  of_word rfl (bcWord_lt (by omega) (by have := src.isLt; have := a.isLt; have := off.isLt; omega) (by have := src.isLt; have := a.isLt; have := off.isLt; omega))

theorem stw (k : Fin 4) (src a : Fin 64) (off : Fin 8192) : Statement (.stw k src a off) :=
  of_word rfl (bcWord_lt (by omega) (by have := src.isLt; have := a.isLt; have := off.isLt; omega) (by have := src.isLt; have := a.isLt; have := off.isLt; omega))

theorem std (k : Fin 4) (src a : Fin 64) (off : Fin 8192) : Statement (.std k src a off) :=
  of_word rfl (bcWord_lt (by omega) (by have := src.isLt; have := a.isLt; have := off.isLt; omega) (by have := src.isLt; have := a.isLt; have := off.isLt; omega))

theorem ldin (k : Fin 4) (d : Fin 64) (i : Fin 4096) : Statement (.ldin k d i) :=
  of_word rfl (bcWord_lt (by omega) (by have := d.isLt; have := i.isLt; omega) (by have := d.isLt; have := i.isLt; omega))

theorem ldiq (k : Fin 4) (d : Fin 64) (i : Fin 4096) : Statement (.ldiq k d i) :=
  of_word rfl (bcWord_lt (by omega) (by have := d.isLt; have := i.isLt; omega) (by have := d.isLt; have := i.isLt; omega))

theorem ldit (k : Fin 4) (d : Fin 64) (i : Fin 4096) : Statement (.ldit k d i) :=
  of_word rfl (bcWord_lt (by omega) (by have := d.isLt; have := i.isLt; omega) (by have := d.isLt; have := i.isLt; omega))

theorem stout (k : Fin 4) (src : Fin 64) (i : Fin 4096) : Statement (.stout k src i) :=
  of_word rfl (bcWord_lt (by omega) (by have := src.isLt; have := i.isLt; omega) (by have := src.isLt; have := i.isLt; omega))

theorem stoq (k : Fin 4) (src : Fin 64) (i : Fin 4096) : Statement (.stoq k src i) :=
  of_word rfl (bcWord_lt (by omega) (by have := src.isLt; have := i.isLt; omega) (by have := src.isLt; have := i.isLt; omega))

theorem ldlp (k : Fin 4) (d : Fin 64) (loc : Fin 256) (q : Fin 32) : Statement (.ldlp k d loc q) :=
  of_word rfl (bcWord_lt (by omega) (by have := d.isLt; have := loc.isLt; have := q.isLt; omega) (by have := d.isLt; have := loc.isLt; have := q.isLt; omega))

theorem stlp (k : Fin 4) (src : Fin 64) (loc : Fin 256) (q : Fin 32) : Statement (.stlp k src loc q) :=
  of_word rfl (bcWord_lt (by omega) (by have := src.isLt; have := loc.isLt; have := q.isLt; omega) (by have := src.isLt; have := loc.isLt; have := q.isLt; omega))

theorem addD (k : Fin 4) (d a b : Fin 64) : Statement (.addD k d a b) :=
  of_word rfl (bcWord_lt (by omega) (by have := d.isLt; have := a.isLt; have := b.isLt; omega) (bcABSub_lt (by have := d.isLt; have := a.isLt; have := b.isLt; omega) (by have := d.isLt; have := a.isLt; have := b.isLt; omega) (by have := d.isLt; have := a.isLt; have := b.isLt; omega)))

theorem subD (k : Fin 4) (d a b : Fin 64) : Statement (.subD k d a b) :=
  of_word rfl (bcWord_lt (by omega) (by have := d.isLt; have := a.isLt; have := b.isLt; omega) (bcABSub_lt (by have := d.isLt; have := a.isLt; have := b.isLt; omega) (by have := d.isLt; have := a.isLt; have := b.isLt; omega) (by have := d.isLt; have := a.isLt; have := b.isLt; omega)))

theorem mulD (k : Fin 4) (d a b : Fin 64) : Statement (.mulD k d a b) :=
  of_word rfl (bcWord_lt (by omega) (by have := d.isLt; have := a.isLt; have := b.isLt; omega) (bcABSub_lt (by have := d.isLt; have := a.isLt; have := b.isLt; omega) (by have := d.isLt; have := a.isLt; have := b.isLt; omega) (by have := d.isLt; have := a.isLt; have := b.isLt; omega)))

theorem divD (k : Fin 4) (d a b : Fin 64) : Statement (.divD k d a b) :=
  of_word rfl (bcWord_lt (by omega) (by have := d.isLt; have := a.isLt; have := b.isLt; omega) (bcABSub_lt (by have := d.isLt; have := a.isLt; have := b.isLt; omega) (by have := d.isLt; have := a.isLt; have := b.isLt; omega) (by have := d.isLt; have := a.isLt; have := b.isLt; omega)))

theorem modD (k : Fin 4) (d a b : Fin 64) : Statement (.modD k d a b) :=
  of_word rfl (bcWord_lt (by omega) (by have := d.isLt; have := a.isLt; have := b.isLt; omega) (bcABSub_lt (by have := d.isLt; have := a.isLt; have := b.isLt; omega) (by have := d.isLt; have := a.isLt; have := b.isLt; omega) (by have := d.isLt; have := a.isLt; have := b.isLt; omega)))

theorem cmpD (k : Fin 4) (d a b : Fin 64) (sub : Fin 6) : Statement (.cmpD k d a b sub) :=
  of_word rfl (bcWord_lt (by omega) (by have := d.isLt; have := a.isLt; have := b.isLt; have := sub.isLt; omega) (bcABSub_lt (by have := d.isLt; have := a.isLt; have := b.isLt; have := sub.isLt; omega) (by have := d.isLt; have := a.isLt; have := b.isLt; have := sub.isLt; omega) (by have := d.isLt; have := a.isLt; have := b.isLt; have := sub.isLt; omega)))

theorem addL (k : Fin 4) (d a b : Fin 64) : Statement (.addL k d a b) :=
  of_word rfl (bcWord_lt (by omega) (by have := d.isLt; have := a.isLt; have := b.isLt; omega) (bcABSub_lt (by have := d.isLt; have := a.isLt; have := b.isLt; omega) (by have := d.isLt; have := a.isLt; have := b.isLt; omega) (by have := d.isLt; have := a.isLt; have := b.isLt; omega)))

theorem subL (k : Fin 4) (d a b : Fin 64) : Statement (.subL k d a b) :=
  of_word rfl (bcWord_lt (by omega) (by have := d.isLt; have := a.isLt; have := b.isLt; omega) (bcABSub_lt (by have := d.isLt; have := a.isLt; have := b.isLt; omega) (by have := d.isLt; have := a.isLt; have := b.isLt; omega) (by have := d.isLt; have := a.isLt; have := b.isLt; omega)))

theorem mulL (k : Fin 4) (d a b : Fin 64) : Statement (.mulL k d a b) :=
  of_word rfl (bcWord_lt (by omega) (by have := d.isLt; have := a.isLt; have := b.isLt; omega) (bcABSub_lt (by have := d.isLt; have := a.isLt; have := b.isLt; omega) (by have := d.isLt; have := a.isLt; have := b.isLt; omega) (by have := d.isLt; have := a.isLt; have := b.isLt; omega)))

theorem divL (k : Fin 4) (d a b : Fin 64) : Statement (.divL k d a b) :=
  of_word rfl (bcWord_lt (by omega) (by have := d.isLt; have := a.isLt; have := b.isLt; omega) (bcABSub_lt (by have := d.isLt; have := a.isLt; have := b.isLt; omega) (by have := d.isLt; have := a.isLt; have := b.isLt; omega) (by have := d.isLt; have := a.isLt; have := b.isLt; omega)))

theorem modL (k : Fin 4) (d a b : Fin 64) : Statement (.modL k d a b) :=
  of_word rfl (bcWord_lt (by omega) (by have := d.isLt; have := a.isLt; have := b.isLt; omega) (bcABSub_lt (by have := d.isLt; have := a.isLt; have := b.isLt; omega) (by have := d.isLt; have := a.isLt; have := b.isLt; omega) (by have := d.isLt; have := a.isLt; have := b.isLt; omega)))

theorem cmpL (k : Fin 4) (d a b : Fin 64) (sub : Fin 6) : Statement (.cmpL k d a b sub) :=
  of_word rfl (bcWord_lt (by omega) (by have := d.isLt; have := a.isLt; have := b.isLt; have := sub.isLt; omega) (bcABSub_lt (by have := d.isLt; have := a.isLt; have := b.isLt; have := sub.isLt; omega) (by have := d.isLt; have := a.isLt; have := b.isLt; have := sub.isLt; omega) (by have := d.isLt; have := a.isLt; have := b.isLt; have := sub.isLt; omega)))

theorem cmpE (k : Fin 4) (d a b : Fin 64) (sub : Fin 6) : Statement (.cmpE k d a b sub) :=
  of_word rfl (bcWord_lt (by omega) (by have := d.isLt; have := a.isLt; have := b.isLt; have := sub.isLt; omega) (bcABSub_lt (by have := d.isLt; have := a.isLt; have := b.isLt; have := sub.isLt; omega) (by have := d.isLt; have := a.isLt; have := b.isLt; have := sub.isLt; omega) (by have := d.isLt; have := a.isLt; have := b.isLt; have := sub.isLt; omega)))

theorem addT (k : Fin 4) (d a b : Fin 64) : Statement (.addT k d a b) :=
  of_word rfl (bcWord_lt (by omega) (by have := d.isLt; have := a.isLt; have := b.isLt; omega) (bcABSub_lt (by have := d.isLt; have := a.isLt; have := b.isLt; omega) (by have := d.isLt; have := a.isLt; have := b.isLt; omega) (by have := d.isLt; have := a.isLt; have := b.isLt; omega)))

theorem subT (k : Fin 4) (d a b : Fin 64) : Statement (.subT k d a b) :=
  of_word rfl (bcWord_lt (by omega) (by have := d.isLt; have := a.isLt; have := b.isLt; omega) (bcABSub_lt (by have := d.isLt; have := a.isLt; have := b.isLt; omega) (by have := d.isLt; have := a.isLt; have := b.isLt; omega) (by have := d.isLt; have := a.isLt; have := b.isLt; omega)))

theorem cmpT (k : Fin 4) (d a b : Fin 64) (sub : Fin 6) : Statement (.cmpT k d a b sub) :=
  of_word rfl (bcWord_lt (by omega) (by have := d.isLt; have := a.isLt; have := b.isLt; have := sub.isLt; omega) (bcABSub_lt (by have := d.isLt; have := a.isLt; have := b.isLt; have := sub.isLt; omega) (by have := d.isLt; have := a.isLt; have := b.isLt; have := sub.isLt; omega) (by have := d.isLt; have := a.isLt; have := b.isLt; have := sub.isLt; omega)))

theorem addR (k : Fin 4) (d a b : Fin 64) : Statement (.addR k d a b) :=
  of_word rfl (bcWord_lt (by omega) (by have := d.isLt; have := a.isLt; have := b.isLt; omega) (bcABSub_lt (by have := d.isLt; have := a.isLt; have := b.isLt; omega) (by have := d.isLt; have := a.isLt; have := b.isLt; omega) (by have := d.isLt; have := a.isLt; have := b.isLt; omega)))

theorem subR (k : Fin 4) (d a b : Fin 64) : Statement (.subR k d a b) :=
  of_word rfl (bcWord_lt (by omega) (by have := d.isLt; have := a.isLt; have := b.isLt; omega) (bcABSub_lt (by have := d.isLt; have := a.isLt; have := b.isLt; omega) (by have := d.isLt; have := a.isLt; have := b.isLt; omega) (by have := d.isLt; have := a.isLt; have := b.isLt; omega)))

theorem mulR (k : Fin 4) (d a b : Fin 64) : Statement (.mulR k d a b) :=
  of_word rfl (bcWord_lt (by omega) (by have := d.isLt; have := a.isLt; have := b.isLt; omega) (bcABSub_lt (by have := d.isLt; have := a.isLt; have := b.isLt; omega) (by have := d.isLt; have := a.isLt; have := b.isLt; omega) (by have := d.isLt; have := a.isLt; have := b.isLt; omega)))

theorem divR (k : Fin 4) (d a b : Fin 64) : Statement (.divR k d a b) :=
  of_word rfl (bcWord_lt (by omega) (by have := d.isLt; have := a.isLt; have := b.isLt; omega) (bcABSub_lt (by have := d.isLt; have := a.isLt; have := b.isLt; omega) (by have := d.isLt; have := a.isLt; have := b.isLt; omega) (by have := d.isLt; have := a.isLt; have := b.isLt; omega)))

theorem cmpR (k : Fin 4) (d a b : Fin 64) (sub : Fin 6) : Statement (.cmpR k d a b sub) :=
  of_word rfl (bcWord_lt (by omega) (by have := d.isLt; have := a.isLt; have := b.isLt; have := sub.isLt; omega) (bcABSub_lt (by have := d.isLt; have := a.isLt; have := b.isLt; have := sub.isLt; omega) (by have := d.isLt; have := a.isLt; have := b.isLt; have := sub.isLt; omega) (by have := d.isLt; have := a.isLt; have := b.isLt; have := sub.isLt; omega)))

theorem funR (k : Fin 4) (d a b : Fin 64) (sub : Fin 19) : Statement (.funR k d a b sub) :=
  of_word rfl (bcWord_lt (by omega) (by have := d.isLt; have := a.isLt; have := b.isLt; have := sub.isLt; omega) (bcABSub_lt (by have := d.isLt; have := a.isLt; have := b.isLt; have := sub.isLt; omega) (by have := d.isLt; have := a.isLt; have := b.isLt; have := sub.isLt; omega) (by have := d.isLt; have := a.isLt; have := b.isLt; have := sub.isLt; omega)))

theorem limR (k : Fin 4) (d a b c : Fin 64) : Statement (.limR k d a b c) :=
  of_word rfl (bcWord_lt (by omega) (by have := d.isLt; have := a.isLt; have := b.isLt; have := c.isLt; omega) (bcABSub_lt (by have := d.isLt; have := a.isLt; have := b.isLt; have := c.isLt; omega) (by have := d.isLt; have := a.isLt; have := b.isLt; have := c.isLt; omega) (by have := d.isLt; have := a.isLt; have := b.isLt; have := c.isLt; omega)))

theorem addLr (k : Fin 4) (d a b : Fin 64) : Statement (.addLr k d a b) :=
  of_word rfl (bcWord_lt (by omega) (by have := d.isLt; have := a.isLt; have := b.isLt; omega) (bcABSub_lt (by have := d.isLt; have := a.isLt; have := b.isLt; omega) (by have := d.isLt; have := a.isLt; have := b.isLt; omega) (by have := d.isLt; have := a.isLt; have := b.isLt; omega)))

theorem subLr (k : Fin 4) (d a b : Fin 64) : Statement (.subLr k d a b) :=
  of_word rfl (bcWord_lt (by omega) (by have := d.isLt; have := a.isLt; have := b.isLt; omega) (bcABSub_lt (by have := d.isLt; have := a.isLt; have := b.isLt; omega) (by have := d.isLt; have := a.isLt; have := b.isLt; omega) (by have := d.isLt; have := a.isLt; have := b.isLt; omega)))

theorem mulLr (k : Fin 4) (d a b : Fin 64) : Statement (.mulLr k d a b) :=
  of_word rfl (bcWord_lt (by omega) (by have := d.isLt; have := a.isLt; have := b.isLt; omega) (bcABSub_lt (by have := d.isLt; have := a.isLt; have := b.isLt; omega) (by have := d.isLt; have := a.isLt; have := b.isLt; omega) (by have := d.isLt; have := a.isLt; have := b.isLt; omega)))

theorem divLr (k : Fin 4) (d a b : Fin 64) : Statement (.divLr k d a b) :=
  of_word rfl (bcWord_lt (by omega) (by have := d.isLt; have := a.isLt; have := b.isLt; omega) (bcABSub_lt (by have := d.isLt; have := a.isLt; have := b.isLt; omega) (by have := d.isLt; have := a.isLt; have := b.isLt; omega) (by have := d.isLt; have := a.isLt; have := b.isLt; omega)))

theorem cmpLr (k : Fin 4) (d a b : Fin 64) (sub : Fin 6) : Statement (.cmpLr k d a b sub) :=
  of_word rfl (bcWord_lt (by omega) (by have := d.isLt; have := a.isLt; have := b.isLt; have := sub.isLt; omega) (bcABSub_lt (by have := d.isLt; have := a.isLt; have := b.isLt; have := sub.isLt; omega) (by have := d.isLt; have := a.isLt; have := b.isLt; have := sub.isLt; omega) (by have := d.isLt; have := a.isLt; have := b.isLt; have := sub.isLt; omega)))

theorem funLr (k : Fin 4) (d a b : Fin 64) (sub : Fin 19) : Statement (.funLr k d a b sub) :=
  of_word rfl (bcWord_lt (by omega) (by have := d.isLt; have := a.isLt; have := b.isLt; have := sub.isLt; omega) (bcABSub_lt (by have := d.isLt; have := a.isLt; have := b.isLt; have := sub.isLt; omega) (by have := d.isLt; have := a.isLt; have := b.isLt; have := sub.isLt; omega) (by have := d.isLt; have := a.isLt; have := b.isLt; have := sub.isLt; omega)))

theorem limLr (k : Fin 4) (d a b c : Fin 64) : Statement (.limLr k d a b c) :=
  of_word rfl (bcWord_lt (by omega) (by have := d.isLt; have := a.isLt; have := b.isLt; have := c.isLt; omega) (bcABSub_lt (by have := d.isLt; have := a.isLt; have := b.isLt; have := c.isLt; omega) (by have := d.isLt; have := a.isLt; have := b.isLt; have := c.isLt; omega) (by have := d.isLt; have := a.isLt; have := b.isLt; have := c.isLt; omega)))

theorem limL (k : Fin 4) (d a b c : Fin 64) : Statement (.limL k d a b c) :=
  of_word rfl (bcWord_lt (by omega) (by have := d.isLt; have := a.isLt; have := b.isLt; have := c.isLt; omega) (bcABSub_lt (by have := d.isLt; have := a.isLt; have := b.isLt; have := c.isLt; omega) (by have := d.isLt; have := a.isLt; have := b.isLt; have := c.isLt; omega) (by have := d.isLt; have := a.isLt; have := b.isLt; have := c.isLt; omega)))

theorem andReg (k : Fin 4) (d a b : Fin 64) : Statement (.andReg k d a b) :=
  of_word rfl (bcWord_lt (by omega) (by have := d.isLt; have := a.isLt; have := b.isLt; omega) (bcABSub_lt (by have := d.isLt; have := a.isLt; have := b.isLt; omega) (by have := d.isLt; have := a.isLt; have := b.isLt; omega) (by have := d.isLt; have := a.isLt; have := b.isLt; omega)))

theorem orReg (k : Fin 4) (d a b : Fin 64) : Statement (.orReg k d a b) :=
  of_word rfl (bcWord_lt (by omega) (by have := d.isLt; have := a.isLt; have := b.isLt; omega) (bcABSub_lt (by have := d.isLt; have := a.isLt; have := b.isLt; omega) (by have := d.isLt; have := a.isLt; have := b.isLt; omega) (by have := d.isLt; have := a.isLt; have := b.isLt; omega)))

theorem xorReg (k : Fin 4) (d a b : Fin 64) : Statement (.xorReg k d a b) :=
  of_word rfl (bcWord_lt (by omega) (by have := d.isLt; have := a.isLt; have := b.isLt; omega) (bcABSub_lt (by have := d.isLt; have := a.isLt; have := b.isLt; omega) (by have := d.isLt; have := a.isLt; have := b.isLt; omega) (by have := d.isLt; have := a.isLt; have := b.isLt; omega)))

theorem notReg (k : Fin 4) (d a : Fin 64) : Statement (.notReg k d a) :=
  of_word rfl (bcWord_lt (by omega) (by have := d.isLt; have := a.isLt; omega) (bcABSub_lt (by have := d.isLt; have := a.isLt; omega) (by have := d.isLt; have := a.isLt; omega) (by have := d.isLt; have := a.isLt; omega)))

theorem notb (k : Fin 4) (d a : Fin 64) : Statement (.notb k d a) :=
  of_word rfl (bcWord_lt (by omega) (by have := d.isLt; have := a.isLt; omega) (bcABSub_lt (by have := d.isLt; have := a.isLt; omega) (by have := d.isLt; have := a.isLt; omega) (by have := d.isLt; have := a.isLt; omega)))

theorem shl (k : Fin 4) (d a b : Fin 64) : Statement (.shl k d a b) :=
  of_word rfl (bcWord_lt (by omega) (by have := d.isLt; have := a.isLt; have := b.isLt; omega) (bcABSub_lt (by have := d.isLt; have := a.isLt; have := b.isLt; omega) (by have := d.isLt; have := a.isLt; have := b.isLt; omega) (by have := d.isLt; have := a.isLt; have := b.isLt; omega)))

theorem shr (k : Fin 4) (d a b : Fin 64) : Statement (.shr k d a b) :=
  of_word rfl (bcWord_lt (by omega) (by have := d.isLt; have := a.isLt; have := b.isLt; omega) (bcABSub_lt (by have := d.isLt; have := a.isLt; have := b.isLt; omega) (by have := d.isLt; have := a.isLt; have := b.isLt; omega) (by have := d.isLt; have := a.isLt; have := b.isLt; omega)))

theorem sar (k : Fin 4) (d a b : Fin 64) : Statement (.sar k d a b) :=
  of_word rfl (bcWord_lt (by omega) (by have := d.isLt; have := a.isLt; have := b.isLt; omega) (bcABSub_lt (by have := d.isLt; have := a.isLt; have := b.isLt; omega) (by have := d.isLt; have := a.isLt; have := b.isLt; omega) (by have := d.isLt; have := a.isLt; have := b.isLt; omega)))

theorem cvtReg (k : Fin 4) (d a : Fin 64) (src dst : Fin 7) (rnd : Fin 4) : Statement (.cvtReg k d a src dst rnd) :=
  of_word rfl (bcWord_lt (by omega) (by have := d.isLt; have := a.isLt; have := src.isLt; have := dst.isLt; have := rnd.isLt; omega) (by have := d.isLt; have := a.isLt; have := src.isLt; have := dst.isLt; have := rnd.isLt; omega))

theorem esnap (k : Fin 4) (d : Fin 32) (i : Fin 4096) : Statement (.esnap k d i) :=
  of_word rfl (bcWord_lt (by omega) (by have := d.isLt; have := i.isLt; omega) (by have := d.isLt; have := i.isLt; omega))

theorem esub (k : Fin 4) (d a b : Fin 32) : Statement (.esub k d a b) :=
  of_word rfl (bcWord_lt (by omega) (by have := d.isLt; have := a.isLt; have := b.isLt; omega) (bcABSub_lt (by have := d.isLt; have := a.isLt; have := b.isLt; omega) (by have := d.isLt; have := a.isLt; have := b.isLt; omega) (by have := d.isLt; have := a.isLt; have := b.isLt; omega)))

theorem ecvt (k : Fin 4) (d : Fin 64) (a : Fin 32) : Statement (.ecvt k d a) :=
  of_word rfl (bcWord_lt (by omega) (by have := d.isLt; have := a.isLt; omega) (bcABSub_lt (by have := d.isLt; have := a.isLt; omega) (by have := d.isLt; have := a.isLt; omega) (by have := d.isLt; have := a.isLt; omega)))

theorem brx (k : Fin 4) (a : Fin 64) (n : Fin 524288) : Statement (.brx k a n) :=
  of_word rfl (bcWord_lt (by omega) (by have := a.isLt; have := n.isLt; omega) (by have := a.isLt; have := n.isLt; omega))

theorem addi (k : Fin 4) (d a : Fin 64) (imm : Fin 8192) : Statement (.addi k d a imm) :=
  of_word rfl (bcWord_lt (by omega) (by have := d.isLt; have := a.isLt; have := imm.isLt; omega) (by have := d.isLt; have := a.isLt; have := imm.isLt; omega))

theorem ldinx (k : Fin 4) (d a : Fin 64) : Statement (.ldinx k d a) :=
  of_word rfl (bcWord_lt (by omega) (by have := d.isLt; have := a.isLt; omega) (bcABSub_lt (by have := d.isLt; have := a.isLt; omega) (by have := d.isLt; have := a.isLt; omega) (by have := d.isLt; have := a.isLt; omega)))

theorem valuesBoundary (n : Fin 96) : Statement (.valuesBoundary n) := of_none rfl

theorem switchGap (tenths : Nat) : Statement (.switchGap tenths) := of_none rfl

theorem switchWaitExpire : Statement (.switchWaitExpire) := of_none rfl

theorem loopEvaluate (e : Fin 4) : Statement (.loopEvaluate e) := of_none rfl

theorem memorySave (e : Fin 4) (m : Fin 64) : Statement (.memorySave e m) := of_none rfl

theorem loopWrite (p : Fin 2) (e : Fin 4) (v : Word) : Statement (.loopWrite p e v) := of_none rfl

theorem loopRead (p : Fin 2) (e : Fin 4) (v : Word) : Statement (.loopRead p e v) := of_none rfl

theorem loopCancel (p : Fin 2) (e : Fin 4) : Statement (.loopCancel p e) := of_none rfl

theorem loopWriteApply (e : Fin 4) : Statement (.loopWriteApply e) := of_none rfl

theorem memClear (p : Fin 2) (e : Fin 4) (m : Fin 64) : Statement (.memClear p e m) := of_none rfl

theorem memFreeze (p : Fin 2) (e : Fin 4) (m : Fin 64) : Statement (.memFreeze p e m) := of_none rfl

theorem memUnfreeze (p : Fin 2) (e : Fin 4) (m : Fin 64) : Statement (.memUnfreeze p e m) := of_none rfl

theorem traceArm (p : Fin 2) (e b : Fin 4) : Statement (.traceArm p e b) := of_none rfl

theorem traceTrigger (p : Fin 2) (e b : Fin 4) : Statement (.traceTrigger p e b) := of_none rfl

theorem traceAbort (p : Fin 2) (e b : Fin 4) : Statement (.traceAbort p e b) := of_none rfl

theorem islandCfgWrite (p : Fin 2) (n : Fin 24) (v : Word) : Statement (.islandCfgWrite p n v) := of_none rfl

theorem headroom (n : Fin 24) (low : Bool) (m : IslMeas) : Statement (.headroom n low m) := of_none rfl

theorem comply (n : Fin 24) (short : Bool) (m : IslMeas) : Statement (.comply n short m) := of_none rfl

theorem fallback (n : Fin 24) : Statement (.fallback n) := of_none rfl

theorem islandTimedRetry (n : Fin 24) : Statement (.islandTimedRetry n) := of_none rfl

theorem islandRetry (p : Fin 2) (n : Fin 24) : Statement (.islandRetry p n) := of_none rfl

theorem retryWindowEnd (n : Fin 24) (good : Bool) : Statement (.retryWindowEnd n good) := of_none rfl

theorem openLoop (n : Fin 24) (opened : Bool) (m : IslMeas) : Statement (.openLoop n opened m) := of_none rfl

theorem senseFault (n : Fin 24) (m : IslMeas) : Statement (.senseFault n m) := of_none rfl

theorem stageFault (n : Fin 24) (m : IslMeas) : Statement (.stageFault n m) := of_none rfl

theorem islandClear (p : Fin 2) (n : Fin 24) : Statement (.islandClear p n) := of_none rfl

theorem recheckEnd (n : Fin 24) (sense : Bool) (stage : Bool) (m : IslMeas) : Statement (.recheckEnd n sense stage m) := of_none rfl

theorem thermal (n : Fin 24) (m : IslMeas) : Statement (.thermal n m) := of_none rfl

theorem linkLost (n : Fin 24) : Statement (.linkLost n) := of_none rfl

theorem islandReleaseEdge (n : Fin 24) : Statement (.islandReleaseEdge n) := of_none rfl

theorem handoverDone (n : Fin 24) : Statement (.handoverDone n) := of_none rfl

theorem storeSpent (n : Fin 24) : Statement (.storeSpent n) := of_none rfl

theorem uiConversion (n : Fin 32) (m : UiMeas) : Statement (.uiConversion n m) := of_none rfl

theorem uiShuntRetry (n : Fin 32) : Statement (.uiShuntRetry n) := of_none rfl

theorem doEnWrite (p : Fin 2) (v : Word) : Statement (.doEnWrite p v) := of_none rfl

theorem doShort (n : Fin 24) : Statement (.doShort n) := of_none rfl

theorem doShortClear (p : Fin 2) (v : Word) : Statement (.doShortClear p v) := of_none rfl

theorem doAutoRetry (n : Fin 24) : Statement (.doAutoRetry n) := of_none rfl

theorem openLoad (n : Fin 24) (opened : Bool) : Statement (.openLoad n opened) := of_none rfl

theorem vsLow (v0 : Fin 65536) (v1 : Fin 65536) : Statement (.vsLow v0 v1) := of_none rfl

theorem stuck (n : Fin 24) (high : Bool) : Statement (.stuck n high) := of_none rfl

theorem doReleaseEdge : Statement (.doReleaseEdge) := of_none rfl

theorem doYieldHoldEnd : Statement (.doYieldHoldEnd) := of_none rfl

theorem daliLevelSend (n : Fin 4) : Statement (.daliLevelSend n) := of_none rfl

theorem daliPoll (n : Fin 4) : Statement (.daliPoll n) := of_none rfl

theorem daliFrameReceive (n : Fin 4) (f : DaliRx) : Statement (.daliFrameReceive n f) := of_none rfl

theorem daliBusDown (n : Fin 4) : Statement (.daliBusDown n) := of_none rfl

theorem daliBusUp (n : Fin 4) : Statement (.daliBusUp n) := of_none rfl

theorem daliRawSend (p : Fin 2) (n : Fin 4) (v : Word) : Statement (.daliRawSend p n v) := of_none rfl

theorem daliTakeoverResend (n : Fin 4) : Statement (.daliTakeoverResend n) := of_none rfl

theorem modbusPoll (n : Fin 2) (c : Fin 256) : Statement (.modbusPoll n c) := of_none rfl

theorem modbusWrite (n : Fin 2) : Statement (.modbusWrite n) := of_none rfl

theorem serReply (n : Fin 2) (r : SerReply) (framing : Bool) : Statement (.serReply n r framing) := of_none rfl

theorem serTimeout (n : Fin 2) : Statement (.serTimeout n) := of_none rfl

theorem osdpPoll (n : Fin 2) (a : Fin 16) (session : Bool) : Statement (.osdpPoll n a session) := of_none rfl

theorem osdpReaderSilent (n : Fin 2) (a : Fin 16) : Statement (.osdpReaderSilent n a) := of_none rfl

theorem serCfgWrite (p : Fin 2) (n : Fin 2) (v : Word) : Statement (.serCfgWrite p n v) := of_none rfl

theorem serTakeoverResume (n : Fin 2) : Statement (.serTakeoverResume n) := of_none rfl

theorem meteringBlock (m : MtrBlock) : Statement (.meteringBlock m) := of_none rfl

theorem journalCommit : Statement (.journalCommit) := of_none rfl

theorem energyDisplayWrite : Statement (.energyDisplayWrite) := of_none rfl

theorem mtrChCfgWrite (p : Fin 2) (n : Fin 49) (primary : Bool) (v : Word) : Statement (.mtrChCfgWrite p n primary v) := of_none rfl

theorem mtrCirCfgWrite (p : Fin 2) (k : Fin 16) (v : Word) : Statement (.mtrCirCfgWrite p k v) := of_none rfl

theorem totalsReceive (time : Nat) (id : Nat) (wrapped : List Nat) (l : List (Nat × Nat)) : Statement (.totalsReceive time id wrapped l) := of_none rfl

theorem totalsAckReceive (time : Nat) : Statement (.totalsAckReceive time) := of_none rfl

theorem totalsAckTimeout : Statement (.totalsAckTimeout) := of_none rfl

theorem dpxDisagreeWindow : Statement (.dpxDisagreeWindow) := of_none rfl

theorem mtcTempRead (die : Int) (mod : Int) : Statement (.mtcTempRead die mod) := of_none rfl

theorem mtcCommit (p : Fin 2) : Statement (.mtcCommit p) := of_none rfl

theorem mtcRestore (p : Fin 2) : Statement (.mtcRestore p) := of_none rfl

theorem assayStepEnd (m : AssayMeas) : Statement (.assayStepEnd m) := of_none rfl

theorem calStepEnd (m : AssayMeas) : Statement (.calStepEnd m) := of_none rfl

theorem verify (p : Fin 2) (c : Fin 64) : Statement (.verify p c) := of_none rfl

theorem calibrate (p : Fin 2) (c : Fin 64) : Statement (.calibrate p c) := of_none rfl

theorem clearFault (p : Fin 2) (c : Fin 64) : Statement (.clearFault p c) := of_none rfl

theorem aliveSilent : Statement (.aliveSilent) := of_none rfl

theorem aliveGood : Statement (.aliveGood) := of_none rfl

theorem aliveGeneratorStop : Statement (.aliveGeneratorStop) := of_none rfl

theorem grantInEdge (grant release : Bool) : Statement (.grantInEdge grant release) := of_none rfl

theorem dualMotor : Statement (.dualMotor) := of_none rfl

theorem laneDown (k : Fin 2) : Statement (.laneDown k) := of_none rfl

theorem laneUp (k : Fin 2) : Statement (.laneUp k) := of_none rfl

theorem lanesDown : Statement (.lanesDown) := of_none rfl

theorem inputs (task : Fin 96) (ref : Nat) (entries : List ShipEnt) (outs : List (Nat × Option Word64)) : Statement (.inputs task ref entries outs) := of_none rfl

theorem inputsAck (task : Fin 96) (ref : Nat) : Statement (.inputsAck task ref) := of_none rfl

theorem shipTimeout (task : Fin 96) : Statement (.shipTimeout task) := of_none rfl

theorem hash (task : Fin 96) (ref h : Nat) : Statement (.hash task ref h) := of_none rfl

theorem hashTimeout (task : Fin 96) : Statement (.hashTimeout task) := of_none rfl

theorem forward (f : Fwd) : Statement (.forward f) := of_none rfl

theorem seqReport (seq : Nat) : Statement (.seqReport seq) := of_none rfl

theorem abdicate : Statement (.abdicate) := of_none rfl

theorem abdicateWindowExpire : Statement (.abdicateWindowExpire) := of_none rfl

theorem notReady : Statement (.notReady) := of_none rfl

theorem takeover (quickOk : Bool) : Statement (.takeover quickOk) := of_none rfl

theorem xcheck (task : Fin 96) (ref inCrc : Nat) : Statement (.xcheck task ref inCrc) := of_none rfl

theorem xcheckDecide (rm rb qm qb : Bool) : Statement (.xcheckDecide rm rb qm qb) := of_none rfl

theorem dpxSwitch (p : Fin 2) (delay : Fin 65536) : Statement (.dpxSwitch p delay) := of_none rfl

theorem switch (t : Nat) : Statement (.switch t) := of_none rfl

theorem plannedSwitch : Statement (.plannedSwitch) := of_none rfl

theorem detach (p : Fin 2) : Statement (.detach p) := of_none rfl

theorem join (p : Fin 2) : Statement (.join p) := of_none rfl

theorem joinRetry : Statement (.joinRetry) := of_none rfl

theorem hello (h : HelloMsg) : Statement (.hello h) := of_none rfl

theorem xfer (items : List XferItem) (kib : Nat) : Statement (.xfer items kib) := of_none rfl

theorem xferGap (kib : Fin 257) : Statement (.xferGap kib) := of_none rfl

theorem joinWaitExpire : Statement (.joinWaitExpire) := of_none rfl

theorem idle (ok : Bool) : Statement (.idle ok) := of_none rfl

theorem partnerPresentChange (present : Bool) : Statement (.partnerPresentChange present) := of_none rfl

theorem canEnable (p : Fin 2) (n : Fin 4) (v : Word) : Statement (.canEnable p n v) := of_none rfl

theorem canBusJoin (n : Fin 4) : Statement (.canBusJoin n) := of_none rfl

theorem txRequest (p : Fin 2) (n : Fin 4) (b : Fin 64) : Statement (.txRequest p n b) := of_none rfl

theorem txCancel (p : Fin 2) (n : Fin 4) (b : Fin 64) (won : Bool) : Statement (.txCancel p n b won) := of_none rfl

theorem txTimeReached (n : Fin 4) (b : Fin 64) : Statement (.txTimeReached n b) := of_none rfl

theorem arbitrationStart (n : Fin 4) : Statement (.arbitrationStart n) := of_none rfl

theorem arbitrationLost (n : Fin 4) : Statement (.arbitrationLost n) := of_none rfl

theorem canBusError (n : Fin 4) (code : Fin 7) (dataPhase : Bool) (heavy : Bool) : Statement (.canBusError n code dataPhase heavy) := of_none rfl

theorem txDone (n : Fin 4) : Statement (.txDone n) := of_none rfl

theorem suspendEnd (n : Fin 4) : Statement (.suspendEnd n) := of_none rfl

theorem recover (p : Fin 2) (n : Fin 4) : Statement (.recover p n) := of_none rfl

theorem recovered (n : Fin 4) : Statement (.recovered n) := of_none rfl

theorem flush (p : Fin 2) (n : Fin 4) (which : Fin 4) : Statement (.flush p n which) := of_none rfl

theorem rxfPop (p : Fin 2) (n : Fin 4) (f : Fin 2) : Statement (.rxfPop p n f) := of_none rfl

theorem canFrameReceive (n : Fin 4) (f : CanFrame) : Statement (.canFrameReceive n f) := of_none rfl

theorem canRefillPeriod (n : Fin 4) (b : Fin 64) : Statement (.canRefillPeriod n b) := of_none rfl

theorem canStationTimeout (n : Fin 4) (k : Fin 64) : Statement (.canStationTimeout n k) := of_none rfl

theorem dominantTimeout (n : Fin 4) : Statement (.dominantTimeout n) := of_none rfl

theorem txbufWrite (p : Fin 2) (n : Fin 4) (k : Fin 20) (v : Word) : Statement (.txbufWrite p n k v) := of_none rfl

theorem listenExit (n : Fin 4) : Statement (.listenExit n) := of_none rfl

theorem ethFrameReceive (n : Fin 3) (f : EthFrame) : Statement (.ethFrameReceive n f) := of_none rfl

theorem pauseTimerExpire (n : Fin 3) : Statement (.pauseTimerExpire n) := of_none rfl

theorem pauseLong (n : Fin 3) : Statement (.pauseLong n) := of_none rfl

theorem ethFrameSend (n : Fin 3) (handed : List TxFrame) : Statement (.ethFrameSend n handed) := of_none rfl

theorem linkUp (n : Fin 3) (speed : Fin 8) (full mdix : Bool) : Statement (.linkUp n speed full mdix) := of_none rfl

theorem linkDown (n : Fin 3) (localFault remoteFault : Bool) : Statement (.linkDown n localFault remoteFault) := of_none rfl

theorem sfpRead (n : Fin 2) (byte12 : Option Nat) : Statement (.sfpRead n byte12) := of_none rfl

theorem sfpChange (n : Fin 2) (abs los txflt : Bool) : Statement (.sfpChange n abs los txflt) := of_none rfl

theorem ethCtlWrite (p : Fin 2) (n : Fin 3) (v : Word) : Statement (.ethCtlWrite p n v) := of_none rfl

theorem ethHashWrite (p : Fin 2) (n : Fin 3) (k : Fin 16) (v : Word) : Statement (.ethHashWrite p n k v) := of_none rfl

theorem ethStationTimeout (n : Fin 3) (k : Fin 64) : Statement (.ethStationTimeout n k) := of_none rfl

theorem syncReceive (m : PtpMsg) : Statement (.syncReceive m) := of_none rfl

theorem followUpReceive (m : PtpMsg) : Statement (.followUpReceive m) := of_none rfl

theorem delayReqReceive (m : PtpMsg) : Statement (.delayReqReceive m) := of_none rfl

theorem delayRespReceive (m : PtpMsg) : Statement (.delayRespReceive m) := of_none rfl

theorem pdelayReqReceive (m : PtpMsg) : Statement (.pdelayReqReceive m) := of_none rfl

theorem pdelayRespReceive (m : PtpMsg) : Statement (.pdelayRespReceive m) := of_none rfl

theorem pdelayRespFollowUpReceive (m : PtpMsg) : Statement (.pdelayRespFollowUpReceive m) := of_none rfl

theorem announceReceive (m : PtpAnnounce) : Statement (.announceReceive m) := of_none rfl

theorem masterLost : Statement (.masterLost) := of_none rfl

theorem holdoverLimit : Statement (.holdoverLimit) := of_none rfl

theorem ptpMessageSend (n : Fin 3) (k : PtpSend) : Statement (.ptpMessageSend n k) := of_none rfl

theorem stampTake (q : Fin 4) : Statement (.stampTake q) := of_none rfl

theorem ptpSet (p : Fin 2) : Statement (.ptpSet p) := of_none rfl

theorem ptpAdjust (p : Fin 2) : Statement (.ptpAdjust p) := of_none rfl

theorem ptpAddendWrite (p : Fin 2) (v : Word) : Statement (.ptpAddendWrite p v) := of_none rfl

theorem ptpCtlWrite (p : Fin 2) (v : Word) : Statement (.ptpCtlWrite p v) := of_none rfl

theorem trimPulse : Statement (.trimPulse) := of_none rfl

theorem bkdWrap : Statement (.bkdWrap) := of_none rfl

theorem bkdAlarm : Statement (.bkdAlarm) := of_none rfl

theorem bkdWake : Statement (.bkdWake) := of_none rfl

theorem bkdWakeWrite (p : Fin 2) (v : Word) : Statement (.bkdWakeWrite p v) := of_none rfl

theorem setCount (p : Fin 2) : Statement (.setCount p) := of_none rfl

theorem setCountLoad : Statement (.setCountLoad) := of_none rfl

theorem bkdArm (p : Fin 2) : Statement (.bkdArm p) := of_none rfl

theorem disarm (p : Fin 2) : Statement (.disarm p) := of_none rfl

theorem capture (p : Fin 2) : Statement (.capture p) := of_none rfl

theorem captureLatch : Statement (.captureLatch) := of_none rfl

theorem crcCheck (p : Fin 2) : Statement (.crcCheck p) := of_none rfl

theorem restored (p : Fin 2) : Statement (.restored p) := of_none rfl

theorem erase (p : Fin 2) (key : Fin 65536) : Statement (.erase p key) := of_none rfl

theorem bkdByteWrite (p : Fin 2) (k : Fin 16) (v : Word) : Statement (.bkdByteWrite p k v) := of_none rfl

theorem bkdSupplySwitch (vbat : Bool) (upsets : List (Nat × Nat)) : Statement (.bkdSupplySwitch vbat upsets) := of_none rfl

theorem lockout : Statement (.lockout) := of_none rfl

theorem lockoutExit : Statement (.lockoutExit) := of_none rfl

theorem backupDomainReset : Statement (.backupDomainReset) := of_none rfl

theorem oscStop : Statement (.oscStop) := of_none rfl

theorem logRecordWrite : Statement (.logRecordWrite) := of_none rfl

theorem logFloodSecond : Statement (.logFloodSecond) := of_none rfl

theorem epochApply (p : Fin 2) (apply : Bool) : Statement (.epochApply p apply) := of_none rfl

theorem fwBlockHeader (r : OpRef) (b : HostBuf) (mramOk : Bool) : Statement (.fwBlockHeader r b mramOk) := of_none rfl

theorem fwBlockTable (r : OpRef) (b : HostBuf) (mramOk : Bool) : Statement (.fwBlockTable r b mramOk) := of_none rfl

theorem fwBlockHallmark (r : OpRef) (b : HostBuf) (mramOk : Bool) : Statement (.fwBlockHallmark r b mramOk) := of_none rfl

theorem fwBlockData (r : OpRef) (b : HostBuf) (mramOk : Bool) : Statement (.fwBlockData r b mramOk) := of_none rfl

theorem fwActivate (r : OpRef) (butty : Bool) : Statement (.fwActivate r butty) := of_none rfl

theorem fwActivateCold (r : OpRef) : Statement (.fwActivateCold r) := of_none rfl

theorem fwActivateGap (mask : Fin 32) (migrated : Bool) : Statement (.fwActivateGap mask migrated) := of_none rfl

theorem fwGapWaitExpire : Statement (.fwGapWaitExpire) := of_none rfl

theorem islIslandSwitch (migrated : Bool) : Statement (.islIslandSwitch migrated) := of_none rfl

theorem soakEnd : Statement (.soakEnd) := of_none rfl

theorem fwNetSwitch (migrated : Bool) : Statement (.fwNetSwitch migrated) := of_none rfl

theorem confirm (p : Fin 2) : Statement (.confirm p) := of_none rfl

theorem cancel (p : Fin 2) : Statement (.cancel p) := of_none rfl

theorem abandonStaging (p : Fin 2) : Statement (.abandonStaging p) := of_none rfl

theorem faultDeclare (found : Option FaultRep) (task : Option (Fin 96)) : Statement (.faultDeclare found task) := of_none rfl

theorem heartbeatMiss (u : Fin 8) (task : Option (Fin 96)) : Statement (.heartbeatMiss u task) := of_none rfl

theorem unitRestartDone (u : Fin 8) (ok : Bool) : Statement (.unitRestartDone u ok) := of_none rfl

theorem eccHigh (corrected : Nat) : Statement (.eccHigh corrected) := of_none rfl

theorem assaySliceStart (t : Fin 9) : Statement (.assaySliceStart t) := of_none rfl

theorem assaySliceEnd (t : Fin 9) (fail : Bool) : Statement (.assaySliceEnd t fail) := of_none rfl

theorem assayPeriodicRequest : Statement (.assayPeriodicRequest) := of_none rfl

theorem asyTest (p : Fin 2) (t : Fin 64) : Statement (.asyTest p t) := of_none rfl

theorem asyCalibrate (p : Fin 2) (t : Fin 64) : Statement (.asyCalibrate p t) := of_none rfl

theorem islandTestEnd (n : Fin 24) (fail : Bool) (limit : Bool) : Statement (.islandTestEnd n fail limit) := of_none rfl

theorem scrubPassEnd (mram : Bool) (corrected : Nat) : Statement (.scrubPassEnd mram corrected) := of_none rfl

theorem pmonClear (p : Fin 2) : Statement (.pmonClear p) := of_none rfl

theorem pmonFreeze (p : Fin 2) (freeze : Bool) : Statement (.pmonFreeze p freeze) := of_none rfl

theorem pmonSelWrite (p : Fin 2) (c : Fin 16) (v : Word) : Statement (.pmonSelWrite p c v) := of_none rfl

theorem hostLinkUp (p : Fin 2) (wide : Bool) (speed : Fin 4) : Statement (.hostLinkUp p wide speed) := of_none rfl

theorem referenceCrystalStart : Statement (.referenceCrystalStart) := of_none rfl

theorem islandLinkReturn (n : Fin 24) : Statement (.islandLinkReturn n) := of_none rfl

theorem tickCrystalRestart : Statement (.tickCrystalRestart) := of_none rfl

theorem bkdVbatMeasure (centivolts : Nat) : Statement (.bkdVbatMeasure centivolts) := of_none rfl

theorem daliFrameDone (n : Fin 4) (e : DaliEnd) (coll : Nat) : Statement (.daliFrameDone n e coll) := of_none rfl

theorem daliRawWaitExpire (n : Fin 4) : Statement (.daliRawWaitExpire n) := of_none rfl

end Sys2Proof.Laws.BlockWord
end

