-- ==== Sys2Proof/Tests/Slice0.lean ====
section
/-! SUPPORT. The model's own tests: ill-formed commands that the well-formedness check refuses, and for each statement with
hypotheses a state and operands that meet them. -/

namespace Sys2Proof.Machine

/-! ## States of the witnesses -/

/-- A submission entry with an opcode and arguments, no buffer. -/
def wEntry (op arg0 arg1 arg2 : Nat) : SubEntry :=
  { opcode := op, flags := 0, cid := 7, arg0 := arg0, arg1 := arg1, bufLen := 0, bufAddr := 0, arg2 := arg2
    arg3 := List.replicate 32 0#8 }

/-- An operation of SQ 1 that waits. -/
def wtOp (op arg0 arg1 arg2 : Nat) : Op := ⟨0, 1, wEntry op arg0 arg1 arg2, 0, 1, false, none⟩

/-- Its name on port A. -/
def wRef : OpRef := ⟨0, 1, 7⟩

/-- The state after reset with port A's link up. -/
def wUp : State := State.reset.p (F.HP_ID_LINK_UP 0) 1

/-- The module in SERVICE with port A's link up and every gate held by port A. -/
def wSvc : State :=
  let s := wUp.p F.PCR_STATUS_PHASE 5
  { s with pwr := { s.pwr with domainsUp := true }
           gates := (List.range 64).map (fun n => (n, ({ holder := some 0 } : Gate))) }

/-- The module in SERVICE with one operation that waits on port A. -/
def wRun (o : Op) : State := { wSvc with hpA := { wSvc.hpA with ops := [o] } }

/-- The buffer of an operation, empty. -/
def wBuf : HostBuf := ⟨true, [], []⟩

/-! ## Host ports -/

def wRings : State :=
  (((wUp.p (F.HP_CQ_CFG_ENABLE 0 3) 1).p (F.HP_CQ_CFG_SIZE_LOG2 0 3) 4).p (F.HP_SQ_CFG_ENABLE 0 1) 1).p
    (F.HP_SQ_CFG_SIZE_LOG2 0 1) 4

theorem witness_idle : State.reset.pending = [] := rfl

theorem witness_ringEnable :
    (wRings.linkUp 0 = true ∧ wRings.sqOn 0 5 = false ∧ bits 0x03000004 0 5 = 4
      ∧ bits (wRings.rn (R.HP_SQ_BASE_LO 0 5)) 0 12 = 0 ∧ wRings.cqOn 0 (bits 0x03000004 24 6) = true
      ∧ (∀ m : Fin 64, wRings.sqOn 0 m = true → wRings.sqCq 0 m = 3 → wRings.sqCtx 0 m = 0)
      ∧ wRings.ctxBound (bits 0x03000004 16 8) = true ∧ wRings.fwu.recovery = false)
    ∧ (wRings.cqOn 0 4 = false ∧ bits 0x00000010 0 5 = 16 ∧ bits (wRings.rn (R.HP_CQ_BASE_LO 0 4)) 0 12 = 0) := by decide

theorem witness_ringDisable :
    (wRings.sqOn 0 1 = true ∧ 4 &&& sqCfgMask = wRings.rn (R.HP_SQ_CFG 0 1) &&& sqCfgMask)
    ∧ (wRings.cqOn 0 3 = true ∧ 4 &&& cqCfgMask = wRings.rn (R.HP_CQ_CFG 0 3) &&& cqCfgMask
      ∧ (∀ m : Fin 64, wRings.sqCq 0 m = 3 → wRings.sqOn 0 m = false ∧ wRings.sqInFlight 0 m = 0))
    ∧ (15 < wRings.sqSize 0 1 ∧ wRings.g (F.HP_SQ_CFG_SIZE_LOG2 0 1) ≤ 16)
    ∧ (0 < wRings.cqSize 0 3 ∧ wRings.g (F.HP_CQ_CFG_SIZE_LOG2 0 3) ≤ 16) := by decide

/-- SQ 1 on CQ 0, both enabled; SQ 1 has an entry. -/
def wFetch : State :=
  let s := ((((wSvc.p (F.HP_SQ_CFG_ENABLE 0 1) 1).p (F.HP_SQ_CFG_SIZE_LOG2 0 1) 4).p (F.HP_SQ_TAIL_INDEX 0 1) 2).p
    (F.HP_CQ_CFG_ENABLE 0 0) 1).p (F.HP_CQ_CFG_SIZE_LOG2 0 0) 4
  { s with hpA := { s.hpA with notes := [⟨0, noteOf ⟨1, 0, 7, 0, 0, [0]⟩ 0 {} false⟩], cq := [(0, { timer := true })]
                               msix := [(3, 0#32)], cfg := [(0x50, 0x807F6011#32)] } }

def wComp : Comp := (wtOp 0 0 0 0).comp 0 0

theorem witness_fetch :
    (wFetch.mayFetch 0 = true ∧ wFetch.nextSq 0 = some 1 ∧ wFetch.g (F.HP_SQ_CFG_SIZE_LOG2 0 1) ≤ 16
      ∧ entryCheck wFetch.fwu.recovery (wFetch.sqCtx 0 1) (subEntry (List.replicate 64 0#8)) = none)
    ∧ (wFetch.linkUp 0 = true ∧ wFetch.cqRoom 0 0 = true
      ∧ ({ wFetch with hpA := { wFetch.hpA with cancels := [(0, wRef, wComp)] } } : State).nextCancel 0 0
          = some (0, wRef, wComp))
    ∧ (wFetch.nextCancel 0 0 = none
      ∧ ({ wFetch with hpA := { wFetch.hpA with ops := [{ wtOp 0 0 0 0 with started := true, done := some wComp }] } }
          : State).nextDone 0 0 = some { wtOp 0 0 0 0 with started := true, done := some wComp })
    ∧ (wFetch.port 0).notes.find? (fun x => x.cq == 0) = some ⟨0, noteOf ⟨1, 0, 7, 0, 0, [0]⟩ 0 {} false⟩
    ∧ (let s := wFetch.p (F.HP_CQ_CFG_IEN 0 0) 1
       (tget (s.port 0).cq {} 0).timer = true ∧ s.linkUp 0 = true ∧ s.g (F.HP_CQ_CFG_IEN 0 0) = 1
        ∧ s.msixOn 0 = true ∧ s.msixMasked 0 (s.g (F.HP_CQ_CFG_IV 0 0)) = false)
    ∧ (let s := ({ wFetch with edges := [2] } : State).p (F.IRT_ROUTE_ENA 2) 1
       2 ∈ s.edges ∧ s.linkUp 0 = true ∧ s.g (F.IRT_ROUTE_ENA 2) = 1 ∧ s.g (F.IRT_ROUTE_ENB 2) = 0
        ∧ s.msixOn 0 = true ∧ s.msixMasked 0 (s.g (F.IRT_ROUTE_VECA 2)) = false) := by decide

theorem witness_ports : wUp.linkUp 0 = true ∧ State.reset.pwr.railsOff = false := by decide

theorem witness_gates :
    (wUp.linkUp 0 = true ∧ wUp.fwu.recovery = false ∧ (wUp.gate 63).holder = none)
    ∧ ((wSvc.p (F.HP_ID_LINK_UP 1) 1).linkUp 1 = true ∧ wSvc.fwu.recovery = false
      ∧ (wSvc.gate 0).holder = some 0 ∧ (wSvc.gate 0).gen < 256)
    ∧ (wSvc.linkUp 0 = true ∧ (wSvc.gate 0).holder = some (0 : Fin 2).val) := by decide

theorem witness_audit :
    (wUp.gate 5).holder ≠ some 0
    ∧ (({ wUp with gates := [(5, { audited := true })] } : State).gate 5).audited = true
    ∧ (({ wUp with gates := [(5, { audited := true, unreported := 2 })] } : State).gate 5).unreported ≠ 0
    ∧ (tget [(9, ({ reported := true } : Deny))] {} 9).first = none
    ∧ (tget [(9, ({ reported := true, first := some 4 } : Deny))] {} 9).first = some 4 := by decide

theorem witness_points :
    let x : Slot := { quality := 1, typ := 1 }
    let base : Op → State := fun o =>
      let s := (wRun o).p F.REP_NODE_NODE 17
      { s with pix := { s.pix with slots := [(5, x)] }, rep := { s.rep with own := [(0, { owner := 17 })] } }
    ((wRun (wtOp 0 0 0 0)).phase ≠ 7 ∧ findStart wRef [] ((wRun (wtOp 0 0 0 0)).port 0).ops = some (wtOp 0 0 0 0))
    ∧ (findStart wRef [] ((base (wtOp 1 5 0 0)).port 0).ops = some (wtOp 1 5 0 0) ∧ ptCount (wtOp 1 5 0 0).entry = 1
      ∧ ((base (wtOp 1 5 0 0)).slot 5).present = true ∧ (base (wtOp 1 5 0 0)).sees 0 x = true
      ∧ ((base (wtOp 1 5 0 0)).slot 5).badCrc = none ∧ (base (wtOp 1 5 0 0)).readWaits wRef = false)
    ∧ (let o := { wtOp 1 5 3 0 with entry := { wEntry 1 5 3 0 with bufLen := 96 } }
       findStart wRef [] ((base o).port 0).ops = some o ∧ o.entry.bufLen ≠ 0 ∧ writeStatus o.entry wBuf = 0
        ∧ (base o).readWaits wRef = false)
    ∧ (findStart wRef [] ((base (wtOp 2 5 1 9)).port 0).ops = some (wtOp 2 5 1 9)
      ∧ (base (wtOp 2 5 1 9)).ownsSlot 5 = true ∧ ((base (wtOp 2 5 1 9)).slot 5).binding = 0 ∧ encodedAs 1 9 = true
      ∧ ((base (wtOp 2 5 1 9)).slot 5).forced = false)
    ∧ (findStart wRef [] ((base (wtOp 3 5 1 0)).port 0).ops = some (wtOp 3 5 1 0) ∧ natBit 1 31 = false
      ∧ ((base (wtOp 3 5 1 0)).port 0).subCount + 1 ≤ 65536)
    ∧ (findStart wRef [] ((base (wtOp 3 5 0x80000001 0)).port 0).ops = some (wtOp 3 5 0x80000001 0)
      ∧ natBit 0x80000001 31 = true) := by decide

theorem witness_forces :
    let base : Slot → Op → State := fun x o =>
      let s := (wRun o).p F.REP_NODE_NODE 17
      { s with pix := { s.pix with slots := [(5, x)] }, rep := { s.rep with own := [(0, { owner := 17 })] } }
    let a := base { quality := 1, typ := 1 } (wtOp 4 5 1 9)
    let b := base { quality := 2, typ := 1, forced := true } (wtOp 5 5 0 0)
    (findStart wRef [] (a.port 0).ops = some (wtOp 4 5 1 9) ∧ a.ownsSlot 5 = true ∧ (a.slot 5).typ = 1
      ∧ a.forceRoom (.slot 5) = true ∧ a.safetyOut 5 = false ∧ a.outBindOf 5 = none)
    ∧ (let d := ({ a with scn := { a.scn with img := some { (default : Image) with binds := [{ (default : BindEnt) with dir := 1, index := 5, typ := 1, fieldOut := 0x5203 }] } } } : State)
       (d.outBindOf 5).map (fun b => (b.fieldOut / 256, b.fieldOut % 256)) = some (0x52, 3) ∧ d.safetyOut 5 = false)
    ∧ (findStart wRef [] (b.port 0).ops = some (wtOp 5 5 0 0) ∧ b.ownsSlot 5 = true ∧ (b.slot 5).forced = true)
    ∧ (base { quality := 1 } (wtOp 5 5 0 0)).ownsSlot 5 = true := by decide

theorem witness_registers :
    (wSvc.linkUp 0 = true ∧ R.LOG_EVENT % 4 = 0 ∧ (∃ r, regRow R.LOG_EVENT = some r ∧ r.acc = .w1c)
      ∧ (∃ b, blockAt R.LOG_EVENT = some b ∧ b.desc ≠ 2) ∧ wSvc.responds R.LOG_EVENT = true)
    ∧ (∃ r, regRow R.MOD_ID = some r ∧ r.acc = .ro) ∧ regRow 0x1000000 = none ∧ regRow 0xFFFFFC = none
    ∧ ((∃ r, regRow R.LOG_CTL = some r ∧ r.acc = .rwg) ∧ (∃ b n, blockAt R.LOG_CTL = some b ∧ b.gate = some n
      ∧ wUp.holds 0 n = false ∧ b.desc ≠ 2))
    ∧ wSvc.holds 0 0 = true
    ∧ ((∃ r, regRow (R.SCN_T_EXEC_MAX 95) = some r ∧ r.acc = .rc) ∧ wSvc.responds (R.SCN_T_EXEC_MAX 95) = true)
    ∧ ((∃ r, regRow R.PTP_TIME_NS = some r ∧ r.acc = .snap) ∧ R.PTP_TIME_NS = snapLow R.PTP_TIME_NS
      ∧ wSvc.responds R.PTP_TIME_NS = true) := by
  refine ⟨⟨by decide, by decide, ⟨_, rfl, rfl⟩, ⟨_, rfl, by decide⟩, by decide⟩, ⟨_, rfl, rfl⟩, by decide, by decide,
    ⟨⟨_, rfl, rfl⟩, _, _, rfl, rfl, by decide, by decide⟩, by decide, ⟨⟨_, rfl, rfl⟩, by decide⟩,
    ⟨_, rfl, rfl⟩, by decide, by decide⟩

/-! ## Power, resets, start -/

/-- The module in HOLDUP after a detection in SERVICE. -/
def wHold : State :=
  let s := (wSvc.p F.PCR_STATUS_PHASE 6).p F.PCR_STATUS_PFAIL 1
  { s with pwr := { s.pwr with inService := true } }

theorem witness_power :
    (wSvc.g F.PCR_STATUS_PFAIL = 0 ∧ wSvc.pwr.railsOff = false ∧ wSvc.pwr.resetting = false ∧ wSvc.phase = 5)
    ∧ (wHold.g F.PCR_STATUS_PFAIL = 1 ∧ wHold.pwr.committed = false
      ∧ (wHold.p F.MTR_STATUS_STATE 1).g F.MTR_STATUS_STATE = 1 ∧ wHold.g F.PCR_STATUS_HOLDUP_FAULT = 0)
    ∧ (let s := ({ wHold with mtr := { wHold.mtr with doneUp := 200000 } } : State).p F.MTR_STATUS_STATE 1
       s.pwr.failUp + 100000 ≤ s.mtr.doneUp)
    ∧ (wHold.pwr.at21 = false ∧ wHold.phase = 6 ∧ wHold.pwr.inService = true)
    ∧ (wHold.p F.PCR_STATUS_PHASE 7).phase ≠ 6 ∧ (wHold.p F.PCR_STATUS_PHASE 7).g F.PCR_STATUS_PFAIL = 1 := by decide

theorem witness_resets :
    (wSvc.holds 0 0 = true ∧ bits 0x5A170001 16 16 = 0x5A17 ∧ natBit 0x5A170001 0 = true ∧ bits 1 16 16 ≠ 0x5A17)
    ∧ (({ wSvc with pwr := { wSvc.pwr with resetOrdered := some 2 } } : State).phase ≠ 6)
    ∧ (({ wSvc with pwr := { wSvc.pwr with resetting := true } } : State).g F.PCR_STATUS_PFAIL = 0
      ∧ strapCode ⟨true, false⟩ ≠ 3) := by decide

theorem witness_start :
    (State.reset.phase = 0 ∧ State.reset.pwr.railsOff = false ∧ State.reset.g F.PCR_STATUS_PFAIL = 0)
    ∧ State.reset.g F.PCR_STATUS_XTAL_FAIL = 0
    ∧ ((State.reset.p F.PCR_STATUS_PHASE 1).phase = 1 ∧ (State.reset.p F.PCR_STATUS_PHASE 1).g F.PCR_STATUS_REFCLK_OK = 0)
    ∧ (let s := (State.reset.p F.PCR_STATUS_PHASE 1).p F.PCR_STATUS_REFCLK_OK 1
       s.g F.PCR_STATUS_REFCLK_OK = 1 ∧ s.fwu.recovery = false ∧ s.g F.MOD_STRAP_RECOVERY = 0 ∧ s.sec.debug = false
        ∧ s.bootReason ⟨true, true, true, 0, 0⟩ s.partBanks = none ∧ s.fwu.map0.ok = true ∧ s.fwu.map1.ok = true)
    ∧ ((State.reset.p F.PCR_STATUS_PHASE 2).phase = 2 ∧ State.reset.pwr.keelDone = false)
    ∧ ((State.reset.p F.PCR_STATUS_BANK_CHARGED 1).g F.PCR_STATUS_BANK_CHARGED = 1 ∧ State.reset.settings = [])
    ∧ (State.reset.p F.PCR_STATUS_PHASE 3).phase = 3
    ∧ ((State.reset.p F.PCR_STATUS_PHASE 4).phase = 4
      ∧ (State.reset.p F.DPX_STATUS_GRANT_OUT 1).g F.DPX_STATUS_GRANT_OUT = 1 ∧ State.reset.scn.img = none) := by decide

/-! ## Point image and replication -/

/-- The module in SERVICE as node 17, which owns block 17, while node 3 owns block 3. -/
def wRep : State :=
  let s := (((wSvc.p F.REP_CTL_ENABLE 1).p F.REP_CTL_ETH0_EN 1).p F.REP_NODE_NODE 17).p F.REP_CTL_LOCAL_TIME_OK 1
  { s with rep := { s.rep with own := [(3, { owner := 3, c1 := 17, auto := true }), (17, { owner := 17 })]
                               origins := [(3, { seq := some 8, heard := true })] }
           pix := { s.pix with slots := [(3100, { quality := 1, typ := 1 }), (17450, { quality := 1, typ := 3 })] } }

def wFrame (l : List ZSlot) : ZFrame :=
  ⟨1, 1, 3, l.length, 9, 0, 0, false, false, 0, 0, true, true, .slots l⟩

def wNew : ZSlot := ⟨3100, 5#64, 4, 0, 1, 3, 1, 0, 7, true⟩

/-- The payload of a frame. -/
def wPay (l : List ZSlot) : List Byte := zframeBytes (wFrame l)

set_option maxRecDepth 100000 in
/-- A frame formed by R113 is read back, entry and CRCs with it. -/
theorem test_zaderBytes : zframe (wPay [wNew]) = wFrame [wNew] := by decide

theorem witness_zaderSend :
    let d := { wRep with pix := { wRep.pix with dirty := [17450] } }
    wRep.repSends = true ∧ d.updateSlots ≠ []
    ∧ wRep.mayOriginate = true ∧ wRep.core 1 = true
    ∧ ({ wRep with rep := { wRep.rep with wants := [(3, [])] } } : State).rep.wants.find? (fun w => w.1 == 3) = some (3, [])
    ∧ wRep.owns 17 = true ∧ wRep.g F.REP_REFRESH_REFRESH_S ≠ 0
    ∧ (wRep.blocksOf wRep.node).find? (fun c => Nat.ble wRep.rep.sweepAt c) = some 17 := by decide

/-- No slot of the image that the witnesses use holds an upset CRC word. -/
theorem wRep_good : ∀ i, (wRep.slot i).badCrc = none := by
  intro i
  have h : wRep.pix.slots = [(3100, { quality := 1, typ := 1 }), (17450, { quality := 1, typ := 3 })] := by decide
  simp only [State.slot, h, tget]
  split
  · rfl
  · split <;> rfl

set_option maxRecDepth 100000 in
theorem witness_zaderReceive :
    (wRep.p F.REP_CTL_ETH0_EN 0).g F.REP_CTL_ETH0_EN = 0
    ∧ wRep.repOn = true ∧ wRep.g F.REP_CTL_ETH0_EN = 1
    ∧ wRep.frameForm (zframe [2#8]) = false
    ∧ ((wRep.p F.REP_CTL_ETH1_EN 1).g F.REP_CTL_ETH1_EN = 1
      ∧ wRep.frameForm (zframe (zframeBytes { wFrame [] with origin := 17 })) = true
      ∧ (zframe (zframeBytes { wFrame [] with origin := 17 })).origin = wRep.node)
    ∧ (wRep.frameForm (wFrame [wNew]) = true ∧ (wRep.origin 3).seq = some 8 ∧ (8 + 1) % 2 ^ 32 = 9
      ∧ (wRep.ownOf (3100 % 262144 / 1024)).owner = 3 ∧ wRep.clockValid = false
      ∧ mergeWins (wRep.slot 3100) wNew = true ∧ mergeWins { value := 1#64, time := 9 } wNew = false) := by decide

set_option maxRecDepth 100000 in
theorem witness_resync :
    let r : Resync := ⟨[], false, 2, false⟩
    (tget ({ wRep.rep with resync := [(3, some r)] }).resync none 3 = some r ∧ wRep.repOn = true
      ∧ (wRep.ownOf 3).owner ≠ 0 ∧ wRep.owns 3 = false ∧ r.tries < 3 ∧ 3 ≤ ({ r with tries := 3 } : Resync).tries)
    ∧ ((wRep.origin 3).heard = true ∧ (wRep.origin 3).silent = false)
    ∧ (wRep.canonical = true ∧ wRep.g F.PIX_CTL_SCRUB_MS ≠ 0 ∧ 0 ≠ crc32c (wRep.slot 3100).body
      ∧ wRep.ownsSlot 3100 = false ∧ 0 ≠ crc32c (wRep.slot 17450).body ∧ wRep.ownsSlot 17450 = true
      ∧ 17450 ∉ wRep.pix.faulted) := by decide

theorem witness_ownership :
    (wRep.mayWrite 0 R.REP_OWN_CMD = true ∧ wRep.owns 3 = false ∧ wRep.mayOriginate = true)
    ∧ (let s := { wRep with rep := { wRep.rep with origins := [(3, { heard := true, silent := true })] } }
       s.mayOriginate = true ∧ (s.ownOf 3).auto = true ∧ s.rank 3 ≠ 0 ∧ (s.ownOf 3).owner ≠ s.node ∧ (s.ownOf 3).owner ≠ 0
        ∧ (s.origin (s.ownOf 3).owner).silent = true)
    ∧ (wRep.owns 17 = true ∧ wRep.rn64 R.REP_OWN_TIME_LO = 0)
    ∧ (let s := wRep.wn R.REP_OWN_TIME_LO 1000
       s.ptpNs < s.rn64 R.REP_OWN_TIME_LO)
    ∧ [(⟨17, 20, 1000⟩ : PlannedRelease)].find? (fun x => x.block == 17) = some ⟨17, 20, 1000⟩ := by decide

/-! ## Tasks -/

/-- An image for node 17: cyclic task 0 with one input and one output on SP0, event task 40 of ring triggers on SP1. -/
def wImg : Image :=
  { (default : Image) with
    node := 17
    tasks := [⟨0, 0, false, 10, 0, 100000, 8, 0, 0, 1, 1, 0, 0, 0⟩, ⟨40, 1, false, 20, 1, 1000, 8, 4, 0, 0, 0, 2, 0, 0⟩]
    layout := [⟨0, 2, 64, 1024, 0, 8⟩, ⟨40, 2, 64, 1024, 0, 0⟩]
    code := [0, 0x0A000000]
    binds := [⟨0, 0, 0, 17450, 3, false, 255, 0, 0⟩, ⟨0, 1, 0, 17451, 3, true, 255, 0, 0⟩]
    slots := [⟨17451, 0, 3, false, false, 1, 0x1000000, 0, 0⟩] }

/-- `wRep` with the image loaded in mode `m`, the pairs well and the tasks in the given run states. -/
def wScn (m : Nat) (r : TaskRun) (q : TaskRun := { st := .idle }) : State :=
  let s := (wRep.p F.SCN_STATUS_MODE m).p F.SCN_STATUS_PAIR_OK 15
  { s with scn := { s.scn with img := some wImg, task := [(0, r), (40, q)] } }

def wEnt (n : Nat) : TaskEnt := (wImg.taskEnt n).getD default

theorem witness_releases :
    (let s := wScn 1 { st := .idle }
     s.ent 0 = some (wEnt 0) ∧ s.releases = true ∧ (s.task 0).st = .idle ∧ (s.task 0).suspend = false
      ∧ s.scn.ctl = [] ∧ s.runningOn 0 = none)
    ∧ (let s := wScn 1 { st := .idle }
       let t := { s with scn := { s.scn with trigs := [40] } }
       t.ent 40 = some (wEnt 40) ∧ 40 ∈ t.scn.trigs ∧ (wEnt 40).kind ≠ 0 ∧ t.releases = true ∧ (t.task 40).st = .idle
        ∧ (t.task 40).pend = false ∧ t.intervalOver (wEnt 40) = true)
    ∧ ((wScn 1 {} { st := .running, pend := true }).task 40).st ≠ .absent
    ∧ (let s := wScn 1 {} { st := .idle, armed := some 5000 }
       (s.task 40).armed = some 5000 ∧ s.releases = true ∧ s.intervalOver (wEnt 40) = true)
    ∧ (let s := wScn 1 {} { st := .idle, pend := true }
       s.releases = true ∧ (s.task 40).pend = true ∧ (s.task 40).st = .idle) := by decide

theorem witness_cycle :
    (let s := wScn 1 { st := .running }
     s.ent 0 = some (wEnt 0) ∧ s.running = true ∧ s.synced = false ∧ (s.task 0).st = .running ∧ (s.task 0).latched = false
      ∧ s.pairRuns 0 = true ∧ s.olc.change = none ∧ s.img.bind 0 0 0 = some ⟨0, 0, 0, 17450, 3, false, 255, 0, 0⟩)
    ∧ (let s := (((wScn 1 { st := .running }).p F.DPX_STATUS_PAIR_STATE 3).p F.DPX_STATUS_GRANT_OUT 1)
       s.synced = true ∧ s.isButty = false ∧ s.running = true ∧ (s.task 0).st = .running ∧ s.pairRuns 0 = true)
    ∧ (let x := wScn 1 { st := .running, latched := true, shipped := true, ended := true
                         outImg := [(0, ⟨some 7#64, none⟩)] }
       let s := { x with pix := { x.pix with slots := [(17451, { quality := 1, typ := 3, binding := 2 ^ 28 })] } }
       (s.task 0).ended = true ∧ s.loopsDone 0 (s.task 0) = true ∧ ((s.outBinds 0).map (fun b => b.index)).Nodup
        ∧ (s.outBinds 0).length = 1
        ∧ s.pairRuns 0 = true
        ∧ (∀ b ∈ s.outBinds 0, s.ownsSlot b.index = true ∧ s.bound b = true ∧ (s.slot b.index).forced = false ∧ b.fieldOut / 256 = 0
            ∧ b.station ∉ s.scn.lost ∧ ((s.task 0).outEnt b.entry).value ≠ none))
    ∧ (let s := wScn 1 { st := .running, commit := true }
       (s.task 0).inCycle = true ∧ (s.task 0).commit = true ∧ s.scn.stopping = none ∧ (s.img.layoutOf 0).retSize ≠ 0) := by
  decide

theorem witness_stops :
    (let s := wScn 1 { st := .running }
     s.running = true ∧ s.mode = 1 ∧ (s.task 0).inCycle = true ∧ (s.task 0).commit = false)
    ∧ (let s := wScn 2 { st := .running, latched := true, shipped := true, pc := 4 }
       let t := { s with scn := { s.scn with breaks := [(0, 4)] } }
       t.mode = 2 ∧ (0, (t.task 0).pc) ∈ t.scn.breaks ∧ t.le.wr = [] ∧ t.g F.SCN_CTL_HOLD_OUT = 0)
    ∧ (let s := wScn 1 { st := .running, latched := true, shipped := true }
       s.runningOn 0 = some (wEnt 0) ∧ s.running = true ∧ s.pairRuns 0 = true ∧ s.mode = 1 ∧ (s.task 0).ar 9 = 0#64) := by
  decide

/-- `wScn` with a TASK_CTL operation that waits. -/
def wCtl (m target action arg : Nat) (r : TaskRun) (q : TaskRun := { st := .idle }) : State :=
  let s := wScn m r q
  { s with hpA := { s.hpA with ops := [wtOp 0x12 target action arg] }, scn := { s.scn with byCmd := true } }

/-- A SYNCED pair in RUN with the TASK_CTL operation SET_BREAK waits for the release at 10 ms. -/
theorem witness_taskHeld :
    let s := (wCtl 1 0 8 4 { st := .idle }).p F.DPX_STATUS_PAIR_STATE 3
    s.synced = true ∧ s.releases = true ∧ s.ctlInstant ≠ none ∧ s.taskRefusal 0 8 4 = 0
      ∧ findStart wRef [] (s.port 0).ops = some (wtOp 0x12 0 8 4) := by decide

theorem witness_taskCtl :
    let ok : State → Nat → Nat → Nat → Bool := fun s target action arg =>
      s.phase != 7 && findStart wRef [] (s.port 0).ops == some (wtOp 0x12 target action arg)
        && s.taskRefusal target action arg == 0 && s.ctlInstant == none && s.scn.ctl.isEmpty && s.scn.held.isEmpty
        && s.scn.stopping.isNone && !s.scn.outsSafe
    (ok (wCtl 0 0xFF 1 0 { st := .stopped }) 0xFF 1 0 = true ∧ ok (wCtl 2 0xFF 1 0 { st := .idle }) 0xFF 1 0 = true)
    ∧ (ok (wCtl 1 0xFF 2 0 { st := .idle }) 0xFF 2 0 = true
      ∧ (wCtl 1 0xFF 2 0 { st := .idle }).taskEnts.any (fun e => ((wCtl 1 0xFF 2 0 { st := .idle }).task e.task).inCycle) = false
      ∧ (wCtl 1 0xFF 2 0 { st := .idle }).le.wr = [] ∧ (wCtl 1 0xFF 2 0 { st := .idle }).g F.SCN_CTL_STOP_OUT = 0)
    ∧ ok (wCtl 1 0xFF 3 0 { st := .idle }) 0xFF 3 0 = true
    ∧ (let s := wCtl 0 0xFF 4 0 { st := .stopped }
       let t := { s with scn := { s.scn with ret := [(0, { half0 := ⟨[], true, []⟩ })] } }
       ok t 0xFF 4 0 = true ∧ t.mode = 0 ∧ t.badRetained = [])
    ∧ ok (wCtl 0 0xFF 5 0 { st := .stopped }) 0xFF 5 0 = true
    ∧ (let s := (wCtl 3 0 6 0 { st := .halted, latched := true }).p F.SCN_STATUS_HALT_TASK 0
       ok s 0 6 0 = true ∧ s.ent 0 = some (wEnt 0) ∧ s.pairRuns 0 = true ∧ wOp (s.wordAt 0) = 0)
    ∧ ok (wCtl 3 0xFF 7 0 { st := .halted }) 0xFF 7 0 = true
    ∧ ok (wCtl 1 0 8 4 { st := .idle }) 0 8 4 = true
    ∧ ok (wCtl 1 0 9 4 { st := .idle }) 0 9 4 = true
    ∧ ok (wCtl 1 0 10 0 { st := .idle }) 0 10 0 = true
    ∧ ok (wCtl 1 0 11 0 { st := .suspended, suspend := true }) 0 11 0 = true
    ∧ ok (wCtl 1 40 12 0 { st := .idle }) 40 12 0 = true
    ∧ ok { wCtl 1 40 13 900 { st := .idle } with
        scn := { (wCtl 1 40 13 900 { st := .idle }).scn with
          img := some { wImg with tasks := [{ wEnt 40 with trigKind := 3 }] } } } 40 13 900 = true := by decide

/-! ## Images and changes -/

/-- A program image of 256 bytes for node 17 with one cyclic task and the code NOP, RET. -/
def wBytes (origin : Nat) : List Byte :=
  natLE 4 0x4B425943 ++ natLE 2 1 ++ natLE 1 origin ++ natLE 1 0 ++ natLE 4 256 ++ natLE 2 3 ++ natLE 14 0
    ++ natLE 4 17 ++ natLE 4 0 ++ natLE 28 0
    ++ natLE 64 0xf5fefb0cb91b798fa031291ea566d2b07faa512147a0afcbb674a3937af52c48127694b681a11e8561a8ce4193b70af4dc2553027ba96864f4cacbba8f580d61
    ++ natLE 4 1 ++ natLE 4 176 ++ natLE 4 32 ++ natLE 4 1
    ++ natLE 4 2 ++ natLE 4 208 ++ natLE 4 24 ++ natLE 4 1
    ++ natLE 4 3 ++ natLE 4 232 ++ natLE 4 8 ++ natLE 4 2
    ++ natLE 2 0 ++ natLE 2 10 ++ natLE 4 100000 ++ natLE 4 8 ++ natLE 20 0
    ++ natLE 1 0 ++ natLE 3 2 ++ natLE 4 64 ++ natLE 4 1024 ++ natLE 12 0
    ++ natLE 4 0 ++ natLE 4 0x0A000000 ++ natLE 16 0

/-- An operation with a buffer of `n` bytes. -/
def wBufOp (op arg0 n : Nat) : Op := ⟨0, 1, { wEntry op arg0 0 0 with bufLen := n, bufAddr := 4096 }, 0, 1, false, none⟩

set_option maxRecDepth 100000 in
/-- Its DIGEST is right (R180). -/
theorem test_digest : check3 (wBytes 0) = none := by decide

set_option maxRecDepth 100000 in
theorem witness_imgLoad :
    let s := { wRep with hpA := { wRep.hpA with ops := [wBufOp 0x10 0 256] } }
    s.phase ≠ 7 ∧ findStart wRef [] (s.port 0).ops = some (wBufOp 0x10 0 256) ∧ s.synced = false ∧ s.olc.change = none
    ∧ s.fwu.armed = none ∧ readStatus (wBufOp 0x10 0 256).entry ⟨true, [], wBytes 0⟩ = 0 ∧ s.active = false
    ∧ s.imageChecks 256 (wBytes 0) true = none := by decide

/-- `wScn` with a variable of task 0 in the image. -/
def wVar (r : TaskRun) : State :=
  { wScn 1 r with scn := { (wScn 1 r).scn with img := some { wImg with origin := 1, digest := natLE 64 0, syms := [⟨77, 1, 0, 0, 8, 4⟩] } } }

/-- A VALUES record with one SET_VAR item. -/
def wRecord : List Byte := natLE 8 0 ++ natLE 8 1 ++ natLE 1 1 ++ natLE 1 0 ++ natLE 1 1 ++ natLE 5 0 ++ natLE 8 77 ++ natLE 8 5

set_option maxRecDepth 100000 in
theorem witness_changes :
    (let s := { wVar { st := .running } with hpA := { wRep.hpA with ops := [wBufOp 0x11 1 40] } }
     findStart wRef [] (s.port 0).ops = some (wBufOp 0x11 1 40) ∧ s.synced = false
      ∧ readStatus (wBufOp 0x11 1 40).entry ⟨true, [], wRecord⟩ = 0 ∧ s.valuesChecks 40 wRecord = none
      ∧ (∀ x ∈ parseItems wRecord, x.1.op ≠ 2 ∧ (s.task x.1.task).inCycle = true))
    ∧ (let s := { wVar { st := .idle } with hpA := { wRep.hpA with ops := [wBufOp 0x11 2 256] } }
       findStart wRef [] (s.port 0).ops = some (wBufOp 0x11 2 256)
        ∧ readStatus (wBufOp 0x11 2 256).entry ⟨true, [], wBytes 1⟩ = 0
        ∧ s.switchChecks 256 (wBytes 1) false true = none) := by decide

theorem witness_takeEffect :
    let o : Op := { wBufOp 0x11 1 40 with started := true }
    let x : ValItem := ⟨1, 0, 1, 0, 77, 5⟩
    (let s := { wVar { st := .idle } with hpA := { wRep.hpA with ops := [o] }
                                          olc := { change := some (.values wRef [x] [0] 0 0) } }
     (s.task 0).inCycle = false ∧ s.forceOf (.var x.task x.hash x.typ) = none
      ∧ s.img.variable? x.task x.hash x.typ = some ⟨77, 1, 0, 0, 8, 4⟩ ∧ (s.ent 0).isSome = true
      ∧ s.opRunning wRef = some o)
    ∧ (wVar { st := .idle, relUp := some 0 }).gapNow (switchNs wImg wImg) = true
    ∧ (wVar { st := .idle, relUp := some 0 }).lostEntry wImg = none
    ∧ (let s := { wVar { st := .idle, relUp := some 0 } with
          olc := { forces := [(0, some ⟨.var 0 77 1, 1, 5#64⟩)], change := some (.switch wRef [] wImg false 0) } }
       s.gapNow (switchNs s.img wImg) = true ∧ s.lostEntry wImg = some (10, 0)) := by decide

/-! ## Block code -/

/-- The words of the worked example of chapter 7 decode to the instructions it names. -/
theorem test_decode :
    decodeBc 0x26080002 = bcLdin 1 2 ∧ decodeBc 0x28100002 = bcLdiq 2 2 ∧ decodeBc 0x1218000F = bcLdi 3 15
    ∧ decodeBc 0x72104180 = bcAnd 2 2 3 ∧ decodeBc 0x12200001 = bcLdi 4 1 ∧ decodeBc 0x3E284200 = bcCmpD 5 2 4 0
    ∧ decodeBc 0x16082005 = bcSel 1 1 0 5 ∧ decodeBc 0x14300000 = bcLdk 6 0 ∧ decodeBc 0x5C382302 = bcCmpR 32 7 1 6 2
    ∧ decodeBc 0x2C380001 = bcStout 7 1 ∧ decodeBc 0x0A000000 = bcRet :=
  ⟨rfl, rfl, rfl, rfl, rfl, rfl, rfl, rfl, rfl, rfl, rfl⟩

/-- They are the words of the rows. -/
theorem test_encode :
    encodeBc (.ldin 0 1 2) = some (0, 0x26080002) ∧ encodeBc (.ldiq 0 2 2) = some (0, 0x28100002)
    ∧ encodeBc (.ldi 0 3 15) = some (0, 0x1218000F) ∧ encodeBc (.andReg 0 2 2 3) = some (0, 0x72104180)
    ∧ encodeBc (.cmpD 0 5 2 4 0) = some (0, 0x3E284200) ∧ encodeBc (.sel 0 1 1 0 5) = some (0, 0x16082005)
    ∧ encodeBc (.ldk 0 6 0) = some (0, 0x14300000) ∧ encodeBc (.cmpR 0 7 1 6 2) = some (0, 0x5C382302)
    ∧ encodeBc (.stout 0 7 1) = some (0, 0x2C380001) ∧ encodeBc (.retFn 0) = some (0, 0x0A000000) := by decide

/-- A block-code row that is well formed has a word. -/
theorem witness_encode : (Instr.funR 3 63 63 0 14).wf = true ∧ (encodeBc (.funR 3 63 63 0 14)).isSome = true := by decide

/-- `wScn` in RUN with task 0 on SP0 in its block code, with registers `l`. -/
def wRunBc (l : Tbl Word64) : State := wScn 1 { st := .running, latched := true, shipped := true, regs := l }

/-- Pair 0 may execute an instruction of task 0. -/
theorem witness_executes : ∀ l ∈ [[], [(2, 3#64)], [(9, 8#64)], [(5, 0x3F800000#64), (6, 1#64), (7, 0x7F800000#64)]],
    (wRunBc l).executes 0 (wEnt 0) ∧ (wRunBc l).mode = 1 ∧ ((wRunBc l).task 0).pc = 0 := by
  unfold State.executes
  decide

/-- The instances of the statements' further hypotheses. -/
theorem witness_blockCode :
    (let s := wRunBc [(2, 3#64)]
     ((s.task 0).ar 2 ≠ 0#64 ∧ ((s.task 0).ar 2).setWidth 32 ≠ 0#32 ∧ (s.task 0).ar 1 = 0#64 ∧ s.olc.change = none
      ∧ cvt 1 3 0 ((s.task 0).ar 2) = some 0x40400000#64 ∧ (s.task 0).frames = []))
    ∧ (let s := wRunBc []
       let f : State := { s with scn := { s.scn with
         img := some { wImg with funcs := [⟨4, 8⟩], loops := [⟨0, 3, 1, 12, 0, 0, 65535, 0⟩] } } }
       f.img.funcs[0]? = some ⟨4, 8⟩ ∧ (0 : Int) + ((f.task 0).ar 1).toInt = (0 : Nat)
        ∧ 0 + 2 ≤ (f.img.layoutOf 0).depth ∧ 0 + 8 ≤ (wEnt 0).instBase + (f.img.layoutOf 0).instSize
        ∧ f.img.loopKey 0 3 = some 524)
    ∧ (let s := wRunBc [(9, 8#64)]
       (0 : Int) + ((s.task 0).ar 9).toInt + (0 * 8 : Nat) = (8 : Nat) ∧ (wEnt 0).instBase ≤ 8
        ∧ 8 + 8 ≤ (wEnt 0).instBase + (s.img.layoutOf 0).instSize)
    ∧ (let s := wRunBc [(5, 0x3F800000#64), (6, 1#64), (7, 0x7F800000#64)]
       ((s.task 0).ar 1).toNat < (wEnt 0).inCount
        ∧ s.img.bind 1 0 0 = some ⟨0, 1, 0, 17451, 3, true, 255, 0, 0⟩
        ∧ (real (realWidth 3)).finite (typeBits 3 ((s.task 0).ar 5)).toNat = true ∧ ((s.task 0).ar 6).toNat % 16 ∈ [1, 3, 6, 7, 8]
        ∧ (real (realWidth 3)).finite (typeBits 3 ((s.task 0).ar 7)).toNat = false
        ∧ ((s.task 0).ar 5).toNat % 16 ∉ [1, 3, 6, 7, 8] ∧ (wEnt 0).inCount ≤ ((s.task 0).ar 7).toNat
        ∧ (((wEnt 0).instBase + (s.img.layoutOf 0).instSize : Nat) : Int) < (0 : Int) + ((s.task 0).ar 7).toInt + (0 * 1 : Nat) + 1
        ∧ ((0 : Int) + ((s.task 0).ar 6).toInt + (0 * 4 : Nat)) % (4 : Nat) ≠ 0
        ∧ cvt 3 1 0 ((s.task 0).ar 7) = none) := by decide

/-! ## Loop engines -/

/-- A loop slot of task 0 with an output range and a set-point entry. -/
def wLoop : LoopSlot := { (default : LoopSlot) with par := [(20, r64 0), (21, r64 100), (12, r64 5)], fresh := false }

/-- `wScn` in mode `m` with loop 3 of task 0 on slot 12 of engine 1, memory 2 named. -/
def wLe (m : Nat) (r : TaskRun) : State :=
  let s := wScn m r
  let c : LoopCfgRec := { (default : LoopCfgRec) with task := 0, loc := 3, mem := 2, nreg := 1 }
  { s with
    scn := { s.scn with img := some { wImg with loops := [⟨0, 3, 1, 12, 0, 0, 65535, 0⟩], loopcfg := [c] } }
    le := { s.le with slot := [(524, some wLoop)], mem := [(66, { unsaved := [7], bins := [(7, 0x3F800000)] })] } }

theorem witness_evaluate :
    let s := wLe 1 { st := .running, latched := true, shipped := true, inImg := [(0, ⟨0#64, 0, 1, 0⟩)] }
    s.running = true ∧ s.nextLoop 1 = some (wEnt 0, ⟨0, 3, 1, 12, 0, 0, 65535, 0⟩) ∧ s.loop? (512 * 1 + 12) = some wLoop
    ∧ s.leWr 1 = none ∧ wLoop.due = [] ∧ wLoop.mem = none ∧ wLoop.forceTrack = false ∧ wLoop.feAction ≠ 4
    ∧ s.realIn 0 (s.task 0) 0 = some 0
    ∧ (s.mem? (64 * 1 + 2)) = some { unsaved := [7], bins := [(7, 0x3F800000)] }
    ∧ (let t := ((s.wn (R.LE_TR_CFG 1 2) 0).p (F.LE_TR_CFG_SLOT 1 2) 12).p (F.LE_TR_CFG_NNODES 1 2) 8
       let u := t.setTrace 1 2 { st := .done, cmds := [(1, false)] }
       u.running = true ∧ u.nextLoop 1 = some (wEnt 0, ⟨0, 3, 1, 12, 0, 0, 65535, 0⟩) ∧ (u.trace 1 2).captures = false
        ∧ (u.trace 1 2).cmds = [(1, false)] ∧ u.traceFetching 1 2 = false ∧ u.g (F.LE_TR_CFG_SLOT 1 2) = 12
        ∧ u.g (F.LE_TR_CFG_NNODES 1 2) = 8 ∧ (∀ k ∈ u.traceNodes 1 2, k ≠ 28)) := by decide

/-- A value of 3.0 in LEn_WR_VAL, and the write of MAN_OUT of slot 12. -/
def wVal (m : Nat) (r : TaskRun) : State := (wLe m r).wn64 (R.LE_WR_VAL_LO 1) (r64 3)

theorem witness_leWrite :
    let v : Word := 0x000C000C#32
    (∀ m ∈ [0, 1], let s := wVal m { st := .idle }
      s.mayWrite 0 (R.LE_WR_CMD 1) = true ∧ s.mode = m ∧ s.synced = false ∧ s.leWr 1 = none ∧ bits v.toNat 26 3 = 0
      ∧ natBit v.toNat 29 = false ∧ s.loop? (512 * 1 + bits v.toNat 16 9) = some wLoop
      ∧ (loopWrite wLoop 0 (bits v.toNat 0 12) (s.rn64 (R.LE_WR_VAL_LO 1))).isSome = true
      ∧ (loopWrite wLoop 0 12 (r64 3)).map (fun y => y.auto) = some wLoop.auto
      ∧ loopValueOk wLoop 0 (bits v.toNat 0 12) (s.rn64 (R.LE_WR_VAL_LO 1)) = true)
    ∧ (let s := wVal 1 { st := .idle }
       let w : LeWrite := ⟨0, 5000, true, 0, 12, 12, r64 3, false⟩
       let t := s.setLeWr 1 (some w)
       t.leWr 1 = some w ∧ t.synced = false ∧ t.ptpNs < w.due ∧ (t.task w.task).inCycle = false ∧ t.loop? (512 * 1 + w.target) = some wLoop)
    ∧ (let s := (wVal 1 { st := .idle }).p F.DPX_STATUS_PAIR_STATE 3
       let t := s.setLeWr 1 (some ⟨0, 0, true, 0, 12, 12, r64 3, false⟩)
       s.synced = true ∧ s.mayWrite 0 (R.LE_WR_CMD 1) = true ∧ (t.leWr 1).map (fun w => decide (w.due ≤ t.ptpNs)) = some true
        ∧ t.synced = true) := by
  decide +kernel

theorem witness_traces :
    (let s := (wLe 1 { st := .idle }).wn (R.LE_TR_CFG 1 0) 0
     let t := (s.p (F.LE_TR_CFG_SLOT 1 0) 12).p (F.LE_TR_CFG_NNODES 1 0) 1
     t.mayWrite 0 (R.LE_MEM_CMD 1) = true ∧ (t.mem? (64 * 1 + 2)).isSome = true
      ∧ t.mayWrite 0 (R.LE_TR_CMD 1 0) = true ∧ (t.trace 1 0).captures = false ∧ t.traceFetching 1 0 = false
      ∧ (t.loop? (512 * 1 + t.traceSlot 1 0)).isSome = true ∧ 1 ≤ t.g (F.LE_TR_CFG_NNODES 1 0)
      ∧ t.g (F.LE_TR_CFG_NNODES 1 0) ≤ 8 ∧ (∀ k ∈ t.traceNodes 1 0, k ≠ 28)
      ∧ (t.loop? (512 * 1 + t.g (F.LE_TR_CFG_SLOT 1 0))).isSome = true
      ∧ ((t.setTrace 1 0 { st := .armed }).trace 1 0).st = .armed
      ∧ ((t.setTrace 1 0 { st := .triggered }).trace 1 0).st = .triggered)
    ∧ (let o := wtOp 0x30 4 0 1
       let s := (wRun o).setTrace 1 0 { st := .done, samples := [[1, 2]] }
       findStart wRef [] (s.port 0).ops = some o ∧ (s.trace (o.entry.arg0 / 4) (o.entry.arg0 % 4)).st = .done
        ∧ writeStatus o.entry wBuf = 0) := by decide

/-! ## Loop islands -/

/-- `wSvc` with island 3 as SOURCE, driving, linked, with the code `c`. -/
def wIsl (c : Nat) (x : IslS := { st := .driving, link := true, own := true }) : State :=
  (wSvc.wn (R.LI_CFG 3) 0x1421).setIsl 3 { x with code := some c }

/-- A flag of island 3 set. -/
def wLi (f : Fld) (s : State := wIsl 20000) : State := s.p f 1

theorem witness_islands :
    let s := wIsl 20000
    s.mayWrite 0 (R.LI_CFG 3) = true ∧ bits 0x2 0 3 ≠ bits (s.rn (R.LI_CFG 3)) 0 3 ∧ s.rn (R.LI_CFG 3) % 4 = 1
    ∧ wSvc.rn (R.LI_CFG 3) % 4 = 0 ∧ (s.isl 3).link = true ∧ s.islCarries 3 = true ∧ s.g (F.LI_STATUS_OPEN 3) = 0
    ∧ s.g (F.LI_STATUS_COMPLY 3) = 0 ∧ s.islMode 3 = 1 ∧ almLow ≤ s.islTarget 3
    ∧ 2 ≤ s.islClock 3 ∧ 2 ≤ s.islClockAt 3 (s.islTarget 3)
    ∧ (s.p (F.LI_CFG_PROT 3) 1).g (F.LI_CFG_PROT 3) = 1 ∧ (s.p (F.LI_CFG_PROT 3) 1).islCarries 3 = true := by decide

theorem witness_fallback :
    let s := wLi (F.LI_STATUS_COMPLY 3)
    let t := (wLi (F.LI_STATUS_FALLBACK 3) s).p (F.LI_COMPLY_RETRY_S 3) 10
    s.g (F.LI_STATUS_COMPLY 3) = 1 ∧ s.g (F.LI_CFG_COMPLY_LOW 3) = 1 ∧ s.g (F.LI_STATUS_OPEN 3) = 0
    ∧ (s.isl 3).link = true ∧ (s.isl 3).st = .driving ∧ s.ramping 3 = false ∧ s.g (F.LI_STATUS_RETRYING 3) = 0
    ∧ t.g (F.LI_COMPLY_RETRY_S 3) ≠ 0 ∧ t.g (F.LI_STATUS_FALLBACK 3) = 1 ∧ t.mayWrite 0 (R.LI_CMD 3) = true
    ∧ (wLi (F.LI_STATUS_RETRYING 3) t).g (F.LI_STATUS_RETRYING 3) = 1 := by decide

theorem witness_islandFaults :
    let s := wIsl 20000
    let m : IslMeas := ⟨20000, 19000, 12000, 500⟩
    let t := wLi (F.LI_STATUS_SENSE_FAULT 3)
    s.liWatches 3 = true ∧ s.islSupply 3 m.terminal = 2400 ∧ s.g (F.LI_STATUS_SENSE_FAULT 3) = 0
    ∧ s.g (F.LI_STATUS_STAGE_FAULT 3) = 0 ∧ t.mayWrite 0 (R.LI_CMD 3) = true ∧ t.g (F.LI_STATUS_SENSE_FAULT 3) = 1
    ∧ t.islCarries 3 = true ∧ (wLi (F.LI_STATUS_SENSE_FAULT 3) (wIsl 0 { link := true })).islCarries 3 = false
    ∧ ((wIsl 0 { st := .driving, link := true, recheck := true }).isl 3).recheck = true := by decide

theorem witness_handover :
    let lost := wIsl 20000 { st := .autonomous, cfg := 0x1421 }
    let s := { wIsl 0 { st := .standby, link := true } with dpx := { wSvc.dpx with releaseOut := true } }
    let p := (wIsl 20000 { st := .driving, link := true }).p F.DPX_STATUS_RELEASE_IN 1
    (lost.isl 3).link = false ∧ bits (lost.isl 3).cfg 0 3 = bits (lost.rn (R.LI_CFG 3)) 0 3 ∧ lost.pwr.railsOff = false ∧ lost.pwr.domainsUp = true ∧ lost.islCarries 3 = true
    ∧ (s.isl 3).st = .standby ∧ s.actsOwn true false = true ∧ s.actsOwn (s.isl 3).own (s.isl 3).peer = false
    ∧ (p.isl 3).st = .driving ∧ (p.g F.DPX_STATUS_RELEASE_IN == 1) = true ∧ (p.isl 3).peer = false
    ∧ p.actsOwn false true = false
    ∧ ((wIsl 0 { st := .yieldIn, link := true, ramp := some ⟨0, 9000, 0, 1000000⟩ }).isl 3).st = .yieldIn := by decide

/-! ## Field units -/

/-- `wRep` with slot 17460 of type `typ` bound to input channel `ch` of a unit. -/
def wField (unit ch typ : Nat) : State :=
  wRep.putSlot 17460 { typ := typ, binding := fieldBinding unit ch, quality := 1 }

theorem witness_uiConversion :
    let s := (wField 0x10 4 3).p (F.UI_CFG_TYPE 4) 1
    s.isMotor = true ∧ s.pwr.domainsUp = true ∧ s.phase ≠ 7 ∧ s.uiTypeAt 4 (s.uiEnd 4) = 1 ∧ s.fio.uiFrom + uiOff 4 ≤ s.uiEnd 4 ∧ s.fieldSlots 0x10 4 = [17460]
    ∧ (s.uiMeas 4 1 ⟨100, 0x41A00000, 1000, false⟩).x = 0x41A00000 ∧ (s.slot 17460).forced = false ∧ s.g (F.UI_CFG_FILT 4) = 0
    ∧ uiFault 1 false false ⟨100, 0x41A00000, 1000, false⟩ = 0 ∧ uiFault 1 false false ⟨100, 0, 100, false⟩ = 2 := by
  decide +kernel

/-- `wSvc` with output 5 on, committed and enabled. -/
def wDo : State :=
  let s := (wSvc.wn R.DO_EN 0x20).wn R.DO_STATE 0x20
  { s with fio := { s.fio with dout := { s.fio.dout with on := 0x20, own := true, hold := true } } }

theorem witness_outputs :
    wDo.mayWrite 0 R.DO_EN = true ∧ wDo.mayWrite 0 R.DO_CMD = true ∧ natBit wDo.fio.dout.on 5 = true ∧ wDo.doOwn = true
    ∧ (let s := (wDo.setBit R.DO_SHORT 5 true).p F.DO_CTL_AUTO_RETRY 1
       s.bit R.DO_SHORT 5 = true ∧ s.g F.DO_CTL_AUTO_RETRY = 1 ∧ s.doOwn = true)
    ∧ wDo.bit R.DO_OPEN 5 = false ∧ wDo.bit R.DO_SHORT 5 = false ∧ natBit wDo.fio.dout.on 5 = !false
    ∧ wSvc.doOwn = false ∧ ({ wSvc with dpx := { wSvc.dpx with releaseOut := true } }).actsOwn true false = true
    ∧ wDo.fio.dout.hold = true := by decide

/-- `wField` with DALI master 1 enabled in the state `x`. -/
def wDali (x : DaliS) : State := ((wField 0x21 9 1).p (F.DALI_CTL_ENABLE 1) 1).setDali 1 x

theorem witness_dali :
    (let s := wDali { pend := [(7, some 100)] }
     s.daliFree 1 = true ∧ (s.dali 1).nextLevel = some (7, 100) ∧ s.daliBound 1 = [9] ∧ s.isMotor = true
      ∧ s.g (F.DALI_CTL_ENABLE 1) = 1 ∧ s.g (F.DALI_STATUS_BUS_DOWN 1) = 0 ∧ s.fieldSlots (0x20 + 1) 9 = [17460])
    ∧ (let s := wDali { tx := some (.poll 9 false), miss := [(9, 1)] }
       (s.dali 1).tx = some (.poll 9 false) ∧ (s.dali 1).raw = none ∧ tget (s.dali 1).miss 0 9 = 1)
    ∧ ((wDali { tx := some (.level 7 100) }).dali 1).tx = some (.level 7 100)
    ∧ (let s := wDali { tx := some (.raw false), raw := some ⟨false, true, 0x1FE⟩ }
       (s.dali 1).tx = some (.raw false) ∧ (s.dali 1).raw = some ⟨false, true, 0x1FE⟩)
    ∧ (let s := wDali { raw := some ⟨false, true, 0x1FE⟩ }
       (s.dali 1).raw.isSome = true ∧ (s.dali 1).tx ≠ some (.raw false) ∧ s.daliFree 1 = true)
    ∧ (wDali {}).mayWrite 0 (R.DALI_RAW_TX 1) = true
    ∧ ((wDali {}).p (F.DALI_STATUS_BUS_DOWN 1) 1).g (F.DALI_STATUS_BUS_DOWN 1) = 1
    ∧ ((wDali { resend := true }).dali 1).resend = true := by decide

/-- `wField` with serial port 0 in the protocol `proto` and the state `x`, one Modbus entry and two readers. -/
def wSer (proto : Nat) (x : SerS) : State :=
  let s := ((wField 0x30 0 1).p (F.SER_CFG_PROTO 0) proto).setSer 0 x
  { s with set := { s.set with
      mb := [(0, [⟨3, 3, 100, 1, 1000, 0, true, 9⟩])], osdp := [(0, [⟨1, 255⟩, ⟨2, 9⟩])] } }

theorem witness_serial :
    (let s := wSer 1 { queue := [] }
     (s.mbEntries 0)[0]? = some ⟨3, 3, 100, 1, 1000, 0, true, 9⟩ ∧ s.serProto 0 = 1 ∧ s.serFree 0 = true
      ∧ (s.ser 0).queue = [] ∧ s.fieldSlots 0x30 0 = [17460]
      ∧ mbDecode ⟨3, 3, 100, 1, 1000, 0, true, 9⟩ [77] (s.slot 17460).typ = some 77)
    ∧ ((wSer 1 { queue := [.mbWrite 0 1 5#64] }).ser 0).queue = [.mbWrite 0 1 5#64]
    ∧ (let s := wSer 2 {}
       s.serProto 0 = 2 ∧ 1 ∉ (s.ser 0).reopen ∧ s.serFree 0 = true ∧ (s.readers 0).length = 2 ∧ s.isMotor = true ∧ 257 ∉ (s.ser 0).silent
        ∧ s.serStation 0 (.osdpPoll 1) = 9)
    ∧ (let s := wSer 1 { txn := some (.mbPoll 0, 0), fails := [(3, 2)] }
       s.serDevice 0 (.mbPoll 0) = 3 ∧ s.serStation 0 (.mbPoll 0) = 9 ∧ 9 ∉ (s.ser 0).lost)
    ∧ (let s := wField 0x30 2 2
       (s.setSer 0 { txn := some (.osdpPoll 1, 0) }).fieldSlots 0x30 2 = [17460]
        ∧ (s.setSer 0 { txn := some (.osdpPoll 1, 0) }).fieldSlots 0x30 3 = [])
    ∧ (wSer 1 {}).mayWrite 0 (R.SER_CFG 0) = true := by decide

/-! ## CAN FD -/

/-- `wField` with CAN controller 1 enabled and ERROR_ACTIVE, its buffer 5 in the state `x`, one filter, one mapped buffer. -/
def wCan (x : TxBuf) (r : List CanRx := []) : State :=
  let s := ((wField 0x41 0 1).wn (R.CAN_CTL 1) 9).wn (R.CAN_STATUS 1) 1
  { s with
    can := [(1, { buf := [(5, x)], fifo0 := r, flt := [(2, { id := 0x123, mask := 0x7FF, ctl := 3 })] })]
    set := { s.set with can := [(1, { mapped := [⟨9, 0, 0x100⟩], rx := [⟨2, 0, 8, false, 0, false, 0⟩]
                                      tx := [⟨9, 0, 8, false, 0, false, 100⟩] })] } }

theorem witness_canTransmit :
    let s := wCan {}
    let off := (wCan {}).p (F.CAN_CTL_ENABLE 1) 0
    s.mayWrite 0 (R.CAN_CTL 1) = true ∧ s.canOn 1 = true ∧ off.canOn 1 = false
    ∧ (((off.p (F.CAN_NBT_NTSEG1 1) 125).p (F.CAN_NBT_NTSEG2 1) 32).p (F.CAN_DBT_DTSEG1 1) 30 |>.p
        (F.CAN_TDC_TDC_EN 1) 1).canTimingOk 1 = true
    ∧ (off.p (F.CAN_DBT_DBRP 1) 31).canTimingOk 1 = false
    ∧ (s.p (F.CAN_STATUS_SYNCING 1) 1).g (F.CAN_STATUS_SYNCING 1) = 1
    ∧ s.mayWrite 0 (R.CAN_TX_REQ_LO 1) = true ∧ s.canMapped 1 5 = false ∧ (s.txb 1 5).free = true
    ∧ s.canFrameOk 1 0 = true ∧ s.canFrameOk 1 128 = false ∧ s.mayWrite 0 (R.CAN_TX_CANCEL_LO 1) = true
    ∧ ((wCan { st := .waitTime, time := 5 }).txb 1 5).st = .waitTime ∧ 0 < s.rn R.PTP_ADDEND
    ∧ (let t := wCan { st := .pending }
       t.served = true ∧ t.g (F.CAN_STATUS_SYNCING 1) = 0 ∧ t.canState 1 = 1 ∧ t.g (F.CAN_STATUS_SUSPEND 1) = 0 ∧ t.canListen 1 = false
        ∧ t.canActive 1 = none ∧ t.canTop 1 = some (5, { st := .pending }))
    ∧ (wCan { st := .active }).canActive 1 = some 5 ∧ s.canMapped 1 9 = true
    ∧ (s.canSet 1).tx.any (fun g => g.ref == 9 && g.periodMs != 0) = true
    ∧ s.mayWrite 0 (R.CAN_TXBUF_CTL 1 + 0x3C) = true := by decide

theorem witness_canReceive :
    let s := wCan {}
    let f : CanFrame := ⟨0x123, 0, 77, 0⟩
    s.canOn 1 = true ∧ s.canState 1 = 1 ∧ s.canActive 1 = none ∧ s.canListen 1 = false
    ∧ (wCan { st := .active }).canActive 1 = some 5
    ∧ (s.p (F.CAN_STATUS_RECOVERY_WAIT 1) 1).g (F.CAN_STATUS_RECOVERY_WAIT 1) = 1
    ∧ ((s.p (F.CAN_STATUS_STATE 1) 3).canState 1 = 3) ∧ s.mayWrite 0 (R.CAN_CMD 1) = true
    ∧ s.mayWrite 0 (R.CAN_RXF_POP 1 0) = true ∧ s.g (F.CAN_STATUS_SYNCING 1) = 0
    ∧ s.canFilter 1 f = some (2, { id := 0x123, mask := 0x7FF, ctl := 3 }) ∧ s.isMotor = true ∧ s.canonical = true
    ∧ (s.canSet 1).rx[0]? = some ⟨2, 0, 8, false, 0, false, 0⟩ ∧ 17460 ∈ s.fieldSlots (0x40 + 1) 0
    ∧ numSlot (s.slot 17460).typ (sigNum ⟨2, 0, 8, false, 0, false, 0⟩ (sigRead ⟨2, 0, 8, false, 0, false, 0⟩ f.data)) = some 77
    ∧ s.canFilter 1 ⟨0x124, 0, 77, 0⟩ = none ∧ s.stnBit 1 7 = false ∧ s.g (F.CAN_CTL_LISTEN 1) = 0
    ∧ (let t := { s with can := [(1, { flt := [(2, { id := 0x123, mask := 0x7FF, ctl := 0x4701 })] })] }
       (t.canc 1).flt.any (fun e => e.2.action != 0 && natBit e.2.ctl 14 && bits e.2.ctl 8 6 == 7) = true) := by
  decide +kernel

/-! ## Ethernet and network time -/

/-- `wField` with MAC 0 enabled and its link up, in the state `x`. -/
def wEth (x : EthS) : State :=
  let s := ((wField 0x41 0 1).p (F.ETH_CTL_ENABLE 0) 1).p (F.ETH_STATUS_LINK_UP 0) 1
  { s.setMac 0 x with
    hpA := s.hpA, set := { s.set with eth := [(0, [⟨9, macBytes 0x020000000009, some 0x88B5, none, 100⟩])] } }

def wEthFrame : EthFrame :=
  ⟨macBroadcast, macBytes 0x020000000001, 64, none, true, false, false, 0x0806, 0, 0, false, none, false, none, 0, true, 9⟩

def wTx : TxFrame := ⟨1, 200, false, 1, false, none⟩

theorem witness_ethernet :
    (let s := (wEth {}).p (F.ETH_CTL_BCAST_EN 0) 1
     s.g (F.ETH_CTL_ENABLE 0) = 1 ∧ s.macUp 0 = true ∧ 64 ≤ s.macMax 0 false ∧ s.g (F.ETH_VLAN_TAG_EN 0) = 0
      ∧ s.macAccepts 0 macBroadcast = true ∧ s.macAccepts 0 [2#8, 0#8, 0#8, 0#8, 0#8, 1#8] = false
      ∧ macBroadcast ≠ macControl ∧ s.stationOf 0 wEthFrame = none ∧ s.core 0 = true ∧ (s.mac 0).fits 31 64 = true
      ∧ ({ rx := [(31, 229376)] } : EthS).fits 31 64 = false
      ∧ (s.p (F.ETH_CTL_PAUSE_EN 0) 1).g (F.ETH_CTL_PAUSE_EN 0) = 1 ∧ s.mayWrite 0 (R.ETH_HASH 0 3) = true
      ∧ s.mayWrite 0 (R.ETH_CTL 0) = true ∧ s.stationFromMotor = false
      ∧ (tget s.set.eth [] 0).any (fun e => e.station == 9) = true)
    ∧ (let s := wEth { tx := [wTx] }
       s.paused 0 = false ∧ firstFrame (s.mac 0).tx = some wTx ∧ max 64 200 ≤ s.macMax 0 false)
    ∧ (let s := wEth { pauseEnd := some 9000000, heldFrom := some 0 }
       s.paused 0 = true ∧ (s.mac 0).pauseEnd = some 9000000
        ∧ (s.p (F.ETH_CTL_PAUSE_WARN_MS 0) 5).g (F.ETH_CTL_PAUSE_WARN_MS 0) = 5)
    ∧ ((wEth {}).p (F.ETH_CTL_MODE 0) 2).g (F.ETH_CTL_MODE 0) = 2
    ∧ bits ((wEth {}).rn (R.ETH_STATUS 0)) 24 3 = 0
    ∧ (let s := (wEth {}).p (F.ETH_STATUS_LINK_UP 0) 0
       s.g (F.ETH_CTL_ENABLE 0) = 1 ∧ s.sfpHolds 0 = false ∧ s.macUp 0 = false ∧ s.macSpeed 0 0 ≠ 0) := by decide

/-- `wEth` as a PTP slave clock on MAC 0 in the state `x`, in the clock state `st`. -/
def wPtp (st : Nat) (x : PtpS) : State :=
  let s := ((wEth {}).wn R.PTP_CTL 0x283).p F.PTP_STATUS_STATE st
  { s with ptp := x }

def wMsg (two : Bool) : PtpMsg := ⟨0, 0, 5, 77, two, 1000, 0, 0⟩

theorem witness_announce :
    let s := wPtp 0 {}
    0 ∈ s.ptpLinks ∧ s.g F.PTP_CTL_DOMAIN = 0 ∧ (77 : Nat) / 65536 ≠ s.clockId ∧ s.g F.PTP_CTL_SLAVE_ONLY = 1
    ∧ s.ptp.announce = [] ∧ s.ptp.master = none ∧ s.ptpState = 0 := by decide

/-- The stamp of a received message of kind `k` with the identity of `wMsg`. -/
def wStamp (k : Nat) : Stamp := ⟨0, 9000, k, 0, 5, Config.portCrc 77⟩

theorem witness_useStamp (k : Nat) (x : PtpS) (two : Bool) (h : x.taken = [wStamp k]) :
    (wPtp 1 x).useStamp (wMsg two) k =
      some (9000, { wPtp 1 x with ptp := { x with taken := x.taken.erase (wStamp k) } }) := by
  have hp : (wPtp 1 x).ptp = x := rfl
  simp [State.useStamp, hp, h, wStamp, wMsg]

theorem witness_servo :
    let s := wPtp 1 { master := some ⟨0, 77, 9⟩, taken := [wStamp 0], locks := 15 }
    s.fromMaster (wMsg false) = true ∧ s.ptpState = 1 ∧ s.ptp.locks = 15
    ∧ (wPtp 2 { master := some ⟨0, 77, 9⟩, sync := some (0, 77, 5, 9000, 0) }).fromMaster (wMsg true) = true
    ∧ (wPtp 2 { master := some ⟨0, 77, 9⟩ }).bestMaster = none
    ∧ (wPtp 2 { master := some ⟨0, 77, 9⟩ }).ptpState = 2
    ∧ ((wPtp 3 {}).p F.PTP_HOLDOVER_CFG_LIMIT_MIN 10).ptpState = 3
    ∧ ((wPtp 3 {}).p F.PTP_HOLDOVER_CFG_LIMIT_MIN 10).g F.PTP_HOLDOVER_CFG_LIMIT_MIN ≠ 0
    ∧ (wPtp 1 { rxq := [(0, [⟨0, 9000, 0, 0, 5, 3⟩])] }).ptp.taken.length < 128 := by decide

theorem witness_delays :
    (let s := (wPtp 5 { taken := [wStamp 1] }).wn R.PTP_STATUS 0x40000
     s.ptpHears (wMsg false) = true ∧ s.ptpPort 0 = 4 ∧ s.g F.PTP_CTL_DELAY_MECH = 0)
    ∧ (let s := wPtp 2 { master := some ⟨0, 77, 9⟩ }
       s.fromMaster { wMsg false with requester := s.portId 0 } = true)
    ∧ ((wPtp 2 {}).p F.PTP_CTL_DELAY_MECH 1).ptpHears (wMsg false) = true
    ∧ ((wPtp 2 {}).p F.PTP_CTL_DELAY_MECH 1).g F.PTP_CTL_DELAY_MECH = 1
    ∧ ((wPtp 2 {}).wn R.PTP_STATUS 0x20002).ptpPort 0 = 2 := by decide

theorem witness_hostClock :
    let s := ((wSvc.wn R.PTP_CTL 0).wn R.PTP_SET_NS 5).wn R.PTP_SET_SEC_LO 7
    s.mayWrite 0 R.PTP_CMD = true ∧ s.mayWrite 0 R.PTP_ADDEND = true ∧ s.mayWrite 0 R.PTP_CTL = true ∧ s.ptpMode = 0
    ∧ s.rn R.PTP_SET_NS < 1000000000 ∧ s.mustRise = false ∧ (wPtp 0 {}).ptpMode ≠ 0
    ∧ (wPtp 0 {}).mayWrite 0 R.PTP_CMD = true := by decide

/-! ## Metering -/

/-- `wField` measuring, with channel 2 in CT mode and an ENERGY slot bound to its first total. -/
def wMtr (x : MtrS) : State :=
  let s := ((wRep.p F.MTR_STATUS_STATE 1).p F.MTR_CTL_ENABLE 1).p (F.MTR_CH_CFG_MODE 2) 1
  { s.putSlot 17460 { typ := 7, binding := 3 * 2 ^ 28 + 16, quality := 1 } with mtr := x }

/-- A block of channel 2 with a current of 4 mA or of 1 mA at 230 V, in phase. -/
def wBlock (pA : Int) : MtrBlock :=
  ⟨[⟨2, List.replicate 32 pA, false⟩], List.replicate 3 (List.replicate 32 230000000000), [], [50000]⟩

def wCh (pA : Int) : MtrCh := ⟨2, List.replicate 32 pA, false⟩

theorem witness_metering :
    (let s := wMtr {}
     s.g F.MTR_STATUS_STATE = 1 ∧ s.g F.MTR_CTL_ENABLE = 1 ∧ s.synced = false ∧ 4 + 2 / 24 ∉ s.saf.restarting
      ∧ s.mtr.old = [] ∧ (∀ k < 16, s.g (F.MTR_CIR_CFG_ENABLE k) = 0) ∧ (s.chanBlock 0 (wBlock 4000000000) (wCh 4000000000)).st = 2
      ∧ (s.chanBlock 0 (wBlock 1000000000) (wCh 1000000000)).st = 1 ∧ s.isMotor = true ∧ s.pwr.domainsUp = true
      ∧ s.canonical = true ∧ (s.slot 17460).present = true ∧ s.ownsSlot 17460 = true ∧ slotAcc (s.slot 17460) = some 16
      ∧ s.mayWrite 0 (R.MTR_CH_CFG 2) = true ∧ s.mayWrite 0 (R.MTR_CH_PRIMARY 2) = true
      ∧ s.mayWrite 0 (R.MTR_CIR_CFG 3) = true ∧ (0x3F3F3F : Nat) &&& 0x803F3F3F = 0x3F3F3F)
    ∧ (let s := (wMtr {}).p F.DPX_STATUS_PAIR_STATE 3
       s.synced = true ∧ s.isMotor = true)
    ∧ (let o := wtOp 0x28 17460 0 0
       let s := { wMtr {} with hpA := { wRep.hpA with ops := [o] } }
       s.phase ≠ 7 ∧ findStart wRef [] (s.port 0).ops = some o ∧ (s.slot 17460).present = true
        ∧ s.sees 0 (s.slot 17460) = true ∧ (s.slot 17460).typ = 7 ∧ (s.accMembers 16).2 = true
        ∧ writeStatus o.entry wBuf = 0)
    ∧ (let s := wMtr { restored := true }
       s.g F.MTR_STATUS_STATE ≠ 2 ∧ s.mtr.restored = true ∧ s.pwr.railsOff = false)
    ∧ ({ wSvc with dpx := { alone := false } }.isMotor = false)
    ∧ ((wMtr { held := some (9000000, []) }).mtr.held = some (9000000, [])) := by decide

theorem witness_assay :
    (let s := (wMtr { staged := [(0, some 77), (1, some 5)] })
     s.mayWrite 0 R.MTC_CMD = true ∧ s.mtcPoint 0 = some 0 ∧ natBit (s.prd 0 R.MTC_SEL) 15 = false
      ∧ (toSigned 32 (s.mtcRead 0 0)).natAbs ≤ 53687091 ∧ (toSigned 32 (s.mtcRead 0 1)).natAbs ≤ 5000000
      ∧ s.pwr.domainsUp = true ∧ s.mayWrite 0 R.MTR_CAL_CMD = true)
    ∧ (wMtr { step := some ⟨48, false, false, 5⟩ }).mtr.step = some ⟨48, false, false, 5⟩
    ∧ (let s := wMtr { step := some ⟨2, false, false, 5⟩, fails := [(2, 1)] }
       verifyCode ⟨2000, 0, false, 0, 0, true⟩ = 2 ∧ tget s.mtr.fails 0 2 = 1
        ∧ s.g (F.MTR_CH_STATUS_ASSAY_FAULT 2) = 0)
    ∧ (let s := wMtr { step := some ⟨2, true, false, 5⟩ }
       (toSigned 32 (s.rn (R.MTR_CH_TRIM 2)) + 300).natAbs ≤ 5368709
        ∧ (toSigned 32 (s.rn (R.MTR_CH_TRIMPH 2)) + 40).natAbs ≤ 500000) := by decide

/-! ## Safety and self-test -/

/-- `wScn` in RUN with the safety manager in the state `x`. -/
def wSaf (x : SafS) : State := { wScn 1 { st := .idle } with saf := x }

/-- `wSaf` as the motor of a pair. -/
def wDuo (x : SafS := {}) : State := ((wSaf x).p F.MOD_STRAP_PARTNER_PRESENT 1).p F.DPX_STATUS_GRANT_OUT 1

theorem witness_faults :
    (({ wSaf {} with reports := [⟨13, 23, 1, 0⟩] } : State).reports = ⟨13, 23, 1, 0⟩ :: [])
    ∧ (wSaf {}).hasPartner = false ∧ (wSaf {}).isMotor = true ∧ (wSaf {}).active = true
    ∧ (wDuo.g F.MOD_STRAP_PARTNER_PRESENT = 1 ∧ wDuo.g F.DPX_STATUS_GRANT_OUT = 1 ∧ wDuo.active = true)
    ∧ (wSaf {}).saf.restarting.contains 4 = false ∧ (wSaf {}).missedAgain 4 = false
    ∧ (wSaf { missed := [(4, some 0)] }).missedAgain 4 = true
    ∧ (wSaf { restarting := [4] }).saf.restarting.contains 4 = true := by decide

theorem witness_selfTests :
    (let s := wSaf { targets := [(4, { st := 1 })] }
     s.inService = true ∧ (s.target 4).inSlice = false ∧ (s.target 4).st = 1
      ∧ ∀ k ∈ sameResource 4, (s.target k).st ≠ 2 ∧ (4 ≤ k ∨ (s.target k).st ≠ 1))
    ∧ ((wSaf { targets := [(0, { st := 2 })] }).target 0).st = 2
    ∧ (let s := wSaf { targets := [(0, { st := 2, inSlice := true, slices := 199 })] }
       (s.target 0).inSlice = true ∧ sliceCount 0 ≤ (s.target 0).slices + 1)
    ∧ ¬ sliceCount 0 ≤ ((wSaf { targets := [(0, { st := 2, inSlice := true })] }).target 0).slices + 1
    ∧ ((wSaf {}).p F.ASY_CTL_PERIODIC 1).g F.ASY_CTL_PERIODIC = 1
    ∧ (wSaf {}).mayWrite 0 R.ASY_CMD = true
    ∧ ((wSaf { targets := [(9, { st := 2 })] }).target 9).st = 2
    ∧ ((wSaf { targets := [(33, { st := 2 })] }).target 33).st = 2 := by decide

/-! ## Logbook and performance monitors -/

/-- `wRun` with the log in the state `l` and the device root there or not. -/
def wLog (o : Op) (root : Bool) (l : LogS) : State :=
  let s := wRun o
  { s with log := l, sec := { s.sec with rootOk := root } }

def wRec : LogRec := ⟨0x1001, 29, 0, 0, false, false, false, false, 1, 2, 3, 4⟩

theorem witness_logbook :
    (let o := wtOp 0x20 0 0 4
     (wRun o).ready wRef 0x20 o ∧ writeStatus o.entry wBuf = 0)
    ∧ (let o := wtOp 0x21 0 0 0
       (wLog o false {}).ready wRef 0x21 o ∧ (wLog o false {}).sec.rootOk = false ∧ (wLog o true {}).sec.rootOk = true
        ∧ (wLog o true {}).log.clear = none ∧ readStatus o.entry wBuf = 0)
    ∧ (let o := { wtOp 0x21 0 0 0 with started := true }
       let c : ClearWait := ⟨wRef, 1, 5, []⟩
       let s := wLog o true { clear := some c, stage := [⟨3, some 1, wRec⟩] }
       s.log.clear = some c ∧ (∀ r ∈ c.readers, ∀ q ∈ (s.port r.port).ops, q.is r = false)
        ∧ s.opRunning c.op = some o ∧ s.log.stage = ⟨3, some 1, wRec⟩ :: [])
    ∧ wSvc.mayWrite 0 R.LOG_EPOCH_CMD = true ∧ wSvc.mayWrite 0 R.PMON_CTL = true ∧ wSvc.mayWrite 0 (R.PMON_C_SEL 15) = true := by
  unfold State.ready
  decide +kernel

/-! ## Duplex -/

/-- `wScn` in RUN as a module of a pair in PAIR_STATE `st`: its motor or its butty, with the duplex unit in the state `x`. -/
def wPair (motor : Bool) (st : Nat) (x : DpxS) (r : TaskRun := { st := .idle }) : State :=
  let s := (((wScn 1 r).p F.MOD_STRAP_PARTNER_PRESENT 1).p F.DPX_STATUS_GRANT_OUT (b2n motor)).p F.DPX_STATUS_PAIR_STATE st
  { s with dpx := { x with alone := false } }

/-- `wPair` with both lanes up and the partner's ALIVE good. -/
def wLanes (motor : Bool) (st : Nat) (x : DpxS) (r : TaskRun := { st := .idle }) : State :=
  (((wPair motor st x r).p F.DPX_STATUS_LANE0_UP 1).p F.DPX_STATUS_LANE1_UP 1).p F.DPX_STATUS_ALIVE_OK 1

theorem witness_partner :
    (let s := wPair true 3 {}
     s.hasPartner = true ∧ s.g F.DPX_STATUS_GRANT_OUT = 1 ∧ s.isMotor = true ∧ 1 ≤ s.pairState ∧ s.pairState ≤ 3
      ∧ s.hasPartner = true ∧ s.grantOut = true ∧ (s.p F.DPX_STATUS_GRANT_IN 1).g F.DPX_STATUS_GRANT_IN = 1 ∧ s.posB = false
      ∧ (s.p F.MOD_STRAP_DPX_POS 1).posB = true)
    ∧ (let s := wPair false 3 { grantLow := some 7 }
       s.g F.DPX_STATUS_GRANT_OUT = 0 ∧ s.eligible = true ∧ s.dpx.taking = none ∧ s.g F.DPX_STATUS_GRANT_IN = 0
        ∧ s.dpx.grantLow = some 7 ∧ s.lanesDown = true)
    ∧ (let s := wLanes false 3 { grantLow := some 7 }
       s.isButty = true ∧ s.lanesDown = false ∧ s.bit R.DPX_STATUS 4 = true ∧ s.eligible = true)
    ∧ (wPair false 3 { downAt := some 5 }).dpx.downAt = some 5
    ∧ (let s := wPair false 3 { taking := some (1, 0) }
       s.dpx.taking = some (1, 0) ∧ s.isButty = true) := by decide +kernel

theorem witness_inStep :
    (let s := wLanes false 3 { own := [(0, some (5, 9))] } { st := .running, release := 5 }
     s.ent 0 = some (wEnt 0) ∧ s.synced = true ∧ s.isButty = true ∧ (s.task 0).st = .running ∧ (s.task 0).latched = false
      ∧ s.running = true ∧ (s.task 0).release = 5 ∧ s.g F.DPX_STATUS_LANE0_UP = 1 ∧ s.lanesDown = false
      ∧ tget s.dpx.own none 0 = some (5, 9) ∧ tget s.dpx.own none 40 = none)
    ∧ (let s := wLanes true 3 { shipUp := [(0, some 3)] } { st := .running, release := 5, latched := true }
       tget s.dpx.shipUp none 0 = some 3 ∧ (s.task 0).release = 5 ∧ (s.task 0).latched = true ∧ (s.task 0).shipped = false
        ∧ s.ent 0 = some (wEnt 0) ∧ s.synced = true ∧ s.isMotor = true)
    ∧ (let s := wLanes false 3 {}
       let m : FwdMsg := ⟨.field, 17450, 5#64, 9, 1, 1, false⟩
       m.index < 262144 ∧ (s.slot m.index).present = true ∧ (s.slot m.index).forced = false ∧ s.fwdWins m = true
        ∧ s.fwdWins { m with time := 0, seq := 0 } = false)
    ∧ (wLanes true 3 { xc := some (0, 5) }).dpx.xc = some (0, 5)
    ∧ ({ wLanes true 3 {} with mtr := { held := some (900, []) } } : State).mtr.held = some (900, []) := by decide +kernel

theorem witness_joining :
    (let s := wLanes true 3 { switchAt := some 5000000 }
     s.mayWrite 0 R.DPX_CMD = true ∧ s.synced = true ∧ s.dpx.xc = none ∧ s.mode ≠ 3 ∧ s.fwu.armed = none
      ∧ s.dpx.switchAt = some 5000000 ∧ 0 < s.rn R.PTP_ADDEND)
    ∧ (let s := wLanes false 4 {}
       s.isButty = true ∧ s.isMotor = false ∧ s.pairState = 4 ∧ s.faulty = false ∧ s.pairsOk = true ∧ s.lanesUp = true)
    ∧ (let s := { wLanes true 4 {} with fwu := { map0 := ⟨1, 31, true⟩ } }
       s.hasPartner = true ∧ s.grantOut = true ∧ s.pairState ≠ 2 ∧ s.pairState ≠ 3 ∧ s.pairsOk = true ∧ s.mode ≠ 2
        ∧ sameMajors s.ctrlProvides s.ctrlProvides = true)
    ∧ (let s := (wLanes false 0 {}).p F.PCR_STATUS_PHASE 4
       s.hasPartner = true ∧ s.phase = 4 ∧ s.hello.inResync = true ∧ s.grantOut = false ∧ s.g F.DPX_STATUS_GRANT_IN = 0
        ∧ s.g F.DPX_STATUS_ALIVE_OK = 1 ∧ s.pairState = 0)
    ∧ (let s := wLanes false 2 {}
       s.pairState = 2 ∧ s.isButty = true ∧ ∀ e ∈ s.taskEnts, e.task < 96)
    ∧ (let s := wLanes true 2 { waitFrom := some 4 }
       s.pairState = 2 ∧ s.isMotor = true ∧ s.dpx.waitFrom = some 4) := by decide +kernel

/-! ## Backup domain -/

/-- `wSvc` with the backup domain in the state `x` at count `tick`. -/
def wBkd (tick : Nat) (x : BkdS) : State := { wSvc with bkd := x, clk := { wSvc.clk with tick := tick } }

theorem witness_count :
    (let s := wBkd 4194400 { win := 4194304, trim := -3, pulse := 1 }
     s.clk.tickRun = true ∧ s.clk.tick < 2 ^ 48 ∧ s.clk.tickAcc < 1000000000 ∧ s.clk.tick / 2 ^ 22 = s.bkd.win / 2 ^ 22
      ∧ s.bkd.pulse < s.bkd.trim.natAbs ∧ (s.bkd.win + 16384 * s.bkd.pulse) / 2 ^ 22 = s.bkd.win / 2 ^ 22
      ∧ s.clk.tick ≤ s.bkd.win + 16384 * s.bkd.pulse)
    ∧ wSvc.mayWrite 0 R.BKD_CMD = true ∧ wSvc.mayWrite 0 R.BKD_WAKE = true ∧ wSvc.mayWrite 0 (R.BKD_BYTE 15) = true
    ∧ (wBkd 5 { setTo := some 77 }).bkd.setTo = some 77 ∧ (wBkd 5 { capture := true }).bkd.capture = true
    ∧ (let s := ((wBkd 5 { alarm := 77 }).p F.BKD_STATUS_ARMED 1).p F.BKD_STATUS_FIRED 0
       s.g F.BKD_STATUS_ARMED = 1 ∧ s.g F.BKD_STATUS_FIRED = 0 ∧ s.bkd.alarm < 2 ^ 48)
    ∧ (let s := (wBkd 200 { next := 128 }).p F.BKD_WAKE_PERIOD 1
       s.g F.BKD_WAKE_PERIOD ≠ 0 ∧ (s.clk.tick + 2 ^ 48 - s.bkd.next) % 2 ^ 48 < 2 ^ 47)
    ∧ (let s := (wBkd 100 { next := 128 }).p F.BKD_WAKE_PERIOD 1
       s.bkd.next < 2 ^ 48 ∧ 2 ^ 47 < (s.clk.tick + 2 ^ 48 - s.bkd.next) % 2 ^ 48) := by decide

theorem witness_continuity :
    wSvc.g F.BKD_STATUS_SOURCE = 0 ∧ (wSvc.p F.BKD_STATUS_SOURCE 1).g F.BKD_STATUS_SOURCE = 1
    ∧ (wBkd 5 {}).bkd.lockout = false ∧ (wBkd 5 { lockout := true }).bkd.lockout = true
    ∧ (wBkd 5 {}).bkd.stopped = false ∧ (wBkd 5 { stopped := true }).bkd.stopped = true := by decide

/-! ## Security -/

/-- An operation of `op` with arguments and a buffer of `n` bytes. -/
def wBigOp (op a0 a1 n : Nat) : Op :=
  let o := wtOp op a0 a1 0
  { o with entry := { o.entry with bufLen := n, bufAddr := 4096 } }

/-- A buffer of `n` zeros. -/
def wZeros (n : Nat) : HostBuf := ⟨true, [], List.replicate n 0#8⟩

/-- `wRun` with the device root there. -/
def wSec (o : Op) : State := let s := wRun o; { s with sec := { s.sec with rootOk := true } }

/-- `wSec` with a key in the crucible of attribute `a`. -/
def wKey (o : Op) (a : Nat) : State := ((wSec o).p F.CRU_STATUS_LOADED 1).p F.CRU_STATUS_ATTR a

theorem witness_crucible :
    (∀ n < 14, (wSec (wBigOp 0x48 n 0 48)).keyReady wRef n (wBigOp 0x48 n 0 48)) ∧ (wSec (wBigOp 0x48 1 0 48)).sec.rootOk = true
    ∧ natBit (wBigOp 0x48 1 8 48).entry.arg1 3 = true ∧ (wKey (wBigOp 0x48 1 8 48) 3).g F.CRU_STATUS_LOADED = 1
    ∧ (∀ a < 4, (wKey (wBigOp 0x48 4 0x2000 48) a).mayUse (wBigOp 0x48 4 0x2000 48) a)
    ∧ readStatus (wBigOp 0x48 2 0 48).entry (wZeros 48) = 0 ∧ writeStatus (wBigOp 0x48 7 0 48).entry (wZeros 48) = 0 := by
  unfold State.keyReady State.ready State.mayUse
  decide +kernel

set_option maxRecDepth 20000 in
theorem witness_tokens :
    (wBigOp 0x48 10 0 2592).entry.bufLen = 2592 ∧ readStatus (wBigOp 0x48 10 0 2592).entry (wZeros 2592) = 0
    ∧ (wBigOp 0x48 10 0 48).entry.bufLen ≠ 2592
    ∧ (wSec (wBigOp 0x50 3 2 48)).ready wRef 0x50 (wBigOp 0x50 3 2 48)
    ∧ readStatus (wBigOp 0x50 3 2 48).entry (wZeros 48) = 0
    ∧ (wSec (wBigOp 0x49 0 0 7491)).ready wRef 0x49 (wBigOp 0x49 0 0 7491)
    ∧ writeStatus (wBigOp 0x49 0 0 7491).entry (wZeros 48) = 0 := by
  unfold State.ready
  decide +kernel

/-! ## Firmware -/

/-- `wRun` with the firmware unit in the state `x`. -/
def wFwu (o : Op) (x : FwuS) : State := { wRun o with fwu := x }

/-- `wSvc` with an activation armed. -/
def wArm (mask : Nat) (st : ArmStage) (pair : Bool) : State :=
  { wSvc with fwu := { armed := some ⟨mask, 0, 1, st, 0, pair⟩ } }

theorem witness_staging :
    (∀ a ∈ [0, 1, 2, 256, 300], (wRun (wBigOp 0x40 a 0 512)).ready wRef 0x40 (wBigOp 0x40 a 0 512))
    ∧ (wFwu (wBigOp 0x40 0 0 512) {}).fwu.armed = none
    ∧ (wFwu (wBigOp 0x40 0 0 512) {}).blockBank (wBigOp 0x40 0 0 512).entry = some 1
    ∧ (wFwu (wBigOp 0x40 0 0 512) { map0 := { banks := 8 } }).blockBank (wBigOp 0x40 0 0 512).entry = none
    ∧ readStatus (wBigOp 0x40 0 0 512).entry (wZeros 512) = 0 ∧ wSvc.mayWrite 0 R.FWU_CMD = true := by
  unfold State.ready
  decide +kernel

theorem witness_stagingBuffers :
    (∀ n, readStatus (wBigOp 0x40 2 0 n).entry (wZeros n) = 0)
    ∧ (∀ n, (wBigOp 0x40 2 0 n).entry.bufLen = n ∧ (wBigOp 0x40 256 0 n).entry.bufLen = n)
    ∧ (∀ n, readStatus (wBigOp 0x40 256 0 n).entry (wZeros n) = 0) := by
  refine ⟨fun n => ?_, fun n => ⟨rfl, rfl⟩, fun n => ?_⟩ <;>
    simp [readStatus, sglOk, entSgl, natBit, wBigOp, wtOp, wEntry, wZeros]

theorem witness_activation :
    (∀ a < 2, (wRun (wBigOp 0x41 3 a 0)).ready wRef 0x41 (wBigOp 0x41 3 a 0)
      ∧ (wBigOp 0x41 3 a 0).entry.arg1 = a) ∧ wSvc.fwu.armed = none ∧ wSvc.fwu.recovery = false
    ∧ (let s := wArm 4 .gap false
       s.fwu.armed = some ⟨4, 0, 1, .gap, 0, false⟩ ∧ 0 ≤ s.ptpNs ∧ s.fwGap 4 = true)
    ∧ (let s := wArm 4 .gap true
       s.fwu.armed = some ⟨4, 0, 1, .gap, 0, true⟩ ∧ s.isMotor = true)
    ∧ (wArm 4 .former true).fwu.armed = some ⟨4, 0, 1, .former, 0, true⟩
    ∧ (wArm 16 (.islands 23 1) false).fwu.armed = some ⟨16, 0, 1, .islands 23 1, 0, false⟩
    ∧ (let s := (wArm 4 .soak true).p F.DPX_STATUS_PAIR_STATE 3
       s.fwu.armed = some ⟨4, 0, 1, .soak, 0, true⟩ ∧ s.synced = true)
    ∧ (wArm 8 .net false).fwu.armed = some ⟨8, 0, 1, .net, 0, false⟩ ∧ 0 < (wArm 8 .net false).rn R.PTP_ADDEND := by
  unfold State.ready
  decide +kernel

/-! ## The register space -/

theorem witness_reserved :
    wUp.linkUp 0 = true ∧ (0xFFFFFC : Nat) % 4 = 0 ∧ regRow 0xFFFFFC = none ∧ regRow 0x2000C ≠ none := by decide +kernel

theorem witness_portBlocks :
    (∃ b, blockAt (R.HP_ERR 0) = some b ∧ b.desc = 1) ∧ (∃ b, blockAt (R.HP_ERR 1) = some b ∧ b.desc = 2)
    ∧ (∃ r, regRow (R.HP_ERR 0) = some r ∧ r.acc = .w1c) ∧ (∃ r, regRow (R.HP_CTL 1) = some r ∧ r.acc ≠ .rc ∧ r.acc ≠ .snap) := by
  refine ⟨⟨_, rfl, by decide⟩, ⟨_, rfl, by decide⟩, ⟨_, rfl, by decide⟩, ⟨_, rfl, by decide, by decide⟩⟩

theorem witness_canonical : State.reset.canonical = true := by decide

end Sys2Proof.Machine
end

section
/-! # Accesses of the host to BAR0: one aligned word read or written (R2, R3, R5, R462) -/

namespace Sys2Proof.Machine

/-! ## One aligned word as an access -/

theorem leNat_natLE (k n : Nat) : leNat (natLE k n) = n % 256 ^ k := by
  induction k generalizing n with
  | zero => simp [natLE, leNat, Nat.mod_one]
  | succ k ih =>
    rw [natLE, leNat, ih, BitVec.toNat_ofNat, show 256 ^ (k + 1) = 256 * 256 ^ k from Nat.pow_succ', Nat.mod_mul]

/-- The four bytes of a word spell the word (R2). -/
theorem leNat_natLE_word (v : Word) : leNat (natLE 4 v.toNat) = v.toNat := by
  rw [leNat_natLE]
  exact Nat.mod_eq_of_lt (by simpa using v.isLt)

/-- An aligned word of BAR0 meets the conditions of an access (R462). -/
theorem spaceTakes_word {a : Nat} (h4 : a % 4 = 0) (hlt : a < 16777216) : spaceTakes .regs a 4 = true := by
  have h64 : a % 64 + 4 ≤ 64 := by omega
  have htop : a + 4 ≤ 16777216 := by omega
  simp [spaceTakes, accessOk, h4, h64, htop]

/-- A write access of the four bytes of one aligned word writes the register at its offset whole. -/
theorem exec_registerWrite_bytes {s : State} {p : Fin 2} {a : Nat} (b0 b1 b2 b3 : Byte) (hu : s.linkUp p = true)
    (h4 : a % 4 = 0) (hlt : a < 16777216) :
    exec (.registerWrite p .regs a [some b0, some b1, some b2, some b3]) s
      = .next (s.regPut p a (leNat [b0, b1, b2, b3])) := by
  simp [exec, execRegisterWrite, hu, spaceTakes_word h4 hlt, lanes, h4, State.lanePut]

theorem exec_registerWrite_word {s : State} {p : Fin 2} {a : Nat} (v : Word) (hu : s.linkUp p = true) (h4 : a % 4 = 0)
    (hlt : a < 16777216) :
    exec (.registerWrite p .regs a ((natLE 4 v.toNat).map some)) s = .next (s.regPut p a v.toNat) := by
  have h := exec_registerWrite_bytes (s := s) (BitVec.ofNat 8 v.toNat) (BitVec.ofNat 8 (v.toNat / 256))
    (BitVec.ofNat 8 (v.toNat / 256 / 256)) (BitVec.ofNat 8 (v.toNat / 256 / 256 / 256)) hu h4 hlt
  exact h.trans (congrArg (fun n => Host.Outcome.next (s.regPut p a n)) (leNat_natLE_word v))

/-- A read access of one aligned word reads the register at its offset and answers its value. -/
theorem readAccess_word {s : State} {p : Fin 2} {a : Nat} (hu : s.linkUp p = true) (h4 : a % 4 = 0)
    (hlt : a < 16777216) : s.readAccess p .regs a 4 = (s.regRead p a).1.answer p a (s.regRead p a).2 := by
  simp [State.readAccess, hu, spaceTakes_word h4 hlt, State.readRegs]

theorem exec_snapRead_word {s : State} {p : Fin 2} {a : Nat} (hu : s.linkUp p = true) (h4 : a % 4 = 0)
    (hlt : a < 16777216) : exec (.snapRead p .regs a 4) s = .next ((s.regRead p a).1.answer p a (s.regRead p a).2) :=
  congrArg Host.Outcome.next (readAccess_word hu h4 hlt)

theorem exec_rcRead_word {s : State} {p : Fin 2} {a : Nat} (hu : s.linkUp p = true) (h4 : a % 4 = 0)
    (hlt : a < 16777216) : exec (.rcRead p a 4) s = .next ((s.regRead p a).1.answer p a (s.regRead p a).2) :=
  congrArg Host.Outcome.next (readAccess_word hu h4 hlt)

theorem frame_answer (s : State) (p a v : Nat) : s.Frame (s.answer p a v) [.out] [] := frame_out _ _

@[simp] theorem State.answer_out (s : State) (p a v : Nat) : (s.answer p a v).out = s.out ++ [.readData p a v] := rfl

/-! ## The block map (R460) -/

/-- The block found at an offset is one of the map's and holds the offset. -/
theorem blockAt_eq_some {a : Nat} {b : Block} (h : blockAt a = some b) :
    b ∈ blocks ∧ b.base ≤ a ∧ a < b.base + b.span := by
  have hp := List.find?_some h
  simp only [Bool.and_eq_true, Nat.ble_eq, Nat.blt_eq] at hp
  exact ⟨List.mem_of_find?_eq_some h, hp⟩

/-- Every block's descriptor number is below 64. -/
theorem desc_lt {a : Nat} {b : Block} (h : blockAt a = some b) : b.desc < 64 := by
  have hall : ∀ x ∈ blocks, x.desc < 64 := by decide
  exact hall b (blockAt_eq_some h).1

/-- A block that has a gate lies above the registers of MOD, the ports and the gates. -/
theorem gated_offset {a n : Nat} {b : Block} (h : blockAt a = some b) (hg : b.gate = some n) : 0x100000 ≤ a ∧ n < 35 := by
  have hall : ∀ x ∈ blocks, ∀ g ∈ x.gate, 0x100000 ≤ x.base ∧ g < 35 := by decide
  obtain ⟨hm, hb, -⟩ := blockAt_eq_some h
  obtain ⟨hbase, hn⟩ := hall b hm n (by simp [hg])
  exact ⟨Nat.le_trans hbase hb, hn⟩

/-! ## Writes that are ignored or dropped (R5, R96) -/

/-- The register in which the block at `a` counts the reserved writes of port `p` (R467). -/
def rsvCounter (p : Nat) (b : Block) : Nat := if p = 0 then R.MOD_BLK_RSV_A b.desc else R.MOD_BLK_RSV_B b.desc

/-- The blocks' counters of reserved writes lie in MOD, below the registers of the ports. -/
theorem rsvCounter_lt {a : Nat} {b : Block} (p : Nat) (h : blockAt a = some b) : rsvCounter p b < 0x10000 := by
  have hd := desc_lt h
  unfold rsvCounter R.MOD_BLK_RSV_A R.MOD_BLK_RSV_B
  split <;> omega

/-- A counted write changes the counts of its port and of the block, and MOD_EVENT. -/
theorem frame_rsvWrite (s : State) (p a : Nat) :
    s.Frame (s.rsvWrite p a) Part.events (R.HP_RSV_WRITES p ::
      ((match blockAt a with | some b => [rsvCounter p b] | none => []) ++ [R.MOD_EVENT])) := by
  unfold State.rsvWrite
  cases blockAt a with
  | some b =>
    exact (((frame_inc s _ 1).trans (frame_inc _ _ 1)).trans (frame_raise _ evMOD 2)).mono (by simp [Part.events])
      (by simp [evMOD, rsvCounter])
  | none => exact ((frame_inc s _ 1).trans (frame_raise _ evMOD 2)).mono (by simp [Part.events]) (by simp [evMOD])

theorem rd_rsvWrite_count {s : State} {p a : Nat} (hp : p < 2) :
    (s.rsvWrite p a).rd (R.HP_RSV_WRITES p) = s.rd (R.HP_RSV_WRITES p) + 1#32 := by
  have he : R.HP_RSV_WRITES p ≠ R.MOD_EVENT := by simp only [R.HP_RSV_WRITES, R.MOD_EVENT]; omega
  unfold State.rsvWrite
  cases hb : blockAt a with
  | some b =>
    have hc : R.HP_RSV_WRITES p ≠ rsvCounter p b := by
      have hlt := rsvCounter_lt p hb
      simp only [R.HP_RSV_WRITES]; omega
    exact ((frame_raise _ evMOD 2).regs _ (by simpa [evMOD] using he) (by simp)).trans
      ((State.rd_inc_other _ _ hc).trans (State.rd_inc_same _ _ _))
  | none => exact ((frame_raise _ evMOD 2).regs _ (by simpa [evMOD] using he) (by simp)).trans (State.rd_inc_same _ _ _)

/-- The registers that an ignored write at `a` by port `p` may change. -/
def ignoredRegs (p a : Nat) : List Nat :=
  [R.HP_RSV_WRITES p, R.HP_ERR p, R.MOD_EVENT] ++ (match blockAt a with | some b => [rsvCounter p b] | none => [])

theorem frame_ignoredWrite (s : State) (p a : Nat) : s.Frame (s.ignoredWrite p a) Part.events (ignoredRegs p a) := by
  have h := frame_rsvWrite s p a
  unfold State.ignoredWrite ignoredRegs
  cases hb : blockAt a with
  | none =>
    rw [hb] at h
    exact h.mono (by simp) (by simp)
  | some b =>
    rw [hb] at h
    simp only
    split
    · exact (h.trans (frame_p _ _ _)).mono (by simp) (by simp [F.HP_ERR_FOREIGN_WRITE])
    · exact h.mono (by simp) (by simp)

/-- Of the registers that an ignored write changes, the reserved-write count is the writing port's own. -/
theorem rd_ignoredWrite_count {s : State} {p a : Nat} (hp : p < 2) :
    (s.ignoredWrite p a).rd (R.HP_RSV_WRITES p) = s.rd (R.HP_RSV_WRITES p) + 1#32 := by
  have he : R.HP_RSV_WRITES p ≠ (F.HP_ERR_FOREIGN_WRITE p).off := by
    simp only [R.HP_RSV_WRITES, F.HP_ERR_FOREIGN_WRITE, R.HP_ERR]; omega
  unfold State.ignoredWrite
  simp only
  split
  · split
    · exact (State.rd_p_other _ _ he).trans (rd_rsvWrite_count hp)
    · exact rd_rsvWrite_count hp
  · exact rd_rsvWrite_count hp

theorem rd_ignoredWrite_other {s : State} {p a : Nat} (hp : p < 2) :
    (s.ignoredWrite p a).rd (R.HP_RSV_WRITES (1 - p)) = s.rd (R.HP_RSV_WRITES (1 - p)) := by
  refine (frame_ignoredWrite s p a).regs _ ?_ (by simp [Part.events])
  have hc : ∀ b, blockAt a = some b → R.HP_RSV_WRITES (1 - p) ≠ rsvCounter p b := by
    intro b hb
    have hlt := rsvCounter_lt p hb
    simp only [R.HP_RSV_WRITES]; omega
  have hne : R.HP_RSV_WRITES (1 - p) ∉ [R.HP_RSV_WRITES p, R.HP_ERR p, R.MOD_EVENT] := by
    simp only [R.HP_RSV_WRITES, R.HP_ERR, R.MOD_EVENT, List.mem_cons, List.not_mem_nil, or_false]; omega
  unfold ignoredRegs
  split
  · next b hb => exact fun h => (List.mem_append.1 h).elim hne fun h => hc b hb (List.mem_singleton.1 h)
  · simpa using hne

theorem regPut_reserved {s : State} {p a v : Nat} (h : regRow a = none) : s.regPut p a v = s.ignoredWrite p a := by
  unfold State.regPut
  rw [h]

theorem regRead_reserved {s : State} {p a : Nat} (h : regRow a = none) : s.regRead p a = (s, 0) := by
  unfold State.regRead
  rw [h]

/-- Settles O57: an aligned word without a register row is read as 0 and its write is `State.ignoredWrite`. -/
theorem reservedSpaceReadsZeroAndIgnoresWrites : Obligations.ReservedSpaceReadsZeroAndIgnoresWrites := by
  refine ⟨fun s p a hu h4 hlt hr => ?_, fun s p a hu h4 hlt hr => ?_, fun s p a v hu h4 hlt hr => ?_⟩
  · refine ⟨_, exec_snapRead_word hu h4 hlt, ?_⟩
    rw [regRead_reserved hr]
    exact ⟨rfl, frame_answer _ _ _ _⟩
  · refine ⟨_, exec_rcRead_word hu h4 hlt, ?_⟩
    rw [regRead_reserved hr]
    exact ⟨rfl, frame_answer _ _ _ _⟩
  · refine ⟨_, exec_registerWrite_word v hu h4 hlt, ?_⟩
    rw [regPut_reserved hr]
    exact ⟨rd_ignoredWrite_count p.isLt, rd_ignoredWrite_other p.isLt, frame_ignoredWrite s p a⟩

/-! ## Writes by access code (R3, R96) -/

section
variable {s : State} {p a v : Nat} {r : RegRow} {b : Block}

theorem regPut_w1c (hr : regRow a = some r) (hb : blockAt a = some b) (hs : s.responds a = true) (hd : b.desc ≠ 2 - p)
    (hacc : r.acc = .w1c) : s.regPut p a v = s.wn a (s.rn a &&& (2 ^ 32 - 1 - (v &&& r.cmask))) := by
  unfold State.regPut
  simp [hr, hb, hs, hd, hacc]

theorem regPut_ro (hr : regRow a = some r) (hb : blockAt a = some b) (hs : s.responds a = true) (hd : b.desc ≠ 2 - p)
    (hacc : r.acc = .ro) : s.regPut p a v = s := by
  unfold State.regPut
  simp [hr, hb, hs, hd, hacc]

theorem regPut_rwg (hr : regRow a = some r) (hb : blockAt a = some b) (hs : s.responds a = true) (hd : b.desc ≠ 2 - p)
    (hacc : r.acc = .rwg) :
    s.regPut p a v = s.gatedWrite p a (fun t => t.putGated p a b.desc (a - b.base) v r.wmask) := by
  unfold State.regPut
  simp [hr, hb, hs, hd, hacc]

end

/-- A gated write has its effect for the gate's holder and is dropped for the other port. -/
theorem gatedWrite_of_gate {s : State} {p a n : Nat} {b : Block} {f : State → State} (hb : blockAt a = some b)
    (hg : b.gate = some n) : s.gatedWrite p a f = if s.holds p n then f s else s.dropWrite p n a := by
  unfold State.gatedWrite
  simp only [hb, Option.bind_some, hg]

/-- A W1C write clears bits that the register holds, so its result is a word. -/
theorem and_rn_lt (s : State) (a m : Nat) : (s.rn a &&& m) % 2 ^ 32 = s.rn a &&& m :=
  Nat.mod_eq_of_lt (Nat.lt_of_le_of_lt Nat.and_le_left (s.rd a).isLt)

theorem mergeBits_lt {old v mask : Nat} (ho : old < 2 ^ 32) (hm : mask < 2 ^ 32) : mergeBits old v mask < 2 ^ 32 :=
  Nat.or_lt_two_pow (Nat.lt_of_le_of_lt Nat.and_le_left ho) (Nat.lt_of_le_of_lt Nat.and_le_right hm)

/-- PCR always responds: its descriptor number is 4 (R62, R440). -/
theorem responds_of_desc4 {s : State} {a : Nat} {b : Block} (hb : blockAt a = some b) (hd : b.desc = 4) :
    s.responds a = true := by
  unfold State.responds
  simp [hb, hd]

/-! ## The dropped write of a gated register (R96) -/

/-- The registers that a dropped write of the block `b` with gate `n` may change. -/
def droppedRegs (p n : Nat) (b : Block) : List Nat :=
  [R.GATE_DROPS n, R.HP_DROP_WRITES p, R.MOD_BLK_DROPS b.desc, R.LOG_EVENT, R.PMON_HALF]

/-- What a dropped write does after its three counts: the records, the gate's audit state and source 38. -/
def State.dropAudit (s : State) (p n a : Nat) : State :=
  let s3 := s.post 0x1001 38 n n a p
  let g := s3.gate n
  let s4 := if g.audited then s3.setGate n { g with unreported := g.unreported + 1 }
    else (s3.setGate n { g with audited := true, unreported := 0 }).post 0x1002 38 n n (g.unreported + 1)
  s4.pulse 38

theorem frame_dropAudit (s : State) (p n a : Nat) :
    s.Frame (s.dropAudit p n a) (.gates :: Part.records) [R.LOG_EVENT, R.PMON_HALF] := by
  have hp : ∀ (t : State) (c x y z : Nat), t.Frame (t.post c 38 x y z) (.gates :: Part.records) [R.LOG_EVENT, R.PMON_HALF] :=
    fun t c x y z => (frame_post t c 38 x y z 0 0).mono (by simp [Part.records]) (by simp)
  have h3 : s.Frame (s.post 0x1001 38 n n a p) (.gates :: Part.records) [R.LOG_EVENT, R.PMON_HALF] :=
    (frame_post s _ _ _ _ _ _ _).mono (by simp [Part.records]) (by simp)
  have hg : ∀ (t : State) (g : Gate), t.Frame (t.setGate n g) (.gates :: Part.records) [R.LOG_EVENT, R.PMON_HALF] :=
    fun t g => (frame_setGate t n g).mono (by simp) (by simp)
  have he : ∀ t : State, t.Frame (t.pulse 38) (.gates :: Part.records) [R.LOG_EVENT, R.PMON_HALF] :=
    fun t => (frame_pulse t 38).mono (by simp [Part.records]) (by simp)
  unfold State.dropAudit
  simp only
  split
  · exact (h3.comp (hg _ _)).comp (he _)
  · exact ((h3.comp (hg _ _)).comp (hp _ _ _ _ _)).comp (he _)

/-- A dropped write of a block that stands in the map: three counts, then the audit. -/
theorem dropWrite_eq {s : State} {p n a : Nat} {b : Block} (hb : blockAt a = some b) :
    s.dropWrite p n a = ((((s.inc (R.GATE_DROPS n)).inc (R.HP_DROP_WRITES p)).count (262 + 32 * p)).inc
      (R.MOD_BLK_DROPS b.desc)).dropAudit p n a := by
  unfold State.dropWrite State.dropAudit
  rw [hb]

section
variable {s : State} {p n a : Nat} {b : Block}

theorem frame_dropWrite (hb : blockAt a = some b) :
    s.Frame (s.dropWrite p n a) (.gates :: Part.records) (droppedRegs p n b) := by
  rw [dropWrite_eq hb]
  exact ((((frame_inc s _ 1).trans (frame_inc _ _ 1)).trans ((frame_count _ _ 1).trans (frame_inc _ _ 1))).trans
    (frame_dropAudit _ p n a)).mono (by simp [Part.records]) (by simp [droppedRegs])

/-- A register counted before the audit, and by nothing after its own count, shows that count. -/
theorem rd_dropWrite_of_ne {x : Nat} (hb : blockAt a = some b) (hm : x ≠ R.MOD_BLK_DROPS b.desc) (hl : x ≠ R.LOG_EVENT)
    (hh : x ≠ R.PMON_HALF) :
    (s.dropWrite p n a).rd x = ((s.inc (R.GATE_DROPS n)).inc (R.HP_DROP_WRITES p)).rd x := by
  rw [dropWrite_eq hb, (frame_dropAudit _ p n a).regs x (by simp [hl, hh]) (by simp [Part.records]),
    State.rd_inc_other _ _ hm, (frame_count _ _ 1).regs x (by simp [hh]) (by simp)]

theorem rd_dropWrite_port (hb : blockAt a = some b) (hp : p < 2) :
    (s.dropWrite p n a).rd (R.HP_DROP_WRITES p) = s.rd (R.HP_DROP_WRITES p) + 1#32 := by
  have hd := desc_lt hb
  rw [rd_dropWrite_of_ne hb (by simp only [R.HP_DROP_WRITES, R.MOD_BLK_DROPS]; omega)
    (by simp only [R.HP_DROP_WRITES, R.LOG_EVENT]; omega) (by simp only [R.HP_DROP_WRITES, R.PMON_HALF]; omega),
    State.rd_inc_same, State.rd_inc_other _ _ (by simp only [R.HP_DROP_WRITES, R.GATE_DROPS]; omega)]

theorem rd_dropWrite_gate (hb : blockAt a = some b) (hn : n < 64) :
    (s.dropWrite p n a).rd (R.GATE_DROPS n) = s.rd (R.GATE_DROPS n) + 1#32 := by
  have hd := desc_lt hb
  rw [rd_dropWrite_of_ne hb (by simp only [R.GATE_DROPS, R.MOD_BLK_DROPS]; omega)
    (by simp only [R.GATE_DROPS, R.LOG_EVENT]; omega) (by simp only [R.GATE_DROPS, R.PMON_HALF]; omega),
    State.rd_inc_other _ _ (by simp only [R.HP_DROP_WRITES, R.GATE_DROPS]; omega), State.rd_inc_same]

/-- No register that takes gated writes is changed by a dropped one: the counts stand below every gated block, and the two
event registers are not RWG. -/
theorem rwg_not_dropped {r : RegRow} (hr : regRow a = some r) (hacc : r.acc = .rwg) (hb : blockAt a = some b)
    (hg : b.gate = some n) (hp : p < 2) : a ∉ droppedRegs p n b := by
  obtain ⟨ha, hn⟩ := gated_offset hb hg
  have hd := desc_lt hb
  have hne : ∀ x, (∀ q, regRow x = some q → q.acc ≠ .rwg) → a ≠ x := fun x hx he => hx r (he ▸ hr) hacc
  have hlog : a ≠ R.LOG_EVENT := hne _ (by decide)
  have hhalf : a ≠ R.PMON_HALF := hne _ (by decide)
  simp only [droppedRegs, List.mem_cons, List.not_mem_nil, or_false, hlog, hhalf, R.GATE_DROPS, R.HP_DROP_WRITES,
    R.MOD_BLK_DROPS]
  omega

end

/-! ## Reads by access code (R3) -/

section
variable {s : State} {p a : Nat} {r : RegRow}

theorem regRead_rc (hr : regRow a = some r) (hs : s.responds a = true) (hacc : r.acc = .rc) :
    s.regRead p a = (s.wn a 0, s.regView p a) := by
  unfold State.regRead
  simp [hr, hs, hacc]

/-- A read of the lowest word of a SNAP register captures it and answers the captured word. -/
theorem regRead_snapLow (hr : regRow a = some r) (hs : s.responds a = true) (hacc : r.acc = .snap) (hl : a = snapLow a) :
    s.regRead p a = (s.snapCapture p a, (tget ((s.snapCapture p a).port p).snap 0#32 a).toNat) := by
  unfold State.regRead
  simp [hr, hs, hacc, ← hl]

/-- A read of a register that no access code, gate or measurement singles out changes nothing. -/
theorem regRead_plain (hr : regRow a = some r) (hs : s.responds a = true) (hrc : r.acc ≠ .rc) (hsn : r.acc ≠ .snap)
    (hg : ¬(0x30000 ≤ a ∧ a < 0x31000 ∧ a % 16 = 0)) (hm : s.measuredField a = none) :
    s.regRead p a = (s, s.regView p a) := by
  unfold State.regRead
  simp only [hr, hs, Bool.not_true, Bool.false_eq_true, if_false, if_neg hg, hm]

/-- A capture outside the performance monitor writes the words of the register as the port sees them. -/
theorem snapCapture_eq (h11 : a / 65536 ≠ 0x11) :
    s.snapCapture p a = s.setPort p { s.port p with
      snap := (snapWords a).foldl (fun t k => tset t 0#32 k (BitVec.ofNat 32 (s.regView p k))) (s.port p).snap } := by
  unfold State.snapCapture
  simp [h11]

/-- Both words of a captured SNAP register hold what the port sees. -/
theorem tget_snapWords (t : Tbl Word) (v : Nat → Word) (k : Nat) (hk : k = a ∨ k = a + 4) :
    tget ((snapWords a).foldl (fun t k => tset t 0#32 k (v k)) t) 0#32 k = v k := by
  unfold snapWords
  split <;> rcases hk with rfl | rfl <;> simp [tget_tset]

/-- PCR_RST_CAUSE and PCR_PFAIL_CNT are read without any effect. -/
theorem regRead_pcr (h : a ∈ [R.PCR_RST_CAUSE, R.PCR_PFAIL_CNT]) : s.regRead p a = (s, s.regView p a) := by
  have hrow : ∀ x ∈ [R.PCR_RST_CAUSE, R.PCR_PFAIL_CNT], ∃ r, regRow x = some r ∧ r.acc ≠ .rc ∧ r.acc ≠ .snap := by
    intro x hx
    simp only [List.mem_cons, List.not_mem_nil, or_false] at hx
    rcases hx with rfl | rfl <;> exact ⟨_, rfl, by decide, by decide⟩
  have hblk : ∀ x ∈ [R.PCR_RST_CAUSE, R.PCR_PFAIL_CNT], ∃ b, blockAt x = some b ∧ b.desc = 4 := by
    intro x hx
    simp only [List.mem_cons, List.not_mem_nil, or_false] at hx
    rcases hx with rfl | rfl <;> exact ⟨_, rfl, rfl⟩
  obtain ⟨r, hr, hrc, hsn⟩ := hrow a h
  obtain ⟨b, hb, hd⟩ := hblk a h
  refine regRead_plain hr (responds_of_desc4 hb hd) hrc hsn ?_ ?_
  · simp only [List.mem_cons, List.not_mem_nil, or_false, R.PCR_RST_CAUSE, R.PCR_PFAIL_CNT] at h
    omega
  · simp only [List.mem_cons, List.not_mem_nil, or_false] at h
    rcases h with rfl | rfl <;>
      simp [State.measuredField, islMeasured, R.PCR_RST_CAUSE, R.PCR_PFAIL_CNT, R.PCR_POWER, R.PCR_VIN, R.PCR_STATUS,
        R.SCN_LOAD, R.DO_READBACK, R.CAN_TDC, R.ETH_STATUS]

end

/-- The row of PCR_GATE_CTL: a gated register with six writable bits (R66). -/
theorem regRow_gateCtl : regRow R.PCR_GATE_CTL = some ⟨R.PCR_GATE_CTL, [], .rwg, 0, 0x3f, 0, false⟩ := rfl

/-- PCR's gate is gate 0 (R460). -/
theorem blockAt_gateCtl : ∃ b, blockAt R.PCR_GATE_CTL = some b ∧ b.desc = 4 ∧ b.gate = some 0 ∧ b.base = 0x100000 :=
  ⟨_, rfl, rfl, rfl, rfl⟩

/-- Settles O9: by the access code of the register's row, on the equations of a write and of a read of one word. -/
theorem registerAccessesFollowTheirCodes : Obligations.RegisterAccessesFollowTheirCodes := by
  refine ⟨fun s p a v r b hu h4 hlt hr hb hs hd hacc => ?w1c, fun s p a v r b hu h4 hlt hr hb hs hd hacc => ?ro,
    fun s p a v r b n hu h4 hlt hr hb hs hd hacc hg hh => ?dropped, fun s p v hu hrec hh => ?gateCtl,
    fun s p a r hu h4 hlt hr hs hacc => ?rc, fun s p a r hu h4 hlt hr hs hacc hl h11 => ?snap,
    fun s p a hu h => ?pcr⟩
  case w1c =>
    refine ⟨_, exec_registerWrite_word v hu h4 hlt, ?_⟩
    rw [regPut_w1c hr hb hs hd hacc]
    exact ⟨(State.rn_wn_same _ _ _).trans (and_rn_lt _ _ _), frame_wn _ _ _⟩
  case ro =>
    exact ⟨_, exec_registerWrite_word v hu h4 hlt, regPut_ro hr hb hs hd hacc⟩
  case dropped =>
    have hw : s.regPut p a v.toNat = s.dropWrite p n a := by
      rw [regPut_rwg hr hb hs hd hacc]
      exact (gatedWrite_of_gate hb hg).trans (by simp [hh])
    refine ⟨_, exec_registerWrite_word v hu h4 hlt, ?_⟩
    rw [hw]
    have hf := frame_dropWrite (s := s) (p := p) (n := n) hb
    exact ⟨hf.regs a (rwg_not_dropped hr hacc hb hg p.isLt) (by simp [Part.records]), rd_dropWrite_port hb p.isLt,
      rd_dropWrite_gate hb (by have := (gated_offset hb hg).2; omega), hf⟩
  case gateCtl =>
    obtain ⟨b, hb, hdesc, hgate, hbase⟩ := blockAt_gateCtl
    have hw : s.regPut p R.PCR_GATE_CTL v.toNat = s.putPlain R.PCR_GATE_CTL v.toNat 0x3f := by
      rw [regPut_rwg regRow_gateCtl hb (responds_of_desc4 hb hdesc) (by omega) rfl]
      refine (gatedWrite_of_gate hb hgate).trans ?_
      rw [if_pos hh, hdesc, hbase]
      rfl
    refine ⟨_, exec_registerWrite_word v hu (by decide) (by decide), ?_⟩
    rw [hw]
    exact ⟨(State.rn_wn_same _ _ _).trans (Nat.mod_eq_of_lt (mergeBits_lt (s.rd _).isLt (by decide))), frame_wn _ _ _⟩
  case rc =>
    refine ⟨_, exec_rcRead_word hu h4 hlt, ?_⟩
    rw [regRead_rc hr hs hacc]
    exact ⟨State.rn_wn_same _ _ _, rfl, ((frame_wn s a 0).trans (frame_answer _ _ _ _)).mono (by simp) (by simp)⟩
  case snap =>
    refine ⟨_, exec_snapRead_word hu h4 hlt, ?_⟩
    rw [regRead_snapLow hr hs hacc hl, snapCapture_eq h11, State.setPort_same]
    have hport : ∀ t v, (State.answer t p a v).port p = t.port p := fun _ _ => rfl
    simp only [hport, State.setPort_same]
    have hw := fun k hk => tget_snapWords (a := a) (s.port p).snap (fun k => BitVec.ofNat 32 (s.regView p k)) k hk
    refine ⟨hw a (.inl rfl), hw (a + 4) (.inr rfl), ?_, ?_⟩
    · simp [hw a (.inl rfl)]
    · exact ((frame_setPort s p _).trans (frame_answer _ _ _ _)).mono (by simp) (by simp)
  case pcr =>
    have h4 : a % 4 = 0 ∧ a < 16777216 := by
      simp only [List.mem_cons, List.not_mem_nil, or_false, R.PCR_RST_CAUSE, R.PCR_PFAIL_CNT] at h
      omega
    refine ⟨_, exec_snapRead_word hu h4.1 h4.2, ?_⟩
    rw [regRead_pcr h]
    exact ⟨rfl, frame_answer _ _ _ _⟩

/-! ## The state after reset -/

/-- Settles O60: every table of the state after reset is empty, so that each register reads as its Reset column. -/
theorem resetLeavesTheResetColumn : Obligations.ResetLeavesTheResetColumn :=
  ⟨fun _ => rfl, witness_canonical, by decide, fun _ => ⟨rfl, rfl, rfl⟩, fun _ => ⟨rfl, rfl⟩, rfl, rfl, rfl, rfl⟩

end Sys2Proof.Machine
end

section
/-! # The canonical form that every command keeps (R2, R85)

`Canon cs s` says that the three tables of the state `s` are in canonical form and that its queue is `cs`. The model
writes those tables in few places: registers by `State.wr`, slots by `State.putSlot`, the data of tasks by
`State.putInst`, `State.bcStore` and `State.putFrame`, and resets drop entries. All else that the model does is built
from these, so each operation keeps `Canon cs` by the rules of the operations that it is written with, and the term
that proves it follows the operation's text. Where a definition chooses or names a state more than once, the proof is
by `split`, or names that state as the definition does; `clear_value` forgets how it was made once its rule is had.

`Canon.x` is the rule of the operation `State.x`, and `CanonOut.x` that of the command `execX`. -/

namespace Sys2Proof.Machine

/-! ## The invariant -/

/-- The state is in canonical form and the commands `cs` wait. -/
def Canon (cs : List Instr) (s : State) : Prop := s.canonical = true ∧ s.pending = cs

/-- An outcome whose state, where it answers one, is in canonical form with the commands `cs` waiting. -/
def CanonOut (cs : List Instr) (o : Host.Outcome State Fault Refusal) : Prop := ∀ t, o = .next t → Canon cs t

theorem canon_iff {cs : List Instr} {s : State} :
    Canon cs s ↔ twf regReset s.regs = true ∧ twf (fun _ => ({} : Slot)) s.pix.slots = true
      ∧ twf (fun _ => 0#8) s.scn.inst = true ∧ s.pending = cs := by
  simp [Canon, State.canonical, and_assoc]

theorem CanonOut.next {cs : List Instr} {s : State} (h : Canon cs s) : CanonOut cs (.next s) := by
  intro t e
  cases e
  exact h

theorem CanonOut.ite {cs : List Instr} {c : Prop} {_ : Decidable c} {o u : Host.Outcome State Fault Refusal}
    (ho : CanonOut cs o) (hu : CanonOut cs u) : CanonOut cs (if c then o else u) := by
  split
  · exact ho
  · exact hu

/-- A table keeps its canonical form when entries are dropped. -/
theorem twf_filter {α : Type} [DecidableEq α] {d : Nat → α} {t : Tbl α} (f : Nat × α → Bool) (h : twf d t = true) :
    twf d (t.filter f) = true := by
  simp only [twf, Bool.and_eq_true, List.all_eq_true, tsorted_iff] at h ⊢
  exact ⟨h.1.sublist List.filter_sublist, fun p hp => h.2 p (List.mem_filter.1 hp).1⟩

/-- A table keeps its canonical form under a fold of steps that each keep it. -/
theorem twf_foldl {α β : Type} [DecidableEq α] {d : Nat → α} {f : Tbl α → β → Tbl α}
    (hf : ∀ t x, twf d t = true → twf d (f t x) = true) (l : List β) {t : Tbl α} (h : twf d t = true) :
    twf d (l.foldl f t) = true := by
  induction l generalizing t with
  | nil => exact h
  | cons x l ih => exact ih (hf t x h)

/-- Bytes written one after the other keep the canonical form. -/
theorem twf_putBytes {t : Tbl Byte} (k : Nat) (l : List Byte) (h : twf (fun _ => 0#8) t = true) :
    twf (fun _ => 0#8) ((List.range l.length).foldl (fun u j => tset u 0#8 (k + j) (l.getD j 0#8)) t) = true :=
  twf_foldl (d := fun _ => 0#8) (fun _ _ => twf_tset _ _) _ h

namespace Canon

variable {cs : List Instr} {s t : State}

/-! ## How the invariant passes through a definition -/

/-- A change of fields other than the registers, `pix`, `scn` and the queue keeps the invariant. -/
theorem same
    {settings clk log hpA hpB gates deny edges rep olc le out free pwr sec dpx fio can set mtr reports pmon
    pmonOpen fwu eth ptp bkd saf}
    (h : Canon cs s) : Canon cs (.mk
      s.regs settings clk log hpA hpB gates deny edges s.pix rep s.scn olc le out free pwr sec dpx fio can set
      mtr reports pmon pmonOpen fwu eth ptp bkd saf s.pending) :=
  h

/-- A change inside the point image that leaves the slots keeps the invariant. -/
theorem same_pix
    {settings clk log hpA hpB gates deny edges rep olc le out free pwr sec dpx fio can set mtr reports pmon
    pmonOpen fwu eth ptp bkd saf dirty faulted}
    (h : Canon cs s) : Canon cs (.mk
      s.regs settings clk log hpA hpB gates deny edges ⟨s.pix.slots, dirty, faulted⟩ rep s.scn olc le out free
      pwr sec dpx fio can set mtr reports pmon pmonOpen fwu eth ptp bkd saf s.pending) :=
  h

/-- A change inside the controller that leaves the data of tasks keeps the invariant. -/
theorem same_scn
    {settings clk log hpA hpB gates deny edges rep olc le out free pwr sec dpx fio can set mtr reports pmon
    pmonOpen fwu eth ptp bkd saf bank0 bank1 curBank img task ret retSlots breaks byCmd stopping order lost
    started outsSafe haltUp pairTest trigs held ctl}
    (h : Canon cs s) : Canon cs (.mk
      s.regs settings clk log hpA hpB gates deny edges s.pix rep ⟨bank0, bank1, curBank, img, task, s.scn.inst,
      ret, retSlots, breaks, byCmd, stopping, order, lost, started, outsSafe, haltUp, pairTest, trigs, held, ctl⟩
      olc le out free pwr sec dpx fio can set mtr reports pmon pmonOpen fwu eth ptp bkd saf s.pending) :=
  h

theorem ite {c : Prop} {_ : Decidable c} (hs : Canon cs s) (ht : Canon cs t) : Canon cs (if c then s else t) := by
  split
  · exact hs
  · exact ht

theorem foldl {α : Type} {f : State → α → State} {l : List α} (hf : ∀ {s x}, Canon cs s → Canon cs (f s x))
    (h : Canon cs s) : Canon cs (l.foldl f s) := by
  induction l generalizing s with
  | nil => exact h
  | cons x l ih => exact ih (hf h)

/-- A fold that carries a value beside the state keeps the invariant of the state. -/
theorem foldl_fst {α β : Type} {f : State × β → α → State × β} {l : List α} {u : State × β}
    (hf : ∀ {u x}, Canon cs u.1 → Canon cs (f u x).1) (h : Canon cs u.1) : Canon cs (l.foldl f u).1 := by
  induction l generalizing u with
  | nil => exact h
  | cons x l ih => exact ih (hf h)

/-! ## The writes of the three tables -/

theorem regs (h : Canon cs s) {r : Tbl Word} (hr : twf regReset r = true) : Canon cs { s with regs := r } := by
  rw [canon_iff] at h ⊢
  obtain ⟨-, hslots, hdata, hq⟩ := h
  exact ⟨hr, hslots, hdata, hq⟩

theorem slots (h : Canon cs s) {x : PixS} (hx : twf (fun _ => ({} : Slot)) x.slots = true) :
    Canon cs { s with pix := x } := by
  rw [canon_iff] at h ⊢
  obtain ⟨hregs, -, hdata, hq⟩ := h
  exact ⟨hregs, hx, hdata, hq⟩

theorem data (h : Canon cs s) {x : ScnS} (hx : twf (fun _ => 0#8) x.inst = true) : Canon cs { s with scn := x } := by
  rw [canon_iff] at h ⊢
  obtain ⟨hregs, hslots, -, hq⟩ := h
  exact ⟨hregs, hslots, hx, hq⟩

theorem twf_regs (h : Canon cs s) : twf regReset s.regs = true := (canon_iff.1 h).1

theorem twf_slots (h : Canon cs s) : twf (fun _ => ({} : Slot)) s.pix.slots = true := (canon_iff.1 h).2.1

theorem twf_data (h : Canon cs s) : twf (fun _ => 0#8) s.scn.inst = true := (canon_iff.1 h).2.2.1

end Canon

variable {cs : List Instr} {s : State}

/-! ## Registers, clocks, events, records -/

theorem Canon.wr {a v} (h : Canon cs s) : Canon cs (s.wr a v) := h.regs (twf_tset _ _ h.twf_regs)

theorem Canon.wn {a v} (h : Canon cs s) : Canon cs (s.wn a v) := .wr h

theorem Canon.p {f v} (h : Canon cs s) : Canon cs (s.p f v) := .wn h

theorem Canon.setBit {a b v} (h : Canon cs s) : Canon cs (s.setBit a b v) := .wn h

theorem Canon.inc {a n} (h : Canon cs s) : Canon cs (s.inc a n) := .wr h

theorem Canon.incHold {f n} (h : Canon cs s) : Canon cs (s.incHold f n) := .p h

theorem Canon.wn64 {a v} (h : Canon cs s) : Canon cs (s.wn64 a v) := .wn (.wn h)

theorem Canon.setPort {p q} (h : Canon cs s) : Canon cs (s.setPort p q) := .ite h h

theorem Canon.pwp {p a v} (h : Canon cs s) : Canon cs (s.pwp p a v) := .setPort h

theorem Canon.freshen (h : Canon cs s) : Canon cs s.freshen := h

theorem Canon.advance {n} (h : Canon cs s) : Canon cs (s.advance n) := h

theorem Canon.advanceToPtp {t} (h : Canon cs s) : Canon cs (s.advanceToPtp t) := .ite (.advance h) h

theorem Canon.advanceToUp {t} (h : Canon cs s) : Canon cs (s.advanceToUp t) := .ite (.advance h) h

theorem Canon.advanceToTick {t} (h : Canon cs s) : Canon cs (s.advanceToTick t) := .ite (.advance h) h

theorem Canon.trigger {kind ref} (h : Canon cs s) : Canon cs (s.trigger kind ref) := by
  unfold State.trigger
  split
  · exact h
  · exact .ite h h

theorem Canon.edge {src} (h : Canon cs s) : Canon cs (s.edge src) := .trigger h

theorem Canon.edgeFrom {src was} (h : Canon cs s) : Canon cs (s.edgeFrom src was) := .ite (.edge h) h

theorem Canon.raise {e b} (h : Canon cs s) : Canon cs (s.raise e b) := .edgeFrom (.setBit h)

theorem Canon.pulse {src} (h : Canon cs s) : Canon cs (s.pulse src) := .edge h

theorem Canon.pmonAdd {c n} (h : Canon cs s) : Canon cs (s.pmonAdd c n) := .ite (.raise h) h

theorem Canon.count {src n} (h : Canon cs s) : Canon cs (s.count src n) := .foldl (fun ht => .ite (.pmonAdd ht) ht) h

theorem Canon.report {cls unit inst pc} (h : Canon cs s) : Canon cs (s.report cls unit inst pc) := h

theorem Canon.emit {o} (h : Canon cs s) : Canon cs (s.emit o) := h

theorem Canon.tow {m} (h : Canon cs s) : Canon cs (s.tow m) := .ite (.count (.emit h)) h

theorem Canon.logAck {r} (h : Canon cs s) : Canon cs (s.logAck r) := by
  unfold State.logAck
  extract_lets _ _ _ _ _ s1 s2
  have h1 : Canon cs s1 := .count h
  have h2 : Canon cs s2 := .ite (.raise h1) h1
  exact .ite (.raise h2) h2

theorem Canon.logFlush (h : Canon cs s) : Canon cs s.logFlush := .foldl .logAck h

theorem Canon.post {code unit inst p0 p1 p2 p3} (h : Canon cs s) : Canon cs (s.post code unit inst p0 p1 p2 p3) := by
  unfold State.post
  extract_lets _ _ _ _ s1 _ _ s2
  have h1 : Canon cs s1 := .count h
  have h2 : Canon cs s2 := .ite (.raise (.same h1)) h1
  refine .ite (.logAck (.logFlush h2)) ?_
  split
  · exact .ite (.logAck (.same h2)) (.same h2)
  · exact .same h2

theorem Canon.rsvWrite {p a} (h : Canon cs s) : Canon cs (s.rsvWrite p a) := by
  unfold State.rsvWrite
  extract_lets s1 s2
  have h1 : Canon cs s1 := .inc h
  have h2 : Canon cs s2 := by
    unfold s2
    split
    · exact .inc h1
    · exact h1
  exact .raise h2

theorem Canon.setGate {n g} (h : Canon cs s) : Canon cs (s.setGate n g) := h

theorem Canon.dropWrite {p n a} (h : Canon cs s) : Canon cs (s.dropWrite p n a) := by
  unfold State.dropWrite
  extract_lets s1 s2 s3
  have h1 : Canon cs s1 := .count (.inc (.inc h))
  have h2 : Canon cs s2 := by
    unfold s2
    split
    · exact .inc h1
    · exact h1
  have h3 : Canon cs s3 := .post h2
  exact .pulse (.ite (.setGate h3) (.post (.setGate h3)))

theorem Canon.gatedWrite {p a f} (hf : ∀ {t}, Canon cs t → Canon cs (f t)) (h : Canon cs s) :
    Canon cs (s.gatedWrite p a f) := by
  unfold State.gatedWrite
  split
  · exact hf h
  · exact .ite (hf h) (.dropWrite h)

theorem Canon.releaseGate {n} (h : Canon cs s) : Canon cs (s.releaseGate n) := .setGate h

theorem Canon.regWrite {p a f} (hf : ∀ {t}, Canon cs t → Canon cs (f t)) (h : Canon cs s) :
    Canon cs (s.regWrite p a f) :=
  .ite (.gatedWrite (fun ht => hf ht) h) (.rsvWrite h)

theorem Canon.msix {p v} (h : Canon cs s) : Canon cs (s.msix p v) := .ite h (.ite (.setPort h) (.count h))

theorem Canon.startOp {r} (h : Canon cs s) : Canon cs (s.startOp r) := .setPort h

theorem Canon.finish {r c} (h : Canon cs s) : Canon cs (s.finish r c) := .setPort h

theorem Canon.finishWith {r status result quality flags} (h : Canon cs s) :
    Canon cs (s.finishWith r status result quality flags) := by
  unfold State.finishWith
  split
  · exact .ite (.finish h) (.freshen (.finish h))
  · exact h

theorem Canon.finishOpen {r} (h : Canon cs s) : Canon cs (s.finishOpen r) := .finishWith (.freshen h)

theorem Canon.withOp {r code sel f} (hf : ∀ {x0 t}, Canon cs t → Canon cs (f x0 t)) (h : Canon cs s) :
    Canon cs (s.withOp r code sel f) := by
  unfold State.withOp
  refine .ite ?_ h
  split
  · exact .ite (hf (.startOp h)) h
  · exact h

theorem Canon.hostPut {p e b data} (h : Canon cs s) : Canon cs (s.hostPut p e b data) := .ite h h

/-! ## Point image -/

theorem Canon.putSlot {i x} (h : Canon cs s) : Canon cs (s.putSlot i x) :=
  h.slots (twf_tset (d := fun _ => ({} : Slot)) _ _ h.twf_slots)

theorem Canon.setOwn {b o} (h : Canon cs s) : Canon cs (s.setOwn b o) := h

theorem Canon.deny1 {c i} (h : Canon cs s) : Canon cs (s.deny1 c i) := by
  unfold State.deny1
  extract_lets _ _ put
  have hput : ∀ {x0}, Canon cs (put x0) := h
  exact .pulse (.ite hput (.post hput))

theorem Canon.access {c i} (h : Canon cs s) : Canon cs (s.access c i) := .ite (.deny1 h) h

theorem Canon.countDenied {p c l} (h : Canon cs s) : Canon cs (s.countDenied p c l) := .count h

theorem Canon.notify {i} (h : Canon cs s) : Canon cs (s.notify i) := h

theorem Canon.store {i x} (h : Canon cs s) : Canon cs (s.store i x) := by
  unfold State.store
  extract_lets _ _ _ s1 s2
  have h1 : Canon cs s1 := .same_pix (.putSlot h)
  have h2 : Canon cs s2 := .ite (.notify h1) h1
  exact .ite (.trigger h2) h2

theorem Canon.storeOwned {i y} (h : Canon cs s) : Canon cs (s.storeOwned i y) := by
  unfold State.storeOwned
  extract_lets _ s1
  have h1 : Canon cs s1 := .count (.store h)
  exact .ite (.same_pix h1) h1

theorem Canon.arbStamp {t i x} (h : Canon cs s) : Canon cs (s.arbStamp t i x) := .storeOwned h

theorem Canon.journalSlot {i} (h : Canon cs s) : Canon cs (s.journalSlot i) := .ite h h

theorem Canon.arb {t i x} (h : Canon cs s) : Canon cs (s.arb t i x) := .journalSlot (.arbStamp h)

theorem Canon.forward {k i} (h : Canon cs s) : Canon cs (s.forward k i) := .ite (.tow h) h

theorem Canon.stale {i} (h : Canon cs s) : Canon cs (s.stale i) := .ite (.store h) h

theorem Canon.restamp {t i q} (h : Canon cs s) : Canon cs (s.restamp t i q) := .ite (.forward (.arb h)) h

theorem Canon.forceRecord {f what} (h : Canon cs s) : Canon cs (s.forceRecord f what) := by
  unfold State.forceRecord
  split <;> exact .post h

theorem Canon.setForce {f} (h : Canon cs s) : Canon cs (s.setForce f) := by
  unfold State.setForce
  split <;> exact h

theorem Canon.stampForce {i} (h : Canon cs s) : Canon cs (s.stampForce i) := h

theorem Canon.dropForce {k} (h : Canon cs s) : Canon cs (s.dropForce k) := by
  unfold State.dropForce
  split
  · exact h
  · exact .raise (.forceRecord h)

theorem Canon.dropBlockForces {b} (h : Canon cs s) : Canon cs (s.dropBlockForces b) := .foldl .dropForce h

theorem Canon.takeForces {b} (h : Canon cs s) : Canon cs (s.takeForces b) := by
  unfold State.takeForces
  refine .foldl (fun ht => ?_) h
  extract_lets _ _ t1
  have ht1 : Canon cs t1 := .ite ht (.store ht)
  exact .ite (.forward (.forceRecord (.stampForce (.setForce ht1)))) (.raise ht1)

theorem Canon.needResync {target all blocks} (h : Canon cs s) : Canon cs (s.needResync target all blocks) := .ite h h

theorem Canon.replicaFail {i} (h : Canon cs s) : Canon cs (s.replicaFail i) := .needResync (.raise (.store h))

theorem Canon.checkSlot {i} (h : Canon cs s) : Canon cs (s.checkSlot i) := by
  unfold State.checkSlot
  extract_lets _ s1 s2
  have h1 : Canon cs s1 := .count (.p (.inc h))
  have h2 : Canon cs s2 := .raise h1
  clear_value s2
  split
  · exact h
  · exact .ite (.ite h2 (.report (.same_pix h2))) (.replicaFail h1)

theorem Canon.checkSlots {l} (h : Canon cs s) : Canon cs (s.checkSlots l) := .foldl .checkSlot h

theorem CanonOut.pixScrub {upsets} (h : Canon cs s) : CanonOut cs (execPixScrub upsets s) := by
  unfold execPixScrub
  extract_lets s1
  have h1 : Canon cs s1 := .foldl .putSlot h
  exact .ite (.next h1) (.next (.checkSlots h1))

/-! ## Field channels and stations -/

theorem Canon.putField {i f} (h : Canon cs s) : Canon cs (s.putField i f) := .ite h (.forward (.arb h))

theorem Canon.putChannel {unit ch f} (h : Canon cs s) : Canon cs (s.putChannel unit ch f) := .foldl .putField h

theorem Canon.stationLost {k} (h : Canon cs s) : Canon cs (s.stationLost k) := by
  unfold State.stationLost
  refine .ite h ?_
  extract_lets _ _ s2 s3
  have h2 : Canon cs s2 := .raise h
  have h3 : Canon cs s3 := .ite (.foldl .putField h2) h2
  exact .ite (.tow h3) h3

theorem Canon.stationBack {k} (h : Canon cs s) : Canon cs (s.stationBack k) := by
  unfold State.stationBack
  refine .ite h ?_
  extract_lets _ _ s2
  have h2 : Canon cs s2 := .raise h
  exact .ite (.tow h2) h2

/-! ## Host ports -/

theorem Canon.sqOff {p n} (h : Canon cs s) : Canon cs (s.sqOff p n) := .setPort (.p h)

theorem Canon.sqCfgWrite {p n v} (h : Canon cs s) : Canon cs (s.sqCfgWrite p n v) := by
  unfold State.sqCfgWrite
  extract_lets _ _ s1 s1'
  have h1 : Canon cs s1 := .ite (.p h) h
  have h1' : Canon cs s1' := .wn h
  exact .ite (.ite h1 (.sqOff h1)) (.ite h1' (.ite (.p h1') (.p (.p (.p (.p h1'))))))

theorem Canon.cqCfgWrite {p n v} (h : Canon cs s) : Canon cs (s.cqCfgWrite p n v) := by
  unfold State.cqCfgWrite
  extract_lets _ _ s1 s1'
  have h1 : Canon cs s1 := .ite (.p h) h
  have h1' : Canon cs s1' := .wn h
  exact .ite (.ite h1 (.ite (.p h1) (.p h1))) (.ite h1' (.ite (.p h1') (.setPort (.p (.p (.p (.p h1')))))))

theorem Canon.baseWrite {p a v on} (h : Canon cs s) : Canon cs (s.baseWrite p a v on) := .ite (.ite (.p h) h) (.wn h)

theorem CanonOut.ringEnable {p cq n v} (h : Canon cs s) : CanonOut cs (execRingEnable p cq n v s) :=
  .next (.ite h (.ite (.cqCfgWrite h) (.sqCfgWrite h)))

theorem CanonOut.sqDisable {p n v} (h : Canon cs s) : CanonOut cs (execSqDisable p n v s) :=
  .next (.ite h (.sqCfgWrite h))

theorem CanonOut.cqDisable {p n v} (h : Canon cs s) : CanonOut cs (execCqDisable p n v s) :=
  .next (.ite h (.cqCfgWrite h))

theorem Canon.doorbellOff {p} (h : Canon cs s) : Canon cs (s.doorbellOff p) := .inc (.p h)

theorem Canon.tailDoorbell {p n v} (h : Canon cs s) : Canon cs (s.tailDoorbell p n v) := by
  unfold State.tailDoorbell
  extract_lets s
  have hs : Canon cs s := .count h
  exact .ite (.doorbellOff hs) (.ite (.p hs) (.p hs))

theorem Canon.headDoorbell {p n v} (h : Canon cs s) : Canon cs (s.headDoorbell p n v) := by
  unfold State.headDoorbell
  extract_lets s
  have hs : Canon cs s := .count h
  exact .ite (.doorbellOff hs) (.ite (.p hs) (.p hs))

theorem CanonOut.sqTailDoorbell {p n v} (h : Canon cs s) : CanonOut cs (execSqTailDoorbell p n v s) :=
  .next (.ite h (.tailDoorbell h))

theorem CanonOut.cqHeadDoorbell {p n v} (h : Canon cs s) : CanonOut cs (execCqHeadDoorbell p n v s) :=
  .next (.ite h (.headDoorbell h))

theorem CanonOut.entryFetch {p entry} (h : Canon cs s) : CanonOut cs (execEntryFetch p entry s) := by
  unfold execEntryFetch
  refine .ite (.next h) ?_
  split
  · exact .next h
  · extract_lets _ s1
    have h1 : Canon cs s1 := .setPort h
    split
    · exact .next (.p (.p h1))
    · exact .next (.count (.setPort (.freshen (.p h1))))

theorem Canon.cqRaise {p n} (h : Canon cs s) : Canon cs (s.cqRaise p n) := by
  unfold State.cqRaise
  extract_lets _ _ s1
  have h1 : Canon cs s1 := .setPort h
  exact .ite (.msix h1) h1

theorem Canon.cqCount {p n} (h : Canon cs s) : Canon cs (s.cqCount p n) :=
  .ite h (.ite (.cqRaise h) (.ite (.cqRaise h) (.setPort h)))

theorem Canon.cqPut {p n c counts} (h : Canon cs s) : Canon cs (s.cqPut p n c counts) := by
  unfold State.cqPut
  extract_lets _ _ _ _ _ _ _ s3
  have h3 : Canon cs s3 := .p (.same (.setPort h))
  exact .ite (.cqCount h3) h3

theorem Canon.cqStop {p n} (h : Canon cs s) : Canon cs (s.cqStop p n) := .p (.p h)

theorem CanonOut.completionWrite {p n ok} (h : Canon cs s) : CanonOut cs (execCompletionWrite p n ok s) := by
  unfold execCompletionWrite
  refine .ite (.next h) ?_
  split
  · exact .ite (.next (.cqStop h)) (.next (.count (.cqPut (.setPort h))))
  · split
    · exact .next h
    · split
      · exact .next h
      · exact .ite (.next (.cqStop h)) (.next (.count (.cqPut (.setPort h))))

theorem CanonOut.subscriptionNotify {p n ok} (h : Canon cs s) : CanonOut cs (execSubscriptionNotify p n ok s) := by
  unfold execSubscriptionNotify
  refine .ite (.next h) ?_
  extract_lets
  split
  · exact .next h
  · exact .ite (.next (.cqStop h)) (.next (.count (.count (.cqPut (.setPort h)))))

theorem CanonOut.coalescingTimer {p n} (h : Canon cs s) : CanonOut cs (execCoalescingTimer p n s) :=
  .next (.ite (.cqRaise h) h)

theorem CanonOut.irqSourceEdge {src} (h : Canon cs s) : CanonOut cs (execIrqSourceEdge src s) := by
  unfold execIrqSourceEdge
  refine .ite (.next h) ?_
  extract_lets _ s2
  have h2 : Canon cs s2 := .ite (.msix h) h
  exact .next (.ite (.msix h2) h2)

theorem Canon.hpReset {p} (h : Canon cs s) : Canon cs (s.hpReset p) := h.regs (twf_filter _ h.twf_regs)

theorem Canon.releasePort {p} (h : Canon cs s) : Canon cs (s.releasePort p) :=
  .foldl (fun ht => .ite (.releaseGate ht) ht) h

theorem Canon.portReset {p} (h : Canon cs s) : Canon cs (s.portReset p) := .releasePort (.setPort (.hpReset h))

theorem Canon.linkDown {p} (h : Canon cs s) : Canon cs (s.linkDown p) := .p (.p (.p h))

theorem Canon.refClock {p on} (h : Canon cs s) : Canon cs (s.refClock p on) := .setBit (.setBit h)

theorem Canon.resetClock {p a2} (h : Canon cs s) : Canon cs (s.resetClock p a2) := by
  unfold State.resetClock
  split
  · exact .refClock h
  · exact h
  · exact .refClock h

theorem CanonOut.portReset {p kind} (h : Canon cs s) : CanonOut cs (execPortReset p kind s) :=
  .next (.ite h (.resetClock (.linkDown (.portReset h))))

theorem CanonOut.functionLevelReset {p} (h : Canon cs s) : CanonOut cs (execFunctionLevelReset p s) :=
  .next (.ite (.portReset h) h)

theorem CanonOut.hostLinkUp {p wide speed} (h : Canon cs s) : CanonOut cs (execHostLinkUp p wide speed s) :=
  .ite (.next h) (.next (.refClock (.p (.p (.p h)))))

/-! ## Lock gates -/

theorem Canon.lease {n p ms gen} (h : Canon cs s) : Canon cs (s.lease n p ms gen) := .setGate h

theorem Canon.take {p n} (h : Canon cs s) : Canon cs (s.take p n) := .ite (.lease h) h

theorem Canon.leaseWrite {p n v} (h : Canon cs s) : Canon cs (s.leaseWrite p n v) :=
  .ite (.rsvWrite h) (.ite (.ite (.releaseGate h) (.lease h)) (.inc h))

theorem Canon.answer {p a v} (h : Canon cs s) : Canon cs (s.answer p a v) := h

theorem CanonOut.gateTake {p n} (h : Canon cs s) : CanonOut cs (execGateTake p n s) :=
  .ite (.next h) (.ite (.next (.answer h)) (.next (.answer (.take h))))

theorem CanonOut.gateRenew {p n ms} (h : Canon cs s) : CanonOut cs (execGateRenew p n ms s) :=
  .next (.ite (.leaseWrite h) h)

theorem CanonOut.gateRelease {p n} (h : Canon cs s) : CanonOut cs (execGateRelease p n s) :=
  .next (.ite (.leaseWrite h) h)

theorem CanonOut.leaseExpire {n} (h : Canon cs s) : CanonOut cs (execLeaseExpire n s) :=
  .next (.ite (.releaseGate (.advanceToUp h)) h)

theorem CanonOut.gateAuditSecond {n} (h : Canon cs s) : CanonOut cs (execGateAuditSecond n s) :=
  .ite (.next h) (.ite (.next (.setGate h)) (.next (.post (.setGate h))))

theorem CanonOut.ctxDenySecond {c} (h : Canon cs s) : CanonOut cs (execCtxDenySecond c s) := by
  unfold execCtxDenySecond
  extract_lets
  refine .ite (.next h) ?_
  split
  · exact .next h
  · exact .next (.post h)

/-! ## Loop islands -/

theorem Canon.setIsl {n x} (h : Canon cs s) : Canon cs (s.setIsl n x) := h

theorem Canon.rampFrom {n src dst dur} (h : Canon cs s) : Canon cs (s.rampFrom n src dst dur) := .setIsl h

theorem Canon.islandCommit {n typ v qual} (h : Canon cs s) : Canon cs (s.islandCommit n typ v qual) := by
  unfold State.islandCommit
  extract_lets _ _ _ _ _ _ s2
  have h2 : Canon cs s2 := .setIsl (.count (.p (.p h)))
  exact .ite h (.ite (.rampFrom h2) (.ite (.rampFrom h2) h2))

theorem Canon.islOff {n} (h : Canon cs s) : Canon cs (s.islOff n) := by
  unfold State.islOff
  extract_lets _ s1
  have h1 : Canon cs s1 := .setIsl h
  exact .ite (.wn h1) h1

theorem Canon.islOn {n} (h : Canon cs s) : Canon cs (s.islOn n) := .setIsl h

theorem Canon.islTake {n old v} (h : Canon cs s) : Canon cs (s.islTake n old v) :=
  .ite (.islOn h) (.ite (.islOff h) (.ite (.islOn (.islOff h)) h))

theorem Canon.liCfgWrite {n v} (h : Canon cs s) : Canon cs (s.liCfgWrite n v) := by
  unfold State.liCfgWrite
  extract_lets _ _ _ _ _ _ s1 s2 s3
  have h1 : Canon cs s1 := .wn h
  have h2 : Canon cs s2 := .ite h1 (.raise h1)
  have h3 : Canon cs s3 := .ite h2 (.p h2)
  exact .ite (.islTake h3) h3

theorem CanonOut.islandCfgWrite {p n v} (h : Canon cs s) : CanonOut cs (execIslandCfgWrite p n v s) :=
  .next (.ite (.regWrite .liCfgWrite h) h)

theorem Canon.measure {n m} (h : Canon cs s) : Canon cs (s.measure n m) := by
  unfold State.measure
  extract_lets _ s1
  have h1 : Canon cs s1 := .setIsl h
  exact .ite (.wn (.wn (.wn h1))) h1

theorem Canon.liFlag {n f ev} (h : Canon cs s) : Canon cs (s.liFlag n f ev) := .ite h (.raise (.p h))

theorem Canon.setShort {n k} (h : Canon cs s) : Canon cs (s.setShort n k) := .setIsl h

theorem CanonOut.headroom {n low m} (h : Canon cs s) : CanonOut cs (execHeadroom n low m s) := by
  unfold execHeadroom
  extract_lets s1
  have h1 : Canon cs s1 := .measure h
  exact .next (.ite h1 (.ite (.p h1) (.ite (.liFlag h1) h1)))

theorem Canon.fallback {n} (h : Canon cs s) : Canon cs (s.fallback n) := .ite (.liFlag h) h

theorem CanonOut.comply {n short m} (h : Canon cs s) : CanonOut cs (execComply n short m s) := by
  unfold execComply
  extract_lets s1 _ s2 s2'
  have h1 : Canon cs s1 := .measure h
  have h2 : Canon cs s2 := .setShort h1
  have h2' : Canon cs s2' := .incHold (.liFlag (.setShort h1))
  exact .next (.ite (.ite h1 (.ite (.p h2) h2)) (.ite h1 (.ite (.setShort h1) (.ite h1 (.ite (.fallback h2') h2')))))

theorem CanonOut.fallback {n} (h : Canon cs s) : CanonOut cs (execFallback n s) := .next (.fallback h)

theorem Canon.liRetry {n} (h : Canon cs s) : Canon cs (s.liRetry n) := .ite (.p h) h

theorem CanonOut.islandTimedRetry {n} (h : Canon cs s) : CanonOut cs (execIslandTimedRetry n s) :=
  .next (.ite h (.liRetry h))

theorem CanonOut.retryWindowEnd {n good} (h : Canon cs s) : CanonOut cs (execRetryWindowEnd n good s) := by
  unfold execRetryWindowEnd
  refine .next ?_
  refine .ite h ?_
  extract_lets s1
  have h1 : Canon cs s1 := .p h
  exact .ite (.setShort (.p (.p h1))) h1

theorem CanonOut.openLoop {n open_ m} (h : Canon cs s) : CanonOut cs (execOpenLoop n open_ m s) := by
  unfold execOpenLoop
  extract_lets s1 _ s2
  have h1 : Canon cs s1 := .measure h
  have h2 : Canon cs s2 := .setShort h1
  exact .next (.ite (.ite (.p h2) h2) (.ite h1 (.ite (.setShort h1) (.ite h1 (.ite h1 (.p (.p (.incHold (.liFlag
      (.setShort h1))))))))))

theorem CanonOut.thermal {n m} (h : Canon cs s) : CanonOut cs (execThermal n m s) := by
  unfold execThermal
  extract_lets _ _ _ _ s2
  have h2 : Canon cs s2 := .setIsl (.measure h)
  exact .next (.ite h2 (.ite (.p h2) (.ite (.incHold (.liFlag h2)) h2)))

theorem Canon.liLatch {n kind} (h : Canon cs s) : Canon cs (s.liLatch n kind) :=
  .report (.post (.incHold (.liFlag h)))

theorem CanonOut.senseFault {n m} (h : Canon cs s) : CanonOut cs (execSenseFault n m s) := by
  unfold execSenseFault
  extract_lets s1
  have h1 : Canon cs s1 := .measure h
  exact .next (.ite (.liLatch h1) h1)

theorem CanonOut.stageFault {n m} (h : Canon cs s) : CanonOut cs (execStageFault n m s) := by
  unfold execStageFault
  extract_lets s1
  have h1 : Canon cs s1 := .measure h
  exact .next (.ite (.liLatch h1) h1)

theorem Canon.liUnlatch {n} (h : Canon cs s) : Canon cs (s.liUnlatch n) := .p (.p h)

theorem Canon.liCmdWrite {n v} (h : Canon cs s) : Canon cs (s.liCmdWrite n v) := by
  unfold State.liCmdWrite
  extract_lets s1
  have h1 : Canon cs s1 := .ite (.liRetry h) h
  exact .ite (.ite (.setIsl h1) (.liUnlatch h1)) h1

theorem CanonOut.islandRetry {p n} (h : Canon cs s) : CanonOut cs (execIslandRetry p n s) :=
  .next (.ite (.regWrite .liCmdWrite h) h)

theorem CanonOut.islandClear {p n} (h : Canon cs s) : CanonOut cs (execIslandClear p n s) :=
  .next (.ite (.regWrite .liCmdWrite h) h)

theorem CanonOut.recheckEnd {n sense stage m} (h : Canon cs s) : CanonOut cs (execRecheckEnd n sense stage m s) := by
  unfold execRecheckEnd
  extract_lets s1 _ s2 s3 s4
  have h1 : Canon cs s1 := .measure h
  have h2 : Canon cs s2 := .setIsl h1
  have h3 : Canon cs s3 := .ite (.liLatch h2) h2
  have h4 : Canon cs s4 := .ite (.liLatch h3) h3
  exact .ite (.next h1) (.next (.ite h2 (.ite h4 (.liUnlatch h4))))

theorem CanonOut.linkLost {n} (h : Canon cs s) : CanonOut cs (execLinkLost n s) :=
  .ite (.next h) (.next (.raise (.setIsl h)))

theorem CanonOut.islandLinkReturn {n} (h : Canon cs s) : CanonOut cs (execIslandLinkReturn n s) := by
  unfold execIslandLinkReturn
  extract_lets _ _ s2
  have h2 : Canon cs s2 := .p (.setIsl h)
  exact .next (.ite h (.islTake (.ite h2 (.p (.p h2)))))

theorem CanonOut.islandReleaseEdge {n} (h : Canon cs s) : CanonOut cs (execIslandReleaseEdge n s) := by
  unfold execIslandReleaseEdge
  extract_lets _ _ _ _ _ _ s1 go
  have h1 : Canon cs s1 := .setIsl h
  have hgo : ∀ {st dst dur}, Canon cs (go st dst dur) := .setIsl h
  split
  · exact .next (.ite hgo h1)
  · exact .next (.ite hgo h1)
  · exact .next (.ite hgo h1)
  · exact .next (.ite hgo h1)
  · exact .next (.ite hgo h1)
  · exact .next h1

theorem CanonOut.handoverDone {n} (h : Canon cs s) : CanonOut cs (execHandoverDone n s) := by
  unfold execHandoverDone
  extract_lets _ s1 done
  have h1 : Canon cs s1 := by
    unfold s1
    split
    · exact .advanceToUp h
    · exact h
  have hdone : ∀ {y}, Canon cs (done y) := by
    intros
    unfold done
    extract_lets s2
    have h2 : Canon cs s2 := .setIsl h1
    exact .ite h2 (.raise (.inc h2))
  split
  · exact .next hdone
  · exact .next hdone
  · exact .next h

theorem CanonOut.storeSpent {n} (h : Canon cs s) : CanonOut cs (execStoreSpent n s) := .next (.ite (.islOff h) h)

/-! ## Universal inputs and discrete outputs -/

theorem Canon.setUi {n x} (h : Canon cs s) : Canon cs (s.setUi n x) := h

theorem Canon.uiChange {n old} (h : Canon cs s) : Canon cs (s.uiChange n old) := .ite h (.setUi h)

theorem CanonOut.uiConversion {n m0} (h : Canon cs s) : CanonOut cs (execUiConversion n m0 s) := by
  unfold execUiConversion
  refine .ite (.next h) ?_
  extract_lets _ _ _ s0 _ s s1 _ s1' _ _ _ _ _ _ _ s2'
  have h0 : Canon cs s0 := .advanceToPtp h
  have hs : Canon cs s := .count h0
  have h1 : Canon cs s1 := .setBit (.p hs)
  have h1' : Canon cs s1' := .p hs
  have h2' : Canon cs s2' := .setUi (.setBit (.p h1'))
  exact .ite (.next (.setUi h0)) (.ite (.ite (.next (.setUi h1)) (.next (.putChannel (.setUi h1)))) (.ite (.next
      (.putChannel (.setUi (.setBit (.p h1'))))) (.next (.putChannel (.ite (.raise (.incHold h2')) h2')))))

theorem CanonOut.uiShuntRetry {n} (h : Canon cs s) : CanonOut cs (execUiShuntRetry n s) := .next (.setUi h)

theorem Canon.doDrive {on} (h : Canon cs s) : Canon cs (s.doDrive on) := .wn h

theorem Canon.doRetried {n v} (h : Canon cs s) : Canon cs (s.doRetried n v) := h

theorem Canon.doFollow {n} (h : Canon cs s) : Canon cs (s.doFollow n) := .ite (.doDrive h) h

theorem Canon.doCommit {n v} (h : Canon cs s) : Canon cs (s.doCommit n v) := .doFollow (.setBit h)

theorem Canon.doEnWrite {v} (h : Canon cs s) : Canon cs (s.doEnWrite v) :=
  .foldl (fun ht => .ite ht (.ite (.doFollow ht) (.doDrive ht))) (.wn h)

theorem CanonOut.doEnWrite {p v} (h : Canon cs s) : CanonOut cs (execDoEnWrite p v s) :=
  .next (.ite (.regWrite .doEnWrite h) h)

theorem CanonOut.doShort {n} (h : Canon cs s) : CanonOut cs (execDoShort n s) :=
  .ite (.next h) (.next (.post (.raise (.setBit (.doRetried (.doDrive h))))))

theorem Canon.doCmdWrite {v} (h : Canon cs s) : Canon cs (s.doCmdWrite v) :=
  .foldl (fun ht => .ite (.doFollow (.doRetried (.setBit ht))) ht) h

theorem CanonOut.doShortClear {p v} (h : Canon cs s) : CanonOut cs (execDoShortClear p v s) :=
  .next (.ite (.regWrite .doCmdWrite h) h)

theorem CanonOut.doAutoRetry {n} (h : Canon cs s) : CanonOut cs (execDoAutoRetry n s) :=
  .next (.ite (.doFollow (.doRetried h)) h)

theorem CanonOut.openLoad {n opened} (h : Canon cs s) : CanonOut cs (execOpenLoad n opened s) :=
  .next (.ite (.setBit h) (.ite (.raise (.setBit h)) h))

theorem CanonOut.vsLow {v0 v1} (h : Canon cs s) : CanonOut cs (execVsLow v0 v1 s) := by
  unfold execVsLow
  extract_lets s1
  have h1 : Canon cs s1 := .wn h
  exact .next (.ite (.raise h1) h1)

theorem CanonOut.stuck {n high} (h : Canon cs s) : CanonOut cs (execStuck n high s) := by
  unfold execStuck
  extract_lets _ _ _ s1
  have h1 : Canon cs s1 := .setBit h
  exact .next (.ite h1 (.post (.raise h1)))

theorem CanonOut.doReleaseEdge (h : Canon cs s) : CanonOut cs (execDoReleaseEdge s) := by
  unfold execDoReleaseEdge
  extract_lets _ _ _ _ _ _ put
  have hput : ∀ {h}, Canon cs (put h) := h
  exact .next (.ite (.doDrive hput) (.ite hput hput))

theorem CanonOut.doYieldHoldEnd (h : Canon cs s) : CanonOut cs (execDoYieldHoldEnd s) :=
  .ite (.next h) (.next (.doDrive h))

/-! ## Security core -/

theorem Canon.setPart {k} (h : Canon cs s) : Canon cs (s.setPart k) := h

theorem Canon.loadKey {k op owner who} (h : Canon cs s) : Canon cs (s.loadKey k op owner who) :=
  .post (.p (.p (.p (.p (.count (.inc h))))))

theorem Canon.emptyKey (h : Canon cs s) : Canon cs s.emptyKey := .p (.p (.p h))

theorem Canon.refuseKey {r o reason} (h : Canon cs s) : Canon cs (s.refuseKey r o reason) :=
  .finishWith (.ite (.post (.raise (.inc h))) h)

theorem Canon.keyOp {r op pre f} (hf : ∀ {x0 t}, Canon cs t → Canon cs (f x0 t)) (h : Canon cs s) :
    Canon cs (s.keyOp r op pre f) := by
  unfold State.keyOp
  refine .withOp (fun ht => ?_) h
  split
  · exact .refuseKey ht
  · exact hf ht

theorem Canon.keyRead {r op b pre f} (hf : ∀ {x0 x1 t}, Canon cs t → Canon cs (f x0 x1 t)) (h : Canon cs s) :
    Canon cs (s.keyRead r op b pre f) := by
  unfold State.keyRead
  refine .keyOp (fun ht => ?_) h
  split
  · exact hf ht
  · exact .finishWith ht

theorem Canon.keyWrite {r o b data f} (hf : ∀ {t}, Canon cs t → Canon cs (f t)) (h : Canon cs s) :
    Canon cs (s.keyWrite r o b data f) := by
  unfold State.keyWrite
  split
  · exact .finishWith h
  · exact .finishOpen (.hostPut (hf h))
  · exact .finishWith (hf h)

theorem Canon.hostLoad {r o k} (h : Canon cs s) : Canon cs (s.hostLoad r o k) := .finishWith (.loadKey h)

theorem CanonOut.derive {r} (h : Canon cs s) : CanonOut cs (execDerive r s) := .next (.keyOp .hostLoad h)

theorem CanonOut.unwrap {r b} (h : Canon cs s) : CanonOut cs (execUnwrap r b s) := by
  unfold execUnwrap
  refine .next ?_
  refine .keyRead (fun ht => ?_) h
  split
  · exact .hostLoad ht
  · exact .refuseKey ht

theorem CanonOut.loadSlot {r} (h : Canon cs s) : CanonOut cs (execLoadSlot r s) := by
  unfold execLoadSlot
  refine .next ?_
  refine .keyOp (fun ht => ?_) h
  split
  · exact .refuseKey ht
  · split
    · exact .hostLoad ht
    · exact .refuseKey ht

theorem Canon.putSlotKey {n k how who} (h : Canon cs s) : Canon cs (s.putSlotKey n k how who) := .post (.setPart h)

theorem CanonOut.generate {r b} (h : Canon cs s) : CanonOut cs (execGenerate r b s) :=
  .next (.keyOp (fun ht => .ite (.refuseKey ht) (.keyWrite (fun hu => .putSlotKey (.freshen hu)) ht)) h)

theorem CanonOut.store {r b} (h : Canon cs s) : CanonOut cs (execStore r b s) := by
  unfold execStore
  refine .next ?_
  refine .keyRead (fun ht => ?_) h
  extract_lets
  split
  · exact .ite (.finishOpen (.putSlotKey ht)) (.refuseKey ht)
  · exact .refuseKey ht

theorem CanonOut.eraseSlot {r} (h : Canon cs s) : CanonOut cs (execEraseSlot r s) :=
  .next (.keyOp (fun ht => .finishOpen (.putSlotKey ht)) h)

theorem CanonOut.encrypt {r b} (h : Canon cs s) : CanonOut cs (execEncrypt r b s) :=
  .next (.keyRead (fun ht => .keyWrite .inc ht) h)

theorem CanonOut.decrypt {r b} (h : Canon cs s) : CanonOut cs (execDecrypt r b s) := by
  unfold execDecrypt
  refine .next ?_
  refine .keyRead (fun ht => ?_) h
  split
  · exact .keyWrite .inc ht
  · exact .refuseKey ht

theorem CanonOut.keyClear {r} (h : Canon cs s) : CanonOut cs (execKeyClear r s) :=
  .next (.keyOp (fun ht => .finishOpen (.emptyKey ht)) h)

theorem CanonOut.exportTest {r b} (h : Canon cs s) : CanonOut cs (execExportTest r b s) :=
  .next (.keyOp (fun ht => .keyWrite (fun hu => hu) ht) h)

theorem Canon.loadBaseKey {n a} (h : Canon cs s) : Canon cs (s.loadBaseKey n a) := by
  unfold State.loadBaseKey
  split
  · exact h
  · split
    · exact .loadKey h
    · exact h

theorem Canon.tokenFail {t reason who} (h : Canon cs s) : Canon cs (s.tokenFail t reason who) :=
  .post (.raise (.inc h))

theorem Canon.tokenPassed {kind counter who opcode} (h : Canon cs s) :
    Canon cs (s.tokenPassed kind counter who opcode) :=
  .post (.raise h)

theorem Canon.tokenUsed {kind counter} (h : Canon cs s) : Canon cs (s.tokenUsed kind counter) := .setPart h

theorem CanonOut.setOperator {r b} (h : Canon cs s) : CanonOut cs (execSetOperator r b s) := by
  unfold execSetOperator
  refine .next ?_
  refine .keyRead (fun ht => ?_) h
  extract_lets _ install
  have hinstall : ∀ {u key first}, Canon cs u → Canon cs (install u key first) := fun hu => .post (.raise (.setPart
      hu))
  refine .ite (.ite (.finishOpen (hinstall ht)) (.refuseKey ht)) ?_
  split
  · exact .finishWith (.tokenFail ht)
  · exact .finishOpen (.tokenUsed (hinstall (.tokenPassed ht)))

theorem CanonOut.debugUnlock {r b} (h : Canon cs s) : CanonOut cs (execDebugUnlock r b s) := by
  unfold execDebugUnlock
  refine .next ?_
  refine .keyRead (fun ht => ?_) h
  extract_lets
  split
  · exact .finishWith (.tokenFail ht)
  · exact .finishOpen (.post (.raise (.same (.tokenUsed (.tokenPassed ht)))))

theorem CanonOut.debugLock {r} (h : Canon cs s) : CanonOut cs (execDebugLock r s) :=
  .next (.keyOp (fun ht => .finishOpen (.post (.raise ht))) h)

theorem Canon.bindCtx {c tags} (h : Canon cs s) : Canon cs (s.bindCtx c tags) := h

theorem CanonOut.ctxBind {r b} (h : Canon cs s) : CanonOut cs (execCtxBind r b s) := by
  unfold execCtxBind
  refine .next ?_
  refine .withOp (fun ht => ?_) h
  extract_lets _ _ _ t1
  have ht1 : Canon cs t1 := .tokenPassed ht
  refine .ite (.finishWith ht) ?_
  split
  · split
    · exact .finishWith (.tokenFail ht)
    · exact .ite (.finishWith ht1) (.finishWith (.tokenUsed (.bindCtx ht1)))
  · exact .finishWith ht

/-! ## DALI masters and serial ports -/

theorem Canon.setDali {n x} (h : Canon cs s) : Canon cs (s.setDali n x) := .p (.p h)

theorem Canon.daliCommit {n dest typ v} (h : Canon cs s) : Canon cs (s.daliCommit n dest typ v) :=
  .setDali (.ite h (.freshen h))

theorem Canon.daliOut {n long frame} (h : Canon cs s) : Canon cs (s.daliOut n long frame) := .emit h

theorem Canon.daliRaw {n} (h : Canon cs s) : Canon cs (s.daliRaw n) := by
  unfold State.daliRaw
  extract_lets
  split
  · exact .ite (.daliOut (.count (.setDali h))) h
  · exact h

theorem CanonOut.daliLevelSend {n} (h : Canon cs s) : CanonOut cs (execDaliLevelSend n s) := by
  unfold execDaliLevelSend
  refine .ite (.next h) ?_
  split
  · exact .next h
  · exact .next (.daliOut (.count (.setDali h)))

theorem CanonOut.daliPoll {n} (h : Canon cs s) : CanonOut cs (execDaliPoll n s) := by
  unfold execDaliPoll
  extract_lets
  refine .ite (.next h) ?_
  split
  · exact .next h
  · exact .next (.daliOut (.count (.setDali h)))

theorem Canon.daliRawEnd {n result answer ev} (h : Canon cs s) : Canon cs (s.daliRawEnd n result answer ev) :=
  .raise (.p (.p (.setDali h)))

theorem CanonOut.daliFrameReceive {n f} (h : Canon cs s) : CanonOut cs (execDaliFrameReceive n f s) := by
  unfold execDaliFrameReceive
  refine .ite (.next h) ?_
  extract_lets
  split
  · exact .next (.ite h (.putChannel h))
  · split
    · exact .next (.putChannel (.setDali h))
    · exact .next (.ite (.daliRawEnd (.setDali h)) h)
    · exact .next h

theorem CanonOut.daliFrameDone {n e coll} (h : Canon cs s) : CanonOut cs (execDaliFrameDone n e coll s) := by
  unfold execDaliFrameDone
  extract_lets _ _ s1
  have h1 : Canon cs s1 := .setDali (.inc h)
  split
  · exact .next h
  · exact .next (.daliRaw (.ite (.setDali h1) h1))
  · exact .next (.daliRaw h1)
  · extract_lets _ s2
    have h2 : Canon cs s2 := .inc (.setDali h1)
    exact .next (.daliRaw (.ite (.putChannel h2) h2))
  · exact .next (.daliRaw h1)
  · exact .next (.ite (.daliRawEnd h1) (.ite (.daliRawEnd (.inc h1)) (.daliRawEnd h1)))

theorem CanonOut.daliRawWaitExpire {n} (h : Canon cs s) : CanonOut cs (execDaliRawWaitExpire n s) :=
  .next (.ite (.daliRaw (.setDali h)) h)

theorem Canon.daliRawWrite {n v} (h : Canon cs s) : Canon cs (s.daliRawWrite n v) := by
  unfold State.daliRawWrite
  refine .ite (.wn h) ?_
  refine .ite (.p h) ?_
  extract_lets s1
  have h1 : Canon cs s1 := .wn h
  exact .ite (.p h1) (.daliRaw (.setDali h1))

theorem CanonOut.daliRawSend {p n v} (h : Canon cs s) : CanonOut cs (execDaliRawSend p n v s) :=
  .next (.ite (.regWrite .daliRawWrite h) h)

theorem CanonOut.daliBusDown {n} (h : Canon cs s) : CanonOut cs (execDaliBusDown n s) := by
  unfold execDaliBusDown
  refine .ite (.next h) ?_
  extract_lets _ _ s2 s3
  have h2 : Canon cs s2 := .setDali (.raise (.p h))
  have h3 : Canon cs s3 := .ite (.daliRawEnd h2) h2
  exact .next (.ite h3 (.foldl .putChannel h3))

theorem Canon.daliResend {n} (h : Canon cs s) : Canon cs (s.daliResend n) := .setDali h

theorem CanonOut.daliBusUp {n} (h : Canon cs s) : CanonOut cs (execDaliBusUp n s) := by
  unfold execDaliBusUp
  refine .ite (.next h) ?_
  extract_lets s1
  have h1 : Canon cs s1 := .raise (.p h)
  exact .next (.ite (.daliResend (.setDali h1)) h1)

theorem CanonOut.daliTakeoverResend {n} (h : Canon cs s) : CanonOut cs (execDaliTakeoverResend n s) :=
  .next (.ite (.daliRaw (.daliResend h)) h)

theorem Canon.setSer {n x} (h : Canon cs s) : Canon cs (s.setSer n x) := .p (.p h)

theorem Canon.serSend {n k} (h : Canon cs s) : Canon cs (s.serSend n k) := by
  unfold State.serSend
  extract_lets
  split
  · split
    · exact .emit h
    · exact h
  · split
    · split
      · exact .emit h
      · exact .emit (.freshen h)
    · exact h
  · exact .emit h
  · exact .emit h

theorem Canon.serStart {n k} (h : Canon cs s) : Canon cs (s.serStart n k) := .serSend (.count (.inc (.setSer h)))

theorem CanonOut.modbusPoll {n c} (h : Canon cs s) : CanonOut cs (execModbusPoll n c s) := by
  unfold execModbusPoll
  refine .next ?_
  split
  · exact h
  · exact .ite (.serStart h) h

theorem Canon.serCommit {n c typ v} (h : Canon cs s) : Canon cs (s.serCommit n c typ v) := .setSer h

theorem CanonOut.modbusWrite {n} (h : Canon cs s) : CanonOut cs (execModbusWrite n s) := by
  unfold execModbusWrite
  extract_lets
  refine .ite (.next h) ?_
  split
  · exact .next h
  · exact .next (.serStart (.setSer h))

theorem CanonOut.osdpPoll {n a session} (h : Canon cs s) : CanonOut cs (execOsdpPoll n a session s) := by
  unfold execOsdpPoll
  refine .ite (.next h) ?_
  extract_lets _ _ s
  have hs : Canon cs s := .ite (.setSer (.loadBaseKey h)) h
  split
  · exact .next (.serStart (.setSer hs))
  · exact .next (.serStart hs)

theorem Canon.serPut {n k q} (h : Canon cs s) : Canon cs (s.serPut n k q) := by
  unfold State.serPut
  split
  · exact .putChannel h
  · exact .putChannel (.putChannel h)
  · exact h

theorem Canon.serAlive {n k} (h : Canon cs s) : Canon cs (s.serAlive n k) := by
  unfold State.serAlive
  extract_lets _ _ _ s1
  have h1 : Canon cs s1 := .setSer h
  exact .ite (.stationBack (.raise h1)) h1

theorem Canon.serLost {n st} (h : Canon cs s) : Canon cs (s.serLost n st) :=
  .ite h (.stationLost (.raise (.setSer h)))

theorem CanonOut.serReply {n r framing} (h : Canon cs s) : CanonOut cs (execSerReply n r framing s) := by
  unfold execSerReply
  split
  · exact .next h
  · refine .ite (.next (.raise h)) ?_
    extract_lets _ s1
    have h1 : Canon cs s1 := .serAlive (.setSer h)
    split
    · exact .next (.serPut (.raise h1))
    · split
      · exact .next (.putChannel h1)
      · exact .next h1
    · extract_lets s2
      have h2 : Canon cs s2 := by
        unfold s2
        split
        · exact .putChannel h1
        · exact h1
      exact .next (.putChannel h2)
    · exact .next h1

theorem CanonOut.serTimeout {n} (h : Canon cs s) : CanonOut cs (execSerTimeout n s) := by
  unfold execSerTimeout
  extract_lets
  split
  · exact .next h
  · exact .next (.serSend (.setSer h))
  · extract_lets _ _ s1 s2
    have h1 : Canon cs s1 := .inc (.setSer h)
    have h2 : Canon cs s2 := by
      unfold s2
      split
      · exact .serPut h1
      · exact h1
    exact .next (.ite (.serLost h2) h2)

theorem CanonOut.osdpReaderSilent {n a} (h : Canon cs s) : CanonOut cs (execOsdpReaderSilent n a s) :=
  .ite (.next h) (.next (.serLost (.serPut (.setSer h))))

theorem Canon.serCfgWrite {n v} (h : Canon cs s) : Canon cs (s.serCfgWrite n v) := by
  unfold State.serCfgWrite
  extract_lets _ _ s1
  have h1 : Canon cs s1 := .wn h
  exact .ite (.ite (.setSer h1) h1) h

theorem CanonOut.serCfgWrite {p n v} (h : Canon cs s) : CanonOut cs (execSerCfgWrite p n v s) :=
  .next (.ite (.regWrite .serCfgWrite h) h)

theorem CanonOut.serTakeoverResume {n} (h : Canon cs s) : CanonOut cs (execSerTakeoverResume n s) := .next (.setSer h)

theorem Canon.fieldTakeover (h : Canon cs s) : Canon cs s.fieldTakeover := .same (.foldl .setSer (.foldl .setDali h))

theorem Canon.fieldYield (h : Canon cs s) : Canon cs s.fieldYield := .foldl .setSer (.foldl .setDali h)

/-! ## CAN controllers -/

theorem Canon.setCan {n x} (h : Canon cs s) : Canon cs (s.setCan n x) := h

theorem Canon.setTxb {n b x} (h : Canon cs s) : Canon cs (s.setTxb n b x) := .setCan h

theorem Canon.canEnterListen {n} (h : Canon cs s) : Canon cs (s.canEnterListen n) := .ite (.p h) h

theorem Canon.canCtlWrite {n v} (h : Canon cs s) : Canon cs (s.canCtlWrite n v) := by
  unfold State.canCtlWrite
  extract_lets _ _ s1
  have h1 : Canon cs s1 := .canEnterListen (.wn h)
  exact .ite (.ite h1 (.ite (.raise h1) (.canEnterListen (.wn (.wn h1))))) (.ite (.wn (.wn h1)) h1)

theorem CanonOut.canEnable {p n v} (h : Canon cs s) : CanonOut cs (execCanEnable p n v s) :=
  .next (.ite (.regWrite .canCtlWrite h) h)

theorem CanonOut.canBusJoin {n} (h : Canon cs s) : CanonOut cs (execCanBusJoin n s) := .next (.ite (.p (.p h)) h)

theorem Canon.canRequest {n b} (h : Canon cs s) : Canon cs (s.canRequest n b) :=
  .ite h (.ite (.raise h) (.ite (.setTxb h) (.ite (.raise (.setTxb h)) (.setTxb h))))

theorem Canon.canReqWrite {n b0 v} (h : Canon cs s) : Canon cs (s.canReqWrite n b0 v) :=
  .foldl (fun ht => .ite (.canRequest ht) ht) h

theorem CanonOut.txRequest {p n b} (h : Canon cs s) : CanonOut cs (execTxRequest p n b s) :=
  .next (.ite (.regWrite .canRequest h) h)

theorem Canon.canAfter {n b st} (h : Canon cs s) : Canon cs (s.canAfter n b st) := .ite (.setTxb h) (.setTxb h)

theorem Canon.canCancel {n b won} (h : Canon cs s) : Canon cs (s.canCancel n b won) := by
  unfold State.canCancel
  extract_lets
  split
  · exact .raise (.setTxb h)
  · exact .raise (.setTxb h)
  · exact .ite (.setTxb h) (.raise (.canAfter h))
  · exact h

theorem Canon.canCancelWrite {n b0 v} (h : Canon cs s) : Canon cs (s.canCancelWrite n b0 v) :=
  .foldl (fun ht => .ite (.canCancel ht) ht) h

theorem CanonOut.txCancel {p n b won} (h : Canon cs s) : CanonOut cs (execTxCancel p n b won s) :=
  .next (.ite (.regWrite .canCancel h) h)

theorem CanonOut.txTimeReached {n b} (h : Canon cs s) : CanonOut cs (execTxTimeReached n b s) :=
  .next (.ite (.setTxb (.advanceToPtp h)) h)

theorem Canon.canClockStep (h : Canon cs s) : Canon cs s.canClockStep :=
  .foldl (fun ht => .foldl (fun hu => .raise (.setTxb hu)) ht) h

theorem Canon.canRefill {n b d} (h : Canon cs s) : Canon cs (s.canRefill n b d) := by
  unfold State.canRefill
  extract_lets
  split <;> exact .setTxb h

theorem Canon.canCommit {n c typ v} (h : Canon cs s) : Canon cs (s.canCommit n c typ v) := by
  unfold State.canCommit
  split
  · exact h
  · extract_lets _ s1
    have h1 : Canon cs s1 := .ite h (.freshen h)
    exact .ite (.canRefill h1) (.ite (.setTxb h1) (.setTxb h1))

theorem CanonOut.canRefillPeriod {n b} (h : Canon cs s) : CanonOut cs (execCanRefillPeriod n b s) :=
  .next (.ite (.canRefill h) h)

theorem CanonOut.arbitrationStart {n} (h : Canon cs s) : CanonOut cs (execArbitrationStart n s) := by
  unfold execArbitrationStart
  refine .ite (.next h) ?_
  split
  · exact .next h
  · exact .next (.p (.setTxb h))

theorem CanonOut.arbitrationLost {n} (h : Canon cs s) : CanonOut cs (execArbitrationLost n s) := by
  unfold execArbitrationLost
  refine .next ?_
  split
  · exact h
  · exact .inc (.canAfter h)

theorem Canon.canConfine {n} (h : Canon cs s) : Canon cs (s.canConfine n) :=
  .ite h (.ite (.ite h (.raise (.p h))) (.p h))

theorem Canon.canBusOff {n} (h : Canon cs s) : Canon cs (s.canBusOff n) := by
  unfold State.canBusOff
  extract_lets s1
  have h1 : Canon cs s1 := .raise (.inc (.wn h))
  exact .ite (.p h1) h1

theorem CanonOut.canBusError {n code dataPhase heavy} (h : Canon cs s) :
    CanonOut cs (execCanBusError n code dataPhase heavy s) := by
  unfold execCanBusError
  refine .ite (.next h) ?_
  extract_lets act _ _ s2
  have h2 : Canon cs s2 := .raise (.inc (.wn h))
  clear_value act
  split
  · exact .ite (.next h2) (.next (.canConfine (.p h2)))
  · extract_lets s3 _ _ s4
    have h3 : Canon cs s3 := .canAfter h2
    have h4 : Canon cs s4 := .canConfine (.p h3)
    exact .ite (.next h3) (.ite (.next (.p h3)) (.ite (.next (.canBusOff h3)) (.next (.ite (.p h4) h4))))

theorem CanonOut.txDone {n} (h : Canon cs s) : CanonOut cs (execTxDone n s) := by
  unfold execTxDone
  split
  · exact .next h
  · extract_lets _ _ s1
    have h1 : Canon cs s1 := .raise (.count (.inc (.canAfter h)))
    exact .next (.p (.p (.canConfine (.p (.ite (.raise h1) h1)))))

theorem CanonOut.suspendEnd {n} (h : Canon cs s) : CanonOut cs (execSuspendEnd n s) := .next (.p h)

theorem Canon.canCmdWrite {n v} (h : Canon cs s) : Canon cs (s.canCmdWrite n v) := by
  unfold State.canCmdWrite
  extract_lets s1 _ s2
  have h1 : Canon cs s1 := .ite (.p h) h
  have h2 : Canon cs s2 := .ite (.setCan h1) h1
  exact .ite (.setCan h2) h2

theorem CanonOut.recover {p n} (h : Canon cs s) : CanonOut cs (execRecover p n s) :=
  .next (.ite (.regWrite .canCmdWrite h) h)

theorem CanonOut.recovered {n} (h : Canon cs s) : CanonOut cs (execRecovered n s) := .next (.ite (.raise (.wn h)) h)

theorem CanonOut.flush {p n which} (h : Canon cs s) : CanonOut cs (execFlush p n which s) :=
  .next (.ite (.regWrite .canCmdWrite h) h)

theorem Canon.canPop {n f} (h : Canon cs s) : Canon cs (s.canPop n f) := .setCan h

theorem CanonOut.rxfPop {p n f} (h : Canon cs s) : CanonOut cs (execRxfPop p n f s) :=
  .next (.ite (.regWrite .canPop h) h)

theorem Canon.canStore {n fifo flt f} (h : Canon cs s) : Canon cs (s.canStore n fifo flt f) :=
  .ite (.raise (.inc h)) (.raise (.setCan h))

theorem Canon.canMap {n k f} (h : Canon cs s) : Canon cs (s.canMap n k f) := by
  unfold State.canMap
  refine .ite h ?_
  refine .foldl (fun ht => ?_) h
  split
  · exact .ite (.putChannel ht) ht
  · exact ht

theorem Canon.canEcho {n f} (h : Canon cs s) : Canon cs (s.canEcho n f) := by
  unfold State.canEcho
  refine .ite h ?_
  extract_lets
  split
  · exact .inc (.setTxb h)
  · exact h

theorem Canon.setStn {n k v} (h : Canon cs s) : Canon cs (s.setStn n k v) := .setBit h

theorem Canon.canStation {n k} (h : Canon cs s) : Canon cs (s.canStation n k) :=
  .ite h (.stationBack (.raise (.setStn h)))

theorem CanonOut.canFrameReceive {n f} (h : Canon cs s) : CanonOut cs (execCanFrameReceive n f s) := by
  unfold execCanFrameReceive
  refine .ite (.next h) ?_
  extract_lets s1 _ _ s3
  have h1 : Canon cs s1 := .p (.count (.inc h))
  have h3 : Canon cs s3 := .canEcho (.ite h1 (.canConfine (.p h1)))
  split
  · exact .next (.ite (.canStore h3) (.ite (.canStore h3) h3))
  · extract_lets s4 _ s5 s6
    have h4 : Canon cs s4 := .setCan h3
    have h5 : Canon cs s5 := .ite (.canStore h4) (.ite (.canStore h4) h4)
    have h6 : Canon cs s6 := .ite (.canStation h5) h5
    exact .next (.ite (.canMap h6) h6)

theorem CanonOut.canStationTimeout {n k} (h : Canon cs s) : CanonOut cs (execCanStationTimeout n k s) :=
  .next (.ite h (.stationLost (.raise (.setStn h))))

theorem CanonOut.dominantTimeout {n} (h : Canon cs s) : CanonOut cs (execDominantTimeout n s) := .next (.raise h)

theorem Canon.txbufWrite {n b off v} (h : Canon cs s) : Canon cs (s.txbufWrite n b off v) :=
  .ite h (.ite (.raise h) (.ite (.setTxb h) (.ite (.setTxb h) (.ite (.setTxb h) (.ite (.setTxb h) (.ite (.setTxb h)
      h))))))

theorem CanonOut.txbufWrite {p n k v} (h : Canon cs s) : CanonOut cs (execTxbufWrite p n k v s) :=
  .next (.ite (.regWrite .txbufWrite h) h)

theorem CanonOut.listenExit {n} (h : Canon cs s) : CanonOut cs (execListenExit n s) := .next (.ite h (.p h))

theorem Canon.canYield (h : Canon cs s) : Canon cs s.canYield := by
  unfold State.canYield
  refine .foldl (fun ht => ?_) h
  refine .ite ?_ ht
  refine .p ?_
  split
  · exact .canAfter ht
  · exact ht

/-! ## Metering -/

theorem Canon.setMtr {m} (h : Canon cs s) : Canon cs (s.setMtr m) := h

theorem Canon.mtrWrite {a v} (h : Canon cs s) : Canon cs (s.mtrWrite a v) := .wn (.setMtr h)

theorem Canon.mtrCfgWrite {n v} (h : Canon cs s) : Canon cs (s.mtrCfgWrite n v) := by
  unfold State.mtrCfgWrite
  refine .ite h ?_
  extract_lets _ _ _ s1 s2
  have h1 : Canon cs s1 := .mtrWrite h
  have h2 : Canon cs s2 := .ite (.raise h1) h1
  exact .ite h2 (.post h2)

theorem Canon.mtrPrimaryWrite {n v} (h : Canon cs s) : Canon cs (s.mtrPrimaryWrite n v) := by
  unfold State.mtrPrimaryWrite
  refine .ite h ?_
  extract_lets _ _ s1
  have h1 : Canon cs s1 := .mtrWrite h
  exact .ite h1 (.post h1)

theorem CanonOut.mtrChCfgWrite {p n primary v} (h : Canon cs s) : CanonOut cs (execMtrChCfgWrite p n primary v s) :=
  .next (.ite h (.ite (.regWrite .mtrPrimaryWrite h) (.regWrite .mtrCfgWrite h)))

theorem Canon.mtrCirWrite {k v} (h : Canon cs s) : Canon cs (s.mtrCirWrite k v) := .ite (.raise h) (.mtrWrite h)

theorem CanonOut.mtrCirCfgWrite {p k v} (h : Canon cs s) : CanonOut cs (execMtrCirCfgWrite p k v s) :=
  .next (.ite (.regWrite .mtrCirWrite h) h)

theorem Canon.addTotal {acc n} (h : Canon cs s) : Canon cs (s.addTotal acc n) := .setMtr h

theorem Canon.mtrChannel {b c e} (h : Canon cs s) : Canon cs (s.mtrChannel b c e) := by
  unfold State.mtrChannel
  extract_lets _ _ _ _ _ s0 _ s1 _ _ _ _ s3
  have h0 : Canon cs s0 := .wn (.setMtr h)
  have h1 : Canon cs s1 := .wn (.wn (.p (.p h0)))
  have h3 : Canon cs s3 := .setMtr (.raise h1)
  exact .ite h0 (.ite h1 (.ite (.post h3) h3))

theorem Canon.mtrVolts {b m} (h : Canon cs s) : Canon cs (s.mtrVolts b m) := .foldl (fun ht => .wn (.setMtr ht)) h

theorem Canon.mtrWrapped {w} (h : Canon cs s) : Canon cs (s.mtrWrapped w) := by
  unfold State.mtrWrapped
  extract_lets _ _ s1
  have h1 : Canon cs s1 := .p (.setMtr h)
  exact .ite (.raise h1) h1

theorem Canon.mtrComplete {t idle} (h : Canon cs s) : Canon cs (s.mtrComplete t idle) := .mtrWrapped (.setMtr h)

theorem Canon.cirRegs (h : Canon cs s) : Canon cs s.cirRegs := .foldl (fun ht => .wn (.wn ht)) h

theorem Canon.mtrGapEnd {start} (h : Canon cs s) : Canon cs (s.mtrGapEnd start) := by
  unfold State.mtrGapEnd
  split
  · exact h
  · exact .post (.raise (.wn (.p (.setMtr h))))

theorem CanonOut.meteringBlock {m} (h : Canon cs s) : CanonOut cs (execMeteringBlock m s) := by
  unfold execMeteringBlock
  refine .ite (.next h) ?_
  extract_lets _ _ _ _ _ _ _ s2 _ s4 _ _ _ _ _ _ _ s6 s7
  have h2 : Canon cs s2 := .wn (.foldl .mtrChannel (.mtrVolts (.mtrGapEnd (.advanceToPtp h))))
  have h4 : Canon cs s4 := .cirRegs (.p (.ite (.raise h2) h2))
  have h6 : Canon cs s6 := .setMtr (.count (.count (.ite h4 (.foldl .addTotal h4))))
  have h7 : Canon cs s7 := .ite (.tow h6) h6
  exact .next (.ite (.setMtr h7) (.ite (.setMtr h7) (.mtrComplete h7)))

theorem CanonOut.totalsReceive {time id wrapped l} (h : Canon cs s) :
    CanonOut cs (execTotalsReceive time id wrapped l s) :=
  .ite (.next h) (.next (.tow (.setMtr (.mtrComplete (.p (.p (.p (.wn (.foldl (fun hu => .foldl .addTotal hu)
      (.setMtr h))))))))))

theorem CanonOut.totalsAckReceive {time} (h : Canon cs s) : CanonOut cs (execTotalsAckReceive time s) := by
  unfold execTotalsAckReceive
  split
  · exact .next (.ite (.mtrComplete h) h)
  · exact .next h

theorem CanonOut.dpxDisagreeWindow (h : Canon cs s) : CanonOut cs (execDpxDisagreeWindow s) :=
  .ite (.next h) (.next (.foldl (fun ht => .ite (.post (.raise ht)) ht) (.wn (.setMtr h))))

theorem Canon.mtrCommit {kind} (h : Canon cs s) : Canon cs (s.mtrCommit kind) :=
  .wn (.wn64 (.p (.count (.setMtr (.freshen h)))))

theorem CanonOut.journalCommit (h : Canon cs s) : CanonOut cs (execJournalCommit s) := by
  unfold execJournalCommit
  refine .ite (.next h) ?_
  extract_lets s1
  have h1 : Canon cs s1 := .mtrCommit h
  exact .next (.ite (.same h1) h1)

theorem CanonOut.powerFailCommit (h : Canon cs s) : CanonOut cs (execPowerFailCommit s) :=
  .ite (.next h) (.next (.same (.mtrCommit h)))

theorem Canon.mtrSeal {kind} (h : Canon cs s) : Canon cs (s.mtrSeal kind) := .ite (.p (.ite h (.mtrCommit h))) h

theorem Canon.mtrRestore (h : Canon cs s) : Canon cs s.mtrRestore := by
  unfold State.mtrRestore
  extract_lets _ _ _ s1'
  have h1' : Canon cs s1' := by
    unfold s1'
    split
    · exact .post (.raise (.mtrCommit (.wn (.setMtr (.freshen h)))))
    · extract_lets _ s2
      have h2 : Canon cs s2 := .p (.p (.wn64 (.wn (.setMtr h))))
      exact .ite (.post (.raise (.p h2))) h2
  exact .p (.setMtr (.foldl (fun ht => .post (.raise (.inc (.p (.setMtr ht))))) h1'))

theorem Canon.mtrCtlWrite {v} (h : Canon cs s) : Canon cs (s.mtrCtlWrite v) := by
  unfold State.mtrCtlWrite
  extract_lets _ s1
  have h1 : Canon cs s1 := .wn h
  exact .ite (.p (.setMtr h1)) (.ite (.p h1) h1)

theorem CanonOut.mtrSnap {r b} (h : Canon cs s) : CanonOut cs (execMtrSnap r b s) := by
  unfold execMtrSnap
  refine .next ?_
  refine .withOp (fun ht => ?_) h
  extract_lets _ t1
  have ht1 : Canon cs t1 := .access (.countDenied ht)
  refine .ite (.finishWith ht1) ?_
  refine .ite (.finishWith ht1) ?_
  refine .ite (.finishWith ht1) ?_
  split
  · exact .finishWith ht1
  · refine .ite (.finishWith ht1) ?_
    split
    · exact .finishWith (.hostPut ht1)
    · exact .finishWith ht1

theorem CanonOut.energyDisplayWrite (h : Canon cs s) : CanonOut cs (execEnergyDisplayWrite s) := by
  unfold execEnergyDisplayWrite
  refine .ite (.next h) ?_
  extract_lets
  refine .next ?_
  refine .foldl (fun ht => ?_) h
  split
  · exact ht
  · exact .ite ht (.forward (.arb ht))

theorem Canon.mtcStage {p g v} (h : Canon cs s) : Canon cs (s.mtcStage p g v) := .setMtr h

theorem Canon.mtcCmdWrite {p v} (h : Canon cs s) : Canon cs (s.mtcCmdWrite p v) := by
  unfold State.mtcCmdWrite
  extract_lets
  refine .ite ?_ ?_
  · split
    · exact .raise h
    · exact .ite (.raise h) (.raise (.setMtr h))
  · refine .ite ?_ h
    split
    · exact h
    · exact .setMtr h

theorem CanonOut.mtcCommit {p} (h : Canon cs s) : CanonOut cs (execMtcCommit p s) :=
  .next (.ite (.regWrite .mtcCmdWrite h) h)

theorem CanonOut.mtcRestore {p} (h : Canon cs s) : CanonOut cs (execMtcRestore p s) :=
  .next (.ite (.regWrite .mtcCmdWrite h) h)

theorem CanonOut.mtcTempRead {die mod} (h : Canon cs s) : CanonOut cs (execMtcTempRead die mod s) := by
  unfold execMtcTempRead
  refine .ite (.next h) ?_
  extract_lets _ _ _ s1
  have h1 : Canon cs s1 := .wn (.wn h)
  exact .next (.setMtr (.ite (.raise h1) h1))

theorem Canon.mtrShow (h : Canon cs s) : Canon cs s.mtrShow := by
  unfold State.mtrShow
  extract_lets
  split <;> exact .wn (.p (.foldl (fun ht => .p (.p ht)) h))

theorem Canon.mtrNext (h : Canon cs s) : Canon cs s.mtrNext := by
  unfold State.mtrNext
  extract_lets
  refine .ite (.mtrShow (.setMtr h)) ?_
  split
  · exact .ite (.mtrShow (.setMtr h)) (.mtrShow (.setMtr h))
  · exact .mtrShow (.setMtr h)

theorem Canon.mtrStart (h : Canon cs s) : Canon cs s.mtrStart := .ite (.mtrNext h) h

theorem Canon.mtrAbandon (h : Canon cs s) : Canon cs s.mtrAbandon := by
  unfold State.mtrAbandon
  split
  · exact .mtrShow (.setMtr h)
  · exact h

theorem Canon.mtrResult {c code queued} (h : Canon cs s) : Canon cs (s.mtrResult c code queued) := by
  unfold State.mtrResult
  extract_lets s1 _ _ _ _ s3
  have h1 : Canon cs s1 := .incHold (.p h)
  have h3 : Canon cs s3 := .setMtr (.ite (.p (.p h1)) h1)
  exact .ite (.post (.raise (.p h3))) h3

theorem Canon.mtrAfter {p} (h : Canon cs s) : Canon cs (s.mtrAfter p) := .mtrNext (.setMtr (.count h))

theorem CanonOut.assayStepEnd {m} (h : Canon cs s) : CanonOut cs (execAssayStepEnd m s) := by
  unfold execAssayStepEnd
  split
  · exact .next h
  · refine .ite (.next h) ?_
    extract_lets s1
    have h1 : Canon cs s1 := .advanceToUp h
    exact .ite (.next (.mtrAfter (.setMtr h1))) (.next (.mtrAfter (.mtrResult h1)))

theorem CanonOut.calStepEnd {m} (h : Canon cs s) : CanonOut cs (execCalStepEnd m s) := by
  unfold execCalStepEnd
  split
  · exact .next h
  · refine .ite (.next h) ?_
    extract_lets s1 _ _ _ _ ended
    have h1 : Canon cs s1 := .advanceToUp h
    have hended : Canon cs ended := .setMtr h1
    exact .ite (.next (.mtrAfter (.mtrResult (.setMtr h1)))) (.ite (.next (.mtrAfter (.mtrResult hended))) (.ite
        (.next (.mtrAfter (.mtrResult hended))) (.next (.mtrAfter (.mtrResult (.raise (.wn (.wn (.setMtr
        hended)))))))))

theorem Canon.mtrCalWrite {v} (h : Canon cs s) : Canon cs (s.mtrCalWrite v) := by
  unfold State.mtrCalWrite
  extract_lets
  split
  · exact .mtrShow (.foldl .setMtr h)
  · exact .mtrShow (.foldl .setMtr h)
  · exact .foldl (fun ht => .setMtr (.p ht)) h
  · exact h

theorem CanonOut.verify {p c} (h : Canon cs s) : CanonOut cs (execVerify p c s) :=
  .next (.ite (.regWrite .mtrCalWrite h) h)

theorem CanonOut.calibrate {p c} (h : Canon cs s) : CanonOut cs (execCalibrate p c s) :=
  .next (.ite (.regWrite .mtrCalWrite h) h)

theorem CanonOut.clearFault {p c} (h : Canon cs s) : CanonOut cs (execClearFault p c s) :=
  .next (.ite (.regWrite .mtrCalWrite h) h)

/-! ## Block code -/

theorem Canon.putInst {pair x l} (h : Canon cs s) : Canon cs (s.putInst pair x l) :=
  h.data (twf_putBytes _ _ h.twf_data)

theorem Canon.bcStore {t x l} (h : Canon cs s) : Canon cs (s.bcStore t x l) := by
  refine h.data (twf_foldl (d := fun _ => 0#8) (fun m k hm => ?_) _ h.twf_data)
  split
  · exact hm
  · exact twf_tset (d := fun _ => 0#8) _ _ hm

/-- A frame is written over the bytes of the frame that it replaces, register by register. -/
theorem Canon.putFrame {t d regs fr} (h : Canon cs s) : Canon cs (s.putFrame t d regs fr) :=
  .ite h (h.data (twf_putBytes _ _
    (twf_foldl (d := fun _ => 0#8) (fun _ _ => twf_putBytes _ _) _ (twf_filter _ h.twf_data))))

theorem Canon.saveFrame {t r} (h : Canon cs s) : Canon cs (s.saveFrame t r) := .putFrame h

theorem Canon.setLoop {key x} (h : Canon cs s) : Canon cs (s.setLoop key x) := h

/-! ## Loop slots, memories and traces -/

theorem Canon.setTask {t r} (h : Canon cs s) : Canon cs (s.setTask t r) := h

theorem Canon.loopsCold (h : Canon cs s) : Canon cs s.loopsCold := h

theorem Canon.loopsWarm (h : Canon cs s) : Canon cs s.loopsWarm := h

theorem Canon.memRestore {key l} (h : Canon cs s) : Canon cs (s.memRestore key l) := .ite h (.post (.raise h))

theorem Canon.memsRestore (h : Canon cs s) : Canon cs s.memsRestore := .foldl .memRestore h

theorem Canon.memsLoad (h : Canon cs s) : Canon cs s.memsLoad := h

theorem Canon.tracesEmpty (h : Canon cs s) : Canon cs s.tracesEmpty := h

theorem Canon.showDigest {d} (h : Canon cs s) : Canon cs (s.showDigest d) := .foldl .wn h

theorem Canon.rewriteBank {b} (h : Canon cs s) : Canon cs (s.rewriteBank b) := .showDigest h

theorem Canon.patchEntry {kind size i o new} (h : Canon cs s) : Canon cs (s.patchEntry kind size i o new) := by
  unfold State.patchEntry
  split
  · exact .rewriteBank h
  · exact h

theorem Canon.setMem {key x} (h : Canon cs s) : Canon cs (s.setMem key x) := h

theorem Canon.persist {e kind target index v} (h : Canon cs s) : Canon cs (s.persist e kind target index v) := by
  unfold State.persist
  extract_lets
  split
  · exact h
  · exact .foldl (fun ht => .same_scn (.patchEntry ht)) h

theorem Canon.wrCode {e code ev} (h : Canon cs s) : Canon cs (s.wrCode e code ev) := .raise (.p h)

theorem Canon.leApply {e w} (h : Canon cs s) : Canon cs (s.leApply e w) := by
  unfold State.leApply
  extract_lets done
  have hdone : ∀ {t}, Canon cs t → Canon cs (done t) := fun ht => .wrCode (.ite (.persist ht) ht)
  refine .ite ?_ ?_
  · split
    · exact .wrCode h
    · split
      · extract_lets s1
        have h1 : Canon cs s1 := .setLoop h
        exact hdone (.ite h1 (.raise h1))
      · exact .wrCode h
  · split
    · exact .wrCode h
    · split
      · exact hdone (.setMem h)
      · exact .wrCode h

theorem Canon.setLeWr {e w} (h : Canon cs s) : Canon cs (s.setLeWr e w) := h

theorem Canon.leBoundary {e w} (h : Canon cs s) : Canon cs (s.leBoundary e w) := by
  unfold State.leBoundary
  extract_lets _ s1
  have h1 : Canon cs s1 := by
    unfold s1
    split
    · exact .ite (.setLoop h) h
    · exact h
  exact .leApply (.setLeWr h1)

theorem Canon.leFlush {e} (h : Canon cs s) : Canon cs (s.leFlush e) := by
  unfold State.leFlush
  split
  · exact .leApply (.setLeWr h)
  · exact h

theorem Canon.leFlushAll (h : Canon cs s) : Canon cs s.leFlushAll := .foldl .leFlush h

theorem Canon.leFlushTask {task} (h : Canon cs s) : Canon cs (s.leFlushTask task) := by
  unfold State.leFlushTask
  refine .foldl (fun ht => ?_) h
  split
  · exact .ite (.leFlush ht) ht
  · exact ht

/-! ## Online change of values -/

theorem Canon.putVar {task y v} (h : Canon cs s) : Canon cs (s.putVar task y v) := by
  unfold State.putVar
  split
  · exact .putInst h
  · exact h

theorem Canon.reforceVars (h : Canon cs s) : Canon cs s.reforceVars := by
  unfold State.reforceVars
  refine .foldl (fun ht => ?_) h
  split
  · split
    · exact .putVar ht
    · exact ht
  · exact ht

theorem Canon.forceVar {task hash typ v} (h : Canon cs s) : Canon cs (s.forceVar task hash typ v) := by
  unfold State.forceVar
  extract_lets
  split
  · exact .forceRecord (.setForce (.putVar h))
  · exact h

theorem Canon.valueItem {x} (h : Canon cs s) : Canon cs (s.valueItem x).1 := by
  unfold State.valueItem
  split
  · split
    · exact .raise (.inc h)
    · split
      · exact .putVar h
      · exact h
  · exact .forceVar h
  · exact .dropForce h

theorem Canon.changeResult {kind result} (h : Canon cs s) : Canon cs (s.changeResult kind result) := .wn h

theorem Canon.changeRefused {r kind result} (h : Canon cs s) : Canon cs (s.changeRefused r kind result) :=
  .finishWith (.raise (.changeResult (.p h)))

theorem Canon.changeDone {r kind result} (h : Canon cs s) : Canon cs (s.changeDone r kind result) :=
  .finishWith (.raise (.inc (.changeResult (.p h))))

theorem Canon.setConsts {items} (h : Canon cs s) : Canon cs (s.setConsts items) :=
  .foldl (fun ht => .patchEntry (.same_scn ht)) h

theorem Canon.valuesAt {task} (h : Canon cs s) : Canon cs (s.valuesAt task) := by
  unfold State.valuesAt
  split
  · refine .ite h ?_
    extract_lets x rest s1
    have h1 : Canon cs s1 := by
      refine .foldl_fst (fun {u i} hu => ?_) h
      have hv : Canon cs (u.1.valueItem i).1 := .valueItem hu
      split
      next e => rwa [e] at hv
      next e => rwa [e] at hv
    clear_value s1
    exact .ite (.changeDone (.setConsts h1)) (.same h1)
  · exact h

theorem Canon.valuesIdle (h : Canon cs s) : Canon cs s.valuesIdle := by
  unfold State.valuesIdle
  split
  · exact .foldl .valuesAt h
  · exact h

/-! ## Firmware banks -/

theorem Canon.putMap {banks} (h : Canon cs s) : Canon cs (s.putMap banks) := .ite h h

theorem Canon.setFwBank {b x} (h : Canon cs s) : Canon cs (s.setFwBank b x) := .ite h h

theorem Canon.fwuAbandon {a reason stage state} (h : Canon cs s) : Canon cs (s.fwuAbandon a reason stage state) :=
  .raise (.post (.wn (.p h)))

theorem Canon.pairBreak (h : Canon cs s) : Canon cs s.pairBreak := by
  unfold State.pairBreak
  split
  · refine .ite ?_ h
    extract_lets s1
    have h1 : Canon cs s1 := .fwuAbandon h
    exact .ite (.same h1) h1
  · exact h

theorem Canon.pairSwitched (h : Canon cs s) : Canon cs s.pairSwitched := by
  unfold State.pairSwitched
  split
  · exact .ite h h
  · exact h

/-! ## Controller and tasks -/

theorem Canon.setMode {m} (h : Canon cs s) : Canon cs (s.setMode m) := .ite h (.raise (.p h))

theorem Canon.resched {k} (h : Canon cs s) : Canon cs (s.resched k) := by
  unfold State.resched
  refine .ite h ?_
  split
  · exact .ite h (.setTask (.setTask (.count (.saveFrame h))))
  · exact .setTask h
  · exact h

theorem Canon.releaseTask {t ns} (h : Canon cs s) : Canon cs (s.releaseTask t ns) :=
  .resched (.setTask (.saveFrame h))

theorem Canon.trigArrive {t} (h : Canon cs s) : Canon cs (s.trigArrive t) :=
  .ite h (.ite (.raise (.inc h)) (.ite (.releaseTask h) (.setTask h)))

theorem Canon.toRelease {t} (h : Canon cs s) : Canon cs (s.toRelease t).1 := .ite (.advanceToUp h) (.advanceToPtp h)

theorem CanonOut.eventTrigger {n} (h : Canon cs s) : CanonOut cs (execEventTrigger n s) := by
  unfold execEventTrigger
  refine .next ?_
  split
  · exact h
  · exact .ite (.trigArrive h) h

theorem CanonOut.timeTriggerFire {n} (h : Canon cs s) : CanonOut cs (execTimeTriggerFire n s) := by
  unfold execTimeTriggerFire
  refine .next ?_
  split
  · exact .trigArrive (.setTask (.advanceToPtp h))
  · exact h

theorem CanonOut.eventRelease {n} (h : Canon cs s) : CanonOut cs (execEventRelease n s) := by
  unfold execEventRelease
  refine .next ?_
  split
  · exact h
  · extract_lets _ s1
    have h1 : Canon cs s1 := by
      unfold s1
      split
      · exact .advanceToUp h
      · exact h
    exact .ite (.releaseTask (.setTask h1)) h

theorem Canon.driveOut {fo typ v qual} (h : Canon cs s) : Canon cs (s.driveOut fo typ v qual) := by
  unfold State.driveOut
  extract_lets
  split
  · exact .islandCommit h
  · exact .doCommit h
  · exact .daliCommit h
  · exact .daliCommit h
  · exact .daliCommit h
  · exact .daliCommit h
  · exact .serCommit h
  · exact .serCommit h
  · exact .canCommit h
  · exact .canCommit h
  · exact .canCommit h
  · exact .canCommit h
  · exact h

theorem Canon.driveSlot {b} (h : Canon cs s) : Canon cs (s.driveSlot b) := .driveOut h

theorem Canon.driveForced {old} (h : Canon cs s) : Canon cs (s.driveForced old) := .foldl .driveSlot h

theorem Canon.fieldOuts {safe} (h : Canon cs s) : Canon cs (s.fieldOuts safe) := by
  unfold State.fieldOuts
  refine .ite (.data (.foldl .driveOut h) h.twf_data) ?_
  extract_lets due s1
  have h1 : Canon cs s1 := .foldl .driveSlot h
  clear_value s1
  exact .same_scn h1

theorem Canon.driveHeld (h : Canon cs s) : Canon cs s.driveHeld := .same_scn (.foldl .driveSlot h)

theorem Canon.safeCommit (h : Canon cs s) : Canon cs s.safeCommit :=
  .foldl (fun ht => .ite ht (.driveOut (.arb ht))) h

theorem Canon.abandon {t} (h : Canon cs s) : Canon cs (s.abandon t) := by
  unfold State.abandon
  extract_lets
  refine .foldl (fun hu => ?_) (.setTask h)
  split
  · exact .setLoop hu
  · exact hu

theorem Canon.abandonAll (h : Canon cs s) : Canon cs s.abandonAll := .foldl .abandon h

theorem Canon.restTasks (h : Canon cs s) : Canon cs s.restTasks := .foldl .setTask h

theorem Canon.endWaits {status refused} (h : Canon cs s) : Canon cs (s.endWaits status refused) := by
  unfold State.endWaits
  split
  · exact h
  · exact .foldl .finishWith h

theorem Canon.ctlDrop (h : Canon cs s) : Canon cs s.ctlDrop := by
  unfold State.ctlDrop
  refine .foldl (fun ht => ?_) h
  split
  · exact .ite (.finishWith ht) (.finishWith ht)
  · exact ht

theorem Canon.hardStop {cause} (h : Canon cs s) : Canon cs (s.hardStop cause) := by
  unfold State.hardStop
  exact .valuesIdle (.leFlushAll (.restTasks (.abandonAll (.p (.same_scn (.p (.setMode (.ctlDrop (.endWaits h)))))))))

theorem Canon.faultStop {cause who} (h : Canon cs s) : Canon cs (s.faultStop cause who) := by
  unfold State.faultStop
  refine .ite h ?_
  extract_lets s1
  have h1 : Canon cs s1 := by
    unfold s1
    split <;> exact .wn64 (.wn (.wn h))
  exact .safeCommit (.driveHeld (.hardStop h1))

theorem Canon.powerStop (h : Canon cs s) : Canon cs s.powerStop := .ite (.hardStop h) h

theorem Canon.trapStop {t pc code imm} (h : Canon cs s) : Canon cs (s.trapStop t pc code imm) := .post (.faultStop h)

theorem CanonOut.taskWatchdogExpire {n} (h : Canon cs s) : CanonOut cs (execTaskWatchdogExpire n s) := by
  unfold execTaskWatchdogExpire
  refine .next ?_
  split
  · exact h
  · exact .ite (.post (.raise (.faultStop (.advanceToUp h)))) h

theorem CanonOut.pairCompareMismatch {k} (h : Canon cs s) : CanonOut cs (execPairCompareMismatch k s) :=
  .next (.report (.setBit (.wn h)))

theorem Canon.pairStop {k pc} (h : Canon cs s) : Canon cs (s.pairStop k pc) :=
  .same_scn (.post (.raise (.faultStop h)))

theorem Canon.instInit (h : Canon cs s) : Canon cs s.instInit := by
  have h1 : Canon cs { s with scn := { s.scn with inst := [] } } := h.data rfl
  refine .foldl (fun hu => ?_) h1
  split
  · exact .putInst hu
  · exact hu

theorem Canon.retRestore {t} (h : Canon cs s) : Canon cs (s.retRestore t) := by
  unfold State.retRestore
  extract_lets
  refine .ite h ?_
  refine .ite (.putInst h) ?_
  split
  · exact h
  · extract_lets
    refine .foldl (fun hu => ?_) h
    split
    · exact .putInst hu
    · exact hu

theorem Canon.startSlots {warm} (h : Canon cs s) : Canon cs (s.startSlots warm) := by
  unfold State.startSlots
  extract_lets
  refine .foldl (fun ht => ?_) h
  extract_lets
  refine .ite ht ?_
  split
  · exact .ite (.arb ht) (.arb ht)
  · exact .arb ht

theorem Canon.dropForces (h : Canon cs s) : Canon cs s.dropForces := by
  unfold State.dropForces
  extract_lets
  refine .foldl (fun ht => ?_) h
  extract_lets t1
  have ht1 : Canon cs t1 := .dropForce ht
  split
  · exact .ite (.arb ht1) ht1
  · exact ht1

theorem Canon.clearCounters {t} (h : Canon cs s) : Canon cs (s.clearCounters t) := .foldl .wn h

theorem Canon.startTask {first t} (h : Canon cs s) : Canon cs (s.startTask first t) := .ite (.setTask h) (.setTask h)

theorem Canon.enterRun {first last} (h : Canon cs s) : Canon cs (s.enterRun first last) :=
  .setMode (.p (.p (.same_scn (.foldl .startTask h))))

theorem Canon.coldStart {last} (h : Canon cs s) : Canon cs (s.coldStart last) :=
  .enterRun (.fieldOuts (.tracesEmpty (.memsRestore (.loopsCold (.same_scn (.foldl .clearCounters (.startSlots
      (.instInit (.dropForces h)))))))))

theorem Canon.warmStart {boot} (h : Canon cs s) : Canon cs (s.warmStart boot) := by
  unfold State.warmStart
  extract_lets _ _ _ _ _ s3
  have h3 : Canon cs s3 := .same_scn (.startSlots (.reforceVars (.foldl .retRestore (.instInit h))))
  exact .ite (.coldStart (.post (.raise h))) (.enterRun (.fieldOuts (.tracesEmpty (.memsRestore (.ite (.loopsWarm
      (.loopsCold h3)) (.loopsWarm h3))))))

theorem Canon.resumeRun (h : Canon cs s) : Canon cs s.resumeRun := .enterRun h

theorem Canon.stopCheck (h : Canon cs s) : Canon cs s.stopCheck := by
  unfold State.stopCheck
  split
  · exact h
  · refine .ite h ?_
    split
    · exact .fieldOuts (.valuesIdle (.restTasks (.endWaits h)))
    · exact .endWaits (.same_scn (.warmStart h))
    · exact .endWaits (.same_scn (.coldStart h))

theorem Canon.unhalt (h : Canon cs s) : Canon cs s.unhalt := .foldl .resched (.fieldOuts (.p (.foldl .setTask h)))

theorem Canon.beginStop {after ops} (h : Canon cs s) : Canon cs (s.beginStop after ops) :=
  .stopCheck (.leFlushAll (.restTasks (.same_scn (.p (.setMode (.ite (.unhalt (.abandon h)) h))))))

theorem Canon.restart {cold ops} (h : Canon cs s) : Canon cs (s.restart cold ops) := by
  unfold State.restart
  extract_lets
  split
  · exact h
  · exact .ite (.beginStop h) (.ite (.coldStart h) (.warmStart h))

/-- What an instruction of block code answers has a state, where it goes on, that keeps the invariant. -/
def CanonRes (cs : List Instr) (o : BcRes) : Prop := ∀ u v, o = .next u v → Canon cs u

theorem CanonRes.next {r} (h : Canon cs s) : CanonRes cs (.next s r) := by
  rintro _ _ ⟨⟩
  exact h

theorem CanonRes.trap {code imm} : CanonRes cs (.trap code imm) := by rintro _ _ ⟨⟩

theorem CanonRes.wait : CanonRes cs .wait := by rintro _ _ ⟨⟩

theorem CanonRes.ite {c : Prop} {_ : Decidable c} {o u : BcRes} (ho : CanonRes cs o) (hu : CanonRes cs u) :
    CanonRes cs (if c then o else u) := by
  split
  · exact ho
  · exact hu

/-- An instruction of block code that keeps the invariant. -/
def BcKeeps (f : BcFun) : Prop :=
  ∀ (cs : List Instr) (s : State) (t : TaskEnt) (r : TaskRun), Canon cs s → CanonRes cs (f s t r)

/-! Most instructions change registers of the task alone. -/

theorem BcKeeps.reg {d f} : BcKeeps (bcReg d f) := fun _ _ _ _ h => .next h

theorem BcKeeps.regTrap {d code f} : BcKeeps (bcRegTrap d code f) := by
  intro cs s t r h
  unfold bcRegTrap
  split
  · exact .next h
  · exact .trap

theorem BcKeeps.branch {c disp} : BcKeeps (bcBranch c disp) := fun _ _ _ _ h => .ite (.next h) (.next h)

theorem BcKeeps.load {d a off size f} : BcKeeps (bcLoad d a off size f) := by
  intro cs s t r h
  unfold bcLoad
  extract_lets
  split
  · exact .trap
  · exact .next h

theorem BcKeeps.nop : BcKeeps bcNop := fun _ _ _ _ h => .next h

theorem BcKeeps.ret : BcKeeps bcRet := by
  intro cs s t r h
  unfold bcRet
  split <;> exact .next h

theorem BcKeeps.assert {a imm} : BcKeeps (bcAssert a imm) := fun _ _ _ _ h => .ite .trap (.next h)

theorem BcKeeps.sys {d imm} : BcKeeps (bcSys d imm) := fun _ _ _ _ h => .next h

theorem BcKeeps.ldk {d imm} : BcKeeps (bcLdk d imm) := fun _ _ _ _ h => .next h

theorem BcKeeps.ldinx {d a} : BcKeeps (bcLdinx d a) := fun _ _ _ _ h => .ite (.next h) .trap

theorem BcKeeps.stout {src i} : BcKeeps (bcStout src i) := fun _ _ _ _ h => .ite .trap (.next h)

theorem BcKeeps.stoq {src i} : BcKeeps (bcStoq src i) := fun _ _ _ _ h => .ite (.next h) .trap

theorem BcKeeps.ldlp {d loc k} : BcKeeps (bcLdlp d loc k) := by
  intro cs s t r h
  unfold bcLdlp
  split
  · exact .wait
  · split
    · exact .wait
    · exact .ite (.next h) .wait

theorem BcKeeps.esnap {d i} : BcKeeps (bcEsnap d i) := fun _ _ _ _ h => .next h

theorem BcKeeps.esub {d a b} : BcKeeps (bcEsub d a b) := fun _ _ _ _ h => .next h

theorem BcKeeps.brx {a n} : BcKeeps (bcBrx a n) := fun _ _ _ _ h => .next h

/-! Stores, STLP and CALL change the state, by operations that keep the invariant. -/

theorem BcKeeps.save {src a off size} : BcKeeps (bcSave src a off size) := by
  intro cs s t r h
  unfold bcSave
  extract_lets
  split
  · exact .trap
  · exact .next (.bcStore h)

theorem BcKeeps.stlp {src loc k} : BcKeeps (bcStlp src loc k) := by
  intro cs s t r h
  unfold bcStlp
  split
  · exact .wait
  · split
    · exact .wait
    · exact .ite (.next (.setLoop h)) .trap

theorem BcKeeps.call {a f} : BcKeeps (bcCall a f) := by
  intro cs s t r h
  unfold bcCall
  split
  · exact .wait
  · exact .ite .trap (.ite .trap (.ite .trap (.next (.saveFrame (.saveFrame h)))))

/-- Every word of code spells an instruction that keeps the invariant, in the order of the rows of R170. -/
theorem BcKeeps.decode {w} : BcKeeps (decodeBc w) := by
  unfold decodeBc
  extract_lets
  split
  iterate 3 · exact .branch
  · exact .call
  · exact .ret
  · exact .assert
  · exact .sys
  iterate 2 · exact .reg
  · exact .ldk
  · exact .reg
  iterate 4 · exact .load
  iterate 3 · exact .save
  iterate 3 · exact .reg
  · exact .stout
  · exact .stoq
  · exact .ldlp
  · exact .stlp
  iterate 3 · exact .reg
  iterate 2 · exact .regTrap
  iterate 4 · exact .reg
  iterate 2 · exact .regTrap
  iterate 28 · exact .reg
  · exact .regTrap
  · exact .esnap
  · exact .esub
  · exact .reg
  · exact .brx
  · exact .reg
  · exact .ldinx
  · exact .nop

theorem Canon.bcRun {t f} (hf : BcKeeps f) (h : Canon cs s) : Canon cs (s.bcRun t f) := by
  unfold State.bcRun
  extract_lets r
  have hr : CanonRes cs (f s t r) := hf cs s t r h
  split
  next u v e => exact .resched (.setTask (.count (hr u v e)))
  · exact .trapStop h
  · exact h

theorem Canon.stepTask {n} (h : Canon cs s) : Canon cs (s.stepTask n) := by
  unfold State.stepTask
  split
  · exact h
  · extract_lets _ s1
    have h1 : Canon cs s1 := .bcRun .decode h
    exact .ite (.ite (.wn h1) h1) h

theorem Canon.taskDo {target action arg ops} (h : Canon cs s) : Canon cs (s.taskDo target action arg ops) := by
  unfold State.taskDo
  split
  · exact .ite (.resumeRun h) (.setMode (.ite (.unhalt h) h))
  · exact .ite h (.beginStop h)
  · exact .setMode h
  · exact .restart h
  · exact .restart h
  · exact .stepTask h
  · exact .setMode (.unhalt h)
  · exact .ite h h
  · exact h
  · extract_lets _ s1
    have h1 : Canon cs s1 := .setTask h
    exact .ite h1 (.leFlushTask h1)
  · exact .ite (.setTask h) h
  · split
    · exact .trigArrive h
    · exact h
  · exact .setTask h
  · exact h

theorem Canon.ctlDo {target action arg op} (h : Canon cs s) : Canon cs (s.ctlDo target action arg op) := by
  unfold State.ctlDo
  extract_lets
  split
  · exact .taskDo h
  · exact .ite (.taskDo h) (.finishWith (.taskDo h))

theorem Canon.ctlHold {c} (h : Canon cs s) : Canon cs (s.ctlHold c) := h

theorem Canon.ctlRun (h : Canon cs s) : Canon cs s.ctlRun := by
  unfold State.ctlRun
  refine .foldl (fun ht => ?_) h
  refine .ite ht ?_
  extract_lets
  split
  · exact .ctlDo ht
  · exact .finishWith ht
  · exact .finishWith ht
  · exact ht

theorem Canon.taskCtl {r action} (h : Canon cs s) : Canon cs (s.taskCtl r action) := by
  unfold State.taskCtl
  refine .withOp (fun ht => ?_) h
  extract_lets _ _ t1
  have ht1 : Canon cs t1 := .ite (.tow ht) ht
  split
  · split
    · exact .ctlHold ht1
    · exact .ctlRun (.ctlDo ht1)
  · exact .finishWith ht
  · exact .finishWith ht

theorem CanonOut.cyclicRelease {n} (h : Canon cs s) : CanonOut cs (execCyclicRelease n s) := by
  unfold execCyclicRelease
  refine .next ?_
  split
  · exact h
  · refine .ite h ?_
    extract_lets _ _ _ _ _ s3
    have h3 : Canon cs s3 := .ctlRun (.setTask (.ite (.raise (.toRelease h)) (.toRelease h)))
    exact .ite h3 (.ite (.raise (.inc h3)) (.ite (.releaseTask h3) h3))

theorem CanonOut.taskRun {r} (h : Canon cs s) : CanonOut cs (execTaskRun r s) := .next (.taskCtl h)

theorem CanonOut.taskStop {r} (h : Canon cs s) : CanonOut cs (execTaskStop r s) := .next (.taskCtl h)

theorem CanonOut.taskHold {r} (h : Canon cs s) : CanonOut cs (execTaskHold r s) := .next (.taskCtl h)

theorem CanonOut.warmRestart {r} (h : Canon cs s) : CanonOut cs (execWarmRestart r s) := .next (.taskCtl h)

theorem CanonOut.coldRestart {r} (h : Canon cs s) : CanonOut cs (execColdRestart r s) := .next (.taskCtl h)

theorem CanonOut.stepTask {r} (h : Canon cs s) : CanonOut cs (execStepTask r s) := .next (.taskCtl h)

theorem CanonOut.continueTasks {r} (h : Canon cs s) : CanonOut cs (execContinueTasks r s) := .next (.taskCtl h)

theorem CanonOut.setBreak {r} (h : Canon cs s) : CanonOut cs (execSetBreak r s) := .next (.taskCtl h)

theorem CanonOut.clearBreak {r} (h : Canon cs s) : CanonOut cs (execClearBreak r s) := .next (.taskCtl h)

theorem CanonOut.suspendTask {r} (h : Canon cs s) : CanonOut cs (execSuspendTask r s) := .next (.taskCtl h)

theorem CanonOut.resumeTask {r} (h : Canon cs s) : CanonOut cs (execResumeTask r s) := .next (.taskCtl h)

theorem CanonOut.ringTrigger {r} (h : Canon cs s) : CanonOut cs (execRingTrigger r s) := .next (.taskCtl h)

theorem CanonOut.armTime {r} (h : Canon cs s) : CanonOut cs (execArmTime r s) := .next (.taskCtl h)

theorem CanonOut.breakpointHit {n} (h : Canon cs s) : CanonOut cs (execBreakpointHit n s) := by
  unfold execBreakpointHit
  extract_lets _ _ _ _ _ s4
  have h4 : Canon cs s4 := .leFlushAll (.raise (.setMode (.wn (.p (.same_scn (.foldl .setTask h))))))
  exact .next (.ite (.ite (.fieldOuts h4) h4) h)

theorem Canon.latched {t r shipped} (h : Canon cs s) : Canon cs (s.latched t r shipped) := .same (.setTask (.count h))

theorem Canon.latchLocal {t ship} (h : Canon cs s) : Canon cs (s.latchLocal t ship) := by
  unfold State.latchLocal
  extract_lets _ _ s2
  have h2 : Canon cs s2 := .latched (.checkSlots (.valuesAt h))
  exact .ite (.same (.tow h2)) h2

theorem Canon.latchShipped {t b} (h : Canon cs s) : Canon cs (s.latchShipped t b) := .same (.latched (.valuesAt h))

theorem CanonOut.inputLatch {n} (h : Canon cs s) : CanonOut cs (execInputLatch n s) := by
  unfold execInputLatch
  refine .next ?_
  split
  · exact h
  · extract_lets
    refine .ite ?_ h
    refine .ite ?_ (.latchLocal h)
    split
    · exact .latchShipped h
    · exact h

theorem Canon.commitOut {b v q} (h : Canon cs s) : Canon cs (s.commitOut b v q) := .ite (.driveOut h) (.ite h h)

theorem Canon.commitEnt {n t0 r drops b} (h : Canon cs s) : Canon cs (s.commitEnt n t0 r drops b).1 := by
  unfold State.commitEnt
  extract_lets
  split
  · exact h
  · split
    · exact .raise (.inc h)
    · split
      · exact h
      · split
        · exact .ite h (.commitOut h)
        · split
          · exact .arb (.inc h)
          · exact .commitOut (.arb h)

theorem Canon.dropRecord {n drops b} (h : Canon cs s) : Canon cs (s.dropRecord n drops b) := .ite h (.post h)

theorem Canon.switchOff (h : Canon cs s) : Canon cs s.switchOff := .p h

theorem Canon.xcheckStart {n ref} (h : Canon cs s) : Canon cs (s.xcheckStart n ref) :=
  .tow (.pairBreak (.switchOff (.p h)))

theorem Canon.hashDiffers {n ref} (h : Canon cs s) : Canon cs (s.hashDiffers n ref) := by
  unfold State.hashDiffers
  extract_lets s1
  have h1 : Canon cs s1 := .pairBreak (.raise (.inc h))
  exact .ite h1 (.xcheckStart h1)

theorem Canon.ownHash {n ref h} (hs : Canon cs s) : Canon cs (s.ownHash n ref h) := by
  unfold State.ownHash
  split
  · exact .ite hs (.hashDiffers hs)
  · exact hs

theorem Canon.stlpDue {n} (h : Canon cs s) : Canon cs (s.stlpDue n) := by
  unfold State.stlpDue
  refine .foldl (fun ht => ?_) h
  split
  · exact .setLoop ht
  · exact ht

theorem CanonOut.outputCommit {n} (h : Canon cs s) : CanonOut cs (execOutputCommit n s) := by
  unfold execOutputCommit
  refine .next ?_
  split
  · exact h
  · extract_lets _ _ _ _ _ _ s3
    have h3 : Canon cs s3 := .setTask (.count (.stlpDue (.wn64 (.foldl .dropRecord (.foldl_fst .commitEnt h)))))
    exact .ite (.resched (.ite (.ownHash (.tow h3)) h3)) h

theorem CanonOut.retainedBankSwitch {n} (h : Canon cs s) : CanonOut cs (execRetainedBankSwitch n s) := by
  unfold execRetainedBankSwitch
  refine .next ?_
  split
  · exact h
  · extract_lets _ _ _ _ _ _ _ _ _ _ _ _ s4
    have h4 : Canon cs s4 := .setTask (.wn (.wn (.wn64 (.ite h h))))
    exact .ite (.stopCheck (.count (.ite (.leFlushTask h4) h4))) h

theorem Canon.bc {k f} (hf : BcKeeps f) (h : Canon cs s) : Canon cs (s.bc k f) := by
  unfold State.bc
  split
  · exact h
  · exact .ite (.bcRun hf h) h

theorem Canon.configSlot {c} (h : Canon cs s) : Canon cs (s.configSlot c) := by
  unfold State.configSlot
  extract_lets
  split
  · exact .ite (.arbStamp h) (.arbStamp h)
  · exact .arbStamp h

theorem Canon.configSlots (h : Canon cs s) : Canon cs s.configSlots := .foldl .configSlot (.foldl .storeOwned h)

theorem Canon.installImage {m vars} (h : Canon cs s) : Canon cs (s.installImage m vars) := by
  unfold State.installImage
  extract_lets _ _ _ _ _ s5
  have h5 : Canon cs s5 := .showDigest (.tracesEmpty (.memsLoad (.loopsCold (.foldl .setTask (.reforceVars
      (.configSlots (.instInit (.same_scn (.foldl .dropForce h)))))))))
  exact .ite (.driveForced h5) h5

theorem Canon.putInactive {bytes} (h : Canon cs s) : Canon cs (s.putInactive bytes) := h

theorem Canon.checkedBank {bytes v} (h : Canon cs s) : Canon cs (s.checkedBank bytes v) := by
  unfold State.checkedBank
  split
  · exact .ite (.putInactive h) h
  · exact .putInactive h

theorem Canon.installBank {bytes} (h : Canon cs s) : Canon cs (s.installBank bytes) := .installImage h

theorem CanonOut.imgLoad {r b bankOk partner} (h : Canon cs s) : CanonOut cs (execImgLoad r b bankOk partner s) := by
  unfold execImgLoad
  refine .next ?_
  refine .withOp (fun ht => ?_) h
  refine .ite (.finishWith ht) ?_
  split
  · extract_lets _ v t1 t2
    have ht1 : Canon cs t1 := .checkedBank ht
    have ht2 : Canon cs t2 := .ite (.tow ht1) ht1
    clear_value v
    split
    · exact .finishWith ht1
    · split
      · exact .finishWith ht2
      · exact .finishWith (.installBank ht2)
  · exact .finishWith ht

/-! ## Loop engines -/

theorem Canon.setTrace {e b x} (h : Canon cs s) : Canon cs (s.setTrace e b x) := h

theorem Canon.traceDo {e b v} (h : Canon cs s) : Canon cs (s.traceDo e b v) := by
  unfold State.traceDo
  extract_lets
  split
  · exact .ite h (.ite (.wn (.setTrace h)) (.setTrace h))
  · exact .ite (.setTrace h) h
  · exact .ite (.setTrace h) (.ite (.raise (.setTrace h)) h)
  · exact h

theorem Canon.traceDoAll {e b} (h : Canon cs s) : Canon cs (s.traceDoAll e b) := .foldl .traceDo (.setTrace h)

theorem Canon.traceSample {e b rel x flags} (h : Canon cs s) : Canon cs (s.traceSample e b rel x flags) := by
  unfold State.traceSample
  extract_lets _ s1 _ _ _ _ _ _ full
  have h1 : Canon cs s1 := .count h
  have hfull : ∀ {u y}, Canon cs u → Canon cs (full u y) := fun hu => .ite (.raise (.setTrace hu)) (.setTrace hu)
  exact .ite (hfull h1) (.ite (hfull (.wn64 h1)) (.setTrace h1))

theorem Canon.tracePoint {e b slot rel x flags} (h : Canon cs s) : Canon cs (s.tracePoint e b slot rel x flags) := by
  unfold State.tracePoint
  extract_lets s1 _ s2
  have h1 : Canon cs s1 := .ite h (.traceDoAll h)
  have h2 : Canon cs s2 := .setTrace h1
  exact .ite h1 (.ite (.traceSample h2) h2)

theorem Canon.traceEval {e b slot rel missed x flags} (h : Canon cs s) :
    Canon cs (s.traceEval e b slot rel missed x flags) := by
  unfold State.traceEval
  extract_lets _ s1
  have h1 : Canon cs s1 := .inc h
  exact .ite h (.ite (.ite (.setTrace h1) (.tracePoint h1)) (.tracePoint h))

theorem Canon.evalBoundary {e t slot x rel} (h : Canon cs s) : Canon cs (s.evalBoundary e t slot x rel) := by
  unfold State.evalBoundary
  extract_lets own
  have hown : Canon cs own := .setLoop h
  split
  · exact .ite (.ite (.leBoundary h) (.leApply (.setLeWr hown))) hown
  · exact hown

theorem Canon.memEval {e _t l y rel before} (h : Canon cs s) : Canon cs (s.memEval e _t l y rel before).1 := by
  unfold State.memEval
  split
  · exact h
  · extract_lets
    split
    · exact h
    · extract_lets _ _ _ s1
      have h1 : Canon cs s1 := .setMem h
      exact (.ite (.count (.inc h1)) (.ite (.raise h1) h1))

theorem Canon.noteEval {e} (h : Canon cs s) : Canon cs (s.noteEval e) := h

theorem Canon.evalLoop {e t l} (h : Canon cs s) : Canon cs (s.evalLoop e t l) := by
  unfold State.evalLoop
  extract_lets _ _ _ ev
  have hev : ∀ {c b u}, Canon cs u → Canon cs (ev c b u) := fun hu => .ite (.raise hu) hu
  split
  · exact h
  · extract_lets s
    have hs : Canon cs s := .evalBoundary h
    split
    · exact hs
    · extract_lets _ _ _ _ _ _ _ _ _ _ _ _ _ _ _ _ _ _ _ _ _ _ _ _ _ s4 s5 _ _ _ s8
      have h4 : Canon cs s4 := hev (hev (hev (hev (hev (.setTask (.setLoop (.memEval (.ite (.freshen hs) hs))))))))
      have h5 : Canon cs s5 := .ite (.post h4) h4
      have h8 : Canon cs s8 := .foldl .count (.noteEval (.foldl .traceEval (.ite (.post (.wn (.inc h5))) h5)))
      exact .ite (.faultStop h8) (.resched h8)

theorem CanonOut.loopEvaluate {e} (h : Canon cs s) : CanonOut cs (execLoopEvaluate e s) := by
  unfold execLoopEvaluate
  refine .next ?_
  refine .ite h ?_
  split
  · exact .evalLoop h
  · exact h

theorem CanonOut.memorySave {e m} (h : Canon cs s) : CanonOut cs (execMemorySave e m s) := by
  unfold execMemorySave
  extract_lets
  refine .next ?_
  split
  · exact h
  · split
    · exact h
    · exact .same (.setMem h)

theorem Canon.leWrite {e v lo hi own} (h : Canon cs s) : Canon cs (s.leWrite e v lo hi own) := by
  unfold State.leWrite
  extract_lets _ _ _ _ _ _ _ s1
  have h1 : Canon cs s1 := .ite (.leApply h) (.p (.setLeWr h))
  refine .ite (.wrCode h) ?_
  split
  · exact .ite (.tow h1) h1
  · exact .wrCode h

theorem Canon.leRead {e v} (h : Canon cs s) : Canon cs (s.leRead e v) := by
  unfold State.leRead
  extract_lets _ _ _ val
  clear_value val
  split
  · exact .wrCode (.wn64 h)
  · exact .wrCode h

theorem Canon.leCancel {e own} (h : Canon cs s) : Canon cs (s.leCancel e own) := by
  unfold State.leCancel
  split
  · exact h
  · extract_lets gone
    have hgone : ∀ {t}, Canon cs t → Canon cs (gone t) := fun ht => .p (.setLeWr ht)
    exact .ite (hgone h) (.ite h (.ite (hgone h) (.ite (.tow (hgone h)) (.ite (.tow (hgone (.freshen h))) (.freshen
        h)))))

theorem Canon.leCmdWrite {e v} (h : Canon cs s) : Canon cs (s.leCmdWrite e v) := by
  unfold State.leCmdWrite
  split
  · exact .leWrite h
  · exact .leRead h
  · exact .leCancel h
  · exact h

theorem CanonOut.loopWrite {p e v} (h : Canon cs s) : CanonOut cs (execLoopWrite p e v s) :=
  .next (.ite h (.regWrite .leCmdWrite h))

theorem CanonOut.loopRead {p e v} (h : Canon cs s) : CanonOut cs (execLoopRead p e v s) :=
  .next (.ite h (.regWrite .leCmdWrite h))

theorem CanonOut.loopCancel {p e} (h : Canon cs s) : CanonOut cs (execLoopCancel p e s) :=
  .next (.ite h (.regWrite .leCmdWrite h))

theorem CanonOut.loopWriteApply {e} (h : Canon cs s) : CanonOut cs (execLoopWriteApply e s) := by
  unfold execLoopWriteApply
  refine .next ?_
  split
  · exact h
  · extract_lets s1
    have h1 : Canon cs s1 := .advanceToPtp h
    exact .ite h1 (.ite (.leBoundary h1) (.leFlush h1))

theorem Canon.memCmd {e v own} (h : Canon cs s) : Canon cs (s.memCmd e v own) := by
  unfold State.memCmd
  extract_lets _ fwd
  have hfwd : ∀ {t}, Canon cs t → Canon cs (fwd t) := fun ht => .ite (.tow ht) ht
  split
  · exact hfwd (.same (.setMem h))
  · exact hfwd (.setMem h)
  · exact hfwd (.setMem h)
  · exact h

theorem CanonOut.memClear {p e m} (h : Canon cs s) : CanonOut cs (execMemClear p e m s) :=
  .next (.ite h (.regWrite .memCmd h))

theorem CanonOut.memFreeze {p e m} (h : Canon cs s) : CanonOut cs (execMemFreeze p e m s) :=
  .next (.ite h (.regWrite .memCmd h))

theorem CanonOut.memUnfreeze {p e m} (h : Canon cs s) : CanonOut cs (execMemUnfreeze p e m s) :=
  .next (.ite h (.regWrite .memCmd h))

theorem Canon.traceCmd {e b v} (h : Canon cs s) : Canon cs (s.traceCmd e b v) :=
  .ite h (.ite (.setTrace h) (.ite (.setTrace h) (.traceDo (.traceDoAll h))))

theorem Canon.traceFetched {e b} (h : Canon cs s) : Canon cs (s.traceFetched e b) := .ite (.traceDoAll h) h

theorem CanonOut.traceArm {p e b} (h : Canon cs s) : CanonOut cs (execTraceArm p e b s) :=
  .next (.ite h (.regWrite .traceCmd h))

theorem CanonOut.traceTrigger {p e b} (h : Canon cs s) : CanonOut cs (execTraceTrigger p e b s) :=
  .next (.ite h (.regWrite .traceCmd h))

theorem CanonOut.traceAbort {p e b} (h : Canon cs s) : CanonOut cs (execTraceAbort p e b s) :=
  .next (.ite h (.regWrite .traceCmd h))

theorem CanonOut.traceFetch {r b} (h : Canon cs s) : CanonOut cs (execTraceFetch r b s) := by
  unfold execTraceFetch
  refine .next ?_
  refine .withOp (fun ht => ?_) h
  extract_lets _ _ u
  have hu : Canon cs u := by
    unfold u
    refine .ite (.finishWith ht) ?_
    split
    · exact .finishWith (.hostPut ht)
    · exact .finishWith ht
  exact .traceFetched hu

/-! ## Operations on points -/

theorem CanonOut.nop {r} (h : Canon cs s) : CanonOut cs (execNop r s) := .next (.withOp .finishWith h)

theorem Canon.readPoints {c l} (h : Canon cs s) : Canon cs (s.readPoints c l) :=
  .foldl (fun ht => .checkSlot (.access ht)) h

theorem CanonOut.ptRead {r b} (h : Canon cs s) : CanonOut cs (execPtRead r b s) := by
  unfold execPtRead
  refine .next ?_
  refine .ite h ?_
  refine .withOp (fun ht => ?_) h
  extract_lets _ _ t1
  have ht1 : Canon cs t1 := .readPoints (.countDenied (.count ht))
  refine .ite (.finishWith ht1) ?_
  split
  · exact .finishWith (.hostPut ht1)
  · exact .finishWith ht1

theorem CanonOut.ptWrite {r} (h : Canon cs s) : CanonOut cs (execPtWrite r s) := by
  unfold execPtWrite
  refine .next ?_
  refine .withOp (fun ht => ?_) h
  extract_lets _ t1
  have ht1 : Canon cs t1 := .access (.countDenied (.count ht))
  split
  · exact .finishWith (.forward (.arb ht1))
  · exact .finishWith ht1
  · exact .finishWith ht1

theorem CanonOut.ptSubscribe {r} (h : Canon cs s) : CanonOut cs (execPtSubscribe r s) :=
  .next (.withOp (fun ht => .ite (.finishWith ht) (.finishWith (.setPort (.foldl .access (.countDenied ht))))) h)

theorem CanonOut.ptSubscribeCancel {r} (h : Canon cs s) : CanonOut cs (execPtSubscribeCancel r s) :=
  .next (.withOp (fun ht => .finishWith (.setPort ht)) h)

/-! ## Forces and online change -/

theorem Canon.driveForce {i v} (h : Canon cs s) : Canon cs (s.driveForce i v) := by
  unfold State.driveForce
  split
  · exact .driveOut h
  · exact h

theorem Canon.forceSlot {i v} (h : Canon cs s) : Canon cs (s.forceSlot i v) :=
  .driveForce (.forceRecord (.stampForce (.setForce (.arb h))))

theorem CanonOut.ptForce {r} (h : Canon cs s) : CanonOut cs (execPtForce r s) := by
  unfold execPtForce
  refine .next ?_
  refine .withOp (fun ht => ?_) h
  extract_lets
  split
  · exact .ite (.finishWith ht) (.ite (.finishWith (.raise ht)) (.finishWith (.forward (.forceSlot ht))))
  · exact .finishWith ht
  · exact .finishWith ht

theorem Canon.unforceSlot {i} (h : Canon cs s) : Canon cs (s.unforceSlot i) := .stampForce (.arb (.dropForce h))

theorem CanonOut.ptUnforce {r} (h : Canon cs s) : CanonOut cs (execPtUnforce r s) :=
  .next (.withOp (fun ht => .ite (.finishWith ht) (.ite (.finishWith ht) (.ite (.finishWith ht) (.finishWith
      (.forward (.unforceSlot ht)))))) h)

theorem Canon.valuesStart {r l} (h : Canon cs s) : Canon cs (s.valuesStart r l) := .valuesIdle (.p h)

theorem Canon.fullEvent {v} (h : Canon cs s) : Canon cs (s.fullEvent v) := .ite (.raise h) h

theorem CanonOut.imgChangeValues {r b partner} (h : Canon cs s) :
    CanonOut cs (execImgChangeValues r b partner s) := by
  unfold execImgChangeValues
  refine .next ?_
  refine .withOp (fun ht => ?_) h
  refine .ite (.finishWith ht) ?_
  refine .ite (.finishWith ht) ?_
  split
  · extract_lets _ t1
    have ht1 : Canon cs t1 := .ite (.tow ht) ht
    split
    · exact .changeRefused (.fullEvent ht)
    · split
      · exact .changeRefused ht1
      · exact .valuesStart ht1
  · exact .finishWith ht

theorem CanonOut.valuesBoundary {n} (h : Canon cs s) : CanonOut cs (execValuesBoundary n s) :=
  .next (.ite h (.valuesAt h))

theorem Canon.switchWait {r bytes release} (h : Canon cs s) : Canon cs (s.switchWait r bytes release) := .p h

theorem CanonOut.imgChangeSwitch {r b bankOk partner} (h : Canon cs s) :
    CanonOut cs (execImgChangeSwitch r b bankOk partner s) := by
  unfold execImgChangeSwitch
  refine .next ?_
  refine .withOp (fun ht => ?_) h
  refine .ite (.finishWith ht) ?_
  split
  · extract_lets _ _ v t1 t2
    have ht1 : Canon cs t1 := .checkedBank ht
    have ht2 : Canon cs t2 := .ite (.tow ht1) ht1
    clear_value v
    split
    · exact .changeRefused ht1
    · split
      · exact .changeRefused ht2
      · exact .switchWait ht2
  · exact .finishWith ht

theorem Canon.loopsSwitch {old} (h : Canon cs s) : Canon cs (s.loopsSwitch old) := h

theorem Canon.memsSwitch {old} (h : Canon cs s) : Canon cs (s.memsSwitch old) :=
  .foldl (fun ht => .ite (.setMem ht) ht) (.memsLoad h)

theorem Canon.leOrphans (h : Canon cs s) : Canon cs s.leOrphans := by
  unfold State.leOrphans
  refine .foldl (fun ht => ?_) h
  split
  · exact .ite (.wrCode (.setLeWr ht)) ht
  · exact ht

theorem Canon.retainAll (h : Canon cs s) : Canon cs s.retainAll := .foldl (fun hu => .ite hu hu) h

theorem Canon.tasksSwitch (h : Canon cs s) : Canon cs s.tasksSwitch := .foldl .setTask h

theorem Canon.switchTo {m bytes} (h : Canon cs s) : Canon cs (s.switchTo m bytes).1 := by
  unfold State.switchTo
  extract_lets _ _ s1 _ _ _ s2 s3
  have h1 : Canon cs s1 := .foldl .dropForce h
  have h2 : Canon cs s2 := .same_scn (.putInactive h1)
  clear_value s2
  have h3 : Canon cs s3 := by
    refine .foldl (fun ht => ?_) (.instInit h2)
    split
    · exact .putInst ht
    · exact ht
  dsimp only
  exact .driveForced (.showDigest (.retainAll (.tasksSwitch (.reforceVars (.configSlots (.leOrphans (.memsSwitch
    (.loopsSwitch h3))))))))

theorem CanonOut.switchGap {tenths} (h : Canon cs s) : CanonOut cs (execSwitchGap tenths s) := by
  unfold execSwitchGap
  refine .next ?_
  split
  · extract_lets _ lost
    refine .ite ?_ h
    clear_value lost
    split
    · exact .changeRefused h
    · exact .changeDone (.raise (.wn (.switchTo (.advanceToUp (.p h)))))
  · exact h

theorem CanonOut.switchWaitExpire (h : Canon cs s) : CanonOut cs (execSwitchWaitExpire s) := by
  unfold execSwitchWaitExpire
  refine .next ?_
  split
  · exact .changeRefused (.advanceToUp h)
  · exact h

/-! ## Transmit rings of the MACs -/

theorem Canon.setMac {n x} (h : Canon cs s) : Canon cs (s.setMac n x) := h

theorem Canon.macCount {n k by_} (h : Canon cs s) : Canon cs (s.macCount n k by_) := by
  unfold State.macCount
  extract_lets _ s1
  have h1 : Canon cs s1 := .inc h
  exact .ite (.raise (.ite (.setBit h1) (.setBit h1))) h1

theorem Canon.macQueue {n f} (h : Canon cs s) : Canon cs (s.macQueue n f) := .ite (.macCount h) (.setMac h)

theorem Canon.macZader {n count} (h : Canon cs s) : Canon cs (s.macZader n count) := .macQueue h

theorem Canon.macBins (h : Canon cs s) : Canon cs s.macBins := .foldl .setMac h

/-! ## Replication -/

theorem Canon.sendFrame {k body count block part resyncEnd} (h : Canon cs s) :
    Canon cs (s.sendFrame k body count block part resyncEnd) := by
  unfold State.sendFrame
  refine .ite h ?_
  extract_lets _ _ _ _ _ _ _ s2
  have h2 : Canon cs s2 := .foldl .macZader (.count (.inc h))
  exact .ite (.tow h2) h2

theorem Canon.sendOwn {b action former new gen manual} (h : Canon cs s) :
    Canon cs (s.sendOwn b action former new gen manual) :=
  .sendFrame h

theorem Canon.sendUpdate {l} (h : Canon cs s) : Canon cs (s.sendUpdate l) :=
  .ite h (.same_pix (.sendFrame (.checkSlots h)))

theorem Canon.serveBlock {b} (h : Canon cs s) : Canon cs (s.serveBlock b) :=
  .same (.count (.inc (.foldl .sendFrame (.checkSlots (.sendOwn h)))))

theorem Canon.queueServe {l covered} (h : Canon cs s) : Canon cs (s.queueServe l covered) := h

theorem Canon.sweepAll (h : Canon cs s) : Canon cs s.sweepAll := .queueServe h

theorem Canon.clockBecameValid (h : Canon cs s) : Canon cs s.clockBecameValid :=
  .ite h (.sweepAll (.raise (.foldl .restamp h)))

theorem Canon.loseBlock {b} (h : Canon cs s) : Canon cs (s.loseBlock b) :=
  .foldl .putSlot (.dropBlockForces (.same h))

theorem Canon.gainBlock {b} (h : Canon cs s) : Canon cs (s.gainBlock b) := .same (.foldl .putSlot h)

theorem Canon.claim {b manual} (h : Canon cs s) : Canon cs (s.claim b manual) :=
  .queueServe (.takeForces (.foldl .restamp (.sendOwn (.raise (.raise (.gainBlock (.setOwn h)))))))

theorem Canon.releaseNow {b n} (h : Canon cs s) : Canon cs (s.releaseNow b n) :=
  .ite (.p h) (.p (.raise (.loseBlock (.setOwn (.sendOwn (.foldl .sendUpdate h))))))

theorem Canon.setOrigin {o x} (h : Canon cs s) : Canon cs (s.setOrigin o x) := h

theorem Canon.needOrigin {o} (h : Canon cs s) : Canon cs (s.needOrigin o) := by
  unfold State.needOrigin
  extract_lets s1
  have h1 : Canon cs s1 := .needResync h
  exact .ite (.same h1) h1

theorem Canon.hear {o} (h : Canon cs s) : Canon cs (s.hear o) := by
  unfold State.hear
  extract_lets _ s1
  have h1 : Canon cs s1 := .setOrigin h
  exact .ite (.needOrigin (.raise h1)) h1

theorem Canon.gap {o n} (h : Canon cs s) : Canon cs (s.gap o n) := .needOrigin (.raise (.count (.inc h)))

theorem Canon.judgeSeq {f} (h : Canon cs s) : Canon cs (s.judgeSeq f).1 := by
  unfold State.judgeSeq
  extract_lets
  split
  · exact .needOrigin (.setOrigin h)
  · split
    · exact h
    · split
      · exact .needOrigin (.setOrigin h)
      · extract_lets
        split
        · split
          · exact .gap (.setOrigin h)
          · exact h
        · split
          · exact .inc h
          · split
            · exact .setOrigin h
            · exact .gap (.setOrigin h)

theorem Canon.mergeEntry {f e} (h : Canon cs s) : Canon cs (s.mergeEntry f e) := by
  unfold State.mergeEntry
  extract_lets _ _ _ s1
  have h1 : Canon cs s1 := .inc h
  exact .ite (.ite h1 (.needResync h1)) (.ite (.raise (.inc h)) (.ite (.inc h) (.ite (.count (.count (.store h)))
      (.count (.inc h)))))

theorem Canon.notePart {f whole} (h : Canon cs s) : Canon cs (s.notePart f whole) := by
  unfold State.notePart
  extract_lets _ start
  clear_value start
  split
  · exact h
  · exact .ite h h

theorem Canon.coverWants {t l} (h : Canon cs s) : Canon cs (s.coverWants t l) := h

theorem Canon.awaitLearned {o b} (h : Canon cs s) : Canon cs (s.awaitLearned o b) := .ite h h

theorem Canon.judgeOwn {f e} (h : Canon cs s) : Canon cs (s.judgeOwn f e) := by
  unfold State.judgeOwn
  extract_lets _ _ s1 _ _ _ s1'
  have h1 : Canon cs s1 := .inc h
  have h1' : Canon cs s1' := .raise (.setOwn h)
  exact .ite (.ite h1 (.needResync h1)) (.ite h (.ite (.ite (.loseBlock (.post (.raise h1'))) (.ite (.takeForces
      (.gainBlock (.raise h1'))) (.ite (.awaitLearned h1') h1'))) (.raise (.inc h))))

theorem CanonOut.zaderFrameReceive {link payload} (h : Canon cs s) :
    CanonOut cs (execZaderFrameReceive link payload s) := by
  unfold execZaderFrameReceive
  extract_lets f on s1 s2
  have h1 : Canon cs s1 := .count (.inc h)
  have h2 : Canon cs s2 := .ite h1 (.hear h1)
  have hj : Canon cs (s2.judgeSeq f).1 := .judgeSeq h2
  clear_value s1 s2
  refine .ite (.next h) (.ite (.next h) (.ite (.next (.inc h1)) (.ite (.next (.inc h1)) ?_)))
  split
  next e =>
    rw [e] at hj
    exact .next hj
  next s3 e =>
    rw [e] at hj
    split
    · exact .next hj
    · exact .ite (.next (.notePart (.coverWants (.foldl .mergeEntry hj)))) (.next (.foldl .mergeEntry hj))
    · exact .next (.foldl .judgeOwn hj)
    · exact .ite (.next (.inc hj)) (.ite (.next (.queueServe (.coverWants hj))) (.next (.coverWants hj)))

theorem CanonOut.updateFrameSend (h : Canon cs s) : CanonOut cs (execUpdateFrameSend s) :=
  .ite (.next h) (.next (.sendUpdate h))

theorem CanonOut.heartbeatSend (h : Canon cs s) : CanonOut cs (execHeartbeatSend s) := .next (.ite (.sendFrame h) h)

theorem CanonOut.refreshSweep (h : Canon cs s) : CanonOut cs (execRefreshSweep s) := by
  unfold execRefreshSweep
  refine .ite (.next h) ?_
  extract_lets
  split
  · exact .next h
  · exact .next (.same (.serveBlock h))

theorem CanonOut.blockService (h : Canon cs s) : CanonOut cs (execBlockService s) := by
  unfold execBlockService
  refine .ite (.next h) ?_
  split
  · exact .next h
  · exact .ite (.next (.serveBlock h)) (.next h)

theorem Canon.sendReq {target blocks} (h : Canon cs s) : Canon cs (s.sendReq target blocks) :=
  .foldl (fun ht => .inc (.sendFrame ht)) h

theorem CanonOut.resyncReqSend {target} (h : Canon cs s) : CanonOut cs (execResyncReqSend target s) := by
  unfold execResyncReqSend
  refine .ite (.next h) ?_
  split
  · exact .next h
  · exact .next (.ite (.sendReq h) h)

theorem CanonOut.resyncRetry {b} (h : Canon cs s) : CanonOut cs (execResyncRetry b s) := by
  unfold execResyncRetry
  refine .ite (.next h) ?_
  split
  · exact .next h
  · extract_lets _ put
    have hput : ∀ {x}, Canon cs (put x) := h
    exact .ite (.next hput) (.ite (.next (.needResync hput)) (.ite (.next (.needResync h)) (.next (.foldl .stale
        (.raise hput)))))

theorem CanonOut.originSilent {o} (h : Canon cs s) : CanonOut cs (execOriginSilent o s) :=
  .ite (.next h) (.next (.foldl .stale (.raise (.same (.setOrigin (.advanceToUp h))))))

theorem CanonOut.autoTakeover {b} (h : Canon cs s) : CanonOut cs (execAutoTakeover b s) :=
  .ite (.next h) (.next (.claim (.advanceToUp h)))

theorem Canon.ownWaits {claim b n} (h : Canon cs s) : Canon cs (s.ownWaits claim b n) := h

theorem Canon.ownRelease {b n} (h : Canon cs s) : Canon cs (s.ownRelease b n) := by
  unfold State.ownRelease
  extract_lets s1
  have h1 : Canon cs s1 := .wn h
  exact .ite (.ownWaits h1) (.ite (.p h1) (.ite (.p h1) (.ite (.p h1) (.ite (.releaseNow h1) (.same (.p h1))))))

theorem Canon.ownClaim {b n} (h : Canon cs s) : Canon cs (s.ownClaim b n) := by
  unfold State.ownClaim
  extract_lets s1
  have h1 : Canon cs s1 := .wn h
  exact .ite (.ownWaits h1) (.ite (.p h1) (.ite (.p h1) (.p (.claim h1))))

theorem Canon.ownResume (h : Canon cs s) : Canon cs s.ownResume := by
  unfold State.ownResume
  extract_lets
  split
  · exact h
  · exact .ite (.ownClaim h) (.ownRelease h)

theorem CanonOut.ownRelease {p b n} (h : Canon cs s) : CanonOut cs (execOwnRelease p b n s) :=
  .next (.ite h (.regWrite .ownRelease h))

theorem CanonOut.ownReleaseEffective {b} (h : Canon cs s) : CanonOut cs (execOwnReleaseEffective b s) := by
  unfold execOwnReleaseEffective
  split
  · exact .next h
  · extract_lets s1
    have h1 : Canon cs s1 := .advanceToPtp h
    exact .next (.ite h (.ite (.releaseNow h1) (.p (.same h1))))

theorem CanonOut.ownClaim {p b} (h : Canon cs s) : CanonOut cs (execOwnClaim p b s) :=
  .next (.ite h (.regWrite .ownClaim h))

/-! ## Duplex pair -/

theorem Canon.xcheckOff (h : Canon cs s) : Canon cs s.xcheckOff := .p h

theorem Canon.shipAlone (h : Canon cs s) : Canon cs s.shipAlone := .same (.foldl .setTask h)

theorem Canon.setPair {st reason} (h : Canon cs s) : Canon cs (s.setPair st reason) := by
  unfold State.setPair
  extract_lets _ s1 s2
  have h1 : Canon cs s1 := .p (.p h)
  have h2 : Canon cs s2 := .ite (.raise h1) (.ite (.raise h1) h1)
  exact .ite (.pairBreak (.shipAlone (.xcheckOff (.switchOff h2)))) h2

theorem Canon.roleChange {cause latency} (h : Canon cs s) : Canon cs (s.roleChange cause latency) :=
  .p (.wn64 (.wn (.inc h)))

theorem Canon.becomeMotor {cause latency} (h : Canon cs s) : Canon cs (s.becomeMotor cause latency) :=
  .p (.same (.roleChange h))

theorem Canon.lowerLines (h : Canon cs s) : Canon cs s.lowerLines := .canYield (.fieldYield (.p h))

theorem Canon.abdicate (h : Canon cs s) : Canon cs s.abdicate :=
  .ite (.setPair (.tow (.raise (.roleChange (.lowerLines h))))) h

theorem Canon.notReady (h : Canon cs s) : Canon cs s.notReady := .ite (.ite h (.setPair (.tow h))) h

theorem Canon.actAsMotor {cause latency} (h : Canon cs s) : Canon cs (s.actAsMotor cause latency) :=
  .post (.sweepAll (.same_pix (.fieldTakeover (.foldl .latchLocal h))))

theorem CanonOut.aliveSilent (h : Canon cs s) : CanonOut cs (execAliveSilent s) := by
  unfold execAliveSilent
  refine .next ?_
  extract_lets _ s1 s2
  have h1 : Canon cs s1 := .p h
  have h2 : Canon cs s2 := .raise h1
  exact .ite h1 (.ite (.ite (.setPair h2) h2) (.ite (.same h1) h1))

theorem CanonOut.aliveGood (h : Canon cs s) : CanonOut cs (execAliveGood s) := by
  unfold execAliveGood
  refine .next ?_
  extract_lets _ _ s1
  have h1 : Canon cs s1 := .p h
  exact .ite (.raise h1) h1

theorem CanonOut.aliveGeneratorStop (h : Canon cs s) : CanonOut cs (execAliveGeneratorStop s) :=
  .next (.ite (.switchOff (.roleChange (.lowerLines h))) (.lowerLines h))

theorem Canon.confirmTake (h : Canon cs s) : Canon cs s.confirmTake := .ite h h

theorem CanonOut.grantInEdge {grant release} (h : Canon cs s) : CanonOut cs (execGrantInEdge grant release s) := by
  unfold execGrantInEdge
  refine .next ?_
  extract_lets _ s1 _ s2
  have h1 : Canon cs s1 := .p (.p h)
  have h2 : Canon cs s2 := .same h1
  exact .ite (.ite (.confirmTake h2) h2) (.ite (.same h1) h1)

theorem CanonOut.abdicate (h : Canon cs s) : CanonOut cs (execAbdicate s) := .next (.ite (.confirmTake h) h)

theorem CanonOut.abdicateWindowExpire (h : Canon cs s) : CanonOut cs (execAbdicateWindowExpire s) := by
  unfold execAbdicateWindowExpire
  refine .next ?_
  split
  · exact .ite (.raise (.p (.advanceToUp h))) h
  · exact h

theorem CanonOut.dualMotor (h : Canon cs s) : CanonOut cs (execDualMotor s) := by
  unfold execDualMotor
  refine .next ?_
  refine .ite ?_ h
  extract_lets s1 s2
  have h1 : Canon cs s1 := .raise h
  have h2 : Canon cs s2 := .roleChange (.lowerLines h1)
  exact .ite (.ite h2 (.setPair h2)) h1

theorem CanonOut.laneDown {k} (h : Canon cs s) : CanonOut cs (execLaneDown k s) := by
  unfold execLaneDown
  refine .next ?_
  extract_lets _ s1 s2
  have h1 : Canon cs s1 := .setBit h
  have h2 : Canon cs s2 := .ite (.raise h1) h1
  exact .ite (.same h2) h2

theorem CanonOut.laneUp {k} (h : Canon cs s) : CanonOut cs (execLaneUp k s) := .next (.setBit h)

theorem CanonOut.lanesDown (h : Canon cs s) : CanonOut cs (execLanesDown s) := by
  unfold execLanesDown
  refine .next ?_
  split
  · extract_lets s1
    have h1 : Canon cs s1 := .advanceToUp h
    exact .ite (.setPair h1) h1
  · exact h

theorem CanonOut.idle {ok} (h : Canon cs s) : CanonOut cs (execIdle ok s) := .next (.ite (.count h) (.count (.inc h)))

theorem CanonOut.inputs {task ref entries outs} (h : Canon cs s) :
    CanonOut cs (execInputs task ref entries outs s) := by
  unfold execInputs
  refine .next ?_
  split
  · exact h
  · refine .ite h ?_
    extract_lets _ _ _ s2
    have h2 : Canon cs s2 := by
      unfold s2
      refine .ite ?_ h
      split
      · exact .latchShipped h
      · exact h
    exact .tow h2

theorem CanonOut.inputsAck {task ref} (h : Canon cs s) : CanonOut cs (execInputsAck task ref s) := by
  unfold execInputsAck
  refine .next ?_
  extract_lets
  split
  · exact .ite (.p (.same (.setTask h))) h
  · exact h

theorem CanonOut.shipTimeout {task} (h : Canon cs s) : CanonOut cs (execShipTimeout task s) := by
  unfold execShipTimeout
  refine .next ?_
  split
  · exact .ite (.setPair (.advanceToUp h)) h
  · exact h

theorem CanonOut.hash {task ref h} (hs : Canon cs s) : CanonOut cs (execHash task ref h s) := by
  unfold execHash
  refine .next ?_
  refine .ite hs ?_
  split
  · exact .ite hs (.hashDiffers hs)
  · exact hs

theorem CanonOut.hashTimeout {task} (h : Canon cs s) : CanonOut cs (execHashTimeout task s) := by
  unfold execHashTimeout
  refine .next ?_
  split
  · exact .ite (.hashDiffers h) h
  · exact h

theorem CanonOut.seqReport {seq} (h : Canon cs s) : CanonOut cs (execSeqReport seq s) := .next h

theorem Canon.fwdForce {m} (h : Canon cs s) : Canon cs (s.fwdForce m) := by
  unfold State.fwdForce
  extract_lets
  split
  · exact .forceRecord (.setForce h)
  · exact .forceRecord (.setForce h)
  · exact .dropForce h
  · exact h

theorem Canon.fwdSlot {m} (h : Canon cs s) : Canon cs (s.fwdSlot m) := by
  unfold State.fwdSlot
  extract_lets _ _ _ _ _ _ _ s1 s2
  have h1 : Canon cs s1 := .journalSlot (.storeOwned (.fwdForce h))
  have h2 : Canon cs s2 := .ite (.stampForce h1) h1
  exact .ite h (.ite (.raise h) (.ite (.driveForce h2) h2))

theorem Canon.fwdLoop {l} (h : Canon cs s) : Canon cs (s.fwdLoop l) := by
  unfold State.fwdLoop
  split
  · exact .leWrite h
  · exact .leCancel h
  · exact .memCmd h
  · exact h

theorem Canon.refuseJoin {reason} (h : Canon cs s) : Canon cs (s.refuseJoin reason) := .post (.raise (.setPair h))

theorem Canon.tellVerdict {v} (h : Canon cs s) : Canon cs (s.tellVerdict v) := .tow h

theorem Canon.fwdImage {bytes bankOk} (h : Canon cs s) : Canon cs (s.fwdImage bytes bankOk) := by
  unfold State.fwdImage
  extract_lets v s1
  have h1 : Canon cs s1 := .checkedBank h
  refine .ite ?_ (.ite (.tow (.ite (.refuseJoin h1) (.installBank h1))) h)
  clear_value v
  split
  · exact .tellVerdict h1
  · exact .installBank h1

theorem Canon.fwdChange {r kind bytes release bankOk} (h : Canon cs s) :
    Canon cs (s.fwdChange r kind bytes release bankOk) := by
  unfold State.fwdChange
  refine .ite ?_ ?_
  · split
    · exact .tellVerdict (.fullEvent h)
    · exact .valuesStart h
  · extract_lets v s1
    have h1 : Canon cs s1 := .checkedBank h
    clear_value v
    split
    · exact .tellVerdict h1
    · exact .switchWait h1

theorem CanonOut.forward {f} (h : Canon cs s) : CanonOut cs (execForward f s) := by
  unfold execForward
  refine .next ?_
  split
  · refine .ite h ?_
    split
    · exact .stationLost h
    · exact .stationBack h
    · exact .fwdSlot h
  · exact .ite (.fwdLoop h) h
  · refine .ite h ?_
    split
    · exact .ctlHold h
    · exact .ite (.ctlRun (.ctlDo h)) h
  · exact .fwdImage h
  · exact .ite h (.fwdChange h)

theorem CanonOut.notReady (h : Canon cs s) : CanonOut cs (execNotReady s) := by
  unfold execNotReady
  refine .next ?_
  refine .ite ?_ h
  extract_lets s1
  have h1 : Canon cs s1 := .raise h
  exact .ite h1 (.setPair h1)

theorem CanonOut.takeover {quickOk} (h : Canon cs s) : CanonOut cs (execTakeover quickOk s) := by
  unfold execTakeover
  refine .next ?_
  split
  · exact h
  · exact .ite (.notReady h) (.actAsMotor (.raise (.becomeMotor (.ite (.setPair h) (.setPair h)))))

theorem CanonOut.xcheck {task ref inCrc} (h : Canon cs s) : CanonOut cs (execXcheck task ref inCrc s) :=
  .next (.ite h (.same (.ite h (.xcheckStart h))))

theorem Canon.testPairs (h : Canon cs s) : Canon cs s.testPairs := .foldl (fun ht => ht) h

theorem CanonOut.xcheckDecide {rm rb qm qb} (h : Canon cs s) : CanonOut cs (execXcheckDecide rm rb qm qb s) := by
  unfold execXcheckDecide
  refine .next ?_
  split
  · exact h
  · extract_lets _ _ _ _ row _ s1
    have h1 : Canon cs s1 := .raise (.wn (.xcheckOff h))
    clear_value row
    split
    · exact .faultStop h1
    · exact .ite (.faultStop (.abdicate h1)) (.same h1)
    · exact .testPairs (.setPair h1)
    · exact .setPair h1

theorem Canon.dpxSwitch {delay} (h : Canon cs s) : Canon cs (s.dpxSwitch delay) := .ite (.p h) (.tow (.p h))

theorem CanonOut.dpxSwitch {p delay} (h : Canon cs s) : CanonOut cs (execDpxSwitch p delay s) :=
  .next (.ite (.regWrite .dpxSwitch h) h)

theorem CanonOut.switch {t} (h : Canon cs s) : CanonOut cs (execSwitch t s) := .next (.ite (.p h) h)

theorem CanonOut.plannedSwitch (h : Canon cs s) : CanonOut cs (execPlannedSwitch s) := by
  unfold execPlannedSwitch
  refine .next ?_
  split
  · exact h
  · extract_lets _ s1
    have h1 : Canon cs s1 := .switchOff (.advanceToPtp h)
    exact .pairSwitched (.raise (.ite (.roleChange (.lowerLines h1)) (.actAsMotor (.becomeMotor h1))))

theorem Canon.dpxDetach (h : Canon cs s) : Canon cs s.dpxDetach := .ite (.p h) (.ite (.setPair h) h)

theorem CanonOut.detach {p} (h : Canon cs s) : CanonOut cs (execDetach p s) := .next (.ite (.regWrite .dpxDetach h) h)

theorem Canon.joinStart (h : Canon cs s) : Canon cs s.joinStart := .tow (.setPair h)

theorem Canon.dpxJoin (h : Canon cs s) : Canon cs s.dpxJoin := .ite (.joinStart h) h

theorem CanonOut.join {p} (h : Canon cs s) : CanonOut cs (execJoin p s) := .next (.ite (.regWrite .dpxJoin h) h)

theorem CanonOut.joinRetry (h : Canon cs s) : CanonOut cs (execJoinRetry s) := .next (.ite (.joinStart h) h)

theorem Canon.takeScnStatus {v} (h : Canon cs s) : Canon cs (s.takeScnStatus v) := .wn h

theorem Canon.takeItem {x} (h : Canon cs s) : Canon cs (s.takeItem x) := by
  unfold State.takeItem
  split
  · exact .putInst h
  · exact .ite (.takeScnStatus h) (.ite (.wr h) h)
  · exact .setTask h
  · exact h
  · exact .setLeWr h
  · exact .setMem h
  · exact .ite (.store h) h
  · exact h
  · exact h
  · exact .setIsl h
  · exact .wn h
  · exact h

theorem Canon.xferClear (h : Canon cs s) : Canon cs s.xferClear :=
  canon_iff.2 ⟨h.twf_regs, twf_filter _ h.twf_slots, rfl, h.2⟩

theorem Canon.joinPass {h} (hs : Canon cs s) : Canon cs (s.joinPass h) := by
  unfold State.joinPass
  extract_lets _ s1 _ s3
  have h1 : Canon cs s1 := .wn hs
  have h3 : Canon cs s3 := .wn (.setPair (.ite h1 (.raise h1)))
  exact .ite (.tow (.same h3)) (.xferClear h3)

theorem Canon.helloRole {h} (hs : Canon cs s) : Canon cs (s.helloRole h) :=
  .ite (.ite (.setPair hs) (.becomeMotor hs)) hs

theorem CanonOut.hello {h} (hs : Canon cs s) : CanonOut cs (execHello h s) := by
  unfold execHello
  refine .next ?_
  refine .ite hs ?_
  extract_lets s1 _ s2
  have h1 : Canon cs s1 := .helloRole hs
  have h2 : Canon cs s2 := .ite (.tow (.setPair h1)) h1
  refine .ite h1 ?_
  split
  · refine .ite (.ite (.tow (.same h2)) (.ite (.refuseJoin (.same h2)) h2)) ?_
    split
    · exact .joinPass h2
    · exact .refuseJoin h2
  · exact .refuseJoin h2

theorem CanonOut.xfer {items kib} (h : Canon cs s) : CanonOut cs (execXfer items kib s) := by
  unfold execXfer
  refine .next ?_
  refine .ite ?_ h
  extract_lets s1
  have h1 : Canon cs s1 := .p (.foldl .takeItem h)
  exact .ite (.setPair h1) h1

theorem CanonOut.xferGap {kib} (h : Canon cs s) : CanonOut cs (execXferGap kib s) :=
  .next (.ite (.setPair (.p (.same (.tow h)))) h)

theorem CanonOut.joinWaitExpire (h : Canon cs s) : CanonOut cs (execJoinWaitExpire s) := by
  unfold execJoinWaitExpire
  refine .next ?_
  split
  · refine .ite ?_ h
    extract_lets _ _ s2
    have h2 : Canon cs s2 := .p (.advanceToUp h)
    exact .ite (.refuseJoin (.same h2)) (.tow (.incHold (.same h2)))
  · exact h

theorem CanonOut.partnerPresentChange {present} (h : Canon cs s) :
    CanonOut cs (execPartnerPresentChange present s) := by
  unfold execPartnerPresentChange
  refine .next ?_
  extract_lets _ _ _ s2
  have h2 : Canon cs s2 := .same (.p h)
  exact .ite (.setPair (.raise h2)) h2

theorem CanonOut.totalsAckTimeout (h : Canon cs s) : CanonOut cs (execTotalsAckTimeout s) := by
  unfold execTotalsAckTimeout
  refine .next ?_
  split
  · extract_lets s1
    have h1 : Canon cs s1 := .mtrComplete (.advanceToPtp h)
    exact .ite (.setPair h1) h1
  · exact h

/-! ## Firmware update -/

theorem Canon.fwuShow (h : Canon cs s) : Canon cs s.fwuShow := .ite (.p h) (.ite h (.p h))

theorem Canon.finishReason {r status result} (h : Canon cs s) : Canon cs (s.finishReason r status result) := by
  unfold State.finishReason
  split
  · exact .finish h
  · exact h

theorem Canon.itemRefused {r o bank reason} (h : Canon cs s) : Canon cs (s.itemRefused r o bank reason) :=
  .finishReason (.post (.wn (.raise h)))

theorem Canon.fwBlock {r b sel len f} (hf : ∀ {x0 x1 x2 t}, Canon cs t → Canon cs (f x0 x1 x2 t)) (h : Canon cs s) :
    Canon cs (s.fwBlock r b sel len f) := by
  unfold State.fwBlock
  refine .withOp (fun ht => ?_) h
  refine .ite (.finishWith ht) ?_
  split
  · exact .itemRefused ht
  · refine .ite (.itemRefused (.ite (.fwuShow (.setFwBank ht)) ht)) ?_
    split
    · exact hf ht
    · exact .finishWith ht

theorem Canon.itemTaken {r k} (h : Canon cs s) : Canon cs (s.itemTaken r k) := .finishWith (.fwuShow h)

theorem CanonOut.fwBlockHeader {r b mramOk} (h : Canon cs s) : CanonOut cs (execFwBlockHeader r b mramOk s) := by
  unfold execFwBlockHeader
  refine .next ?_
  refine .fwBlock (fun ht => ?_) h
  extract_lets t0
  have ht0 : Canon cs t0 := .fwuShow (.setFwBank ht)
  exact .ite (.itemRefused ht0) (.ite (.itemRefused ht0) (.ite (.itemRefused ht0) (.itemTaken (.post (.same
      (.setFwBank ht0))))))

theorem CanonOut.fwBlockTable {r b mramOk} (h : Canon cs s) : CanonOut cs (execFwBlockTable r b mramOk s) :=
  .next (.fwBlock (fun ht => .ite (.itemRefused ht) (.ite (.itemRefused ht) (.itemTaken (.setFwBank ht)))) h)

theorem CanonOut.fwBlockHallmark {r b mramOk} (h : Canon cs s) : CanonOut cs (execFwBlockHallmark r b mramOk s) := by
  unfold execFwBlockHallmark
  refine .next ?_
  refine .fwBlock (fun ht => ?_) h
  extract_lets _ _ t0
  have ht0 : Canon cs t0 := .fwuShow (.setFwBank ht)
  exact .ite (.itemRefused ht0) (.ite (.itemRefused ht0) (.ite (.itemRefused ht0) (.itemTaken (.setFwBank ht))))

theorem CanonOut.fwBlockData {r b mramOk} (h : Canon cs s) : CanonOut cs (execFwBlockData r b mramOk s) := by
  unfold execFwBlockData
  refine .next ?_
  refine .fwBlock (fun ht => ?_) h
  extract_lets _ _ _ t1
  have ht1 : Canon cs t1 := .setFwBank ht
  exact .ite (.itemRefused ht) (.ite (.itemRefused ht) (.ite (.itemRefused ht) (.itemTaken (.ite (.post (.raise ht1))
      ht1))))

theorem Canon.activateRefused {r o reason} (h : Canon cs s) : Canon cs (s.activateRefused r o reason) :=
  .finishReason (.post (.wn (.raise h)))

theorem Canon.activate {r cold rules f} (hf : ∀ {x0 x1 t}, Canon cs t → Canon cs (f x0 x1 t)) (h : Canon cs s) :
    Canon cs (s.activate r cold rules f) := by
  unfold State.activate
  refine .withOp (fun ht => ?_) h
  extract_lets
  refine .ite (.finishWith ht) ?_
  refine .ite (.activateRefused ht) ?_
  split
  · exact .activateRefused ht
  · exact hf (.post (.raise (.wn64 ht)))

theorem Canon.activated {mask} (h : Canon cs s) : Canon cs (s.activated mask) := .raise (.post (.fwuShow h))

theorem Canon.orderReset {c} (h : Canon cs s) : Canon cs (s.orderReset c) := h

theorem Canon.coldMove {mask banks} (h : Canon cs s) : Canon cs (s.coldMove mask banks) :=
  .orderReset (.activated (.putMap h))

theorem CanonOut.fwActivate {r butty} (h : Canon cs s) : CanonOut cs (execFwActivate r butty s) :=
  .next (.activate (fun ht => .ite (.finishWith (.coldMove ht)) (.finishWith (.p ht))) h)

theorem CanonOut.fwActivateCold {r} (h : Canon cs s) : CanonOut cs (execFwActivateCold r s) :=
  .next (.activate (fun ht => .finishWith (.coldMove ht)) h)

theorem Canon.useOriginals {p k} (h : Canon cs s) : Canon cs (s.useOriginals p k) := h

theorem Canon.migrate {mask} (h : Canon cs s) : Canon cs (s.migrate mask) := by
  unfold State.migrate
  refine .foldl (fun ht => ?_) h
  extract_lets _ _ _ _ _ keep
  have hkeep : ∀ {k}, Canon cs (keep k) := .same ht
  refine .ite ht ?_
  split
  · exact .ite (.useOriginals hkeep) (.raise (.post hkeep))
  · exact .raise (.post hkeep)

theorem Canon.moveParts {mask} (h : Canon cs s) : Canon cs (s.moveParts mask) := .migrate (.putMap h)

theorem Canon.handedOver {a k} (h : Canon cs s) : Canon cs (s.handedOver a k) := by
  unfold State.handedOver
  split
  · exact .activated h
  · exact .p h
  · exact .fwuShow h

theorem Canon.handOver {a k migrated} (h : Canon cs s) : Canon cs (s.handOver a k migrated) := by
  unfold State.handOver
  refine .ite (.fwuShow (.fwuAbandon h)) ?_
  extract_lets s1
  have h1 : Canon cs s1 := .moveParts h
  exact .ite (.same h1) (.handedOver h1)

theorem CanonOut.fwActivateGap {mask migrated} (h : Canon cs s) :
    CanonOut cs (execFwActivateGap mask migrated s) := by
  unfold execFwActivateGap
  refine .next ?_
  split
  · extract_lets s1
    have h1 : Canon cs s1 := .advanceToPtp h
    split
    · exact .ite (.handedOver h1) (.ite (.handOver h1) h)
    · exact .ite (.activated h1) (.ite (.handOver h1) h)
    · exact .ite (.handOver h1) h
    · exact h
  · exact .ite (.handOver h) h

theorem CanonOut.fwGapWaitExpire (h : Canon cs s) : CanonOut cs (execFwGapWaitExpire s) := by
  unfold execFwGapWaitExpire
  refine .next ?_
  split
  · exact .ite (.fwuShow (.fwuAbandon (.advanceToUp h))) h
  · exact h

theorem CanonOut.islIslandSwitch {migrated} (h : Canon cs s) : CanonOut cs (execIslIslandSwitch migrated s) := by
  unfold execIslIslandSwitch
  refine .next ?_
  split
  · split
    · extract_lets s1
      have h1 : Canon cs s1 := .ite (.advanceToUp h) (.advanceToUp h)
      exact .ite (.same h1) (.ite (.fwuShow (.fwuAbandon h1)) (.handedOver (.moveParts h1)))
    · exact h
  · exact h

theorem CanonOut.soakEnd (h : Canon cs s) : CanonOut cs (execSoakEnd s) := by
  unfold execSoakEnd
  refine .next ?_
  split
  · refine .ite ?_ h
    extract_lets _ _ s2
    have h2 : Canon cs s2 := .same (.advanceToUp h)
    exact .ite (.tow (.p (.same h2))) h2
  · exact h

theorem CanonOut.fwNetSwitch {migrated} (h : Canon cs s) : CanonOut cs (execFwNetSwitch migrated s) := by
  unfold execFwNetSwitch
  refine .next ?_
  split
  · refine .ite ?_ h
    extract_lets s1
    have h1 : Canon cs s1 := .advanceToPtp h
    exact .ite (.activated (.moveParts h1)) (.fwuShow (.fwuAbandon h1))
  · exact h

theorem Canon.fwuConfirm {p} (h : Canon cs s) : Canon cs (s.fwuConfirm p) := .raise (.post (.ite (.wn h) h))

theorem Canon.fwuCancel (h : Canon cs s) : Canon cs s.fwuCancel := by
  unfold State.fwuCancel
  split
  · refine .ite (.pairBreak h) ?_
    split
    · exact h
    · exact .fwuShow (.fwuAbandon (.freshen h))
  · exact h

theorem Canon.fwuAbandonStaging (h : Canon cs s) : Canon cs s.fwuAbandonStaging := by
  unfold State.fwuAbandonStaging
  refine .ite h ?_
  split
  · exact .fwuShow (.setFwBank h)
  · exact h

theorem Canon.fwuCmdWrite {p action} (h : Canon cs s) : Canon cs (s.fwuCmdWrite p action) := by
  unfold State.fwuCmdWrite
  split
  · exact .fwuConfirm h
  · exact .fwuCancel h
  · exact .fwuAbandonStaging h
  · exact h

theorem CanonOut.confirm {p} (h : Canon cs s) : CanonOut cs (execConfirm p s) :=
  .next (.ite (.regWrite .fwuCmdWrite h) h)

theorem CanonOut.cancel {p} (h : Canon cs s) : CanonOut cs (execCancel p s) :=
  .next (.ite (.regWrite .fwuCmdWrite h) h)

theorem CanonOut.abandonStaging {p} (h : Canon cs s) : CanonOut cs (execAbandonStaging p s) :=
  .next (.ite (.regWrite .fwuCmdWrite h) h)

/-! ## Attestation -/

theorem CanonOut.attest {r b} (h : Canon cs s) : CanonOut cs (execAttest r b s) := by
  unfold execAttest
  refine .next ?_
  refine .withOp (fun ht => ?_) h
  refine .ite (.finishWith ht) ?_
  extract_lets
  split
  · exact .finishWith (.hostPut (.freshen ht))
  · exact .finishWith (.freshen ht)

/-! ## Backup domain -/

theorem Canon.bkdRaise {b} (h : Canon cs s) : Canon cs (s.bkdRaise b) := by
  unfold State.bkdRaise
  extract_lets s1
  have h1 : Canon cs s1 := .setBit h
  exact .ite (.edgeFrom h1) h1

theorem Canon.bkdService (h : Canon cs s) : Canon cs s.bkdService := .ite (.edge h) h

theorem Canon.setTick {n} (h : Canon cs s) : Canon cs (s.setTick n) := h

theorem Canon.nextTick (h : Canon cs s) : Canon cs s.nextTick := .advanceToTick h

theorem Canon.trimWindow {c} (h : Canon cs s) : Canon cs (s.trimWindow c) := h

theorem Canon.trimSettle (h : Canon cs s) : Canon cs s.trimSettle := .ite h (.trimWindow h)

theorem Canon.trimWrite {v} (h : Canon cs s) : Canon cs (s.trimWrite v) := .p (.trimSettle h)

theorem Canon.trimAct (h : Canon cs s) : Canon cs s.trimAct := .setTick (.same (.nextTick (.advanceToTick h)))

theorem CanonOut.trimPulse (h : Canon cs s) : CanonOut cs (execTrimPulse s) := by
  unfold execTrimPulse
  extract_lets s1
  have h1 : Canon cs s1 := .trimSettle h
  exact .ite (.next h) (.ite (.next (.trimAct h1)) (.ite (.next h1) (.next (.trimAct (.trimWindow (.advanceToTick
      h1))))))

theorem CanonOut.bkdWrap (h : Canon cs s) : CanonOut cs (execBkdWrap s) := by
  unfold execBkdWrap
  extract_lets s1
  have h1 : Canon cs s1 := .ite h (.advance h)
  exact .next (.ite (.bkdRaise (.same h1)) h1)

theorem Canon.wakeBase (h : Canon cs s) : Canon cs s.wakeBase := h

theorem Canon.alarmCheck (h : Canon cs s) : Canon cs s.alarmCheck := .ite (.bkdRaise (.p h)) h

theorem Canon.bkdSetCount (h : Canon cs s) : Canon cs s.bkdSetCount := h

theorem CanonOut.setCount {p} (h : Canon cs s) : CanonOut cs (execSetCount p s) :=
  .next (.ite (.regWrite .bkdSetCount h) h)

/-- The wake base moved where one runs, and STEPPED set where the count has passed the alarm. -/
theorem Canon.wakeStepped {c d : Prop} {_ : Decidable c} {_ : Decidable d} {f v} (h : Canon cs s) :
    Canon cs (if c then (if d then s else s.wakeBase).p f v else if d then s else s.wakeBase) :=
  .ite (.p (.ite h (.wakeBase h))) (.ite h (.wakeBase h))

theorem CanonOut.setCountLoad (h : Canon cs s) : CanonOut cs (execSetCountLoad s) := by
  unfold execSetCountLoad
  split
  · exact .next h
  · exact .ite (.next h) (.next (.alarmCheck (.wakeStepped (.trimWindow (.same (.same (.setTick (.nextTick h))))))))

theorem Canon.bkdCapture (h : Canon cs s) : Canon cs s.bkdCapture := .p h

theorem CanonOut.capture {p} (h : Canon cs s) : CanonOut cs (execCapture p s) :=
  .next (.ite (.regWrite .bkdCapture h) h)

theorem CanonOut.captureLatch (h : Canon cs s) : CanonOut cs (execCaptureLatch s) :=
  .ite (.next h) (.next (.p (.p (.wn64 (.wn64 (.same (.nextTick h)))))))

theorem CanonOut.bkdAlarm (h : Canon cs s) : CanonOut cs (execBkdAlarm s) :=
  .next (.ite (.alarmCheck (.ite (.advance h) h)) h)

theorem Canon.bkdArm (h : Canon cs s) : Canon cs s.bkdArm := .alarmCheck (.p (.p (.p (.same h))))

theorem CanonOut.bkdArm {p} (h : Canon cs s) : CanonOut cs (execBkdArm p s) := .next (.ite (.regWrite .bkdArm h) h)

theorem Canon.bkdDisarm (h : Canon cs s) : Canon cs s.bkdDisarm := .p h

theorem CanonOut.disarm {p} (h : Canon cs s) : CanonOut cs (execDisarm p s) := .next (.ite (.regWrite .bkdDisarm h) h)

theorem CanonOut.bkdWake (h : Canon cs s) : CanonOut cs (execBkdWake s) := by
  unfold execBkdWake
  extract_lets _ s1
  have h1 : Canon cs s1 := .ite h (.advanceToTick h)
  exact .ite (.next h) (.next (.ite (.bkdRaise (.inc (.same h1))) h1))

theorem Canon.wakeWrite {v} (h : Canon cs s) : Canon cs (s.wakeWrite v) := .wakeBase (.p h)

theorem CanonOut.bkdWakeWrite {p v} (h : Canon cs s) : CanonOut cs (execBkdWakeWrite p v s) :=
  .next (.ite (.regWrite .wakeWrite h) h)

theorem Canon.bkdSeal (h : Canon cs s) : Canon cs s.bkdSeal := .wn h

theorem Canon.bkdCheck (h : Canon cs s) : Canon cs s.bkdCheck := by
  unfold State.bkdCheck
  extract_lets _ s1
  have h1 : Canon cs s1 := .p (.p h)
  exact .ite h1 (.bkdRaise h1)

theorem Canon.bkdZero (h : Canon cs s) : Canon cs s.bkdZero := .p (.bkdSeal (.foldl .wn h))

theorem CanonOut.crcCheck {p} (h : Canon cs s) : CanonOut cs (execCrcCheck p s) :=
  .next (.ite (.regWrite .bkdCheck h) h)

theorem Canon.bkdErase {p key} (h : Canon cs s) : Canon cs (s.bkdErase p key) := .ite (.bkdZero h) (.post h)

theorem CanonOut.erase {p key} (h : Canon cs s) : CanonOut cs (execErase p key s) :=
  .next (.ite (.regWrite .bkdErase h) h)

theorem Canon.bkdByteWrite {k v} (h : Canon cs s) : Canon cs (s.bkdByteWrite k v) := .bkdSeal (.wn h)

theorem CanonOut.bkdByteWrite {p k v} (h : Canon cs s) : CanonOut cs (execBkdByteWrite p k v s) :=
  .next (.ite (.regWrite .bkdByteWrite h) h)

theorem Canon.bkdRestored (h : Canon cs s) : Canon cs s.bkdRestored := .p (.p (.p (.p h)))

theorem CanonOut.restored {p} (h : Canon cs s) : CanonOut cs (execRestored p s) :=
  .next (.ite (.regWrite .bkdRestored h) h)

theorem Canon.bkdLost (h : Canon cs s) : Canon cs s.bkdLost := .bkdRaise (.p h)

theorem Canon.setTickRun {on} (h : Canon cs s) : Canon cs (s.setTickRun on) := h

theorem Canon.tickSettle (h : Canon cs s) : Canon cs s.tickSettle := .setTickRun h

theorem Canon.bkdCmdWrite {p v} (h : Canon cs s) : Canon cs (s.bkdCmdWrite p v) := by
  unfold State.bkdCmdWrite
  split
  · exact .bkdSetCount h
  · exact .bkdArm h
  · exact .bkdDisarm h
  · exact .bkdCapture h
  · exact .bkdCheck h
  · exact .bkdRestored h
  · exact .bkdErase h
  · exact h

theorem CanonOut.bkdSupplySwitch {vbat upsets} (h : Canon cs s) :
    CanonOut cs (execBkdSupplySwitch vbat upsets s) := by
  unfold execBkdSupplySwitch
  refine .ite (.next h) ?_
  extract_lets s1 flip
  have h1 : Canon cs s1 := .p h
  have hflip : ∀ {t u}, Canon cs t → Canon cs (flip t u) := fun ht => .ite (.wn ht) ht
  exact .ite (.next h1) (.next (.bkdCheck (.foldl (fun ht => hflip ht) h1)))

theorem CanonOut.lockout (h : Canon cs s) : CanonOut cs (execLockout s) :=
  .ite (.next h) (.next (.bkdLost (.p (.tickSettle h))))

theorem CanonOut.lockoutExit (h : Canon cs s) : CanonOut cs (execLockoutExit s) := .next (.ite (.tickSettle h) h)

theorem Canon.bkdReset (h : Canon cs s) : Canon cs s.bkdReset :=
  .bkdLost (.bkdCheck (.bkdZero (.tickSettle (.same (.p (.wr (.foldl .wr h)))))))

theorem CanonOut.backupDomainReset (h : Canon cs s) : CanonOut cs (execBackupDomainReset s) := .next (.bkdReset h)

theorem CanonOut.oscStop (h : Canon cs s) : CanonOut cs (execOscStop s) :=
  .ite (.next h) (.next (.bkdLost (.p (.tickSettle h))))

theorem CanonOut.tickCrystalRestart (h : Canon cs s) : CanonOut cs (execTickCrystalRestart s) :=
  .next (.ite (.tickSettle h) h)

theorem CanonOut.bkdVbatMeasure {centivolts} (h : Canon cs s) : CanonOut cs (execBkdVbatMeasure centivolts s) := by
  unfold execBkdVbatMeasure
  refine .ite (.next h) ?_
  extract_lets _ _ s1
  have h1 : Canon cs s1 := .p (.p h)
  exact .next (.ite (.bkdRaise h1) h1)

/-! ## Block-code rows -/

theorem CanonOut.nopInstruction {k} (h : Canon cs s) : CanonOut cs (execNopInstruction k s) := .next (.bc .nop h)

theorem CanonOut.br {k disp} (h : Canon cs s) : CanonOut cs (execBr k disp s) := .next (.bc .branch h)

theorem CanonOut.brt {k a disp} (h : Canon cs s) : CanonOut cs (execBrt k a disp s) := .next (.bc .branch h)

theorem CanonOut.brf {k a disp} (h : Canon cs s) : CanonOut cs (execBrf k a disp s) := .next (.bc .branch h)

theorem CanonOut.callFn {k a f} (h : Canon cs s) : CanonOut cs (execCallFn k a f s) := .next (.bc .call h)

theorem CanonOut.retFn {k} (h : Canon cs s) : CanonOut cs (execRetFn k s) := .next (.bc .ret h)

theorem CanonOut.assertReg {k a imm} (h : Canon cs s) : CanonOut cs (execAssertReg k a imm s) := .next (.bc .assert h)

theorem CanonOut.sysRead {k d imm} (h : Canon cs s) : CanonOut cs (execSysRead k d imm s) := .next (.bc .sys h)

theorem CanonOut.movReg {k d a} (h : Canon cs s) : CanonOut cs (execMovReg k d a s) := .next (.bc .reg h)

theorem CanonOut.ldi {k d imm} (h : Canon cs s) : CanonOut cs (execLdi k d imm s) := .next (.bc .reg h)

theorem CanonOut.ldk {k d imm} (h : Canon cs s) : CanonOut cs (execLdk k d imm s) := .next (.bc .ldk h)

theorem CanonOut.sel {k d a b c} (h : Canon cs s) : CanonOut cs (execSel k d a b c s) := .next (.bc .reg h)

theorem CanonOut.ldb {k d a off} (h : Canon cs s) : CanonOut cs (execLdb k d a off s) := .next (.bc .load h)

theorem CanonOut.ldw {k d a off} (h : Canon cs s) : CanonOut cs (execLdw k d a off s) := .next (.bc .load h)

theorem CanonOut.ldwu {k d a off} (h : Canon cs s) : CanonOut cs (execLdwu k d a off s) := .next (.bc .load h)

theorem CanonOut.ldd {k d a off} (h : Canon cs s) : CanonOut cs (execLdd k d a off s) := .next (.bc .load h)

theorem CanonOut.stb {k src a off} (h : Canon cs s) : CanonOut cs (execStb k src a off s) := .next (.bc .save h)

theorem CanonOut.stw {k src a off} (h : Canon cs s) : CanonOut cs (execStw k src a off s) := .next (.bc .save h)

theorem CanonOut.std {k src a off} (h : Canon cs s) : CanonOut cs (execStd k src a off s) := .next (.bc .save h)

theorem CanonOut.ldin {k d i} (h : Canon cs s) : CanonOut cs (execLdin k d i s) := .next (.bc .reg h)

theorem CanonOut.ldiq {k d i} (h : Canon cs s) : CanonOut cs (execLdiq k d i s) := .next (.bc .reg h)

theorem CanonOut.ldit {k d i} (h : Canon cs s) : CanonOut cs (execLdit k d i s) := .next (.bc .reg h)

theorem CanonOut.stout {k src i} (h : Canon cs s) : CanonOut cs (execStout k src i s) := .next (.bc .stout h)

theorem CanonOut.stoq {k src i} (h : Canon cs s) : CanonOut cs (execStoq k src i s) := .next (.bc .stoq h)

theorem CanonOut.ldlp {k d loc q} (h : Canon cs s) : CanonOut cs (execLdlp k d loc q s) := .next (.bc .ldlp h)

theorem CanonOut.stlp {k src loc q} (h : Canon cs s) : CanonOut cs (execStlp k src loc q s) := .next (.bc .stlp h)

theorem CanonOut.addD {k d a b} (h : Canon cs s) : CanonOut cs (execAddD k d a b s) := .next (.bc .reg h)

theorem CanonOut.subD {k d a b} (h : Canon cs s) : CanonOut cs (execSubD k d a b s) := .next (.bc .reg h)

theorem CanonOut.mulD {k d a b} (h : Canon cs s) : CanonOut cs (execMulD k d a b s) := .next (.bc .reg h)

theorem CanonOut.divD {k d a b} (h : Canon cs s) : CanonOut cs (execDivD k d a b s) := .next (.bc .regTrap h)

theorem CanonOut.modD {k d a b} (h : Canon cs s) : CanonOut cs (execModD k d a b s) := .next (.bc .regTrap h)

theorem CanonOut.cmpD {k d a b sub} (h : Canon cs s) : CanonOut cs (execCmpD k d a b sub s) := .next (.bc .reg h)

theorem CanonOut.addL {k d a b} (h : Canon cs s) : CanonOut cs (execAddL k d a b s) := .next (.bc .reg h)

theorem CanonOut.subL {k d a b} (h : Canon cs s) : CanonOut cs (execSubL k d a b s) := .next (.bc .reg h)

theorem CanonOut.mulL {k d a b} (h : Canon cs s) : CanonOut cs (execMulL k d a b s) := .next (.bc .reg h)

theorem CanonOut.divL {k d a b} (h : Canon cs s) : CanonOut cs (execDivL k d a b s) := .next (.bc .regTrap h)

theorem CanonOut.modL {k d a b} (h : Canon cs s) : CanonOut cs (execModL k d a b s) := .next (.bc .regTrap h)

theorem CanonOut.cmpL {k d a b sub} (h : Canon cs s) : CanonOut cs (execCmpL k d a b sub s) := .next (.bc .reg h)

theorem CanonOut.cmpE {k d a b sub} (h : Canon cs s) : CanonOut cs (execCmpE k d a b sub s) := .next (.bc .reg h)

theorem CanonOut.addT {k d a b} (h : Canon cs s) : CanonOut cs (execAddT k d a b s) := .next (.bc .reg h)

theorem CanonOut.subT {k d a b} (h : Canon cs s) : CanonOut cs (execSubT k d a b s) := .next (.bc .reg h)

theorem CanonOut.cmpT {k d a b sub} (h : Canon cs s) : CanonOut cs (execCmpT k d a b sub s) := .next (.bc .reg h)

theorem CanonOut.addR {k d a b} (h : Canon cs s) : CanonOut cs (execAddR k d a b s) := .next (.bc .reg h)

theorem CanonOut.subR {k d a b} (h : Canon cs s) : CanonOut cs (execSubR k d a b s) := .next (.bc .reg h)

theorem CanonOut.mulR {k d a b} (h : Canon cs s) : CanonOut cs (execMulR k d a b s) := .next (.bc .reg h)

theorem CanonOut.divR {k d a b} (h : Canon cs s) : CanonOut cs (execDivR k d a b s) := .next (.bc .reg h)

theorem CanonOut.cmpR {k d a b sub} (h : Canon cs s) : CanonOut cs (execCmpR k d a b sub s) := .next (.bc .reg h)

theorem CanonOut.funR {k d a b sub} (h : Canon cs s) : CanonOut cs (execFunR k d a b sub s) := .next (.bc .reg h)

theorem CanonOut.limR {k d a b c} (h : Canon cs s) : CanonOut cs (execLimR k d a b c s) := .next (.bc .reg h)

theorem CanonOut.addLr {k d a b} (h : Canon cs s) : CanonOut cs (execAddLr k d a b s) := .next (.bc .reg h)

theorem CanonOut.subLr {k d a b} (h : Canon cs s) : CanonOut cs (execSubLr k d a b s) := .next (.bc .reg h)

theorem CanonOut.mulLr {k d a b} (h : Canon cs s) : CanonOut cs (execMulLr k d a b s) := .next (.bc .reg h)

theorem CanonOut.divLr {k d a b} (h : Canon cs s) : CanonOut cs (execDivLr k d a b s) := .next (.bc .reg h)

theorem CanonOut.cmpLr {k d a b sub} (h : Canon cs s) : CanonOut cs (execCmpLr k d a b sub s) := .next (.bc .reg h)

theorem CanonOut.funLr {k d a b sub} (h : Canon cs s) : CanonOut cs (execFunLr k d a b sub s) := .next (.bc .reg h)

theorem CanonOut.limLr {k d a b c} (h : Canon cs s) : CanonOut cs (execLimLr k d a b c s) := .next (.bc .reg h)

theorem CanonOut.limL {k d a b c} (h : Canon cs s) : CanonOut cs (execLimL k d a b c s) := .next (.bc .reg h)

theorem CanonOut.andReg {k d a b} (h : Canon cs s) : CanonOut cs (execAndReg k d a b s) := .next (.bc .reg h)

theorem CanonOut.orReg {k d a b} (h : Canon cs s) : CanonOut cs (execOrReg k d a b s) := .next (.bc .reg h)

theorem CanonOut.xorReg {k d a b} (h : Canon cs s) : CanonOut cs (execXorReg k d a b s) := .next (.bc .reg h)

theorem CanonOut.notReg {k d a} (h : Canon cs s) : CanonOut cs (execNotReg k d a s) := .next (.bc .reg h)

theorem CanonOut.notb {k d a} (h : Canon cs s) : CanonOut cs (execNotb k d a s) := .next (.bc .reg h)

theorem CanonOut.shl {k d a b} (h : Canon cs s) : CanonOut cs (execShl k d a b s) := .next (.bc .reg h)

theorem CanonOut.shr {k d a b} (h : Canon cs s) : CanonOut cs (execShr k d a b s) := .next (.bc .reg h)

theorem CanonOut.sar {k d a b} (h : Canon cs s) : CanonOut cs (execSar k d a b s) := .next (.bc .reg h)

theorem CanonOut.cvtReg {k d a src dst rnd} (h : Canon cs s) : CanonOut cs (execCvtReg k d a src dst rnd s) :=
  .next (.bc .regTrap h)

theorem CanonOut.esnap {k d i} (h : Canon cs s) : CanonOut cs (execEsnap k d i s) := .next (.bc .esnap h)

theorem CanonOut.esub {k d a b} (h : Canon cs s) : CanonOut cs (execEsub k d a b s) := .next (.bc .esub h)

theorem CanonOut.ecvt {k d a} (h : Canon cs s) : CanonOut cs (execEcvt k d a s) := .next (.bc .reg h)

theorem CanonOut.brx {k a n} (h : Canon cs s) : CanonOut cs (execBrx k a n s) := .next (.bc .brx h)

theorem CanonOut.addi {k d a imm} (h : Canon cs s) : CanonOut cs (execAddi k d a imm s) := .next (.bc .reg h)

theorem CanonOut.ldinx {k d a} (h : Canon cs s) : CanonOut cs (execLdinx k d a s) := .next (.bc .ldinx h)

/-! ## Ethernet MACs -/

theorem Canon.stampLost {q} (h : Canon cs s) : Canon cs (s.stampLost q) := .count (.raise (.setBit (.inc h)))

theorem Canon.putTxStamp {x} (h : Canon cs s) : Canon cs (s.putTxStamp x) := .ite (.stampLost h) (.count h)

theorem Canon.putRxStamp {x} (h : Canon cs s) : Canon cs (s.putRxStamp x) := .ite (.stampLost h) (.count h)

theorem Canon.pauseSettle {n} (h : Canon cs s) : Canon cs (s.pauseSettle n) := by
  unfold State.pauseSettle
  extract_lets
  split
  · exact .macCount (.setMac h)
  · exact h

theorem Canon.pauseClear {n} (h : Canon cs s) : Canon cs (s.pauseClear n) := .p (.setMac (.pauseSettle h))

theorem Canon.pauseLoad {n q} (h : Canon cs s) : Canon cs (s.pauseLoad n q) :=
  .ite (.pauseClear h) (.p (.setMac (.macCount (.pauseSettle h))))

theorem CanonOut.pauseTimerExpire {n} (h : Canon cs s) : CanonOut cs (execPauseTimerExpire n s) := by
  unfold execPauseTimerExpire
  refine .next ?_
  split
  · exact .pauseClear (.advanceToUp h)
  · exact h

theorem CanonOut.pauseLong {n} (h : Canon cs s) : CanonOut cs (execPauseLong n s) := by
  unfold execPauseLong
  refine .next ?_
  extract_lets
  split
  · exact .ite h (.post (.raise (.setMac (.pauseSettle (.advanceToUp h)))))
  · exact h

theorem Canon.macKind {n k dst} (h : Canon cs s) : Canon cs (s.macKind n k dst) := .macCount h

theorem Canon.macControlFrame {n f} (h : Canon cs s) : Canon cs (s.macControlFrame n f) := by
  unfold State.macControlFrame
  refine .ite ?_ (.macCount h)
  extract_lets s1
  have h1 : Canon cs s1 := .p (.macCount h)
  exact .ite (.pauseLoad h1) h1

theorem Canon.rxFree {n free} (h : Canon cs s) : Canon cs (s.rxFree n free) := .p h

theorem Canon.ringsTaken (h : Canon cs s) : Canon cs s.ringsTaken :=
  .foldl (fun ht => .ite ht (.rxFree (.setMac ht))) h

theorem Canon.macDeliver {n f} (h : Canon cs s) : Canon cs (s.macDeliver n f) := by
  unfold State.macDeliver
  split
  · exact .macCount h
  · extract_lets _ _ s2 s3
    have h2 : Canon cs s2 := .count (.macCount (.rxFree (.ite h (.setMac h))))
    have h3 : Canon cs s3 := by
      unfold s3
      split
      · exact .ite (.stationBack h2) h2
      · exact h2
    refine .ite (.count (.raise (.macCount (.rxFree h)))) ?_
    split
    · exact .ite (.putRxStamp h3) h3
    · exact h3

theorem CanonOut.ethFrameReceive {n f} (h : Canon cs s) : CanonOut cs (execEthFrameReceive n f s) := by
  unfold execEthFrameReceive
  refine .next ?_
  refine .ite h ?_
  extract_lets _ _ s1 s2 s3 s4 s5 s6
  have h1 : Canon cs s1 := .macCount h
  have h2 : Canon cs s2 := .ite (.macCount h1) h1
  have h3 : Canon cs s3 := .ite (.macCount h2) h2
  have h4 : Canon cs s4 := .macCount h3
  have h5 : Canon cs s5 := .macKind (.macCount (.macCount h4))
  have h6 : Canon cs s6 := .ite (.macCount h5) h5
  exact .ite (.macCount h3) (.ite (.macCount h3) (.ite (.macCount h4) (.ite (.macCount h6) (.ite (.macCount h6) (.ite
      (.macControlFrame h6) (.ite h6 (.macDeliver h6)))))))

theorem CanonOut.ethStationTimeout {n k} (h : Canon cs s) : CanonOut cs (execEthStationTimeout n k s) :=
  .next (.ite (.stationLost h) h)

theorem Canon.departed {n f} (h : Canon cs s) : Canon cs (s.departed n f) := by
  unfold State.departed
  split
  · exact h
  · refine .ite ?_ (.putTxStamp h)
    extract_lets s1
    have h1 : Canon cs s1 := .macCount h
    refine .ite ?_ h1
    split
    · exact .ite (.same h1) h1
    · exact h1

theorem Canon.macSend {n f} (h : Canon cs s) : Canon cs (s.macSend n f) := by
  unfold State.macSend
  extract_lets _ _ _ _ _ s2
  have h2 : Canon cs s2 := .macCount (.macCount (.macCount (.ite (.macCount h) h)))
  exact .ite (.raise (.macCount h)) (.departed (.count (.macCount (.ite (.macCount h2) h2))))

theorem CanonOut.ethFrameSend {n handed} (h : Canon cs s) : CanonOut cs (execEthFrameSend n handed s) := by
  unfold execEthFrameSend
  refine .next ?_
  extract_lets s1
  have h1 : Canon cs s1 := .foldl .macQueue h
  refine .ite h1 ?_
  split
  · exact h1
  · exact .macSend (.setMac h1)

theorem Canon.macLinkUp {n speed full mdix} (h : Canon cs s) : Canon cs (s.macLinkUp n speed full mdix) :=
  .ite h (.ite (.p h) (.ite h (.raise (.p (.p (.p (.p (.p (.p h)))))))))

theorem Canon.macLinkDown {n} (h : Canon cs s) : Canon cs (s.macLinkDown n) :=
  .ite h (.raise (.macCount (.macCount (.setMac (.p (.p (.pauseClear h)))))))

theorem CanonOut.sfpRead {n byte12} (h : Canon cs s) : CanonOut cs (execSfpRead n byte12 s) := by
  unfold execSfpRead
  refine .next ?_
  refine .ite h ?_
  extract_lets _ _ s1
  have h1 : Canon cs s1 := .setMac h
  exact .ite (.raise h1) h1

theorem CanonOut.sfpChange {n abs los txflt} (h : Canon cs s) : CanonOut cs (execSfpChange n abs los txflt s) := by
  unfold execSfpChange
  refine .next ?_
  extract_lets _ _ s1 s2
  have h1 : Canon cs s1 := .wn h
  have h2 : Canon cs s2 := .ite (.macCount h1) h1
  exact .ite h (.raise (.ite (.macCount h2) h2))

theorem Canon.ethVlanWrite {n v} (h : Canon cs s) : Canon cs (s.ethVlanWrite n v) := by
  unfold State.ethVlanWrite
  extract_lets _ _ _ s1
  have h1 : Canon cs s1 := .wn h
  exact .ite (.raise h1) h1

theorem Canon.ethHashWrite {n k v} (h : Canon cs s) : Canon cs (s.ethHashWrite n k v) := .wn h

theorem CanonOut.ethHashWrite {p n k v} (h : Canon cs s) : CanonOut cs (execEthHashWrite p n k v s) :=
  .next (.ite (.regWrite .ethHashWrite h) h)

theorem Canon.ethCtlSet {n v} (h : Canon cs s) : Canon cs (s.ethCtlSet n v) := by
  unfold State.ethCtlSet
  extract_lets _ _ _ _ _ s1 s2
  have h1 : Canon cs s1 := .wn h
  have h2 : Canon cs s2 := .ite h1 (.raise h1)
  exact .ite h2 (.setMac h2)

/-! ## Logbook -/

theorem CanonOut.logRead {r b damaged} (h : Canon cs s) : CanonOut cs (execLogRead r b damaged s) := by
  unfold execLogRead
  refine .next ?_
  refine .withOp (fun ht => ?_) h
  extract_lets _ _ _ _ t1
  have ht1 : Canon cs t1 := .inc ht
  split
  · exact .finishWith (.hostPut ht1)
  · exact .finishWith ht
  · exact .finishWith ht1

theorem Canon.clearRefused {r status result who} (h : Canon cs s) : Canon cs (s.clearRefused r status result who) :=
  .finishWith (.post (.raise h))

theorem CanonOut.logClear {r b} (h : Canon cs s) : CanonOut cs (execLogClear r b s) := by
  unfold execLogClear
  refine .ite (.next h) ?_
  refine .next ?_
  refine .withOp (fun ht => ?_) h
  extract_lets
  refine .ite (.clearRefused ht) ?_
  split
  · split
    · exact .clearRefused (.tokenFail ht)
    · exact .same (.tokenPassed ht)
  · exact .finishWith ht

theorem Canon.auditOnly {x} (h : Canon cs s) : Canon cs (s.auditOnly x) := .same (.logAck h)

theorem Canon.clearMain {c} (h : Canon cs s) : Canon cs (s.clearMain c) :=
  .tokenUsed (.raise (.inc (.logFlush (.post (.same (.foldl (fun ht => .ite (.auditOnly ht) ht) h))))))

theorem CanonOut.logClearSwitch (h : Canon cs s) : CanonOut cs (execLogClearSwitch s) := by
  unfold execLogClearSwitch
  split
  · exact .next h
  · exact .ite (.next h) (.next (.finishWith (.clearMain h)))

theorem CanonOut.logRecordWrite (h : Canon cs s) : CanonOut cs (execLogRecordWrite s) := by
  unfold execLogRecordWrite
  split
  · exact .next h
  · exact .next (.logAck h)

theorem CanonOut.logFloodSecond (h : Canon cs s) : CanonOut cs (execLogFloodSecond s) := .next h

theorem Canon.epochStage {p a v} (h : Canon cs s) : Canon cs (s.epochStage p a v) := .setPort h

theorem Canon.epochApply {p} (h : Canon cs s) : Canon cs (s.epochApply p) := .post (.same (.setPort h))

theorem CanonOut.epochApply {p apply} (h : Canon cs s) : CanonOut cs (execEpochApply p apply s) :=
  .next (.ite (.regWrite (fun ht => .ite (.epochApply ht) ht) h) h)

/-! ## Performance monitor -/

theorem Canon.pmonCtlWrite {v} (h : Canon cs s) : Canon cs (s.pmonCtlWrite v) := by
  unfold State.pmonCtlWrite
  extract_lets s1
  have h1 : Canon cs s1 := .p h
  exact .ite (.same h1) h1

theorem Canon.pmonSelWrite {c v} (h : Canon cs s) : Canon cs (s.pmonSelWrite c v) := by
  unfold State.pmonSelWrite
  extract_lets s1
  have h1 : Canon cs s1 := .wn h
  exact .ite (.same h1) h1

theorem CanonOut.pmonClear {p} (h : Canon cs s) : CanonOut cs (execPmonClear p s) :=
  .next (.ite (.regWrite .pmonCtlWrite h) h)

theorem CanonOut.pmonFreeze {p freeze} (h : Canon cs s) : CanonOut cs (execPmonFreeze p freeze s) :=
  .next (.ite (.regWrite .pmonCtlWrite h) h)

theorem CanonOut.pmonSelWrite {p c v} (h : Canon cs s) : CanonOut cs (execPmonSelWrite p c v s) :=
  .next (.ite (.regWrite .pmonSelWrite h) h)

/-! ## Network time -/

theorem Canon.ptpShow (h : Canon cs s) : Canon cs s.ptpShow := .p (.foldl .wn h)

theorem Canon.setPtpState {st} (h : Canon cs s) : Canon cs (s.setPtpState st) := .ptpShow (.p (.p h))

theorem Canon.ptpRecord {what was len} (h : Canon cs s) : Canon cs (s.ptpRecord what was len) := .post h

theorem Canon.ptpFreeze (h : Canon cs s) : Canon cs s.ptpFreeze := .p (.wn h)

theorem Canon.holdover {gm} (h : Canon cs s) : Canon cs (s.holdover gm) := by
  unfold State.holdover
  extract_lets _ _ s2
  have h2 : Canon cs s2 := .raise (.same (.setPtpState (.ptpRecord (.ptpFreeze h))))
  exact .ite (.raise h2) h2

theorem Canon.putGm {gm} (h : Canon cs s) : Canon cs (s.putGm gm) := .wn64 h

theorem Canon.noMaster (h : Canon cs s) : Canon cs s.noMaster := by
  unfold State.noMaster
  extract_lets was _ _ s2
  have h2 : Canon cs s2 := by
    unfold s2
    clear_value was
    split
    · exact .setPtpState h
    · exact .holdover h
    · exact .ptpFreeze h
    · exact h
  exact .ptpShow (.putGm (.p h2))

theorem Canon.toMaster {m} (h : Canon cs s) : Canon cs (s.toMaster m) := by
  unfold State.toMaster
  extract_lets _ _ _ _ s2
  have h2 : Canon cs s2 := .putGm (.same (.ite (.ite (.holdover h) (.raise h)) h))
  split
  · exact .setPtpState h2
  · exact .setPtpState h2
  · exact .ptpShow (.p h2)
  · exact .ptpShow h2

theorem Canon.selectMaster (h : Canon cs s) : Canon cs s.selectMaster := by
  unfold State.selectMaster
  split
  · exact .toMaster h
  · exact .noMaster h
  · exact .ptpShow h

theorem Canon.masterGone {n} (h : Canon cs s) : Canon cs (s.masterGone n) := by
  unfold State.masterGone
  extract_lets
  split
  · refine .ite ?_ (.selectMaster h)
    split
    · exact .toMaster h
    · exact .noMaster h
  · exact .selectMaster h

theorem CanonOut.announceReceive {m} (h : Canon cs s) : CanonOut cs (execAnnounceReceive m s) := by
  unfold execAnnounceReceive
  refine .next ?_
  refine .ite h ?_
  extract_lets _ _ _ _ s2
  have h2 : Canon cs s2 := .selectMaster (.ite h h)
  split
  · exact .ite (.wn h2) h2
  · exact h2

theorem CanonOut.masterLost (h : Canon cs s) : CanonOut cs (execMasterLost s) := by
  unfold execMasterLost
  refine .next ?_
  split
  · exact .masterGone h
  · exact h

theorem CanonOut.holdoverLimit (h : Canon cs s) : CanonOut cs (execHoldoverLimit s) :=
  .next (.ite h (.raise (.raise (.setPtpState (.ptpRecord (.wn (.advanceToUp h)))))))

theorem Canon.clockMove {d} (h : Canon cs s) : Canon cs (s.clockMove d) := .ite (.canClockStep h) h

theorem Canon.servoStep {d} (h : Canon cs s) : Canon cs (s.servoStep d) :=
  .count (.post (.raise (.inc (.clockMove h))))

theorem Canon.servoSteer (h : Canon cs s) : Canon cs s.servoSteer := .freshen (.same (.p (.wn (.freshen h))))

theorem Canon.servo {d} (h : Canon cs s) : Canon cs (s.servo d) := by
  unfold State.servo
  extract_lets s1 _ _ _ _ t _ _ _ _ s3
  have h1 : Canon cs s1 := .count (.wn h)
  have ht : Canon cs t := .p (.wn h1)
  have h3 : Canon cs s3 := .same (.ite (.p (.servoStep h1)) (.ite (.ite (.raise ht) ht) (.servoSteer h1)))
  refine .ite h3 ?_
  split
  · exact .clockBecameValid (.raise (.setPtpState (.ptpRecord h3)))
  · exact .raise (.raise (.setPtpState (.ptpRecord (.wn h3))))
  · exact h3

theorem Canon.ptpOut {mac kind seq size time requester event oneStep} (h : Canon cs s) :
    Canon cs (s.ptpOut mac kind seq size time requester event oneStep) :=
  .same (.macQueue h)

theorem CanonOut.stampTake {q} (h : Canon cs s) : CanonOut cs (execStampTake q s) := by
  unfold execStampTake
  refine .next ?_
  refine .ite h ?_
  refine .ite ?_ ?_
  · split
    · exact h
    · extract_lets
      split
      · exact .ptpOut h
      · split
        · exact .ite (.same h) h
        · exact h
      · split
        · exact .ite (.same h) h
        · exact h
      · split
        · exact .ptpOut (.same h)
        · exact h
  · split <;> exact h

theorem Canon.syncUsed {mac t2 origin corr} (h : Canon cs s) : Canon cs (s.syncUsed mac t2 origin corr) := .servo h

/-- The state that a stamp taken into use leaves. -/
theorem Canon.useStamp {m kind x} (h : Canon cs s) (e : s.useStamp m kind = some x) : Canon cs x.2 := by
  unfold State.useStamp at e
  extract_lets at e
  split at e <;> cases e
  exact .same h

theorem CanonOut.syncReceive {m} (h : Canon cs s) : CanonOut cs (execSyncReceive m s) := by
  unfold execSyncReceive
  refine .next (.ite h ?_)
  split
  · exact h
  next e => exact .ite (.same (h.useStamp e)) (.syncUsed (h.useStamp e))

theorem CanonOut.followUpReceive {m} (h : Canon cs s) : CanonOut cs (execFollowUpReceive m s) := by
  unfold execFollowUpReceive
  refine .next ?_
  refine .ite h ?_
  split
  · exact .ite (.syncUsed h) h
  · exact h

theorem CanonOut.delayReqReceive {m} (h : Canon cs s) : CanonOut cs (execDelayReqReceive m s) := by
  unfold execDelayReqReceive
  refine .next (.ite h ?_)
  split
  · exact h
  next e => exact .ptpOut (h.useStamp e)

theorem CanonOut.delayRespReceive {m} (h : Canon cs s) : CanonOut cs (execDelayRespReceive m s) := by
  unfold execDelayRespReceive
  refine .next ?_
  refine .ite h ?_
  split
  · exact .ite h h
  · exact h

theorem CanonOut.pdelayReqReceive {m} (h : Canon cs s) : CanonOut cs (execPdelayReqReceive m s) := by
  unfold execPdelayReqReceive
  refine .next (.ite h ?_)
  split
  · exact h
  next e => exact .ptpOut (.same (h.useStamp e))

theorem CanonOut.pdelayRespReceive {m} (h : Canon cs s) : CanonOut cs (execPdelayRespReceive m s) := by
  unfold execPdelayRespReceive
  refine .next (.ite h ?_)
  split
  next e =>
    have h1 := h.useStamp e
    exact .ite h1 (.ite (.same h1) (.same h1))
  · exact h

theorem CanonOut.pdelayRespFollowUpReceive {m} (h : Canon cs s) :
    CanonOut cs (execPdelayRespFollowUpReceive m s) := by
  unfold execPdelayRespFollowUpReceive
  refine .next ?_
  refine .ite h ?_
  split
  · exact .ite h h
  · exact h

/-- The state in which a sequence number has been taken. -/
theorem Canon.ptpSeq {mac kind} (h : Canon cs s) : Canon cs (s.ptpSeq mac kind).2 := .same h

theorem CanonOut.ptpMessageSend {n k} (h : Canon cs s) : CanonOut cs (execPtpMessageSend n k s) := by
  unfold execPtpMessageSend
  refine .next (.ite h ?_)
  extract_lets
  split
  · exact .ite h (.ptpOut (.ptpSeq h))
  · exact .ite h (.ptpOut (.ptpSeq h))
  · exact .ite (.ptpOut (.same (.ptpSeq h))) h
  · exact .ite (.ptpOut (.same (.ptpSeq h))) h

theorem CanonOut.linkUp {n speed full mdix} (h : Canon cs s) : CanonOut cs (execLinkUp n speed full mdix s) :=
  .next (.selectMaster (.macLinkUp h))

theorem Canon.linkLost {n} (h : Canon cs s) : Canon cs (s.linkLost n) := .ite (.masterGone (.macLinkDown h)) h

theorem CanonOut.linkDown {n localFault remoteFault} (h : Canon cs s) :
    CanonOut cs (execLinkDown n localFault remoteFault s) := by
  unfold execLinkDown
  refine .next ?_
  extract_lets s1
  have h1 : Canon cs s1 := .ite (.macCount h) h
  exact .linkLost (.p (.p (.ite (.macCount h1) h1)))

theorem Canon.ethCtlWrite {n v} (h : Canon cs s) : Canon cs (s.ethCtlWrite n v) :=
  .ite (.ethCtlSet h) (.ethCtlSet (.linkLost h))

theorem CanonOut.ethCtlWrite {p n v} (h : Canon cs s) : CanonOut cs (execEthCtlWrite p n v s) :=
  .next (.ite (.regWrite .ethCtlWrite h) h)

theorem Canon.ptpReject (h : Canon cs s) : Canon cs s.ptpReject := .raise h

theorem Canon.ptpCmdWrite {v} (h : Canon cs s) : Canon cs (s.ptpCmdWrite v) := by
  unfold State.ptpCmdWrite
  split
  · extract_lets _ _ _ _ s1
    have h1 : Canon cs s1 := .same h
    exact .ite (.ptpReject h) (.ite (.canClockStep h1) h1)
  · exact .ite (.ptpReject h) (.clockMove h)
  · exact h

theorem CanonOut.ptpSet {p} (h : Canon cs s) : CanonOut cs (execPtpSet p s) :=
  .next (.ite (.regWrite .ptpCmdWrite h) h)

theorem CanonOut.ptpAdjust {p} (h : Canon cs s) : CanonOut cs (execPtpAdjust p s) :=
  .next (.ite (.regWrite .ptpCmdWrite h) h)

theorem Canon.ptpAddendWrite {v} (h : Canon cs s) : Canon cs (s.ptpAddendWrite v) := .ite (.ptpReject h) (.wn h)

theorem CanonOut.ptpAddendWrite {p v} (h : Canon cs s) : CanonOut cs (execPtpAddendWrite p v s) :=
  .next (.ite (.regWrite .ptpAddendWrite h) h)

theorem Canon.ptpCtlWrite {v} (h : Canon cs s) : Canon cs (s.ptpCtlWrite v) := by
  unfold State.ptpCtlWrite
  extract_lets _ _ _ _ _ _ _ _ _ s1 t _ _ s3
  have h1 : Canon cs s1 := .ite (.ptpReject h) h
  have ht : Canon cs t := by
    unfold t
    split
    · exact .noMaster h1
    · exact h1
  have h3 : Canon cs s3 := .wn (.ite (.same ht) h1)
  exact .ptpShow (.macBins (.ite (.ite h3 (.p (.setPtpState (.same h3)))) (.ite (.setPtpState (.same h3)) h3)))

theorem CanonOut.ptpCtlWrite {p v} (h : Canon cs s) : CanonOut cs (execPtpCtlWrite p v s) :=
  .next (.ite (.regWrite .ptpCtlWrite h) h)

/-! ## Safety manager and assay -/

theorem Canon.safetyReset (h : Canon cs s) : Canon cs s.safetyReset := .orderReset h

theorem Canon.unitRestart {u} (h : Canon cs s) : Canon cs (s.unitRestart u) := .ite (.safetyReset h) (.raise h)

theorem Canon.pairTestOff {k} (h : Canon cs s) : Canon cs (s.pairTestOff k) := .setBit h

theorem Canon.reactAlone {f task} (h : Canon cs s) : Canon cs (s.reactAlone f task) := by
  unfold State.reactAlone
  split
  · extract_lets s1
    have h1 : Canon cs s1 := .pairStop h
    exact .ite (.pairTestOff h1) (.testPairs h1)
  · exact .safetyReset h
  · exact .faultStop h
  · exact .faultStop h
  · exact .safetyReset h
  · exact .replicaFail h
  · exact .unitRestart h
  · exact .faultStop h
  · exact .safetyReset h
  · exact .unitRestart h
  · exact h

theorem Canon.reactPair {f} (h : Canon cs s) : Canon cs (s.reactPair f) :=
  .ite h (.ite (.lowerLines h) (.ite (.abdicate h) (.ite (.notReady h) h)))

theorem Canon.declare {f task} (h : Canon cs s) : Canon cs (s.declare f task) :=
  .reactAlone (.reactPair (.post (.raise (.wn64 (.wn (.inc (.ite (.wn (.inc h)) h)))))))

theorem CanonOut.faultDeclare {found task} (h : Canon cs s) : CanonOut cs (execFaultDeclare found task s) := by
  unfold execFaultDeclare
  refine .next ?_
  split
  · exact .ite (.declare h) h
  · exact .declare h
  · exact h

theorem CanonOut.heartbeatMiss {u task} (h : Canon cs s) : CanonOut cs (execHeartbeatMiss u task s) :=
  .ite (.next h) (.next (.declare (.inc h)))

theorem CanonOut.unitRestartDone {u ok} (h : Canon cs s) : CanonOut cs (execUnitRestartDone u ok s) :=
  .ite (.next h) (.next (.ite (.safetyReset h) (.ite (.setMtr h) (.ite (.ringsTaken h) (.ite (.ownResume h) h)))))

theorem Canon.corrected {n} (h : Canon cs s) : Canon cs (s.corrected n) := .count (.inc h)

theorem CanonOut.eccHigh {corrected} (h : Canon cs s) : CanonOut cs (execEccHigh corrected s) := by
  unfold execEccHigh
  extract_lets s1
  have h1 : Canon cs s1 := .corrected h
  exact .next (.ite (.post (.raise (.same h1))) h1)

theorem Canon.setTarget {t x} (h : Canon cs s) : Canon cs (s.setTarget t x) := h

theorem Canon.islandNext (h : Canon cs s) : Canon cs s.islandNext := by
  unfold State.islandNext
  extract_lets
  refine .ite h ?_
  split
  · exact .setTarget h
  · exact h

theorem Canon.asyRequest {t cal} (h : Canon cs s) : Canon cs (s.asyRequest t cal) := by
  unfold State.asyRequest
  extract_lets
  split
  · exact .islandNext (.setTarget h)
  · exact .ite h (.setTarget h)
  · exact h

theorem Canon.asyCmdWrite {action t} (h : Canon cs s) : Canon cs (s.asyCmdWrite action t) :=
  .ite h (.ite (.foldl .asyRequest h) (.ite (.asyRequest h) h))

theorem CanonOut.asyTest {p t} (h : Canon cs s) : CanonOut cs (execAsyTest p t s) :=
  .next (.ite (.regWrite .asyCmdWrite h) h)

theorem CanonOut.asyCalibrate {p t} (h : Canon cs s) : CanonOut cs (execAsyCalibrate p t s) :=
  .next (.ite (.regWrite .asyCmdWrite h) h)

theorem CanonOut.assayPeriodicRequest (h : Canon cs s) : CanonOut cs (execAssayPeriodicRequest s) :=
  .next (.ite (.foldl .asyRequest h) h)

theorem Canon.testDone {t result} (h : Canon cs s) : Canon cs (s.testDone t result) := by
  unfold State.testDone
  extract_lets _ _ s2
  have h2 : Canon cs s2 := .post (.raise (.inc (.setTarget h)))
  exact .ite (.raise h2) h2

theorem Canon.countSlice {t forced} (h : Canon cs s) : Canon cs (s.countSlice t forced) := by
  unfold State.countSlice
  refine .ite ?_ (.ite (.count h) (.count h))
  extract_lets s1
  have h1 : Canon cs s1 := .count h
  exact .ite (.count h1) h1

theorem CanonOut.assaySliceStart {t} (h : Canon cs s) : CanonOut cs (execAssaySliceStart t s) := by
  unfold execAssaySliceStart
  extract_lets _ _ _ _ s1
  have h1 : Canon cs s1 := .setTarget h
  exact .ite (.next h) (.next (.countSlice (.ite (.inc h1) h1)))

theorem Canon.pairPassed {k} (h : Canon cs s) : Canon cs (s.pairPassed k) := .ite h (.ite (.setBit h) h)

theorem CanonOut.assaySliceEnd {t fail} (h : Canon cs s) : CanonOut cs (execAssaySliceEnd t fail s) := by
  unfold execAssaySliceEnd
  extract_lets _ s1 s2 s2'
  have h1 : Canon cs s1 := .setTarget (.advance h)
  have h2 : Canon cs s2 := .report (.testDone h1)
  have h2' : Canon cs s2' := .testDone h1
  exact .ite (.next h) (.next (.ite (.ite (.pairTestOff h2) h2) (.ite h1 (.ite (.pairPassed h2') h2'))))

theorem CanonOut.islandTestEnd {n fail limit} (h : Canon cs s) : CanonOut cs (execIslandTestEnd n fail limit s) := by
  unfold execIslandTestEnd
  extract_lets _ _ _ _ s1
  have h1 : Canon cs s1 := .islandNext (.testDone (.advanceToUp h))
  exact .ite (.next h) (.next (.ite (.report h1) h1))

theorem CanonOut.scrubPassEnd {mram corrected} (h : Canon cs s) : CanonOut cs (execScrubPassEnd mram corrected s) :=
  .ite (.next h) (.next (.testDone (.ite h (.corrected h))))

theorem Canon.asyService (h : Canon cs s) : Canon cs s.asyService := .islandNext (.foldl .setTarget h)

theorem Canon.asyAbandon (h : Canon cs s) : Canon cs s.asyAbandon := .foldl (fun hu => .ite (.setTarget hu) hu) h

/-! ## Writes by the host -/

theorem Canon.putPlain {a v mask} (h : Canon cs s) : Canon cs (s.putPlain a v mask) := .wn h

theorem Canon.rstCtlWrite {p v} (h : Canon cs s) : Canon cs (s.rstCtlWrite p v) :=
  .ite (.ite (.orderReset h) h) (.post (.rsvWrite h))

theorem CanonOut.softwareReset {p v} (h : Canon cs s) : CanonOut cs (execSoftwareReset p v s) :=
  .next (.ite (.regWrite .rstCtlWrite h) h)

theorem Canon.repPut {p a v mask} (h : Canon cs s) : Canon cs (s.repPut p a v mask) := by
  unfold State.repPut
  extract_lets settle
  have hsettle : ∀ {t}, Canon cs t → Canon cs (settle t) := fun ht => .ite (.p ht) ht
  refine .ite (hsettle (.putPlain h)) ?_
  refine .ite (.putPlain h) ?_
  refine .ite (.putPlain h) ?_
  refine .ite (.setOwn h) ?_
  refine .ite ?_ (.macBins (.putPlain h))
  split
  · exact .ownRelease h
  · exact .ownClaim h
  · exact .putPlain h

theorem Canon.lePut {e a off v mask} (h : Canon cs s) : Canon cs (s.lePut e a off v mask) :=
  .ite (.leCmdWrite h) (.ite (.memCmd h) (.ite (.traceCmd h) (.putPlain h)))

theorem Canon.liPut {n a off v mask} (h : Canon cs s) : Canon cs (s.liPut n a off v mask) :=
  .ite (.liCfgWrite h) (.ite (.putPlain h) (.ite (.liCmdWrite h) (.putPlain h)))

theorem Canon.uiPut {a off v mask} (h : Canon cs s) : Canon cs (s.uiPut a off v mask) :=
  .ite (.uiChange (.putPlain h)) (.putPlain h)

theorem Canon.doPut {a off v mask} (h : Canon cs s) : Canon cs (s.doPut a off v mask) :=
  .ite (.doEnWrite h) (.ite (.doCmdWrite h) (.putPlain h))

theorem Canon.daliPut {n a off v mask} (h : Canon cs s) : Canon cs (s.daliPut n a off v mask) :=
  .ite (.putPlain h) (.daliRawWrite h)

theorem Canon.canPut {p n a off v mask} (h : Canon cs s) : Canon cs (s.canPut p n a off v mask) :=
  .ite (.canCtlWrite h) (.ite (.ite h (.putPlain h)) (.ite (.canCmdWrite h) (.ite (.canReqWrite h) (.ite
      (.canReqWrite h) (.ite (.canCancelWrite h) (.ite (.canCancelWrite h) (.ite (.txbufWrite h) (.ite (.ite (.canPop
      h) h) (.setCan h)))))))))

theorem Canon.mtrPut {off v} (h : Canon cs s) : Canon cs (s.mtrPut off v) :=
  .ite (.mtrCtlWrite h) (.ite (.mtrCalWrite h) (.ite (.ite (.mtrCfgWrite h) (.mtrPrimaryWrite h)) (.mtrCirWrite h)))

theorem Canon.mtcPut {p a off v mask} (h : Canon cs s) : Canon cs (s.mtcPut p a off v mask) :=
  .ite (.mtcStage h) (.ite (.mtcStage h) (.ite (.mtcCmdWrite h) (.putPlain h)))

theorem Canon.ethPut {n a off v mask} (h : Canon cs s) : Canon cs (s.ethPut n a off v mask) :=
  .ite (.ethCtlWrite h) (.ite (.ethVlanWrite h) (.ite (.ethHashWrite h) (.putPlain h)))

theorem Canon.ptpPut {a off v mask} (h : Canon cs s) : Canon cs (s.ptpPut a off v mask) :=
  .ite (.ptpCtlWrite h) (.ite (.ptpAddendWrite h) (.ite (.ptpCmdWrite h) (.ite (.putPlain h) (.putPlain h))))

theorem Canon.dpxPut {a off v mask} (h : Canon cs s) : Canon cs (s.dpxPut a off v mask) := by
  unfold State.dpxPut
  refine .ite ?_ (.putPlain h)
  split
  · exact .dpxSwitch h
  · exact .dpxDetach h
  · exact .dpxJoin h
  · exact h

theorem Canon.asyPut {a off v mask} (h : Canon cs s) : Canon cs (s.asyPut a off v mask) :=
  .ite (.asyCmdWrite h) (.putPlain h)

theorem Canon.bkdPut {p a off v mask} (h : Canon cs s) : Canon cs (s.bkdPut p a off v mask) :=
  .ite (.trimWrite h) (.ite (.wakeWrite h) (.ite (.bkdCmdWrite h) (.ite (.bkdByteWrite h) (.putPlain h))))

theorem Canon.logPut {p a off v mask} (h : Canon cs s) : Canon cs (s.logPut p a off v mask) :=
  .ite (.ite (.epochApply h) h) (.ite (.epochStage h) (.putPlain h))

theorem Canon.fwuPut {p a off v mask} (h : Canon cs s) : Canon cs (s.fwuPut p a off v mask) :=
  .ite (.fwuCmdWrite h) (.putPlain h)

theorem Canon.putGated {p a d off v mask} (h : Canon cs s) : Canon cs (s.putGated p a d off v mask) :=
  .ite (.ite (.rstCtlWrite h) (.putPlain h)) (.ite (.ite (.pmonCtlWrite h) (.pmonSelWrite h)) (.ite (.repPut h) (.ite
      (.putPlain h) (.ite (.lePut h) (.ite (.liPut h) (.ite (.uiPut h) (.ite (.doPut h) (.ite (.daliPut h) (.ite
      (.serCfgWrite h) (.ite (.canPut h) (.ite (.mtrPut h) (.ite (.mtcPut h) (.ite (.ethPut h) (.ite (.ptpPut h)
      (.ite (.dpxPut h) (.ite (.asyPut h) (.ite (.bkdPut h) (.ite (.logPut h) (.ite (.fwuPut h) (.putPlain
      h))))))))))))))))))))

theorem Canon.maskWrite {a v mask} (h : Canon cs s) : Canon cs (s.maskWrite a v mask) := by
  unfold State.maskWrite
  extract_lets s1
  have h1 : Canon cs s1 := .putPlain h
  split
  · exact .ite h1 (.edgeFrom h1)
  · exact h1

theorem Canon.hpPut {p a v mask} (h : Canon cs s) : Canon cs (s.hpPut p a v mask) :=
  .ite (.ite (.sqCfgWrite h) (.baseWrite h)) (.ite (.ite (.cqCfgWrite h) (.ite (.baseWrite h) (.putPlain h)))
      (.putPlain h))

theorem Canon.putRw {p a v r} (h : Canon cs s) : Canon cs (s.putRw p a v r) :=
  .ite (.pwp h) (.ite (.hpPut h) (.ite (.leaseWrite h) (.maskWrite h)))

theorem Canon.ignoredWrite {p a} (h : Canon cs s) : Canon cs (s.ignoredWrite p a) := by
  unfold State.ignoredWrite
  extract_lets s1
  have h1 : Canon cs s1 := .rsvWrite h
  split
  · exact .ite (.p h1) h1
  · exact h1

theorem Canon.regPut {p a v} (h : Canon cs s) : Canon cs (s.regPut p a v) := by
  unfold State.regPut
  split
  · refine .ite (.ignoredWrite h) ?_
    split
    · exact .putRw h
    · exact .gatedWrite .putGated h
    · exact .wn h
    · exact h
    · exact h
    · exact h
  · exact .ignoredWrite h

theorem Canon.msixWrite {p i v} (h : Canon cs s) : Canon cs (s.msixWrite p i v) := by
  unfold State.msixWrite
  extract_lets _ _ s1
  have h1 : Canon cs s1 := .setPort h
  exact .ite (.msix (.setPort h1)) h1

theorem Canon.bar2Put {p a v} (h : Canon cs s) : Canon cs (s.bar2Put p a v) :=
  .ite (.ite (.tailDoorbell h) (.headDoorbell h)) (.ite (.msixWrite h) (.ite h (.inc h)))

theorem Canon.msixDrain {p} (h : Canon cs s) : Canon cs (s.msixDrain p) :=
  .foldl (fun ht => .ite (.msix (.setPort ht)) ht) h

theorem Canon.cfgPut {p a l} (h : Canon cs s) : Canon cs (s.cfgPut p a l) := by
  unfold State.cfgPut
  extract_lets _ _ _ _ _ _ s1
  have h1 : Canon cs s1 := .setPort h
  exact .ite (.portReset h) (.ite (.msixDrain h1) h1)

theorem Canon.lanePut {p bar2 x} (h : Canon cs s) : Canon cs (s.lanePut p bar2 x) :=
  .ite h (.ite (.ite (.bar2Put h) (.regPut h)) (.ite (.inc h) (.ignoredWrite h)))

theorem CanonOut.registerWrite {p w a data} (h : Canon cs s) : CanonOut cs (execRegisterWrite p w a data s) := by
  unfold execRegisterWrite
  refine .next ?_
  refine .ite ?_ h
  split
  · exact .cfgPut h
  · exact .foldl .lanePut h

/-! ## Power and reset -/

theorem Canon.supply {vin bank} (h : Canon cs s) : Canon cs (s.supply vin bank) := .p (.p (.p h))

theorem Canon.recordNow {code p0 p1} (h : Canon cs s) : Canon cs (s.recordNow code p0 p1) := .logFlush (.post h)

theorem Canon.recordStraight {code p0 p1} (h : Canon cs s) : Canon cs (s.recordStraight code p0 p1) :=
  .same (.recordNow h)

theorem Canon.abortQueued (h : Canon cs s) : Canon cs s.abortQueued :=
  .foldl (fun ht => .foldl (fun hu => .finishWith (.startOp hu)) ht) h

theorem Canon.mtrCut (h : Canon cs s) : Canon cs s.mtrCut := .ite (.p (.setMtr h)) h

theorem Canon.failSeen {vin bank} (h : Canon cs s) : Canon cs (s.failSeen vin bank) :=
  .same (.p (.p (.inc (.supply h))))

theorem CanonOut.powerFailDetect {vin bank} (h : Canon cs s) : CanonOut cs (execPowerFailDetect vin bank s) := by
  unfold execPowerFailDetect
  refine .ite (.next h) ?_
  extract_lets s1 held straight
  have h1 : Canon cs s1 := .failSeen h
  have hheld : Canon cs held := .p h1
  have hstraight : ∀ {t}, Canon cs t → Canon cs (straight t) := fun ht => .ite (.recordStraight ht) ht
  refine .next ?_
  refine .ite (hstraight h1) ?_
  split
  · exact .report (.mtrCut (.recordNow (.mtrAbandon (.asyAbandon (.same hheld)))))
  · exact .recordNow hheld
  · exact .recordNow hheld
  · exact hstraight hheld
  · exact hheld

theorem CanonOut.bankAt21v (h : Canon cs s) : CanonOut cs (execBankAt21v s) := by
  unfold execBankAt21v
  refine .ite (.next h) ?_
  extract_lets _ _ s2
  have h2 : Canon cs s2 := .same (.p (.p h))
  exact .next (.ite (.mtrSeal (.abortQueued (.p (.abdicate (.powerStop h2))))) (.ite (.mtrSeal h2) h2))

theorem Canon.fieldDark (h : Canon cs s) : Canon cs s.fieldDark := .same (.foldl .setIsl h)

/-- A reset of the domains keeps some registers and the queue, and empties the image and the data of tasks. -/
theorem Canon.domainsReset (h : Canon cs s) : Canon cs s.domainsReset :=
  .p (.wn (canon_iff.2 ⟨twf_filter _ h.twf_regs, rfl, rfl, h.2⟩))

theorem Canon.dark (h : Canon cs s) : Canon cs s.dark :=
  .same (.domainsReset (.fieldDark (.lowerLines (.powerStop h))))

theorem CanonOut.railsOff (h : Canon cs s) : CanonOut cs (execRailsOff s) := .next (.ite h (.dark h))

theorem Canon.powerOn (h : Canon cs s) : Canon cs s.powerOn := .wn (.domainsReset (.fieldDark h))

theorem Canon.rideThrough (h : Canon cs s) : Canon cs s.rideThrough :=
  .mtrStart (.asyService (.bkdService (.post (.ite (.p (.same (.p (.p (.p h))))) (.same (.p (.p (.p h))))))))

theorem CanonOut.vinQualify (h : Canon cs s) : CanonOut cs (execVinQualify s) :=
  .next (.ite (.rideThrough h) (.ite (.powerOn h) (.p h)))

theorem CanonOut.bankMeasure {energy} (h : Canon cs s) : CanonOut cs (execBankMeasure energy s) := by
  unfold execBankMeasure
  refine .ite (.next h) ?_
  extract_lets _ _ _ s2
  have h2 : Canon cs s2 := .same (.p (.wn h))
  exact .next (.ite (.post h2) h2)

theorem CanonOut.smWatchdogExpire (h : Canon cs s) : CanonOut cs (execSmWatchdogExpire s) := .next (.orderReset h)

theorem CanonOut.moduleReset (h : Canon cs s) : CanonOut cs (execModuleReset s) := by
  unfold execModuleReset
  split
  · exact .next h
  · exact .ite (.next h) (.next (.same (.recordNow (.p (.mtrSeal (.mtrAbandon (.asyAbandon (.setBit (.abortQueued
        (.powerStop (.lowerLines (.abdicate h))))))))))))

theorem Canon.strapSample {x} (h : Canon cs s) : Canon cs (s.strapSample x) :=
  .foldl (fun ht => .ite (.raise (.post ht)) ht) (.same (.refClock (.refClock (.wn h))))

theorem Canon.release (h : Canon cs s) : Canon cs s.release := .ite (.p h) (.p h)

theorem Canon.stormCount {old} (h : Canon cs s) : Canon cs (s.stormCount old) := .ite (.raise h) h

theorem Canon.steps45 {sm} (h : Canon cs s) : Canon cs (s.steps45 sm) := by
  unfold State.steps45
  extract_lets _ _ _ _ _ _ _ _ s5
  have h5 : Canon cs s5 := .same (.wn (.wn (.wn (.wn (.wn (.wn (.wn (.domainsReset (.fieldDark h)))))))))
  exact .ite (.stormCount h5) (.same h5)

theorem CanonOut.resetDomains {x} (h : Canon cs s) : CanonOut cs (execResetDomains x s) :=
  .ite (.next h) (.next (.release (.strapSample (.steps45 h))))

theorem CanonOut.porHoldEnd {x} (h : Canon cs s) : CanonOut cs (execPorHoldEnd x s) :=
  .ite (.next h) (.next (.release (.strapSample h)))

theorem CanonOut.referenceCrystalStart (h : Canon cs s) : CanonOut cs (execReferenceCrystalStart s) :=
  .ite (.next h) (.next (.wn (.p h)))

theorem CanonOut.xtalFail (h : Canon cs s) : CanonOut cs (execXtalFail s) := .ite (.next h) (.next (.same (.p h)))

theorem Canon.enterRecovery {why} (h : Canon cs s) : Canon cs (s.enterRecovery why) := .fwuShow (.post h)

theorem Canon.boot (h : Canon cs s) : Canon cs s.boot := .p (.fwuShow (.migrate h))

theorem Canon.bootFallback {f reason} (h : Canon cs s) : Canon cs (s.bootFallback f reason) := by
  unfold State.bootFallback
  extract_lets _ _ _ _ take
  have htake : ∀ {banks}, Canon cs (take banks) := .post (.raise (.wn (.putMap h)))
  exact .ite (.boot htake) (.ite (.boot htake) (.enterRecovery h))

theorem Canon.bootSecurity {rootOk} (h : Canon cs s) : Canon cs (s.bootSecurity rootOk) := by
  unfold State.bootSecurity
  extract_lets _ _ s2
  have h2 : Canon cs s2 := .ite (.post h) (.ite (.post h) h)
  exact .ite h2 (.post h2)

theorem CanonOut.bootVerifyDone {f} (h : Canon cs s) : CanonOut cs (execBootVerifyDone f s) := by
  unfold execBootVerifyDone
  refine .ite (.next h) ?_
  extract_lets _ _ _ _ s1
  have h1 : Canon cs s1 := .bootSecurity h
  refine .next ?_
  refine .ite (.enterRecovery h1) ?_
  refine .ite (.enterRecovery h1) ?_
  split
  · exact .boot h1
  · exact .bootFallback h1

theorem CanonOut.keelStartDone {epochOk} (h : Canon cs s) : CanonOut cs (execKeelStartDone epochOk s) := by
  unfold execKeelStartDone
  refine .ite (.next h) ?_
  extract_lets _ _ _ s2
  have h2 : Canon cs s2 := .ite (.post h) h
  exact .next (.ite h2 (.post h2))

theorem CanonOut.bankCharged (h : Canon cs s) : CanonOut cs (execBankCharged s) :=
  .ite (.next h) (.next (.same (.p (.p h))))

theorem Canon.loadSetting {e} (h : Canon cs s) : Canon cs (s.loadSetting e) := by
  unfold State.loadSetting
  split
  · exact .ite (.putGated h) h
  · exact h

/-- Settings records loaded one after the other, the last first. -/
theorem Canon.foldr_loadSetting {l : Tbl Word} (h : Canon cs s) :
    Canon cs (l.foldr (fun e t => t.loadSetting e) s) := by
  induction l with
  | nil => exact h
  | cons e l ih => exact .loadSetting ih

theorem Canon.loadSettings (h : Canon cs s) : Canon cs s.loadSettings := by
  unfold State.loadSettings
  extract_lets s1 s2 s3
  have h1 : Canon cs s1 := .foldl (fun ht => .ite (.setIsl ht) ht) h
  have h2 : Canon cs s2 := .foldr_loadSetting h1
  have h3 : Canon cs s3 := .foldl .setCan h2
  clear_value s3
  exact .ptpShow (.macBins (.same h3))

theorem Canon.bankRecord {failed installed v} (h : Canon cs s) : Canon cs (s.bankRecord failed installed v) := .post h

theorem Canon.bankInstall {k} (h : Canon cs s) : Canon cs (s.bankInstall k) := .memsRestore (.installImage h)

theorem Canon.bankStart {f} (h : Canon cs s) : Canon cs (s.bankStart f) := by
  unfold State.bankStart
  extract_lets
  split
  · exact .bankInstall h
  · split
    · exact .bankRecord (.bankInstall h)
    · exact .bankRecord h

theorem Canon.found {f} (h : Canon cs s) : Canon cs (s.found f) := .foldl (fun ht => ht) (.setMtr h)

theorem CanonOut.domainStart {f} (h : Canon cs s) : CanonOut cs (execDomainStart f s) :=
  .ite (.next h) (.next (.bankStart (.p (.freshen (.same (.mtrRestore (.loadSettings (.found (.wn (.p h))))))))))

theorem CanonOut.domainStartDone (h : Canon cs s) : CanonOut cs (execDomainStartDone s) := by
  unfold execDomainStartDone
  refine .ite (.next h) ?_
  extract_lets _ s1 s2
  have h1 : Canon cs s1 := .p h
  have h2 : Canon cs s2 := .ite (.sendReq h1) h1
  exact .next (.ite (.tow h2) h2)

theorem Canon.decideRole (h : Canon cs s) : Canon cs s.decideRole :=
  .ite h (.ite (.becomeMotor (.setPair h)) (.ite h (.ite (.joinStart h) (.becomeMotor h))))

theorem Canon.startMode (h : Canon cs s) : Canon cs s.startMode := by
  unfold State.startMode
  extract_lets
  refine .ite h ?_
  split
  · exact .warmStart h
  · exact .coldStart h
  · exact h

theorem CanonOut.resyncPhaseEnd (h : Canon cs s) : CanonOut cs (execResyncPhaseEnd s) :=
  .ite (.next h) (.next (.mtrStart (.asyService (.bkdService (.startMode (.p (.decideRole h)))))))

/-! ## Reads by the host -/

theorem Canon.snapCapture {p a} (h : Canon cs s) : Canon cs (s.snapCapture p a) := .setPort (.ite (.freshen h) h)

theorem Canon.regRead {p a} (h : Canon cs s) : Canon cs (s.regRead p a).1 := by
  unfold State.regRead
  split
  · exact h
  · split
    · exact h
    · split
      · exact (.ite (.snapCapture h) h)
      · exact .wn h
      · split
        · exact (.take h)
        · split
          · exact .freshen h
          · exact h

theorem Canon.readRegs {p bar2 k a} (h : Canon cs s) : Canon cs (s.readRegs p bar2 k a) := by
  induction k generalizing s a with
  | zero => exact h
  | succ k ih =>
    unfold State.readRegs
    extract_lets r
    have hr : Canon cs r.1 := by
      unfold r
      split
      · exact h
      · exact .regRead h
    exact ih (.answer hr)

theorem Canon.readAccess {p sp a len} (h : Canon cs s) : Canon cs (s.readAccess p sp a len) := by
  unfold State.readAccess
  extract_lets bar2 w r
  have hr : Canon cs r.1 := by
    unfold r
    split
    · exact h
    · exact .regRead h
  exact .ite (.ite (.answer h) (.ite (.readRegs h) (.answer hr))) h

theorem CanonOut.snapRead {p w a len} (h : Canon cs s) : CanonOut cs (execSnapRead p w a len s) :=
  .next (.readAccess h)

theorem CanonOut.rcRead {p a len} (h : Canon cs s) : CanonOut cs (execRcRead p a len s) := .next (.readAccess h)

/-! ## Every command -/

/-- Every command keeps the invariant, by the lemma of its row. -/
theorem CanonOut.exec (c : Instr) (h : Canon cs s) : CanonOut cs (exec c s) := by
  unfold Machine.exec
  cases c with
  | powerFailDetect => exact .powerFailDetect h
  | powerFailCommit => exact .powerFailCommit h
  | bankAt21v => exact .bankAt21v h
  | railsOff => exact .railsOff h
  | vinQualify => exact .vinQualify h
  | bankMeasure => exact .bankMeasure h
  | xtalFail => exact .xtalFail h
  | softwareReset => exact .softwareReset h
  | moduleReset => exact .moduleReset h
  | resetDomains => exact .resetDomains h
  | smWatchdogExpire => exact .smWatchdogExpire h
  | portReset => exact .portReset h
  | functionLevelReset => exact .functionLevelReset h
  | porHoldEnd => exact .porHoldEnd h
  | bootVerifyDone => exact .bootVerifyDone h
  | keelStartDone => exact .keelStartDone h
  | bankCharged => exact .bankCharged h
  | domainStart => exact .domainStart h
  | domainStartDone => exact .domainStartDone h
  | resyncPhaseEnd => exact .resyncPhaseEnd h
  | ringEnable => exact .ringEnable h
  | sqDisable => exact .sqDisable h
  | cqDisable => exact .cqDisable h
  | sqTailDoorbell => exact .sqTailDoorbell h
  | cqHeadDoorbell => exact .cqHeadDoorbell h
  | entryFetch => exact .entryFetch h
  | completionWrite => exact .completionWrite h
  | coalescingTimer => exact .coalescingTimer h
  | irqSourceEdge => exact .irqSourceEdge h
  | subscriptionNotify => exact .subscriptionNotify h
  | nop => exact .nop h
  | ptRead => exact .ptRead h
  | ptWrite => exact .ptWrite h
  | ptSubscribe => exact .ptSubscribe h
  | ptSubscribeCancel => exact .ptSubscribeCancel h
  | ptForce => exact .ptForce h
  | ptUnforce => exact .ptUnforce h
  | imgLoad => exact .imgLoad h
  | imgChangeValues => exact .imgChangeValues h
  | imgChangeSwitch => exact .imgChangeSwitch h
  | taskRun => exact .taskRun h
  | taskStop => exact .taskStop h
  | taskHold => exact .taskHold h
  | warmRestart => exact .warmRestart h
  | coldRestart => exact .coldRestart h
  | stepTask => exact .stepTask h
  | continueTasks => exact .continueTasks h
  | setBreak => exact .setBreak h
  | clearBreak => exact .clearBreak h
  | suspendTask => exact .suspendTask h
  | resumeTask => exact .resumeTask h
  | ringTrigger => exact .ringTrigger h
  | armTime => exact .armTime h
  | logRead => exact .logRead h
  | logClear => exact .logClear h
  | logClearSwitch => exact .logClearSwitch h
  | mtrSnap => exact .mtrSnap h
  | traceFetch => exact .traceFetch h
  | derive => exact .derive h
  | unwrap => exact .unwrap h
  | loadSlot => exact .loadSlot h
  | generate => exact .generate h
  | store => exact .store h
  | eraseSlot => exact .eraseSlot h
  | encrypt => exact .encrypt h
  | decrypt => exact .decrypt h
  | keyClear => exact .keyClear h
  | setOperator => exact .setOperator h
  | debugUnlock => exact .debugUnlock h
  | debugLock => exact .debugLock h
  | exportTest => exact .exportTest h
  | attest => exact .attest h
  | ctxBind => exact .ctxBind h
  | gateTake => exact .gateTake h
  | gateRenew => exact .gateRenew h
  | gateRelease => exact .gateRelease h
  | leaseExpire => exact .leaseExpire h
  | gateAuditSecond => exact .gateAuditSecond h
  | ctxDenySecond => exact .ctxDenySecond h
  | registerWrite => exact .registerWrite h
  | snapRead => exact .snapRead h
  | rcRead => exact .rcRead h
  | updateFrameSend => exact .updateFrameSend h
  | heartbeatSend => exact .heartbeatSend h
  | refreshSweep => exact .refreshSweep h
  | zaderFrameReceive => exact .zaderFrameReceive h
  | resyncReqSend => exact .resyncReqSend h
  | blockService => exact .blockService h
  | resyncRetry => exact .resyncRetry h
  | originSilent => exact .originSilent h
  | autoTakeover => exact .autoTakeover h
  | ownRelease => exact .ownRelease h
  | ownReleaseEffective => exact .ownReleaseEffective h
  | ownClaim => exact .ownClaim h
  | pixScrub => exact .pixScrub h
  | cyclicRelease => exact .cyclicRelease h
  | eventTrigger => exact .eventTrigger h
  | timeTriggerFire => exact .timeTriggerFire h
  | eventRelease => exact .eventRelease h
  | inputLatch => exact .inputLatch h
  | outputCommit => exact .outputCommit h
  | retainedBankSwitch => exact .retainedBankSwitch h
  | taskWatchdogExpire => exact .taskWatchdogExpire h
  | breakpointHit => exact .breakpointHit h
  | pairCompareMismatch => exact .pairCompareMismatch h
  | nopInstruction => exact .nopInstruction h
  | br => exact .br h
  | brt => exact .brt h
  | brf => exact .brf h
  | callFn => exact .callFn h
  | retFn => exact .retFn h
  | assertReg => exact .assertReg h
  | sysRead => exact .sysRead h
  | movReg => exact .movReg h
  | ldi => exact .ldi h
  | ldk => exact .ldk h
  | sel => exact .sel h
  | ldb => exact .ldb h
  | ldw => exact .ldw h
  | ldwu => exact .ldwu h
  | ldd => exact .ldd h
  | stb => exact .stb h
  | stw => exact .stw h
  | std => exact .std h
  | ldin => exact .ldin h
  | ldiq => exact .ldiq h
  | ldit => exact .ldit h
  | stout => exact .stout h
  | stoq => exact .stoq h
  | ldlp => exact .ldlp h
  | stlp => exact .stlp h
  | addD => exact .addD h
  | subD => exact .subD h
  | mulD => exact .mulD h
  | divD => exact .divD h
  | modD => exact .modD h
  | cmpD => exact .cmpD h
  | addL => exact .addL h
  | subL => exact .subL h
  | mulL => exact .mulL h
  | divL => exact .divL h
  | modL => exact .modL h
  | cmpL => exact .cmpL h
  | cmpE => exact .cmpE h
  | addT => exact .addT h
  | subT => exact .subT h
  | cmpT => exact .cmpT h
  | addR => exact .addR h
  | subR => exact .subR h
  | mulR => exact .mulR h
  | divR => exact .divR h
  | cmpR => exact .cmpR h
  | funR => exact .funR h
  | limR => exact .limR h
  | addLr => exact .addLr h
  | subLr => exact .subLr h
  | mulLr => exact .mulLr h
  | divLr => exact .divLr h
  | cmpLr => exact .cmpLr h
  | funLr => exact .funLr h
  | limLr => exact .limLr h
  | limL => exact .limL h
  | andReg => exact .andReg h
  | orReg => exact .orReg h
  | xorReg => exact .xorReg h
  | notReg => exact .notReg h
  | notb => exact .notb h
  | shl => exact .shl h
  | shr => exact .shr h
  | sar => exact .sar h
  | cvtReg => exact .cvtReg h
  | esnap => exact .esnap h
  | esub => exact .esub h
  | ecvt => exact .ecvt h
  | brx => exact .brx h
  | addi => exact .addi h
  | ldinx => exact .ldinx h
  | valuesBoundary => exact .valuesBoundary h
  | switchGap => exact .switchGap h
  | switchWaitExpire => exact .switchWaitExpire h
  | loopEvaluate => exact .loopEvaluate h
  | memorySave => exact .memorySave h
  | loopWrite => exact .loopWrite h
  | loopRead => exact .loopRead h
  | loopCancel => exact .loopCancel h
  | loopWriteApply => exact .loopWriteApply h
  | memClear => exact .memClear h
  | memFreeze => exact .memFreeze h
  | memUnfreeze => exact .memUnfreeze h
  | traceArm => exact .traceArm h
  | traceTrigger => exact .traceTrigger h
  | traceAbort => exact .traceAbort h
  | islandCfgWrite => exact .islandCfgWrite h
  | headroom => exact .headroom h
  | comply => exact .comply h
  | fallback => exact .fallback h
  | islandTimedRetry => exact .islandTimedRetry h
  | islandRetry => exact .islandRetry h
  | retryWindowEnd => exact .retryWindowEnd h
  | openLoop => exact .openLoop h
  | senseFault => exact .senseFault h
  | stageFault => exact .stageFault h
  | islandClear => exact .islandClear h
  | recheckEnd => exact .recheckEnd h
  | thermal => exact .thermal h
  | linkLost => exact .linkLost h
  | islandReleaseEdge => exact .islandReleaseEdge h
  | handoverDone => exact .handoverDone h
  | storeSpent => exact .storeSpent h
  | uiConversion => exact .uiConversion h
  | uiShuntRetry => exact .uiShuntRetry h
  | doEnWrite => exact .doEnWrite h
  | doShort => exact .doShort h
  | doShortClear => exact .doShortClear h
  | doAutoRetry => exact .doAutoRetry h
  | openLoad => exact .openLoad h
  | vsLow => exact .vsLow h
  | stuck => exact .stuck h
  | doReleaseEdge => exact .doReleaseEdge h
  | doYieldHoldEnd => exact .doYieldHoldEnd h
  | daliLevelSend => exact .daliLevelSend h
  | daliPoll => exact .daliPoll h
  | daliFrameReceive => exact .daliFrameReceive h
  | daliBusDown => exact .daliBusDown h
  | daliBusUp => exact .daliBusUp h
  | daliRawSend => exact .daliRawSend h
  | daliTakeoverResend => exact .daliTakeoverResend h
  | modbusPoll => exact .modbusPoll h
  | modbusWrite => exact .modbusWrite h
  | serReply => exact .serReply h
  | serTimeout => exact .serTimeout h
  | osdpPoll => exact .osdpPoll h
  | osdpReaderSilent => exact .osdpReaderSilent h
  | serCfgWrite => exact .serCfgWrite h
  | serTakeoverResume => exact .serTakeoverResume h
  | meteringBlock => exact .meteringBlock h
  | journalCommit => exact .journalCommit h
  | energyDisplayWrite => exact .energyDisplayWrite h
  | mtrChCfgWrite => exact .mtrChCfgWrite h
  | mtrCirCfgWrite => exact .mtrCirCfgWrite h
  | totalsReceive => exact .totalsReceive h
  | totalsAckReceive => exact .totalsAckReceive h
  | totalsAckTimeout => exact .totalsAckTimeout h
  | dpxDisagreeWindow => exact .dpxDisagreeWindow h
  | mtcTempRead => exact .mtcTempRead h
  | mtcCommit => exact .mtcCommit h
  | mtcRestore => exact .mtcRestore h
  | assayStepEnd => exact .assayStepEnd h
  | calStepEnd => exact .calStepEnd h
  | verify => exact .verify h
  | calibrate => exact .calibrate h
  | clearFault => exact .clearFault h
  | aliveSilent => exact .aliveSilent h
  | aliveGood => exact .aliveGood h
  | aliveGeneratorStop => exact .aliveGeneratorStop h
  | grantInEdge => exact .grantInEdge h
  | dualMotor => exact .dualMotor h
  | laneDown => exact .laneDown h
  | laneUp => exact .laneUp h
  | lanesDown => exact .lanesDown h
  | inputs => exact .inputs h
  | inputsAck => exact .inputsAck h
  | shipTimeout => exact .shipTimeout h
  | hash => exact .hash h
  | hashTimeout => exact .hashTimeout h
  | forward => exact .forward h
  | seqReport => exact .seqReport h
  | abdicate => exact .abdicate h
  | abdicateWindowExpire => exact .abdicateWindowExpire h
  | notReady => exact .notReady h
  | takeover => exact .takeover h
  | xcheck => exact .xcheck h
  | xcheckDecide => exact .xcheckDecide h
  | dpxSwitch => exact .dpxSwitch h
  | switch => exact .switch h
  | plannedSwitch => exact .plannedSwitch h
  | detach => exact .detach h
  | join => exact .join h
  | joinRetry => exact .joinRetry h
  | hello => exact .hello h
  | xfer => exact .xfer h
  | xferGap => exact .xferGap h
  | joinWaitExpire => exact .joinWaitExpire h
  | idle => exact .idle h
  | partnerPresentChange => exact .partnerPresentChange h
  | canEnable => exact .canEnable h
  | canBusJoin => exact .canBusJoin h
  | txRequest => exact .txRequest h
  | txCancel => exact .txCancel h
  | txTimeReached => exact .txTimeReached h
  | arbitrationStart => exact .arbitrationStart h
  | arbitrationLost => exact .arbitrationLost h
  | canBusError => exact .canBusError h
  | txDone => exact .txDone h
  | suspendEnd => exact .suspendEnd h
  | recover => exact .recover h
  | recovered => exact .recovered h
  | flush => exact .flush h
  | rxfPop => exact .rxfPop h
  | canFrameReceive => exact .canFrameReceive h
  | canRefillPeriod => exact .canRefillPeriod h
  | canStationTimeout => exact .canStationTimeout h
  | dominantTimeout => exact .dominantTimeout h
  | txbufWrite => exact .txbufWrite h
  | listenExit => exact .listenExit h
  | ethFrameReceive => exact .ethFrameReceive h
  | pauseTimerExpire => exact .pauseTimerExpire h
  | pauseLong => exact .pauseLong h
  | ethFrameSend => exact .ethFrameSend h
  | linkUp => exact .linkUp h
  | linkDown => exact .linkDown h
  | sfpRead => exact .sfpRead h
  | sfpChange => exact .sfpChange h
  | ethCtlWrite => exact .ethCtlWrite h
  | ethHashWrite => exact .ethHashWrite h
  | ethStationTimeout => exact .ethStationTimeout h
  | syncReceive => exact .syncReceive h
  | followUpReceive => exact .followUpReceive h
  | delayReqReceive => exact .delayReqReceive h
  | delayRespReceive => exact .delayRespReceive h
  | pdelayReqReceive => exact .pdelayReqReceive h
  | pdelayRespReceive => exact .pdelayRespReceive h
  | pdelayRespFollowUpReceive => exact .pdelayRespFollowUpReceive h
  | announceReceive => exact .announceReceive h
  | masterLost => exact .masterLost h
  | holdoverLimit => exact .holdoverLimit h
  | ptpMessageSend => exact .ptpMessageSend h
  | stampTake => exact .stampTake h
  | ptpSet => exact .ptpSet h
  | ptpAdjust => exact .ptpAdjust h
  | ptpAddendWrite => exact .ptpAddendWrite h
  | ptpCtlWrite => exact .ptpCtlWrite h
  | trimPulse => exact .trimPulse h
  | bkdWrap => exact .bkdWrap h
  | bkdAlarm => exact .bkdAlarm h
  | bkdWake => exact .bkdWake h
  | bkdWakeWrite => exact .bkdWakeWrite h
  | setCount => exact .setCount h
  | setCountLoad => exact .setCountLoad h
  | bkdArm => exact .bkdArm h
  | disarm => exact .disarm h
  | capture => exact .capture h
  | captureLatch => exact .captureLatch h
  | crcCheck => exact .crcCheck h
  | restored => exact .restored h
  | erase => exact .erase h
  | bkdByteWrite => exact .bkdByteWrite h
  | bkdSupplySwitch => exact .bkdSupplySwitch h
  | lockout => exact .lockout h
  | lockoutExit => exact .lockoutExit h
  | backupDomainReset => exact .backupDomainReset h
  | oscStop => exact .oscStop h
  | logRecordWrite => exact .logRecordWrite h
  | logFloodSecond => exact .logFloodSecond h
  | epochApply => exact .epochApply h
  | fwBlockHeader => exact .fwBlockHeader h
  | fwBlockTable => exact .fwBlockTable h
  | fwBlockHallmark => exact .fwBlockHallmark h
  | fwBlockData => exact .fwBlockData h
  | fwActivate => exact .fwActivate h
  | fwActivateCold => exact .fwActivateCold h
  | fwActivateGap => exact .fwActivateGap h
  | fwGapWaitExpire => exact .fwGapWaitExpire h
  | islIslandSwitch => exact .islIslandSwitch h
  | soakEnd => exact .soakEnd h
  | fwNetSwitch => exact .fwNetSwitch h
  | confirm => exact .confirm h
  | cancel => exact .cancel h
  | abandonStaging => exact .abandonStaging h
  | faultDeclare => exact .faultDeclare h
  | heartbeatMiss => exact .heartbeatMiss h
  | unitRestartDone => exact .unitRestartDone h
  | eccHigh => exact .eccHigh h
  | assaySliceStart => exact .assaySliceStart h
  | assaySliceEnd => exact .assaySliceEnd h
  | assayPeriodicRequest => exact .assayPeriodicRequest h
  | asyTest => exact .asyTest h
  | asyCalibrate => exact .asyCalibrate h
  | islandTestEnd => exact .islandTestEnd h
  | scrubPassEnd => exact .scrubPassEnd h
  | pmonClear => exact .pmonClear h
  | pmonFreeze => exact .pmonFreeze h
  | pmonSelWrite => exact .pmonSelWrite h
  | hostLinkUp => exact .hostLinkUp h
  | referenceCrystalStart => exact .referenceCrystalStart h
  | islandLinkReturn => exact .islandLinkReturn h
  | tickCrystalRestart => exact .tickCrystalRestart h
  | bkdVbatMeasure => exact .bkdVbatMeasure h
  | daliFrameDone => exact .daliFrameDone h
  | daliRawWaitExpire => exact .daliRawWaitExpire h

/-- A step keeps the canonical form and takes the front command: the passing of one edge where the queue is empty,
the command's own effect where it is not. -/
theorem CanonOut.step (h : s.canonical = true) : CanonOut (s.pending.drop 1) (step s) := by
  unfold Machine.step
  split
  next e =>
    rw [e]
    exact .next (.advance ⟨h, e⟩)
  next c rest e =>
    rw [e]
    exact .exec c ⟨h, rfl⟩

/-! ## The obligation -/

/-- Settles O59: the canonical form passes through every operation that the commands are made of, so each command
keeps it and leaves the queue behind it as it was. -/
theorem everyCommandKeepsTheCanonicalForm : Obligations.EveryCommandKeepsTheCanonicalForm :=
  fun _ t h e => CanonOut.step h t e

end Sys2Proof.Machine
end

section
/-! # Zader frames sent (R17, R18, R112 to R115, R119)

Sending a frame hands it to the enabled links, advances the counts of the engine and of the MACs, and may report the
sequence to the partner. `State.Sends s t` says that nothing but sending lies between `s` and `t`; it composes, so a
block service, which sends 27 frames, is followed frame by frame. -/

namespace Sys2Proof.Machine

/-- Settles O1: the definition of a step, at a queue that is not empty. -/
theorem stepRunsTheFrontCommand : Obligations.StepRunsTheFrontCommand := fun _ _ _ => rfl

variable {s t u : State} {k : Nat} {body : ZBody} {count block part : Nat} {e : Bool}

/-! ## Frames by pages, folds and records of the state -/

/-- Registers that lie in pages left open need not be listed. -/
theorem State.Frame.of_pages {ps : List Part} {rs us : List Nat} (h : s.Frame t ps rs)
    (hr : ∀ a ∈ rs, a ∈ us ∨ .page (a / 65536) ∈ ps) : s.Frame t ps us :=
  { h with regs := fun a ha hp => h.regs a (fun hm => (hr a hm).elim ha hp) hp }

/-- A fold over a list keeps a frame that each step on a member of the list keeps. -/
theorem State.Frame.foldl_mem {α : Type} {ps : List Part} {rs : List Nat} {f : State → α → State} {l : List α}
    (h : ∀ x ∈ l, ∀ s : State, s.Frame (f s x) ps rs) (s : State) : s.Frame (l.foldl f s) ps rs := by
  induction l generalizing s with
  | nil => exact (State.Frame.refl s).mono (by simp) (by simp)
  | cons x l ih => exact (h x (by simp) s).comp (ih (fun y hy => h y (by simp [hy])) (f s x))

theorem frame_rep (s : State) (r : RepS) : s.Frame { s with rep := r } [.rep] [] := by
  constructor <;> simp [State.rd]

theorem frame_pix (s : State) (x : PixS) : s.Frame { s with pix := x } [.pix] [] := by
  constructor <;> simp [State.rd]

theorem frame_setMac (s : State) (n : Nat) (x : EthS) : s.Frame (s.setMac n x) [.eth] [] := by
  constructor <;> simp [State.setMac, State.rd]

@[simp] theorem State.count_out (s : State) (k n : Nat) : (s.count k n).out = s.out :=
  (frame_count s k n).out.resolve_left (by simp)

theorem State.rd_count (s : State) (k n : Nat) {a : Nat} (h : a ≠ R.PMON_HALF) : (s.count k n).rd a = s.rd a :=
  (frame_count s k n).regs a (by simpa using h) (by simp)

/-! ## A frame at a MAC (R366, R369) -/

/-- The parts that a frame handed to MAC 0 or 1 may change. -/
def Part.macs : List Part := [.eth, .page 0x70, .page 0x71, .edges, .trigs]

theorem page_mem_macs {n a : Nat} (hn : n < 2) (ha : a / 65536 = 0x70 + n) : Part.page (a / 65536) ∈ Part.macs := by
  rw [ha]
  obtain rfl | rfl : n = 0 ∨ n = 1 := by omega
  · decide
  · decide

/-- A counter of a MAC, its half-range bits and its event lie in the page of the MAC (R460). -/
theorem frame_macCount (s : State) {n k : Nat} (m : Nat) (hn : n < 2) (hk : k < 64) :
    s.Frame (s.macCount n k m) Part.macs [] := by
  have hc : s.Frame (s.inc (R.ETH_CNT n k) m) Part.macs [R.ETH_CNT n k, R.ETH_CNT_HALF_LO n, R.ETH_CNT_HALF_HI n,
      R.ETH_EVENT n] := (frame_inc s _ m).mono (by simp) (by simp)
  have hb : ∀ (t : State) (a b : Nat), a = R.ETH_CNT_HALF_LO n ∨ a = R.ETH_CNT_HALF_HI n →
      t.Frame ((t.setBit a b true).raise (evETH n) 4) Part.macs [R.ETH_CNT n k, R.ETH_CNT_HALF_LO n,
        R.ETH_CNT_HALF_HI n, R.ETH_EVENT n] := fun t a b ha =>
    ((frame_setBit t a b true).trans (frame_raise _ (evETH n) 4)).mono (by simp [Part.macs])
      (by rcases ha with rfl | rfl <;> simp [evETH])
  refine State.Frame.of_pages (rs := [R.ETH_CNT n k, R.ETH_CNT_HALF_LO n, R.ETH_CNT_HALF_HI n, R.ETH_EVENT n]) ?_ ?_
  · unfold State.macCount
    simp only
    split
    · split
      · exact hc.comp (hb _ _ _ (.inl rfl))
      · exact hc.comp (hb _ _ _ (.inr rfl))
    · exact hc
  · intro a ha
    refine .inr (page_mem_macs hn ?_)
    simp only [List.mem_cons, List.not_mem_nil, or_false, R.ETH_CNT, R.ETH_CNT_HALF_LO, R.ETH_CNT_HALF_HI,
      R.ETH_EVENT] at ha
    omega

theorem frame_macZader (s : State) {n : Nat} (count : Nat) (hn : n < 2) : s.Frame (s.macZader n count) Part.macs [] := by
  unfold State.macZader State.macQueue
  simp only
  split
  · exact frame_macCount s 1 hn (by decide)
  · exact (frame_setMac s n _).mono (by simp [Part.macs]) (by simp)

/-! ## One frame sent (R112, R114, R18) -/

/-- A frame of kind `k` takes the next sequence where it is an UPDATE or OWNERSHIP frame, else the last. -/
def State.seqFor (s : State) (k : Nat) : Nat := if k == 1 || k == 5 then (s.rep.seq + 1) % 2 ^ 32 else s.rep.seq

/-- The frame that `State.sendFrame` builds. -/
def State.newFrame (s : State) (k : Nat) (body : ZBody) (count block part : Nat) (resyncEnd : Bool) : ZFrame where
  version := 1
  kind := k
  origin := s.node
  count := count
  seq := if s.isButty then s.dpx.seqReport.getD (s.seqFor k) else s.seqFor k
  sendTime := s.ptpNs % 2 ^ 64
  building := s.rn R.REP_BUILDING
  restart := s.rep.restart && !s.isButty
  resyncEnd := resyncEnd
  block := block
  part := part
  hdrCrcOk := true
  formOk := true
  body := body

/-- The links that are enabled. -/
def State.zaderLinks (s : State) : List Nat :=
  (if s.g F.REP_CTL_ETH0_EN = 1 then [0] else []) ++ (if s.g F.REP_CTL_ETH1_EN = 1 then [1] else [])

/-- Frame `f` of kind `k` on the enabled links, with the engine's sequence and restart mark. -/
def State.launch (s : State) (k : Nat) (f : ZFrame) : State :=
  { s with
    rep := { s.rep with seq := s.seqFor k, restart := s.rep.restart && s.isButty }
    out := s.out ++ s.zaderLinks.map (s.zaderOut f) }

/-- The counts of a sent frame and its place at the MACs of `links`. -/
def State.queueZader (s : State) (links : List Nat) (k count : Nat) : State :=
  links.foldl (fun t l => t.macZader l count) ((s.inc R.REP_TX_FRAMES).count 320 (b2n (k == 1)))

/-- The report of the sequence to the butty (R323). -/
def State.reportSeq (s : State) (k q : Nat) : State := if (k == 1 || k == 5) && s.synced then s.tow (.seqReport q) else s

theorem sendFrame_eq (k : Nat) (body : ZBody) (count block part : Nat) (e : Bool) (h : s.isButty = false ∨ k = 3) :
    s.sendFrame k body count block part e
      = ((s.launch k (s.newFrame k body count block part e)).queueZader s.zaderLinks k count).reportSeq k
          (s.seqFor k) := by
  unfold State.sendFrame
  rw [if_neg (by rcases h with h | rfl <;> simp [*])]
  rfl

theorem sendFrame_of_butty (k : Nat) (body : ZBody) (count block part : Nat) (e : Bool)
    (h : ¬(s.isButty = false ∨ k = 3)) : s.sendFrame k body count block part e = s := by
  unfold State.sendFrame
  rw [if_pos (by simpa using h)]

theorem frame_launch (s : State) (k : Nat) (f : ZFrame) : s.Frame (s.launch k f) [.rep, .out] [] := by
  constructor <;> simp [State.launch, State.rd]

theorem zaderLinks_lt {l : Nat} (h : l ∈ s.zaderLinks) : l < 2 := by
  simp only [State.zaderLinks, List.mem_append] at h
  rcases h with h | h <;> split at h <;> simp_all

theorem frame_queueZader_of_inc (s : State) (k count : Nat) {l : List Nat} (hl : ∀ n ∈ l, n < 2) :
    (s.inc R.REP_TX_FRAMES).Frame (s.queueZader l k count) (Part.macs ++ Part.counts) [R.PMON_HALF] :=
  State.Frame.comp ((frame_count _ 320 _).mono (by simp [Part.counts]) (by simp))
    ((State.Frame.foldl_mem (fun n hn t => frame_macZader t count (hl n hn)) _).mono (by simp) (by simp))

theorem frame_queueZader (s : State) (k count : Nat) {l : List Nat} (hl : ∀ n ∈ l, n < 2) :
    s.Frame (s.queueZader l k count) (Part.macs ++ Part.counts) [R.REP_TX_FRAMES, R.PMON_HALF] :=
  ((frame_inc s _ 1).trans (frame_queueZader_of_inc s k count hl)).mono (by simp) (by simp)

theorem frame_reportSeq (s : State) (k q : Nat) :
    s.Frame (s.reportSeq k q) (.out :: Part.counts) [R.PMON_HALF] := by
  unfold State.reportSeq
  split
  · exact (frame_tow s _).mono (by simp [Part.counts]) (by simp)
  · exact (State.Frame.refl s).mono (by simp) (by simp)

theorem out_subset_reportSeq (s : State) (k q : Nat) : s.out ⊆ (s.reportSeq k q).out := by
  unfold State.reportSeq State.tow
  split
  · split
    · simp [State.emit]
    · exact List.Subset.refl _
  · exact List.Subset.refl _

/-- What has gone out before a frame, and the frame on each enabled link, has gone out after it. -/
theorem launch_out_subset_sendFrame (h : s.isButty = false ∨ k = 3) :
    s.out ++ s.zaderLinks.map (s.zaderOut (s.newFrame k body count block part e))
      ⊆ (s.sendFrame k body count block part e).out := by
  rw [sendFrame_eq k body count block part e h]
  have hq := (frame_queueZader (s.launch k (s.newFrame k body count block part e)) k count
    (fun _ => zaderLinks_lt (s := s))).out.resolve_left (by simp [Part.macs, Part.counts])
  have hr := out_subset_reportSeq ((s.launch k (s.newFrame k body count block part e)).queueZader s.zaderLinks k count) k
    (s.seqFor k)
  rwa [hq] at hr

/-- A frame sent changes the engine's sequence and restart mark alone. -/
theorem sendFrame_rep (h : s.isButty = false ∨ k = 3) :
    (s.sendFrame k body count block part e).rep
      = { s.rep with seq := s.seqFor k, restart := s.rep.restart && s.isButty } := by
  rw [sendFrame_eq k body count block part e h]
  exact ((frame_reportSeq _ k _).rep.resolve_left (by simp [Part.counts])).trans
    ((frame_queueZader _ k count fun _ => zaderLinks_lt (s := s)).rep.resolve_left (by simp [Part.macs, Part.counts]))

theorem sendFrame_seq (h : s.isButty = false ∨ k = 3) :
    (s.sendFrame k body count block part e).rep.seq = s.seqFor k := by rw [sendFrame_rep h]

theorem rd_sendFrame_tx (h : s.isButty = false ∨ k = 3) :
    (s.sendFrame k body count block part e).rd R.REP_TX_FRAMES = s.rd R.REP_TX_FRAMES + 1#32 := by
  rw [sendFrame_eq k body count block part e h]
  exact ((frame_reportSeq _ k _).regs _ (by decide) (by decide)).trans
    (((frame_queueZader_of_inc _ k count fun _ => zaderLinks_lt (s := s)).regs _ (by decide) (by decide)).trans
      (State.rd_inc_same _ _ _))

/-! ## Nothing but sending -/

/-- The registers that sending frames may change beside those of the MACs. -/
def sendRegs : List Nat := [R.REP_TX_FRAMES, R.PMON_HALF]

/-- From `s` to `t` nothing but the sending of frames and changes of the engine's own data has happened, and what had
gone out stays. -/
structure State.Sends (s t : State) : Prop where
  frame : s.Frame t Part.zader sendRegs
  out : s.out ⊆ t.out

namespace State.Sends

theorem refl (s : State) : s.Sends s := ⟨(State.Frame.refl s).mono (by simp) (by simp), List.Subset.refl _⟩

theorem trans (h : s.Sends t) (k : t.Sends u) : s.Sends u := ⟨h.frame.comp k.frame, List.Subset.trans h.out k.out⟩

theorem sendFrame (s : State) (k : Nat) (body : ZBody) (count block part : Nat) (e : Bool) :
    s.Sends (s.sendFrame k body count block part e) := by
  by_cases h : s.isButty = false ∨ k = 3
  · refine ⟨?_, fun o ho => launch_out_subset_sendFrame h (List.mem_append_left _ ho)⟩
    rw [sendFrame_eq k body count block part e h]
    exact (((frame_launch s k _).trans (frame_queueZader _ k count fun _ => zaderLinks_lt (s := s))).trans
      (frame_reportSeq _ k _)).mono (by simp [Part.macs, Part.zader, Part.counts]) (by simp [sendRegs])
  · rw [sendFrame_of_butty k body count block part e h]
    exact refl s

/-- A change of the engine's own data. -/
theorem of_rep (s : State) (r : RepS) : s.Sends { s with rep := r } :=
  ⟨(frame_rep s r).mono (by simp [Part.zader]) (by simp), List.Subset.refl _⟩

theorem foldl {g : State → Nat → State} (hg : ∀ t k, State.Sends t (g t k)) (l : List Nat) (s : State) :
    s.Sends (l.foldl g s) := by
  induction l generalizing s with
  | nil => exact refl s
  | cons k l ih => exact (hg s k).trans (ih (g s k))

/-- Each step of a fold that sends is made from a state to which sending has led, and sending follows it. -/
theorem foldl_step {g : State → Nat → State} (hg : ∀ t k, State.Sends t (g t k)) {l : List Nat} {k : Nat}
    (hk : k ∈ l) (s : State) : ∃ t, s.Sends t ∧ (g t k).Sends (l.foldl g s) := by
  induction l generalizing s with
  | nil => simp at hk
  | cons j l ih =>
    rcases List.mem_cons.1 hk with rfl | hk
    · exact ⟨s, refl s, foldl hg l (g s k)⟩
    · obtain ⟨t, ht, h⟩ := ih hk (g s j)
      exact ⟨t, (hg s j).trans ht, h⟩

/-! What sending leaves as it was, of all that the next frame is built from. -/

theorem rd (h : s.Sends t) {a : Nat} (ha : a ∉ sendRegs) (hp : a / 65536 ∉ [0x70, 0x71]) : t.rd a = s.rd a :=
  h.frame.regs a ha (by simpa [Part.zader, Part.counts] using hp)

theorem g (h : s.Sends t) {f : Fld} (ha : f.off ∉ sendRegs) (hp : f.off / 65536 ∉ [0x70, 0x71]) : t.g f = s.g f :=
  State.g_congr f (h.rd ha hp)

theorem node (h : s.Sends t) : t.node = s.node := h.g (by decide) (by decide)

theorem isButty (h : s.Sends t) : t.isButty = s.isButty := by
  have hd : t.dpx = s.dpx := h.frame.dpx.resolve_left (by decide)
  have hg : t.g F.DPX_STATUS_GRANT_OUT = s.g F.DPX_STATUS_GRANT_OUT := h.g (by decide) (by decide)
  rw [State.isButty, State.isButty, State.isMotor, State.isMotor, hg, hd]

theorem pix (h : s.Sends t) : t.pix = s.pix := h.frame.pix.resolve_left (by decide)

theorem zslot (h : s.Sends t) (i : Nat) : t.zslot i = s.zslot i := by
  rw [State.zslot, State.zslot, State.slot, State.slot, h.pix]

theorem zaderOut (h : s.Sends t) (f : ZFrame) (l : Nat) : t.zaderOut f l = s.zaderOut f l := by
  have hr : ∀ k < 4, t.rn (R.REP_GROUP k) = s.rn (R.REP_GROUP k) := fun k hk =>
    congrArg BitVec.toNat (h.rd (by simp [sendRegs, R.REP_GROUP, R.REP_TX_FRAMES, R.PMON_HALF]; omega)
      (by simp [R.REP_GROUP]; omega))
  have hgrp : t.zaderGroup = s.zaderGroup := by
    simp [State.zaderGroup, hr]
  rw [State.zaderOut, State.zaderOut, hgrp]

end State.Sends

/-! ## A frame on the links -/

/-- Frame `f` of state `s` has gone out on each enabled link. -/
def State.carried (s t : State) (f : ZFrame) : Prop :=
  (s.g F.REP_CTL_ETH0_EN = 1 → s.zaderOut f 0 ∈ t.out) ∧ (s.g F.REP_CTL_ETH1_EN = 1 → s.zaderOut f 1 ∈ t.out)

theorem carried_sendFrame (h : s.isButty = false ∨ k = 3) :
    s.carried (s.sendFrame k body count block part e) (s.newFrame k body count block part e) := by
  have hsub := launch_out_subset_sendFrame (body := body) (count := count) (block := block) (part := part) (e := e) h
  constructor <;>
    exact fun hg => hsub (List.mem_append_right _ (List.mem_map_of_mem (by simp [State.zaderLinks, hg])))

/-- Sending before and after a frame leaves it carried. -/
theorem State.carried.within {r : State} {f : ZFrame} (h : s.carried t f) (hr : r.Sends s) (ht : t.Sends u) :
    r.carried u f := by
  obtain ⟨h0, h1⟩ := h
  have hg0 : s.g F.REP_CTL_ETH0_EN = r.g F.REP_CTL_ETH0_EN := hr.g (by decide) (by decide)
  have hg1 : s.g F.REP_CTL_ETH1_EN = r.g F.REP_CTL_ETH1_EN := hr.g (by decide) (by decide)
  rw [hg0, hr.zaderOut] at h0
  rw [hg1, hr.zaderOut] at h1
  exact ⟨fun h => ht.out (h0 h), fun h => ht.out (h1 h)⟩

/-! ## Block services (R115, R119) -/

/-- Slots whose CRCs stand are not changed by their checks (R131). -/
theorem checkSlots_good (h : ∀ i, (s.slot i).badCrc = none) (l : List Nat) : s.checkSlots l = s := by
  have h1 : ∀ i, s.checkSlot i = s := fun i => by
    unfold State.checkSlot
    simp only [h i]
  unfold State.checkSlots
  induction l with
  | nil => rfl
  | cons i l ih => rw [List.foldl_cons, h1, ih]

/-- The entries of RESYNC frame `k` of block `b` (R113). -/
def State.partBody (s : State) (b k : Nat) : ZBody :=
  .slots ((List.range (if k = 25 then 24 else 40)).map (fun j => s.zslot (1024 * b + 40 * k + j)))

/-- RESYNC frame `k` of block `b`. -/
def State.partFrame (s : State) (b k : Nat) : ZFrame :=
  s.newFrame 4 (s.partBody b k) (if k = 25 then 24 else 40) b k (k == 25)

/-- RESYNC frame `k` of block `b` sent. -/
def State.sendPart (b : Nat) (s : State) (k : Nat) : State :=
  s.sendFrame 4 (s.partBody b k) (if k = 25 then 24 else 40) b k (k == 25)

/-- The frames of one service of block `b` sent: OWNERSHIP STATE and the 26 RESYNC frames. -/
def State.sendBlock (s : State) (b : Nat) : State :=
  (List.range 26).foldl (State.sendPart b) (s.sendOwn b 3 (s.ownOf b).owner (s.ownOf b).owner (s.ownOf b).gen false)

theorem sends_sendPart (b : Nat) (t : State) (k : Nat) : t.Sends (t.sendPart b k) := .sendFrame _ _ _ _ _ _ _

theorem sends_sendOwn (s : State) (b action former new gen : Nat) (manual : Bool) :
    s.Sends (s.sendOwn b action former new gen manual) := .sendFrame _ _ _ _ _ _ _

theorem sends_sendBlock (s : State) (b : Nat) : s.Sends (s.sendBlock b) :=
  (sends_sendOwn s b 3 _ _ _ false).trans (.foldl (sends_sendPart b) _ _)

theorem State.Sends.partBody (h : s.Sends t) (b k : Nat) : t.partBody b k = s.partBody b k := by
  simp only [State.partBody, h.zslot]

/-- A block service in a state whose slots' CRCs stand sends the frames of the block and counts the service; the block
is then not in the list of those to serve. -/
theorem serveBlock_eq (h : ∀ i, (s.slot i).badCrc = none) (b : Nat) :
    ∃ r : RepS, b ∉ r.serve
      ∧ s.serveBlock b = { ((s.sendBlock b).inc R.REP_RESYNC_SERVED).count 325 with rep := r } := by
  have hgood : ∀ i, ((s.sendOwn b 3 (s.ownOf b).owner (s.ownOf b).owner (s.ownOf b).gen false).slot i).badCrc = none :=
    fun i => by rw [State.slot, (sends_sendOwn s b 3 _ _ _ false).pix]; exact h i
  unfold State.serveBlock
  simp only [checkSlots_good hgood]
  exact ⟨_, by simp, rfl⟩

theorem frame_serveBlock (h : ∀ i, (s.slot i).badCrc = none) (b : Nat) :
    s.Frame (s.serveBlock b) Part.zader [R.REP_TX_FRAMES, R.REP_RESYNC_SERVED, R.PMON_HALF] := by
  obtain ⟨r, -, e⟩ := serveBlock_eq h b
  rw [e]
  exact ((((sends_sendBlock s b).frame.trans (frame_inc _ _ 1)).trans (frame_count _ 325 1)).trans
    (frame_rep _ r)).mono (by simp [Part.zader, Part.counts]) (by simp [sendRegs])

theorem rd_serveBlock_served (h : ∀ i, (s.slot i).badCrc = none) (b : Nat) :
    (s.serveBlock b).rd R.REP_RESYNC_SERVED = s.rd R.REP_RESYNC_SERVED + 1#32 := by
  obtain ⟨r, -, e⟩ := serveBlock_eq h b
  rw [e]
  calc (((s.sendBlock b).inc R.REP_RESYNC_SERVED).count 325).rd R.REP_RESYNC_SERVED
      = ((s.sendBlock b).inc R.REP_RESYNC_SERVED).rd R.REP_RESYNC_SERVED := State.rd_count _ _ _ (by decide)
    _ = (s.sendBlock b).rd R.REP_RESYNC_SERVED + 1#32 := State.rd_inc_same _ _ _
    _ = s.rd R.REP_RESYNC_SERVED + 1#32 := by rw [(sends_sendBlock s b).rd (by decide) (by decide)]

theorem not_mem_serve_serveBlock (h : ∀ i, (s.slot i).badCrc = none) (b : Nat) : b ∉ (s.serveBlock b).rep.serve := by
  obtain ⟨r, hr, e⟩ := serveBlock_eq h b
  rw [e]
  exact hr

/-- RESYNC frame `k` of block `b`, with the slots of `s`, has gone out (R113). -/
def State.partCarried (s t : State) (b k : Nat) : Prop :=
  ∃ f : ZFrame, f.kind = 4 ∧ f.origin = s.node ∧ f.block = b ∧ f.part = k ∧ f.resyncEnd = (k == 25)
    ∧ f.body = s.partBody b k ∧ s.carried t f

/-- A block service carries each of the 26 RESYNC frames of its block. -/
theorem partCarried_serveBlock (hm : s.isButty = false) (h : ∀ i, (s.slot i).badCrc = none) (b : Nat) {k : Nat}
    (hk : k < 26) : s.partCarried (s.serveBlock b) b k := by
  obtain ⟨t, hst, hts⟩ := State.Sends.foldl_step (sends_sendPart b) (List.mem_range.2 hk)
    (s.sendOwn b 3 (s.ownOf b).owner (s.ownOf b).owner (s.ownOf b).gen false)
  have hs : s.Sends t := (sends_sendOwn s b 3 _ _ _ false).trans hst
  have hsent : t.carried (t.sendPart b k) (t.partFrame b k) := carried_sendFrame (.inl (hs.isButty.trans hm))
  have hout : (s.serveBlock b).out = (s.sendBlock b).out := by
    obtain ⟨r, -, e⟩ := serveBlock_eq h b
    rw [e]
    exact State.count_out _ _ _
  refine ⟨t.partFrame b k, rfl, hs.node, rfl, rfl, rfl, hs.partBody b k, ?_⟩
  unfold State.carried
  rw [hout]
  exact hsent.within hs hts

/-! ## The commands -/

theorem isButty_of_repSends (h : s.repSends = true) : s.isButty = false := by
  simp only [State.repSends, Bool.and_eq_true] at h
  simp [State.isButty, h.2]

/-- An UPDATE frame in a state whose slots' CRCs stand: the frame is sent, then the slots are not dirty (R115). -/
theorem sendUpdate_eq (h : ∀ i, (s.slot i).badCrc = none) {l : List Nat} (hl : l ≠ []) :
    s.sendUpdate l = { s.sendFrame 1 (.slots (l.map s.zslot)) l.length 0 0 false with
      pix := { s.pix with dirty := s.pix.dirty.filter (fun i => !l.contains i) } } := by
  unfold State.sendUpdate
  simp only [checkSlots_good h, List.isEmpty_eq_false_iff.2 hl, Bool.false_eq_true, if_false,
    (State.Sends.sendFrame s 1 (.slots (l.map s.zslot)) l.length 0 0 false).pix]

theorem exec_updateFrameSend (h : s.repSends = true) :
    exec .updateFrameSend s = .next (s.sendUpdate s.updateSlots) := if_neg (by simp [h])

theorem exec_heartbeatSend (h : s.repSends = true) :
    exec .heartbeatSend s = .next (s.sendFrame 2 .none 0 0 0 false) := congrArg Host.Outcome.next (if_pos h)

/-! ### A request for all blocks of a target: one frame, whose list of blocks is empty (R113) -/

theorem sendReq_all (s : State) (o : Nat) :
    s.sendReq o [] = (s.sendFrame 3 (.req o 0 [] true) 1 0 0 false).inc R.REP_RESYNC_REQ := rfl

theorem carried_sendReq (h : s.Sends t) (o : Nat) : ∃ f : ZFrame, f.kind = 3 ∧ f.origin = s.node
    ∧ f.body = .req o 0 [] true ∧ s.carried (t.sendReq o []) f := by
  have hsent : t.carried (t.sendFrame 3 (.req o 0 [] true) 1 0 0 false) (t.newFrame 3 (.req o 0 [] true) 1 0 0 false) :=
    carried_sendFrame (.inr rfl)
  have hout := hsent.within h (.refl _)
  exact ⟨_, rfl, h.node, rfl, hout⟩

theorem sendReq_rep (s : State) (o : Nat) : (s.sendReq o []).rep
    = { s.rep with restart := s.rep.restart && s.isButty } := by
  rw [sendReq_all, State.inc_rep]
  exact sendFrame_rep (.inr rfl)

theorem rd_sendReq (s : State) (o : Nat) :
    (s.sendReq o []).rd R.REP_RESYNC_REQ = s.rd R.REP_RESYNC_REQ + 1#32 := by
  rw [sendReq_all, State.rd_inc_same, (State.Sends.sendFrame s 3 _ 1 0 0 false).rd (by decide) (by decide)]

theorem frame_sendReq (s : State) (o : Nat) :
    s.Frame (s.sendReq o []) Part.zader (sendRegs ++ [R.REP_RESYNC_REQ]) :=
  ((State.Sends.sendFrame s 3 _ 1 0 0 false).frame.trans (frame_inc _ _ 1)).mono (by simp) (by simp)

theorem exec_resyncReqSend {o : Fin 256} {w : Nat × List Nat} (ho : s.mayOriginate = true) (hc : s.core 1 = true)
    (hw : s.rep.wants.find? (fun w => w.1 == o.val) = some w) :
    exec (.resyncReqSend o) s
      = .next (({ s with rep := { s.rep with wants := s.rep.wants.erase w } } : State).sendReq w.1 w.2) := by
  change execResyncReqSend o s = _
  unfold execResyncReqSend
  rw [hc, hw]
  exact congrArg Host.Outcome.next (if_pos ho)

theorem exec_blockService {b : Nat} {l : List Nat} (h : s.repSends = true) (hc : s.core 1 = true)
    (hs : s.rep.serve = b :: l) (ho : s.owns b = true) : exec .blockService s = .next (s.serveBlock b) := by
  change execBlockService s = _
  simp [execBlockService, h, hc, hs, ho]

theorem exec_refreshSweep {b : Nat} (h : s.repSends = true) (hr : s.g F.REP_REFRESH_REFRESH_S ≠ 0)
    (hb : (s.blocksOf s.node).find? (fun c => Nat.ble s.rep.sweepAt c) = some b) :
    exec .refreshSweep s
      = .next { s.serveBlock b with rep := { (s.serveBlock b).rep with sweepAt := (b + 1) % 256 } } := by
  change execRefreshSweep s = _
  simp [execRefreshSweep, h, hr, hb]

/-- Settles O13: each command sends its frames, and sending changes nothing that the next frame is built from. -/
theorem zaderFramesSent : Obligations.ZaderFramesSent := by
  refine ⟨fun s hs hne hg => ?update, fun s hs => ?heartbeat, fun s o ho hc hw => ?request,
    fun s b l hs hc hl ho hg => ?service, fun s b hs hr hb hg => ?sweep⟩
  case update =>
    have hm := isButty_of_repSends hs
    have hsent : s.Sends (s.sendFrame 1 (.slots (s.updateSlots.map s.zslot)) s.updateSlots.length 0 0 false) :=
      .sendFrame _ _ _ _ _ _ _
    refine ⟨_, exec_updateFrameSend hs, ?_⟩
    rw [sendUpdate_eq hg hne]
    have hseq : (s.newFrame 1 (.slots (s.updateSlots.map s.zslot)) s.updateSlots.length 0 0 false).seq
        = (s.rep.seq + 1) % 2 ^ 32 := by simp [State.newFrame, hm, State.seqFor]
    refine ⟨⟨_, rfl, rfl, hseq, rfl, rfl, rfl, rfl, carried_sendFrame (.inl hm)⟩, ?_, rfl, ?_, ?_⟩
    · exact sendFrame_seq (.inl hm)
    · exact rd_sendFrame_tx (.inl hm)
    · exact (hsent.frame.trans (frame_pix _ _)).mono (by simp) (by simp [sendRegs])
  case heartbeat =>
    have hm := isButty_of_repSends hs
    have hseq : (s.newFrame 2 .none 0 0 0 false).seq = s.rep.seq := by simp [State.newFrame, hm, State.seqFor]
    exact ⟨_, exec_heartbeatSend hs, ⟨_, rfl, rfl, hseq, rfl, rfl, carried_sendFrame (.inl hm)⟩,
      sendFrame_seq (.inl hm), rd_sendFrame_tx (.inl hm),
      (State.Sends.sendFrame s 2 .none 0 0 0 false).frame⟩
  case request =>
    refine ⟨_, exec_resyncReqSend ho hc hw, ?_⟩
    have herase : s.Sends { s with rep := { s.rep with wants := s.rep.wants.erase (o.val, []) } } := .of_rep _ _
    refine ⟨carried_sendReq herase _, by rw [sendReq_rep], by rw [sendReq_rep], ?_, ?_⟩
    · rw [rd_sendReq, herase.rd (by decide) (by decide)]
    · exact (herase.frame.trans (frame_sendReq _ _)).mono (by simp) (by simp [sendRegs])
  case service =>
    exact ⟨_, exec_blockService hs hc hl ho, fun k hk => partCarried_serveBlock (isButty_of_repSends hs) hg b hk,
      not_mem_serve_serveBlock hg b, rd_serveBlock_served hg b, frame_serveBlock hg b⟩
  case sweep =>
    exact ⟨_, exec_refreshSweep hs hr hb, fun k hk => partCarried_serveBlock (isButty_of_repSends hs) hg b hk, rfl,
      rd_serveBlock_served hg b, ((frame_serveBlock hg b).trans (frame_rep _ _)).mono
        (by simp [Part.zader, Part.counts]) (by simp)⟩

end Sys2Proof.Machine
end

section
/-! # Host ports reset, and their links (R47, R57, R62, R90, R94, R99) -/

namespace Sys2Proof.Machine

variable {s t : State} {p : Nat}

/-! ## Tables and registers -/

/-- A key whose entries are all kept reads as before. -/
theorem tget_filter_keep {α : Type} {f : Nat × α → Bool} {k : Nat} (h : ∀ v, f (k, v) = true) (t : Tbl α) (d : α) :
    tget (t.filter f) d k = tget t d k := by
  induction t with
  | nil => rfl
  | cons e r ih =>
    by_cases hk : e.1 = k
    · subst hk
      simp [h e.2, tget_cons]
    · by_cases hf : f e = true <;> simp [hf, tget_cons, hk, ih]

/-- A key whose entries are all dropped reads as an unlisted one. -/
theorem tget_filter_drop {α : Type} {f : Nat × α → Bool} {k : Nat} (h : ∀ v, f (k, v) = false) (t : Tbl α) (d : α) :
    tget (t.filter f) d k = d := by
  induction t with
  | nil => rfl
  | cons e r ih =>
    by_cases hf : f e = true
    · have hk : e.1 ≠ k := by
        rintro rfl
        simp [h e.2] at hf
      simp [hf, tget_cons, hk, ih]
    · simp [hf, ih]

theorem natBit_eq_bits (n i : Nat) : natBit n i = (bits n i 1 == 1) := rfl

/-- A bit beside the one written stays. -/
theorem State.bit_setBit_other (s : State) {a i j : Nat} (v : Bool) (hj : j < 32) (h : i ≠ j) :
    (s.setBit a j v).bit a i = s.bit a i := by
  rw [State.bit, State.rn_setBit _ _ _ _ hj, natBit_eq_bits, State.bit, natBit_eq_bits]
  rcases Nat.lt_or_gt_of_ne h with hlt | hgt
  · rw [bits_setBits_low hlt]
  · rw [bits_setBits_high hgt]

/-- A frame that leaves both ports alone keeps each of them. -/
theorem State.Frame.port {ps : List Part} {rs : List Nat} (h : s.Frame t ps rs) (hA : .hpA ∉ ps) (hB : .hpB ∉ ps)
    (p : Nat) : t.port p = s.port p := by
  unfold State.port
  rw [h.hpA.resolve_left hA, h.hpB.resolve_left hB]

/-- A frame that leaves the gates alone keeps each of them. -/
theorem State.Frame.gate {ps : List Part} {rs : List Nat} (h : s.Frame t ps rs) (hg : .gates ∉ ps) (n : Nat) :
    t.gate n = s.gate n := by
  rw [State.gate, State.gate, h.gates.resolve_left hg]

/-! ## The block's registers at their Reset column -/

/-- The offsets of port `p`'s block above ID. -/
def portRegs (p : Nat) : List Nat := List.range' (R.HP_ID p + 4) 0xFFFC

/-- The length of the range is a variable here, as the kernel would count a numeral out. -/
theorem mem_range'_above {a lo n : Nat} (h : 4 + n = 0x10000) :
    a ∈ List.range' (lo + 4) n ↔ lo + 4 ≤ a ∧ a < lo + 0x10000 := by
  rw [List.mem_range'_1, Nat.add_assoc, h]

theorem mem_portRegs {a : Nat} : a ∈ portRegs p ↔ R.HP_ID p + 4 ≤ a ∧ a < R.HP_ID p + 0x10000 :=
  mem_range'_above rfl

theorem rd_hpReset_of_mem {a : Nat} (h : a ∈ portRegs p) : (s.hpReset p).rd a = regReset a := by
  obtain ⟨hlo, hhi⟩ := mem_portRegs.1 h
  refine tget_filter_drop (fun v => ?_) s.regs _
  rw [Bool.or_eq_false_iff]
  exact ⟨Bool.eq_false_iff.2 fun h => Nat.not_lt.2 hlo (Nat.blt_eq ▸ h),
    Bool.eq_false_iff.2 fun h => Nat.not_le.2 hhi (Nat.ble_eq ▸ h)⟩

theorem rd_hpReset_of_not_mem {a : Nat} (h : a ∉ portRegs p) : (s.hpReset p).rd a = s.rd a := by
  refine tget_filter_keep (fun v => ?_) s.regs _
  rw [mem_portRegs] at h
  simp only [Bool.or_eq_true, Nat.blt_eq, Nat.ble_eq]
  omega

theorem frame_hpReset (s : State) (p : Nat) : s.Frame (s.hpReset p) [] (portRegs p) := by
  constructor <;> simp +contextual [State.hpReset]
  exact fun a ha => rd_hpReset_of_not_mem ha

/-! ## The gates of a port released (R94) -/

/-- Gate `n` released where port `p` holds it. -/
def State.releaseHeld (p : Nat) (s : State) (n : Nat) : State := if s.holds p n then s.releaseGate n else s

/-- A gate without a holder or a lease. -/
def Gate.freed (g : Gate) : Gate := { g with holder := none, leaseMs := 0, endNs := 0 }

/-- Gate `n` as the reset of port `p` leaves it. -/
def State.gateWithout (s : State) (p n : Nat) : Gate := if s.holds p n then (s.gate n).freed else s.gate n

theorem gate_releaseHeld_same (s : State) (p n : Nat) : (s.releaseHeld p n).gate n = s.gateWithout p n := by
  unfold State.releaseHeld State.gateWithout
  split
  · exact State.gate_setGate_same _ _ _
  · rfl

theorem gate_releaseHeld_other {n m : Nat} (h : n ≠ m) : (s.releaseHeld p m).gate n = s.gate n := by
  unfold State.releaseHeld
  split
  · exact State.gate_setGate_other _ _ h
  · rfl

/-- What `gateWithout` gives depends on the gate alone. -/
theorem gateWithout_congr {n : Nat} (h : t.gate n = s.gate n) : t.gateWithout p n = s.gateWithout p n := by
  unfold State.gateWithout State.holds
  rw [h]

/-- A gate that is not held is not released again. -/
theorem gateWithout_idem {n : Nat} (h : t.gate n = s.gateWithout p n) : t.gateWithout p n = s.gateWithout p n := by
  by_cases hh : s.holds p n = true
  · have hfree : t.holds p n = false := by rw [State.holds, h, State.gateWithout, if_pos hh]; rfl
    rw [State.gateWithout, hfree, ← h]
    rfl
  · exact gateWithout_congr (h.trans (if_neg hh))

theorem gate_foldl_releaseHeld (p n : Nat) (l : List Nat) (s : State) :
    (l.foldl (State.releaseHeld p) s).gate n = if n ∈ l then s.gateWithout p n else s.gate n := by
  induction l generalizing s with
  | nil => simp
  | cons m l ih =>
    rw [List.foldl_cons, ih]
    by_cases hm : n = m
    · subst hm
      have hg := gate_releaseHeld_same s p n
      simp [gateWithout_idem hg, hg]
    · have hg := gate_releaseHeld_other (s := s) (p := p) hm
      simp [hm, hg, gateWithout_congr hg]

theorem gate_releasePort (s : State) (p : Nat) (n : Fin 64) : (s.releasePort p).gate n = s.gateWithout p n :=
  (gate_foldl_releaseHeld p n (List.range 64) s).trans (if_pos (List.mem_range.2 n.isLt))

theorem frame_releasePort (s : State) (p : Nat) : s.Frame (s.releasePort p) [.gates] [] := by
  refine State.Frame.foldl (f := State.releaseHeld p) (fun t n => ?_) _ s
  unfold State.releaseHeld
  split
  · exact frame_releaseGate t n
  · exact (State.Frame.refl t).mono (by simp) (by simp)

/-- A released gate keeps its generation, and its holder where that is the other port. -/
theorem gateWithout_gen_holder (s : State) (p n : Nat) : (s.gateWithout p n).gen = (s.gate n).gen
    ∧ (s.gateWithout p n).holder = if s.holds p n then none else (s.gate n).holder := by
  unfold State.gateWithout
  split <;> exact ⟨rfl, rfl⟩

/-! ## The reset of a port (R57, R90) -/

theorem frame_portReset (s : State) (p : Nat) : s.Frame (s.portReset p) [Part.port p, .gates] (portRegs p) :=
  (((frame_hpReset s p).trans (frame_setPort _ p {})).trans (frame_releasePort _ p)).mono (by simp) (by simp)

theorem port_portReset (s : State) (p : Nat) : (s.portReset p).port p = {} :=
  ((frame_releasePort _ p).port (by simp) (by simp) p).trans (State.setPort_same _ p {})

theorem rd_portReset {a : Nat} (h : a ∈ portRegs p) : (s.portReset p).rd a = regReset a :=
  calc (s.portReset p).rd a = ((s.hpReset p).setPort p {}).rd a := (frame_releasePort _ p).regs a (by simp) (by simp)
    _ = (s.hpReset p).rd a := (frame_setPort _ p {}).regs a (by simp) (by unfold Part.port; split <;> simp)
    _ = regReset a := rd_hpReset_of_mem h

theorem rd_portReset_of_not_mem {a : Nat} (h : a ∉ portRegs p) : (s.portReset p).rd a = s.rd a :=
  (frame_portReset s p).regs a h (by unfold Part.port; split <;> simp)

theorem gate_portReset (s : State) (p : Nat) (n : Fin 64) : (s.portReset p).gate n = s.gateWithout p n := by
  have hg : ((s.hpReset p).setPort p {}).gate n = s.gate n :=
    ((frame_hpReset s p).trans (frame_setPort _ p {})).gate (by unfold Part.port; split <;> simp) n
  exact (gate_releasePort _ p n).trans (gateWithout_congr hg)

/-! ## The link shown in ID, and the reference clock (R47, R62, R99) -/

/-- LINK_UP, WIDTH and SPEED of the port's ID. -/
def State.linkShown (s : State) (p up width speed : Nat) : State :=
  ((s.p (F.HP_ID_LINK_UP p) up).p (F.HP_ID_WIDTH p) width).p (F.HP_ID_SPEED p) speed

theorem linkDown_eq (s : State) (p : Nat) : s.linkDown p = s.linkShown p 0 0 0 := rfl

theorem frame_linkShown (s : State) (p up width speed : Nat) :
    s.Frame (s.linkShown p up width speed) [] [R.HP_ID p] :=
  (((frame_p s (F.HP_ID_LINK_UP p) up).trans (frame_p _ (F.HP_ID_WIDTH p) width)).trans
    (frame_p _ (F.HP_ID_SPEED p) speed)).mono (by simp)
    (by simp [F.HP_ID_LINK_UP, F.HP_ID_WIDTH, F.HP_ID_SPEED])

/-- A field of a register that another field of it was written beside. -/
theorem State.g_p_beside (s : State) (a v : Nat) {lo w lo' w' : Nat} (h : lo + w ≤ 32)
    (hd : lo + w ≤ lo' ∨ lo' + w' ≤ lo) : (s.p ⟨a, lo, w⟩ v).g ⟨a, lo', w'⟩ = s.g ⟨a, lo', w'⟩ :=
  State.g_p_apart s (f := ⟨a, lo, w⟩) v h rfl hd

/-- The three fields lie apart in ID, so each shows what was written into it. -/
theorem g_linkShown (s : State) (p up width speed : Nat) :
    (s.linkShown p up width speed).g (F.HP_ID_LINK_UP p) = up % 2
      ∧ (s.linkShown p up width speed).g (F.HP_ID_WIDTH p) = width % 4
      ∧ (s.linkShown p up width speed).g (F.HP_ID_SPEED p) = speed % 8 := by
  unfold State.linkShown F.HP_ID_LINK_UP F.HP_ID_WIDTH F.HP_ID_SPEED
  refine ⟨?_, ?_, State.g_p_same _ ⟨R.HP_ID p, 0, 3⟩ _ (show 0 + 3 ≤ 32 by decide)⟩
  · rw [State.g_p_beside _ _ _ (by decide) (by decide), State.g_p_beside _ _ _ (by decide) (by decide)]
    exact State.g_p_same s ⟨R.HP_ID p, 9, 1⟩ up (show 9 + 1 ≤ 32 by decide)
  · rw [State.g_p_beside _ _ _ (by decide) (by decide)]
    exact State.g_p_same _ ⟨R.HP_ID p, 4, 2⟩ width (show 4 + 2 ≤ 32 by decide)

theorem frame_refClock (s : State) (p : Nat) (on : Bool) : s.Frame (s.refClock p on) [] [R.PCR_PLL_STATUS] :=
  (frame_setBit s _ _ on).comp (frame_setBit _ _ _ on)

theorem bit_refClock (s : State) (p : Fin 2) (on : Bool) : (s.refClock p on).bit R.PCR_PLL_STATUS (6 + p.val) = on := by
  unfold State.refClock
  rw [State.bit_setBit_other _ on (by omega) (by omega)]
  exact State.bit_setBit _ _ _ _ (by omega)

theorem frame_resetClock (s : State) (p : Nat) (k : PortResetKind) :
    s.Frame (s.resetClock p k) [] [R.PCR_PLL_STATUS] := by
  cases k with
  | perst clock => exact frame_refClock s p clock
  | hot => exact (State.Frame.refl s).mono (by simp) (by simp)
  | linkDown clock => exact frame_refClock s p clock

/-- ID is not PCR_PLL_STATUS, so the clocks leave the link as ID shows it. -/
theorem hpId_ne_pll (p : Fin 2) : R.HP_ID p ≠ R.PCR_PLL_STATUS := by
  simp only [R.HP_ID, R.PCR_PLL_STATUS]
  omega

theorem g_of_frame_pll {p : Fin 2} (h : s.Frame t [] [R.PCR_PLL_STATUS]) {f : Fld} (hf : f.off = R.HP_ID p) :
    t.g f = s.g f :=
  State.g_congr f (h.regs _ (by simpa [hf] using hpId_ne_pll p) (by simp))

/-! ## The commands -/

/-- The state that PORT_RESET leaves. -/
def State.resetPort (s : State) (p : Nat) (k : PortResetKind) : State := ((s.portReset p).linkDown p).resetClock p k

theorem exec_portReset {p : Fin 2} {k : PortResetKind} (h : s.pwr.railsOff = false) :
    exec (.portReset p k) s = .next (s.resetPort p k) := congrArg Host.Outcome.next (if_neg (by simp [h]))

theorem exec_functionLevelReset {p : Fin 2} (h : s.linkUp p = true) :
    exec (.functionLevelReset p) s = .next (s.portReset p) := congrArg Host.Outcome.next (if_pos h)

theorem exec_hostLinkUp {p : Fin 2} {wide : Bool} {speed : Fin 4} (h : s.pwr.railsOff = false) :
    exec (.hostLinkUp p wide speed) s
      = .next ((s.linkShown p 1 (if wide then 2 else 1) (speed.val + 1)).refClock p true) := if_neg (by simp [h])

/-- After the reset of the port itself, PORT_RESET changes ID and PCR_PLL_STATUS. -/
theorem frame_resetPort_of_portReset (s : State) (p : Nat) (k : PortResetKind) :
    (s.portReset p).Frame (s.resetPort p k) [] [R.HP_ID p, R.PCR_PLL_STATUS] :=
  ((frame_linkShown _ p 0 0 0).trans (frame_resetClock _ p k)).mono (by simp) (by simp)

theorem linkUp_resetPort (s : State) (p : Fin 2) (k : PortResetKind) : (s.resetPort p k).linkUp p = false := by
  have hg : (s.resetPort p k).g (F.HP_ID_LINK_UP p) = 0 :=
    (g_of_frame_pll (p := p) (frame_resetClock _ p k) rfl).trans (g_linkShown (s.portReset p) p 0 0 0).1
  simp [State.linkUp, hg]

theorem not_mem_portRegs_pll (p : Fin 2) : R.PCR_PLL_STATUS ∉ portRegs p := by
  rw [mem_portRegs]
  simp only [R.HP_ID, R.PCR_PLL_STATUS]
  omega

theorem not_mem_of_mem_portRegs {p : Fin 2} {a : Nat} (h : a ∈ portRegs p) : a ∉ [R.HP_ID p, R.PCR_PLL_STATUS] := by
  have hpll := not_mem_portRegs_pll p
  have hlo := (mem_portRegs.1 h).1
  simp only [List.mem_cons, List.not_mem_nil, or_false, not_or]
  exact ⟨by omega, fun e => hpll (e ▸ h)⟩

theorem portRegs_subset (p : Nat) : portRegs p ⊆ List.range' (R.HP_ID p) 0x10000 := by
  intro a ha
  have hb := mem_portRegs.1 ha
  rw [List.mem_range'_1]
  omega

theorem frame_resetPort (s : State) (p : Nat) (k : PortResetKind) :
    s.Frame (s.resetPort p k) [Part.port p, .gates] (R.PCR_PLL_STATUS :: List.range' (R.HP_ID p) 0x10000) := by
  have hid : R.HP_ID p ∈ List.range' (R.HP_ID p) 0x10000 := List.mem_range'_1.2 (by omega)
  refine ((frame_portReset s p).trans (frame_resetPort_of_portReset s p k)).mono (by simp) ?_
  refine List.append_subset.2 ⟨fun a ha => List.mem_cons_of_mem _ (portRegs_subset p ha), fun a ha => ?_⟩
  rcases List.mem_cons.1 ha with rfl | ha
  · exact List.mem_cons_of_mem _ hid
  · exact List.mem_cons.2 (.inl (List.mem_singleton.1 ha))

/-- Settles O5: the reset of a port is the reset of its block, its state and its gates; ID and PCR_PLL_STATUS, which lie
outside the block's other registers, show the link and the clock. -/
theorem portResetsAndLink : Obligations.PortResetsAndLink := by
  refine ⟨fun s p k hr => ?portReset, fun s p hu => ?functionLevel, fun s p wide speed hr => ?linkUp⟩
  case portReset =>
    have hf := frame_resetPort_of_portReset s p k
    refine ⟨_, exec_portReset hr, ?_, linkUp_resetPort s p k, ?_, ?_, fun a hlo hhi => ?_, fun n => ?_,
      frame_resetPort s p k⟩
    · exact (hf.port (by simp) (by simp) p).trans (port_portReset s p)
    · rintro clock (rfl | rfl)
      · exact bit_refClock _ p clock
      · exact bit_refClock _ p clock
    · rintro rfl
      exact ((frame_linkShown (s.portReset p) p 0 0 0).regs _ (by simpa using (hpId_ne_pll p).symm) (by simp)).trans
        (rd_portReset_of_not_mem (not_mem_portRegs_pll p))
    · have ha : a ∈ portRegs p := mem_portRegs.2 ⟨hlo, hhi⟩
      exact (hf.regs a (not_mem_of_mem_portRegs ha) (by simp)).trans (rd_portReset ha)
    · rw [hf.gate (by simp), gate_portReset]
      exact gateWithout_gen_holder s p n
  case functionLevel =>
    refine ⟨_, exec_functionLevelReset hu, port_portReset s p, ?_, fun a hlo hhi => ?_, fun n => ?_,
      frame_portReset s p⟩
    · exact rd_portReset_of_not_mem (by rw [mem_portRegs]; omega)
    · exact rd_portReset (mem_portRegs.2 ⟨hlo, hhi⟩)
    · rw [gate_portReset]
      exact gateWithout_gen_holder s p n
  case linkUp =>
    have hc := frame_refClock (s.linkShown p 1 (if wide then 2 else 1) (speed.val + 1)) p true
    obtain ⟨hup, hwidth, hspeed⟩ := g_linkShown s p 1 (if wide then 2 else 1) (speed.val + 1)
    refine ⟨_, exec_hostLinkUp hr, ?_, ?_, ?_, bit_refClock _ p true, ?_⟩
    · rw [State.linkUp, g_of_frame_pll (p := p) hc rfl, hup]
      rfl
    · rw [g_of_frame_pll (p := p) hc rfl, hwidth]
      split <;> rfl
    · rw [g_of_frame_pll (p := p) hc rfl, hspeed]
      omega
    · exact ((frame_linkShown s p _ _ _).trans hc).mono (by simp) (by simp)

end Sys2Proof.Machine
end

section
/-! # Power failure in SERVICE (R51, R453)

A detection in SERVICE abandons the tests that run, and with them the marks in `scn.pairTest` of the tests that are
older than a pair's fault. The statement's frame leaves `scn` out, so that it fails wherever such a mark stands. -/

namespace Sys2Proof.Machine

variable {s t : State}

/-! ## What the parts of the detection do to `scn` -/

/-- A frame without `scn` keeps the marks of the pairs' self-tests. -/
theorem State.Frame.pairTest {ps : List Part} {rs : List Nat} (h : s.Frame t ps rs) (hs : .scn ∉ ps) :
    t.scn.pairTest = s.scn.pairTest := by
  rcases h.scn with hm | ⟨-, he⟩ | he
  · exact absurd hm hs
  · rw [he]
  · rw [he]

/-- Abandoned tests are targets of `saf`; of `scn` the marks above those of the pairs' own faults fall. -/
theorem scn_asyAbandon (s : State) : s.asyAbandon.scn = { s.scn with pairTest := s.scn.pairTest % 16 } := by
  unfold State.asyAbandon
  refine List.foldlRecOn (motive := fun u => State.scn u = { s.scn with pairTest := s.scn.pairTest % 16 }) _ _ rfl
    (fun u hu t _ => ?_)
  dsimp only
  split
  · exact hu
  · exact hu

theorem scn_mtrShow (s : State) : s.mtrShow.scn = s.scn := by
  unfold State.mtrShow
  have hch : ∀ f : State → Nat → State, (∀ u c, (f u c).scn = u.scn) → ((List.range 48).foldl f s).scn = s.scn :=
    fun f hf => List.foldlRecOn (motive := fun u => State.scn u = s.scn) _ f rfl (fun u hu c _ => (hf u c).trans hu)
  dsimp only
  split
  all_goals
    rw [State.wn_scn, State.p_scn]
    refine hch _ fun u c => ?_
    rw [State.p_scn, State.p_scn]

theorem scn_mtrAbandon (s : State) : s.mtrAbandon.scn = s.scn := by
  unfold State.mtrAbandon
  split
  · exact scn_mtrShow _
  · rfl

theorem scn_mtrCut (s : State) : s.mtrCut.scn = s.scn := by
  unfold State.mtrCut
  split
  · rfl
  · rfl

theorem frame_recordNow (s : State) (code p0 p1 : Nat) :
    s.Frame (s.recordNow code p0 p1) Part.records [R.LOG_EVENT, R.PMON_HALF] :=
  (frame_post s code 37 0 p0 p1 0 0).comp (frame_logFlush _)

/-! ## The detection -/

/-- The phase of a detection in SERVICE: HOLDUP, noted as begun in SERVICE (R51). -/
def State.failHeld (s : State) (vin bank : Nat) : State :=
  let held := (s.failSeen vin bank).p F.PCR_STATUS_PHASE 6
  { held with pwr := { held.pwr with inService := true } }

theorem frame_pwr (s : State) (x : PwrS) : s.Frame { s with pwr := x } [.pwr] [] := by
  constructor <;> simp [State.rd]

theorem frame_supply (s : State) (vin bank : Nat) : s.Frame (s.supply vin bank) [] [R.PCR_VIN, R.PCR_STATUS] := by
  unfold State.supply
  exact (((frame_p s F.PCR_VIN_VIN vin).trans (frame_p _ F.PCR_VIN_BANK bank)).trans
    (frame_p _ F.PCR_STATUS_BANK_CHARGED _)).mono (by simp)
    (by simp [F.PCR_VIN_VIN, F.PCR_VIN_BANK, F.PCR_STATUS_BANK_CHARGED])

theorem frame_failSeen (s : State) (vin bank : Nat) :
    s.Frame (s.failSeen vin bank) [.pwr] [R.PCR_VIN, R.PCR_STATUS, R.PCR_PFAIL_CNT] := by
  unfold State.failSeen
  exact (((((frame_supply s vin bank).trans (frame_inc _ R.PCR_PFAIL_CNT 1)).trans
    (frame_p _ F.PCR_STATUS_PFAIL 1)).trans (frame_p _ F.PCR_STATUS_VIN_OK 0)).trans (frame_pwr _ _)).mono (by simp)
    (by simp [F.PCR_STATUS_PFAIL, F.PCR_STATUS_VIN_OK])

theorem frame_failHeld (s : State) (vin bank : Nat) :
    s.Frame (s.failHeld vin bank) [.pwr] [R.PCR_VIN, R.PCR_STATUS, R.PCR_PFAIL_CNT] := by
  unfold State.failHeld
  exact (((frame_failSeen s vin bank).trans (frame_p _ F.PCR_STATUS_PHASE 6)).trans (frame_pwr _ _)).mono (by simp)
    (by simp [F.PCR_STATUS_PHASE])

theorem exec_powerFailDetect {vin bank : Fin 65536} (hf : s.g F.PCR_STATUS_PFAIL = 0) (ho : s.pwr.railsOff = false)
    (hr : s.pwr.resetting = false) (hp : s.phase = 5) :
    exec (.powerFailDetect vin bank) s = .next
      (((s.failHeld vin bank).asyAbandon.mtrAbandon.recordNow 0x0001 vin bank).mtrCut.report 13 37 0 0) := by
  change execPowerFailDetect vin bank s = _
  unfold execPowerFailDetect
  rw [if_neg (by simp [hf, ho])]
  simp only [hr, hp, Bool.false_eq_true, if_false]
  rfl

/-- After a detection in SERVICE only the marks of the pairs' own faults are left. -/
theorem pairTest_powerFailDetect {vin bank : Fin 65536} (hf : s.g F.PCR_STATUS_PFAIL = 0)
    (ho : s.pwr.railsOff = false) (hr : s.pwr.resetting = false) (hp : s.phase = 5)
    (he : exec (.powerFailDetect vin bank) s = .next t) : t.scn.pairTest = s.scn.pairTest % 16 := by
  rw [exec_powerFailDetect hf ho hr hp] at he
  cases he
  calc _ = ((s.failHeld vin bank).asyAbandon.mtrAbandon.recordNow 0x0001 vin bank).scn.pairTest := by
        rw [State.report_scn, scn_mtrCut]
    _ = (s.failHeld vin bank).asyAbandon.mtrAbandon.scn.pairTest := (frame_recordNow _ _ _ _).pairTest (by decide)
    _ = (s.failHeld vin bank).scn.pairTest % 16 := by rw [scn_mtrAbandon, scn_asyAbandon]
    _ = s.scn.pairTest % 16 := by rw [(frame_failHeld s vin bank).pairTest (by decide)]

/-! ## The counterexample -/

/-- SERVICE, and the self-test of SP0 runs. -/
def testingSP0 : State := { wSvc with saf := { wSvc.saf with targets := [(0, { st := 2 })] } }

/-- The fault of SP0 that a miscompare reports (R135). -/
def faultSP0 : FaultRep := ⟨1, 0, 0, 0⟩

/-- `testingSP0` once that fault has been declared: a self-test must pass after the one that runs. -/
def faultedSP0 : State := testingSP0.declare faultSP0 none

/-- One command leads to the counterexample. -/
theorem exec_faultDeclare_testingSP0 : exec (.faultDeclare (some faultSP0) none) testingSP0 = .next faultedSP0 :=
  congrArg Host.Outcome.next (if_pos (by decide))

theorem faultedSP0_inService : faultedSP0.g F.PCR_STATUS_PFAIL = 0 ∧ faultedSP0.pwr.railsOff = false
    ∧ faultedSP0.pwr.resetting = false ∧ faultedSP0.phase = 5 := by decide +kernel

/-- Bit 0 marks the test that must pass, bit 4 the older one. -/
theorem faultedSP0_pairTest : faultedSP0.scn.pairTest = 17 := by decide +kernel

/-- Refutes O10: in SERVICE, with a self-test of SP0 running that is older than a declared fault of SP0, a detection
clears that test's mark in `scn.pairTest` (17 becomes 1), and the first clause's frame has `scn` unchanged. -/
theorem not_powerFailureAndReturn : ¬ Obligations.PowerFailureAndReturn := by
  rintro ⟨hdetect, -⟩
  obtain ⟨hpfail, hoff, hres, hphase⟩ := faultedSP0_inService
  obtain ⟨t, he, -, -, -, -, -, -, -, -, hframe⟩ := hdetect faultedSP0 1600 3200 hpfail hoff hres hphase
  have hkept : t.scn.pairTest = 17 := (hframe.pairTest (by decide)).trans faultedSP0_pairTest
  have hcut : t.scn.pairTest = 17 % 16 := faultedSP0_pairTest ▸ pairTest_powerFailDetect hpfail hoff hres hphase he
  omega

end Sys2Proof.Machine
end

section
/-! # Slots written (R87, R102, R107, R108, R119, R128, R131)

What a write of slots does to each slot, and what it leaves as it was: for one slot, for the listed slots of a block, and
for the ownership operations that write a block's slots one after another. -/

namespace Sys2Proof.Machine

variable {α : Type} {s t : State} {i j : Nat}

/-! ## Entries of a table -/

/-- A key that does not read as the unlisted value is listed. -/
theorem mem_of_tget_ne {l : Tbl α} {d : α} {k : Nat} (h : tget l d k ≠ d) : (k, tget l d k) ∈ l := by
  induction l with
  | nil => exact absurd rfl h
  | cons p r ih =>
    rw [tget_cons] at h ⊢
    split at h
    · next hk => simp [← hk]
    · next hk => rw [if_neg hk]; exact List.mem_cons_of_mem _ (ih h)

/-- In a table whose keys rise, an entry is what its key reads as. -/
theorem tget_eq_of_mem {l : Tbl α} (h : l.Pairwise (fun p q => p.1 < q.1)) {p : Nat × α} (hp : p ∈ l) (d : α) :
    tget l d p.1 = p.2 := by
  induction l with
  | nil => simp at hp
  | cons q r ih =>
    obtain ⟨hq, hr⟩ := List.pairwise_cons.1 h
    rcases List.mem_cons.1 hp with rfl | hp
    · exact if_pos rfl
    · exact (if_neg (Nat.ne_of_lt (hq p hp))).trans (ih hr hp)

/-- Of a table with one entry inserted, a filter that passes no other entry leaves that one. -/
theorem filter_tins {f : Nat × α → Bool} {k : Nat} {v : α} {l : Tbl α} (hl : ∀ p ∈ l, f p = false)
    (hk : f (k, v) = true) : (tins k v l).filter f = [(k, v)] := by
  induction l with
  | nil => simp [tins, hk]
  | cons q r ih =>
    have hq := hl q (by simp)
    have hr : ∀ p ∈ r, f p = false := fun p hp => hl p (by simp [hp])
    simp only [tins]
    split
    · simpa [List.filter_cons, hk, hq] using hr
    · rw [List.filter_cons, hq]
      exact ih hr

/-! ## What a frame says of slots, owners and fields -/

theorem State.slot_congr (h : t.pix.slots = s.pix.slots) (i : Nat) : t.slot i = s.slot i := by
  rw [State.slot, State.slot, h]

theorem State.Frame.slot {ps : List Part} {rs : List Nat} (h : s.Frame t ps rs) (hp : .pix ∉ ps) (i : Nat) :
    t.slot i = s.slot i := State.slot_congr (congrArg PixS.slots (h.pix.resolve_left hp)) i

theorem State.Frame.rep_eq {ps : List Part} {rs : List Nat} (h : s.Frame t ps rs) (hp : .rep ∉ ps) : t.rep = s.rep :=
  h.rep.resolve_left hp

theorem State.Frame.ownOf {ps : List Part} {rs : List Nat} (h : s.Frame t ps rs) (hp : .rep ∉ ps) (b : Nat) :
    t.ownOf b = s.ownOf b := by rw [State.ownOf, State.ownOf, h.rep_eq hp]

theorem State.Frame.field {ps : List Part} {rs : List Nat} (h : s.Frame t ps rs) {f : Fld} (hr : f.off ∉ rs)
    (hp : .page (f.off / 65536) ∉ ps) : t.g f = s.g f := State.g_congr f (h.regs _ hr hp)

/-- An event raised shows in its status register (R92). -/
theorem State.bit_raise (s : State) (e : EvPort) {b : Nat} (hb : b < 32) : (s.raise e b).bit e.ev b = true := by
  have hr : (s.raise e b).rd e.ev = (s.setBit e.ev b true).rd e.ev :=
    (frame_edgeFrom (s.setBit e.ev b true) e.src _).regs _ (by simp) (by simp)
  rw [State.bit, State.rn, hr]
  exact s.bit_setBit e.ev b true hb

/-- Registers that a frame keeps keep their bits. -/
theorem State.Frame.bit {ps : List Part} {rs : List Nat} (h : s.Frame t ps rs) {a : Nat} (b : Nat) (hr : a ∉ rs)
    (hp : .page (a / 65536) ∉ ps) : t.bit a b = s.bit a b := by rw [State.bit, State.bit, State.rn, State.rn, h.regs a hr hp]

/-! ## One slot put into the image, and one written through the arbiter -/

theorem slot_putSlot (s : State) (i j : Nat) (x : Slot) : (s.putSlot i x).slot j = if j = i then x else s.slot j :=
  tget_tset _ _ _ _ _

theorem frame_putSlot (s : State) (i : Nat) (x : Slot) : s.Frame (s.putSlot i x) [.pix] [] := frame_pix _ _

/-- What a write through the arbiter makes of the image: the slot, its CRC anew, and no reported fault of it (R131). -/
def State.written (s : State) (i : Nat) (x : Slot) : PixS :=
  { s.pix with slots := tset s.pix.slots {} i { x with badCrc := none }, faulted := s.pix.faulted.filter (fun j => j != i) }

/-- The state between the write of a slot and the triggers it causes: its image is `State.written`, and the subscriptions
have been notified where a watched part has changed (R87). -/
def State.writtenTold (s : State) (i : Nat) (x : Slot) : State :=
  if (s.slot i).seenChange x then ({ s with pix := s.written i x } : State).notify i else { s with pix := s.written i x }

theorem store_eq (s : State) (i : Nat) (x : Slot) : s.store i x
    = if (s.slot i).value != x.value || (s.slot i).quality != x.quality then (s.writtenTold i x).trigger 1 i
      else s.writtenTold i x := rfl

theorem pix_writtenTold (s : State) (i : Nat) (x : Slot) : (s.writtenTold i x).pix = s.written i x := by
  unfold State.writtenTold
  split <;> rfl

theorem frame_notify (s : State) (i : Nat) : s.Frame (s.notify i) [.hpA, .hpB] [] := by
  constructor <;> simp [State.notify, State.rd]

theorem frame_writtenTold (s : State) (i : Nat) (x : Slot) : s.Frame (s.writtenTold i x) [.pix, .hpA, .hpB] [] := by
  unfold State.writtenTold
  split
  · exact (frame_pix s _).trans (frame_notify _ i)
  · exact (frame_pix s _).mono (by simp) (by simp)

theorem pix_store (s : State) (i : Nat) (x : Slot) : (s.store i x).pix = s.written i x := by
  rw [store_eq]
  split
  · exact ((frame_trigger _ 1 i).pix.resolve_left (by simp)).trans (pix_writtenTold s i x)
  · exact pix_writtenTold s i x

theorem slot_store (s : State) (i j : Nat) (x : Slot) :
    (s.store i x).slot j = if j = i then { x with badCrc := none } else s.slot j := by
  rw [State.slot, pix_store]
  exact tget_tset _ _ _ _ _

/-- A write of a slot changes the image, the notifications of both ports and the waiting triggers, and no register. -/
theorem frame_store (s : State) (i : Nat) (x : Slot) : s.Frame (s.store i x) Part.slots [] := by
  rw [store_eq]
  split
  · exact ((frame_writtenTold s i x).trans (frame_trigger _ 1 i)).mono (by simp [Part.slots, Part.counts]) (by simp)
  · exact (frame_writtenTold s i x).mono (by simp [Part.slots]) (by simp)

/-! ## The listed slots of a block -/

theorem ne_of_present {x : Slot} (h : x.present = true) : x ≠ {} := by
  rintro rfl
  simp [Slot.present] at h

theorem mem_slotsOf (h : (s.slot i).present = true) : i ∈ s.slotsOf (i / 1024) :=
  List.mem_map.2 ⟨_, List.mem_filter.2 ⟨mem_of_tget_ne (ne_of_present h), by simp⟩, rfl⟩

theorem div_of_mem_slotsOf {b : Nat} (h : i ∈ s.slotsOf b) : i / 1024 = b := by
  simp only [State.slotsOf, List.mem_map, List.mem_filter, beq_iff_eq] at h
  obtain ⟨e, ⟨-, he⟩, rfl⟩ := h
  exact he

/-- Slots written one after another, each alone: a slot that is not named stays. -/
theorem slot_foldl_other {g : State → Nat → State} (hg : ∀ t k, i ≠ k → (g t k).slot i = t.slot i) {l : List Nat}
    (hi : i ∉ l) (s : State) : (l.foldl g s).slot i = s.slot i := by
  induction l generalizing s with
  | nil => rfl
  | cons k l ih =>
    obtain ⟨hk, hl⟩ := not_or.1 (fun h => hi (List.mem_cons.2 h))
    exact (ih hl (g s k)).trans (hg s k hk)

/-- Slots written one after another, each alone: where a write changes the part `c` of its slot by `f`, and `f` done twice is
`f`, every named slot has been changed by `f` once. -/
theorem view_foldl {c : Slot → α} {f : α → α} {g : State → Nat → State} {i : Nat}
    (hg : ∀ t k, c ((g t k).slot i) = if i = k then f (c (t.slot i)) else c (t.slot i)) (hf : ∀ x, f (f x) = f x)
    (l : List Nat) (s : State) : c ((l.foldl g s).slot i) = if i ∈ l then f (c (s.slot i)) else c (s.slot i) := by
  induction l generalizing s with
  | nil => simp
  | cons k l ih =>
    rw [List.foldl_cons, ih, hg]
    by_cases hk : i = k
    · subst hk
      simp [hf]
    · simp [hk]

/-! ## Slots made STALE (R119, R120, R131) -/

/-- A present slot as it is when made STALE; an absent one stays. -/
def Slot.staled (x : Slot) : Slot := if x.present then { x with quality := 4, badCrc := none } else x

theorem Slot.staled_staled (x : Slot) : x.staled.staled = x.staled := by
  unfold Slot.staled
  by_cases h : x.present = true
  · rw [if_pos h]
    rfl
  · simp only [if_neg h]

@[simp] theorem Slot.staled_value (x : Slot) : x.staled.value = x.value := by
  unfold Slot.staled
  split <;> rfl

theorem Slot.staled_quality (x : Slot) : x.staled.quality = if x.present = true then 4 else x.quality := by
  unfold Slot.staled
  split <;> rfl

theorem slot_stale (s : State) (k i : Nat) : (s.stale k).slot i = if i = k then (s.slot i).staled else s.slot i := by
  unfold State.stale Slot.staled
  simp only
  by_cases h : i = k
  · subst h
    split <;> simp [slot_store]
  · split <;> simp [slot_store, h]

theorem frame_stale (s : State) (i : Nat) : s.Frame (s.stale i) Part.slots [] := by
  unfold State.stale
  simp only
  split
  · exact frame_store _ _ _
  · exact (State.Frame.refl s).mono (by simp) (by simp)

/-- The slots of a list made STALE. -/
def State.staleAll (s : State) (l : List Nat) : State := l.foldl (fun t i => t.stale i) s

theorem slot_staleAll (s : State) (l : List Nat) (i : Nat) :
    (s.staleAll l).slot i = if i ∈ l then (s.slot i).staled else s.slot i :=
  view_foldl (c := id) (fun t k => slot_stale t k i) Slot.staled_staled l s

theorem frame_staleAll (s : State) (l : List Nat) : s.Frame (s.staleAll l) Part.slots [] := .foldl frame_stale l s

theorem value_staleAll (s : State) (l : List Nat) (i : Nat) : ((s.staleAll l).slot i).value = (s.slot i).value := by
  rw [slot_staleAll]
  split
  · exact Slot.staled_value _
  · rfl

end Sys2Proof.Machine
end

section
/-! # Zader frames received (R116, R117, R118, R120)

A frame is counted, judged by its form and its origin, heard as a sign of life, judged by its sequence, and its entries
are merged into the image. -/

namespace Sys2Proof.Machine

variable {s : State} {f : ZFrame} {e : ZSlot} {l : List Byte} {link : Fin 2}

/-! ## Needs of a resync (R118, R119) -/

theorem frame_needResync (s : State) (n : Nat) (all : Bool) (bs : List Nat) :
    s.Frame (s.needResync n all bs) [.rep] [] := by
  unfold State.needResync
  split
  · exact (State.Frame.refl s).mono (by simp) (by simp)
  · exact frame_rep _ _

theorem needResync_keeps (s : State) (n : Nat) (all : Bool) (bs : List Nat) :
    (s.needResync n all bs).rep.own = s.rep.own ∧ (s.needResync n all bs).rep.origins = s.rep.origins := by
  unfold State.needResync
  split <;> exact ⟨rfl, rfl⟩

theorem frame_needOrigin (s : State) (o : Nat) : s.Frame (s.needOrigin o) [.rep] [] := by
  unfold State.needOrigin
  simp only
  split
  · exact (frame_needResync s o true _).comp (frame_rep _ _)
  · exact frame_needResync s o true _

theorem needOrigin_keeps (s : State) (o : Nat) :
    (s.needOrigin o).rep.own = s.rep.own ∧ (s.needOrigin o).rep.origins = s.rep.origins := by
  unfold State.needOrigin
  simp only
  split <;> exact needResync_keeps s o true _

/-! ## A frame counted -/

/-- The state in which a received frame has been counted. -/
def State.received (s : State) : State := (s.inc R.REP_RX_FRAMES).count 321

theorem frame_received (s : State) : s.Frame s.received Part.counts [R.REP_RX_FRAMES, R.PMON_HALF] :=
  ((frame_inc s _ 1).trans (frame_count _ 321 1)).mono (by simp [Part.counts]) (by simp)

theorem rd_received_rx (s : State) : s.received.rd R.REP_RX_FRAMES = s.rd R.REP_RX_FRAMES + 1#32 :=
  (State.rd_count _ _ _ (by decide)).trans (State.rd_inc_same _ _ _)

/-- A frame counted and then dropped changes the count of its fault and that of received frames. -/
theorem inc_received (s : State) {a : Nat} (ha : a ∉ [R.REP_RX_FRAMES, R.PMON_HALF]) :
    (s.received.inc a).rd a = s.rd a + 1#32
      ∧ (s.received.inc a).rd R.REP_RX_FRAMES = s.rd R.REP_RX_FRAMES + 1#32
      ∧ s.Frame (s.received.inc a) Part.counts [a, R.REP_RX_FRAMES, R.PMON_HALF] := by
  refine ⟨?_, (State.rd_inc_other _ _ fun h => ha (by simp [h])).trans (rd_received_rx s), ?_⟩
  · rw [State.rd_inc_same, (frame_received s).regs a ha (by simp [Part.counts])]
  · exact ((frame_received s).trans (frame_inc _ _ 1)).mono (by simp) (by simp)

theorem node_received (s : State) : s.received.node = s.node := (frame_received s).field (by decide) (by decide)

theorem frameForm_received (s : State) (f : ZFrame) : s.received.frameForm f = s.frameForm f := by
  rw [State.frameForm, State.frameForm, State.rn, (frame_received s).regs R.REP_BUILDING (by decide) (by decide)]
  rfl

/-! ## Signs of life and sequences (R118, R120) -/

theorem origin_setOrigin (s : State) (o : Nat) (x : Origin) : (s.setOrigin o x).origin o = x := tget_tset_same _ _ _ _

theorem frame_setOrigin (s : State) (o : Nat) (x : Origin) : s.Frame (s.setOrigin o x) [.rep] [] := frame_rep _ _

/-- An origin that has been heard: not silent, with the sequence that was held. -/
theorem hear_rep (s : State) (o : Nat) : (s.hear o).rep.own = s.rep.own
    ∧ (s.hear o).origin o = { s.origin o with heard := true, silent := false, lastNs := s.clk.upNs } := by
  unfold State.hear
  simp only
  split
  · obtain ⟨hown, horigins⟩ := needOrigin_keeps
      ((s.setOrigin o { s.origin o with heard := true, silent := false, lastNs := s.clk.upNs }).raise evREP 2) o
    rw [(frame_raise _ evREP 2).rep_eq (by simp)] at hown horigins
    exact ⟨hown, by rw [State.origin, horigins]; exact tget_tset_same _ _ _ _⟩
  · exact ⟨rfl, origin_setOrigin _ _ _⟩

theorem frame_hear (s : State) (o : Nat) : s.Frame (s.hear o) [.rep, .edges, .trigs] [R.REP_EVENT] := by
  unfold State.hear
  simp only
  split
  · exact (((frame_setOrigin s o _).trans (frame_raise _ evREP 2)).trans (frame_needOrigin _ o)).mono (by simp)
      (by simp [evREP])
  · exact (frame_setOrigin s o _).mono (by simp) (by simp)

theorem seqAhead_next (h : Nat) : seqAhead ((h + 1) % 2 ^ 32) h = 1 := by
  unfold seqAhead
  omega

/-- The sequence of frame `f` held for its origin. -/
def State.holdSeq (s : State) (f : ZFrame) : State :=
  s.setOrigin f.origin { s.origin f.origin with seq := some f.seq }

/-- The next UPDATE frame of an origin goes on, and its sequence is held (R118). -/
theorem judgeSeq_next {h : Nat} (hr : f.restart = false) (hk : f.kind = 1) (ho : (s.origin f.origin).seq = some h)
    (hs : f.seq = (h + 1) % 2 ^ 32) : s.judgeSeq f = (s.holdSeq f, true) := by
  have hd : seqAhead f.seq h = 1 := by rw [hs]; exact seqAhead_next h
  unfold State.judgeSeq
  simp only [hr, hk, ho, hd]
  rfl

/-! ## An entry merged (R116, R117) -/

/-- A good entry of a block of the frame's origin, not in the future: it replaces the held slot where it wins, else it is
counted as older. Where the sequences lie 2^31 apart at equal times neither wins, by log entry 194. -/
theorem mergeEntry_good (hc : e.crcOk = true) (ho : (s.ownOf (e.index % 262144 / 1024)).owner = f.origin)
    (ht : s.clockValid = false ∨ e.time % 2 ^ 64 ≤ s.ptpNs + s.g F.REP_REFRESH_FUTURE_MS * 1000000) :
    s.mergeEntry f e = if mergeWins (s.slot (e.index % 262144)) e = true then
        ((s.store (e.index % 262144) (slotOfEntry e)).count 197).count 322
      else (s.inc R.REP_OLDER).count 323 := by
  have hnow : (s.clockValid
      && Nat.blt (s.ptpNs + s.g F.REP_REFRESH_FUTURE_MS * 1000000) (e.time % 2 ^ 64)) = false := by
    rcases ht with ht | ht
    · simp [ht]
    · rw [Bool.eq_false_iff, ne_eq, Bool.and_eq_true, Nat.blt_eq]
      exact fun hfuture => Nat.not_lt.2 ht hfuture.2
  unfold State.mergeEntry
  simp only [hc, ho, hnow, bne_self_eq_false, Bool.not_true, Bool.false_eq_true, if_false]

/-- A merged entry changes its slot alone. -/
theorem frame_store_counted (s : State) (i : Nat) (x : Slot) :
    s.Frame (((s.store i x).count 197).count 322) Part.slots [R.PMON_HALF] :=
  (((frame_store s i x).trans (frame_count _ 197 1)).trans (frame_count _ 322 1)).mono (by simp [Part.slots, Part.counts])
    (by simp)

theorem frame_older (s : State) :
    s.Frame ((s.inc R.REP_OLDER).count 323) Part.counts [R.REP_OLDER, R.PMON_HALF] :=
  ((frame_inc s _ 1).trans (frame_count _ 323 1)).mono (by simp [Part.counts]) (by simp)

theorem slot_store_counted (s : State) (i j : Nat) (x : Slot) :
    (((s.store i x).count 197).count 322).slot j = if j = i then { x with badCrc := none } else s.slot j := by
  rw [(frame_count _ 322 1).slot (by simp), (frame_count _ 197 1).slot (by simp), slot_store]

/-! ## The command -/

/-- The link on which the frame came is enabled. -/
def State.linkOn (s : State) (link : Fin 2) : Nat :=
  if link.val = 0 then s.g F.REP_CTL_ETH0_EN else s.g F.REP_CTL_ETH1_EN

theorem exec_zaderFrameReceive_off (h : s.linkOn link = 0) : exec (.zaderFrameReceive link l) s = .next s := by
  change execZaderFrameReceive link l s = _
  unfold State.linkOn at h
  unfold execZaderFrameReceive
  simp only [h]
  simp

/-- A frame received on an enabled link while the engine runs and NC1 does not restart: it is counted, and dropped where its
form is wrong or it is the node's own (R116). -/
theorem exec_zaderFrameReceive_dropped (hr : s.repOn = true) (hl : s.linkOn link = 1) (hc : s.core 1 = true)
    (hd : s.frameForm (zframe l) = false ∨ (zframe l).origin = s.node) :
    exec (.zaderFrameReceive link l) s
      = .next (s.received.inc (if s.frameForm (zframe l) = false then R.REP_BAD else R.REP_OWN_ECHO)) := by
  change execZaderFrameReceive link l s = _
  have hform := frameForm_received s (zframe l)
  have hnode := node_received s
  unfold State.linkOn at hl
  unfold State.received at hform hnode ⊢
  unfold execZaderFrameReceive
  simp only [hl]
  cases hf : s.frameForm (zframe l) with
  | false => simp [hr, hc, hform, hf]
  | true =>
    have ho : (zframe l).origin = s.node := hd.resolve_left (by simp [hf])
    simp [hr, hc, hform, hf, hnode, ho]

/-- The next UPDATE frame of another node, with one entry: its origin is heard, its sequence held and its entry merged. -/
theorem exec_zaderFrameReceive_update {h : Nat} (hr : s.repOn = true) (hl : s.linkOn link = 1)
    (hf : s.frameForm (zframe l) = true) (ho : (zframe l).origin ≠ s.node) (hk : (zframe l).kind = 1)
    (hb : (zframe l).body = .slots [e]) (hn : (zframe l).restart = false)
    (hq : (s.origin (zframe l).origin).seq = some h) (hs : (zframe l).seq = (h + 1) % 2 ^ 32) :
    exec (.zaderFrameReceive link l) s
      = .next (((s.received.hear (zframe l).origin).holdSeq (zframe l)).mergeEntry (zframe l) e) := by
  change execZaderFrameReceive link l s = _
  have hform := frameForm_received s (zframe l)
  have hnode := node_received s
  have hheld : ((s.received.hear (zframe l).origin).origin (zframe l).origin).seq = some h := by
    rw [(hear_rep _ _).2, State.origin, (frame_received s).rep_eq (by decide)]
    exact hq
  have hjudge := judgeSeq_next hn hk hheld hs
  unfold State.linkOn at hl
  unfold State.received at hform hnode hjudge ⊢
  unfold execZaderFrameReceive
  simp only [hl]
  simp [hr, hform, hf, hnode, ho, hk, hb, hjudge]

/-- The state in which an UPDATE frame is merged: but for the engine's data, the counts and REP_EVENT it is `s`. -/
theorem frame_heard (s : State) (f : ZFrame) :
    s.Frame ((s.received.hear f.origin).holdSeq f) (.rep :: Part.counts) [R.REP_RX_FRAMES, R.REP_EVENT, R.PMON_HALF] :=
  (((frame_received s).trans (frame_hear _ f.origin)).trans (frame_setOrigin _ _ _)).mono (by simp [Part.counts]) (by simp)

theorem ownOf_heard (s : State) (f : ZFrame) (b : Nat) : ((s.received.hear f.origin).holdSeq f).ownOf b = s.ownOf b := by
  change tget (s.received.hear f.origin).rep.own {} b = _
  rw [(hear_rep _ _).1, (frame_received s).rep_eq (by decide)]
  rfl

theorem origin_heard (s : State) (f : ZFrame) : (((s.received.hear f.origin).holdSeq f).origin f.origin).seq = some f.seq
    ∧ (((s.received.hear f.origin).holdSeq f).origin f.origin).silent = false := by
  rw [State.holdSeq, origin_setOrigin, (hear_rep _ _).2]
  exact ⟨rfl, rfl⟩

/-- Settles O14: each outcome of R116 by the branch of the judgement that leads to it. -/
theorem zaderFramesMerged : Obligations.ZaderFramesMerged := by
  refine ⟨fun s l hoff => ⟨s, exec_zaderFrameReceive_off hoff, rfl⟩, fun s l hr hc hl hf => ?bad,
    fun s l hr hc hl hf ho => ?echo, fun s l f e h hr hl hz hf ho hk hb hn hq hs hc hown ht => ?update⟩
  case bad =>
    refine ⟨_, exec_zaderFrameReceive_dropped hr hl hc (.inl hf), ?_⟩
    rw [if_pos hf]
    exact inc_received s (by decide)
  case echo =>
    refine ⟨_, exec_zaderFrameReceive_dropped hr hl hc (.inr ho), ?_⟩
    rw [if_neg (by simp [hf])]
    exact inc_received s (by decide)
  case update =>
    subst hz
    refine ⟨_, exec_zaderFrameReceive_update hr hl hf ho hk hb hn hq hs, ?_⟩
    have hframe := frame_heard s (zframe l)
    have hown' := ownOf_heard s (zframe l)
    obtain ⟨hseq, hsilent⟩ := origin_heard s (zframe l)
    generalize (s.received.hear (zframe l).origin).holdSeq (zframe l) = u at hframe hown' hseq hsilent ⊢
    have hslot : ∀ i, u.slot i = s.slot i := hframe.slot (by decide)
    have hclock : u.clockValid = s.clockValid := by
      rw [State.clockValid, State.clockValid, hframe.field (by decide) (by decide)]
    have hnow : u.ptpNs = s.ptpNs := by rw [State.ptpNs, State.ptpNs, hframe.clk.resolve_left (by decide)]
    have hfut : u.g F.REP_REFRESH_FUTURE_MS = s.g F.REP_REFRESH_FUTURE_MS := hframe.field (by decide) (by decide)
    rw [mergeEntry_good hc (by rw [hown', hown]) (by rwa [hclock, hnow, hfut]), hslot]
    have horigin : ∀ {t : State}, t.rep = u.rep → t.origin (zframe l).origin = u.origin (zframe l).origin := fun ht => by
      rw [State.origin, State.origin, ht]
    cases hw : mergeWins (s.slot (e.index % 262144)) e with
    | true =>
      have hrep := horigin ((frame_store_counted u (e.index % 262144) (slotOfEntry e)).rep_eq (by decide))
      refine ⟨?_, fun j hj => ?_, hrep ▸ hseq, hrep ▸ hsilent, nofun, ?_⟩
      · exact (slot_store_counted _ _ _ _).trans (if_pos rfl)
      · exact ((slot_store_counted _ _ _ _).trans (if_neg hj)).trans (hslot j)
      · exact (hframe.trans (frame_store_counted u _ _)).mono (by simp [Part.slots, Part.counts]) (by simp)
    | false =>
      have hrep := horigin ((frame_older u).rep_eq (by decide))
      refine ⟨?_, fun j _ => ?_, hrep ▸ hseq, hrep ▸ hsilent, fun _ => ?_, ?_⟩
      · exact ((frame_older u).slot (by decide) _).trans (hslot _)
      · exact ((frame_older u).slot (by decide) j).trans (hslot j)
      · exact ((State.rd_count _ _ _ (by decide)).trans (State.rd_inc_same _ _ _)).trans
          (congrArg (· + 1#32) (hframe.regs _ (by decide) (by decide)))
      · exact (hframe.trans (frame_older u)).mono (by simp [Part.slots, Part.counts]) (by simp)

end Sys2Proof.Machine
end

section
/-! # Replicas repaired, silent and scrubbed (R119, R120, R131) -/

namespace Sys2Proof.Machine

variable {s : State} {b : Fin 256} {i c : Nat}

/-! ## A pending resync tried again (R119) -/

/-- The pending resync of a block replaced. -/
def State.setResync (s : State) (b : Nat) (x : Option Resync) : State :=
  { s with rep := { s.rep with resync := tset s.rep.resync none b x } }

theorem resync_setResync (s : State) (b : Nat) (x : Option Resync) : tget (s.setResync b x).rep.resync none b = x :=
  tget_tset_same _ _ _ _

theorem frame_setResync (s : State) (b : Nat) (x : Option Resync) : s.Frame (s.setResync b x) [.rep] [] := frame_rep _ _

/-- Among the requests, after one of a target's blocks is added, is one to the target. -/
theorem exists_mem_addWant (w : List (Nat × List Nat)) (n : Nat) (bs : List Nat) : ∃ e ∈ addWant w n bs, e.1 = n := by
  unfold addWant
  split
  · next h =>
    obtain ⟨e, he, hn⟩ := List.any_eq_true.1 h
    exact ⟨_, List.mem_map_of_mem he, by simp [hn]⟩
  · exact ⟨(n, bs), by simp, rfl⟩

theorem exists_want_needResync (h : s.repOn = true) (n : Nat) (all : Bool) (bs : List Nat) :
    ∃ w ∈ (s.needResync n all bs).rep.wants, w.1 = n := by
  unfold State.needResync
  rw [if_neg (by simp [h])]
  exact exists_mem_addWant _ _ _

/-- A resync that is pending stays as it is when its block is needed again. -/
theorem resync_needResync_pending {k : Nat} {r : Resync} (h : tget s.rep.resync none k = some r) (n : Nat) (all : Bool) :
    tget (s.needResync n all [k]).rep.resync none k = some r := by
  unfold State.needResync
  split
  · exact h
  · simp [h]

theorem exec_resyncRetry_again {r : Resync} (hr : tget s.rep.resync none b = some r) (hc : s.core 1 = true)
    (ho : (s.ownOf b).owner ≠ 0) (hb : s.owns b = false) (ht : r.tries < 3) :
    exec (.resyncRetry b) s = .next ((s.setResync b (some { r with tries := r.tries + 1 })).needResync
      (s.ownOf b).owner false [b.val]) := by
  change execResyncRetry b s = _
  simp [execResyncRetry, hr, hc, ho, hb, ht, State.setResync]

/-- The resync of block `b` given up after its third try (R119). -/
def State.resyncFailed (s : State) (b : Nat) (r : Resync) : State :=
  (s.setResync b (some { r with failed := true })).raise evREP 7

theorem exec_resyncRetry_failed {r : Resync} (hr : tget s.rep.resync none b = some r) (hc : s.core 1 = true)
    (ho : (s.ownOf b).owner ≠ 0) (hb : s.owns b = false) (ht : 3 ≤ r.tries) (hf : r.failed = false) :
    exec (.resyncRetry b) s = .next ((s.resyncFailed b r).staleAll ((s.resyncFailed b r).slotsOf b)) := by
  change execResyncRetry b s = _
  simp [execResyncRetry, hr, hc, ho, hb, Nat.not_lt.2 ht, hf, State.setResync, State.resyncFailed, State.staleAll]

theorem frame_resyncFailed (s : State) (b : Nat) (r : Resync) :
    s.Frame (s.resyncFailed b r) [.rep, .edges, .trigs] [R.REP_EVENT] :=
  ((frame_setResync s b _).trans (frame_raise _ evREP 7)).mono (by simp) (by simp [evREP])

/-- Of a block whose slots are made STALE the present ones, and no others, take the quality. -/
theorem quality_staleAll_slotsOf (s : State) (b i : Nat) : ((s.staleAll (s.slotsOf b)).slot i).quality
    = if i / 1024 = b ∧ (s.slot i).present = true then 4 else (s.slot i).quality := by
  rw [slot_staleAll]
  by_cases hi : i ∈ s.slotsOf b
  · simp [hi, div_of_mem_slotsOf hi, Slot.staled_quality]
  · have hout : ¬(i / 1024 = b ∧ (s.slot i).present = true) := by
      rintro ⟨rfl, hp⟩
      exact hi (mem_slotsOf hp)
    rw [if_neg hi, if_neg hout]

/-! ## A silent origin (R120) -/

theorem le_advanceToUp (s : State) (n : Nat) : n ≤ (s.advanceToUp n).clk.upNs := by
  unfold State.advanceToUp
  split
  · simp only [State.advance]
    omega
  · next h => exact Nat.not_lt.1 h

/-- The instant at which origin `o` has been silent for its time. -/
def State.silentAt (s : State) (o : Nat) : Nat :=
  (s.origin o).lastNs + s.g F.REP_TIMEOUT_ORIGIN_TIMEOUT_MS * 1000000

/-- Origin `o`, of which `x` was held, marked silent now; that all its blocks were asked for is no longer noted. -/
def State.markSilent (s : State) (o : Nat) (x : Origin) : State :=
  let s1 := s.setOrigin o { x with silent := true, silentNs := s.clk.upNs }
  { s1 with rep := { s1.rep with whole := s1.rep.whole.filter (fun n => n != o) } }

theorem markSilent_own (s : State) (o : Nat) (x : Origin) : (s.markSilent o x).rep.own = s.rep.own := rfl

theorem markSilent_clk (s : State) (o : Nat) (x : Origin) : (s.markSilent o x).clk = s.clk := rfl

theorem frame_markSilent (s : State) (o : Nat) (x : Origin) : s.Frame (s.markSilent o x) [.rep] [] := frame_rep _ _

/-- Origin `o` silent at the end of its time, and REP_EVENT telling it. -/
def State.silenced (s : State) (o : Nat) : State :=
  ((s.advanceToUp (s.silentAt o)).markSilent o (s.origin o)).raise evREP 1

theorem exec_originSilent {o : Fin 256} (hr : s.repOn = true) (hh : (s.origin o).heard = true)
    (hs : (s.origin o).silent = false) : exec (.originSilent o) s
      = .next ((s.silenced o).staleAll (((s.silenced o).blocksOf o).flatMap (s.silenced o).slotsOf)) :=
  if_neg (by simp [hr, hh, hs])

theorem frame_silenced (s : State) (o : Nat) : s.Frame (s.silenced o) [.clk, .rep, .edges, .trigs] [R.REP_EVENT] :=
  (((frame_advanceToUp s _).trans (frame_markSilent _ o _)).trans (frame_raise _ evREP 1)).mono (by simp)
    (by simp [evREP])

theorem rep_silenced (s : State) (o : Nat) :
    (s.silenced o).rep = ((s.advanceToUp (s.silentAt o)).markSilent o (s.origin o)).rep :=
  (frame_raise _ evREP 1).rep_eq (by simp)

theorem ownOf_silenced (s : State) (o b : Nat) : (s.silenced o).ownOf b = s.ownOf b := by
  rw [State.ownOf, State.ownOf, rep_silenced, markSilent_own, (frame_advanceToUp s _).rep_eq (by simp)]

theorem silent_silenced (s : State) (o : Nat) : ((s.silenced o).origin o).silent = true := by
  rw [State.origin, rep_silenced]
  exact congrArg Origin.silent (tget_tset_same _ _ _ _)

theorem silentAt_le_silenced (s : State) (o : Nat) : s.silentAt o ≤ (s.silenced o).clk.upNs := by
  rw [State.silenced, (frame_raise _ evREP 1).clk.resolve_left (by simp), markSilent_clk]
  exact le_advanceToUp s _

/-- A block in the ownership table of node `o` is among the blocks of `o`. -/
theorem mem_blocksOf {n k : Nat} (h : (s.ownOf k).owner = n) (hn : n ≠ 0) : k ∈ s.blocksOf n := by
  have hne : s.ownOf k ≠ {} := fun hd => hn (by rw [← h, hd])
  exact List.mem_map.2 ⟨_, List.mem_filter.2 ⟨mem_of_tget_ne hne, by rw [State.ownOf] at h; simp [h, hn]⟩, rfl⟩

/-! ## The scrub (R131) -/

/-- The stored CRC word of slot `i` upset to `c`. -/
def State.upset (s : State) (i c : Nat) : State := s.putSlot i { s.slot i with badCrc := some c }

/-- In a canonical image whose slots' CRCs read as good every entry has a good CRC. -/
theorem entry_good (hs : s.canonical = true) (hg : ∀ j, (s.slot j).badCrc = none) {e : Nat × Slot}
    (he : e ∈ s.pix.slots) : e.2.badCrc = none := by
  simp only [State.canonical, twf, Bool.and_eq_true] at hs
  obtain ⟨⟨-, hsorted, -⟩, -⟩ := hs
  rw [← tget_eq_of_mem ((tsorted_iff _).1 hsorted) he {}]
  exact hg e.1

/-- The one slot whose CRC word has been upset is the one slot that the scrub finds. -/
theorem bad_upset (hs : s.canonical = true) (hg : ∀ j, (s.slot j).badCrc = none) :
    ((s.upset i c).pix.slots.filter (fun e => e.2.badCrc.isSome)).map (fun e => e.1) = [i] := by
  have hne : { s.slot i with badCrc := some c } ≠ ({} : Slot) := fun h => by simpa using congrArg Slot.badCrc h
  have hrest : ∀ e ∈ tdel s.pix.slots i, e.2.badCrc.isSome = false := fun e he => by
    rw [entry_good hs hg (List.mem_filter.1 he).1]
    rfl
  have hone := filter_tins (f := fun e : Nat × Slot => e.2.badCrc.isSome) (k := i)
    (v := { s.slot i with badCrc := some c }) hrest rfl
  simp only [State.upset, State.putSlot, tset, if_neg hne, hone, List.map_cons, List.map_nil]

theorem exec_pixScrub_one (hs : s.canonical = true) (hm : s.g F.PIX_CTL_SCRUB_MS ≠ 0) (hi : i < 262144)
    (hc : c < 2 ^ 32) (hx : c ≠ crc32c (s.slot i).body) (hg : ∀ j, (s.slot j).badCrc = none) :
    exec (.pixScrub [(i, c)]) s = .next ((s.upset i c).checkSlot i) := by
  have hup : (s.putSlot (i % 262144) { s.slot (i % 262144) with
      badCrc := if c % 2 ^ 32 = crc32c (s.slot (i % 262144)).body then none else some (c % 2 ^ 32) }) = s.upset i c := by
    rw [Nat.mod_eq_of_lt hi, Nat.mod_eq_of_lt hc, if_neg hx]
    rfl
  have hg' : (s.upset i c).g F.PIX_CTL_SCRUB_MS ≠ 0 := hm
  change execPixScrub [(i, c)] s = _
  simp only [execPixScrub, List.foldl_cons, List.foldl_nil, hup, if_neg hg', bad_upset hs hg]
  rfl

/-- A CRC fault of slot `i` counted (R131). -/
def State.crcCounted (s : State) (i : Nat) : State := ((s.inc R.PIX_CRC_ERR).p F.PIX_CRC_LAST_INDEX i).count 200

theorem frame_crcCounted (s : State) (i : Nat) :
    s.Frame (s.crcCounted i) Part.counts [R.PIX_CRC_ERR, R.PIX_CRC_LAST, R.PMON_HALF] :=
  (((frame_inc s _ 1).trans (frame_p _ _ i)).trans (frame_count _ 200 1)).mono (by simp [Part.counts])
    (by simp [F.PIX_CRC_LAST_INDEX])

theorem rd_crcCounted (s : State) (i : Nat) : (s.crcCounted i).rd R.PIX_CRC_ERR = s.rd R.PIX_CRC_ERR + 1#32 :=
  (State.rd_count _ _ _ (by decide)).trans ((State.rd_p_other _ _ (by decide)).trans (State.rd_inc_same _ _ _))

theorem checkSlot_replica (hb : (s.slot i).badCrc = some c) (ho : s.ownsSlot i = false) :
    s.checkSlot i = (s.crcCounted i).replicaFail i := by
  unfold State.checkSlot
  simp [hb, ho, State.crcCounted]

/-- Slot `i` noted as a slot whose CRC fault has been reported, and the report (R131). -/
def State.noteFaulted (s : State) (i : Nat) : State :=
  ({ s with pix := { s.pix with faulted := s.pix.faulted ++ [i] } } : State).report 8 2 0 i

theorem frame_noteFaulted (s : State) (i : Nat) : s.Frame (s.noteFaulted i) [.pix, .reports] [] :=
  (frame_pix s _).trans (frame_report _ 8 2 0 i)

theorem slot_noteFaulted (s : State) (i j : Nat) : (s.noteFaulted i).slot j = s.slot j := rfl

theorem noteFaulted_reports (s : State) (i : Nat) : (s.noteFaulted i).reports = s.reports ++ [⟨8, 2, 0, i⟩] := rfl

theorem mem_faulted_noteFaulted (s : State) (i : Nat) : i ∈ (s.noteFaulted i).pix.faulted :=
  List.mem_append_right _ (List.mem_singleton.2 rfl)

/-- An owned slot's CRC fault counted, and reported for the first time (R131). -/
def State.faultReported (s : State) (i : Nat) : State := ((s.crcCounted i).raise evPIX 1).noteFaulted i

theorem checkSlot_owned (hb : (s.slot i).badCrc = some c) (ho : s.ownsSlot i = true) (hf : i ∉ s.pix.faulted) :
    s.checkSlot i = s.faultReported i := by
  have hpix : ((s.crcCounted i).raise evPIX 1).pix = s.pix :=
    ((frame_raise _ evPIX 1).pix.resolve_left (by simp)).trans ((frame_crcCounted s i).pix.resolve_left (by decide))
  unfold State.crcCounted at hpix
  unfold State.checkSlot
  simp [hb, ho, hpix, hf, State.faultReported, State.noteFaulted, State.crcCounted]

/-- A corrupt replica slot is STALE with its CRC anew, and nothing of the image but it changes. -/
theorem slot_replicaFail (s : State) (i j : Nat) :
    (s.replicaFail i).slot j = if j = i then { s.slot i with quality := 4, badCrc := none } else s.slot j := by
  unfold State.replicaFail
  rw [(frame_needResync _ _ _ _).slot (by simp), (frame_raise _ evPIX 0).slot (by simp), slot_store]

theorem frame_replicaFail (s : State) (i : Nat) : s.Frame (s.replicaFail i) (.rep :: Part.slots) [R.PIX_EVENT] :=
  (((frame_store s i _).trans (frame_raise _ evPIX 0)).trans (frame_needResync _ _ _ _)).mono
    (by simp [Part.slots, Part.counts]) (by simp [evPIX])

theorem bit_replicaFail (s : State) (i : Nat) : (s.replicaFail i).bit R.PIX_EVENT 0 = true :=
  ((frame_needResync _ _ _ _).bit 0 (by simp) (by simp)).trans (State.bit_raise _ evPIX (by decide))

theorem frame_faultReported (s : State) (i : Nat) : s.Frame (s.faultReported i) (.pix :: .reports :: Part.counts)
    [R.PIX_CRC_ERR, R.PIX_CRC_LAST, R.PIX_EVENT, R.PMON_HALF] :=
  (((frame_crcCounted s i).trans (frame_raise _ evPIX 1)).trans (frame_noteFaulted _ i)).mono (by simp [Part.counts])
    (by simp [evPIX])

theorem faultReported_told (s : State) (i : Nat) : (s.faultReported i).bit R.PIX_EVENT 1 = true
    ∧ (s.faultReported i).reports = s.reports ++ [⟨8, 2, 0, i⟩] ∧ i ∈ (s.faultReported i).pix.faulted := by
  refine ⟨?_, ?_, mem_faulted_noteFaulted _ i⟩
  · exact ((frame_noteFaulted _ i).bit 1 (by simp) (by simp)).trans (State.bit_raise _ evPIX (by decide))
  · rw [State.faultReported, noteFaulted_reports, (frame_raise _ evPIX 1).reports.resolve_left (by simp),
      (frame_crcCounted s i).reports.resolve_left (by decide)]

theorem rd_faultReported (s : State) (i : Nat) : (s.faultReported i).rd R.PIX_CRC_ERR = s.rd R.PIX_CRC_ERR + 1#32 :=
  ((frame_noteFaulted _ i).regs _ (by simp) (by simp)).trans
    (((frame_raise (s.crcCounted i) evPIX 1).regs _ (by decide) (by decide)).trans (rd_crcCounted s i))

theorem slot_faultReported (s : State) (i j : Nat) : (s.faultReported i).slot j = s.slot j := by
  rw [State.faultReported, slot_noteFaulted, (frame_raise _ evPIX 1).slot (by simp),
    (frame_crcCounted s i).slot (by decide)]

/-! ## The commands -/

/-- Settles O15. The upset of a slot's CRC word is an operand (log entry 22), and the report waits for FAULT_DECLARE (log
entry 30). -/
theorem replicasResyncedAndScrubbed : Obligations.ReplicasResyncedAndScrubbed := by
  refine ⟨fun s b r hr hon hc ho hb ht => ?again, fun s b r hr hc ho hb ht hf => ?failed,
    fun s o hon ho hh hs => ?silent, fun s i c hs hm hi hc hx hg ho => ?replica,
    fun s i c hs hm hi hc hx hg ho hf => ?owned⟩
  case again =>
    exact ⟨_, exec_resyncRetry_again hr hc ho hb ht, resync_needResync_pending (resync_setResync _ _ _) _ _,
      exists_want_needResync (s := s.setResync b _) hon _ _ _, (frame_setResync _ _ _).comp (frame_needResync _ _ _ _)⟩
  case failed =>
    refine ⟨_, exec_resyncRetry_failed hr hc ho hb ht hf, ?_⟩
    have hslot : ∀ i, (s.resyncFailed b r).slot i = s.slot i := (frame_resyncFailed s b r).slot (by simp)
    have hstale := frame_staleAll (s.resyncFailed b r) ((s.resyncFailed b r).slotsOf b)
    refine ⟨?_, ?_, fun i => ⟨?_, ?_⟩, ?_⟩
    · rw [hstale.rep_eq (by decide), State.resyncFailed, (frame_raise _ evREP 7).rep_eq (by simp)]
      exact resync_setResync _ _ _
    · exact (hstale.bit 7 (by simp) (by decide)).trans (State.bit_raise _ evREP (by decide))
    · rw [value_staleAll, hslot]
    · rw [quality_staleAll_slotsOf, hslot]
    · exact ((frame_resyncFailed s b r).trans hstale).mono (by simp [Part.slots, Part.counts]) (by simp)
  case silent =>
    refine ⟨_, exec_originSilent hon hh hs, ?_⟩
    have hslot : ∀ i, (s.silenced o).slot i = s.slot i := (frame_silenced s o).slot (by simp)
    have hstale := frame_staleAll (s.silenced o) (((s.silenced o).blocksOf o).flatMap (s.silenced o).slotsOf)
    refine ⟨?_, ?_, ?_, fun i => ?_, fun i hown hp => ?_, ?_⟩
    · rw [State.origin, hstale.rep_eq (by decide)]
      exact silent_silenced s o
    · exact (hstale.bit 1 (by simp) (by decide)).trans (State.bit_raise _ evREP (by decide))
    · rw [hstale.clk.resolve_left (by decide)]
      exact silentAt_le_silenced s o
    · rw [value_staleAll, hslot]
    · rw [← ownOf_silenced s o] at hown
      rw [← hslot i] at hp
      have hi := List.mem_flatMap.2 ⟨_, mem_blocksOf hown ho, mem_slotsOf hp⟩
      rw [slot_staleAll, if_pos hi, Slot.staled_quality, if_pos hp]
    · exact ((frame_silenced s o).trans hstale).mono (by simp [Part.slots, Part.counts]) (by simp)
  case replica =>
    have hup : s.Frame (s.upset i c) [.pix] [] := frame_putSlot _ _ _
    have hcounted := frame_crcCounted (s.upset i c) i
    have hbad : ((s.upset i c).slot i).badCrc = some c := by simp [State.upset, slot_putSlot]
    refine ⟨_, exec_pixScrub_one hs hm hi hc hx hg, ?_⟩
    rw [checkSlot_replica hbad ho]
    refine ⟨?_, fun j hj => ?_, ?_, bit_replicaFail _ _, ?_⟩
    · rw [slot_replicaFail, if_pos rfl, hcounted.slot (by decide), State.upset, slot_putSlot, if_pos rfl, ← hg i]
    · rw [slot_replicaFail, if_neg hj, hcounted.slot (by decide), State.upset, slot_putSlot, if_neg hj]
    · exact ((frame_replicaFail _ i).regs _ (by decide) (by decide)).trans (rd_crcCounted (s.upset i c) i)
    · exact ((hup.trans hcounted).trans (frame_replicaFail _ i)).mono (by simp [Part.slots, Part.counts]) (by simp)
  case owned =>
    have hup : s.Frame (s.upset i c) [.pix] [] := frame_putSlot _ _ _
    have hbad : ((s.upset i c).slot i).badCrc = some c := by simp [State.upset, slot_putSlot]
    obtain ⟨hbit, hreports, hfaulted⟩ := faultReported_told (s.upset i c) i
    refine ⟨_, exec_pixScrub_one hs hm hi hc hx hg, ?_⟩
    rw [checkSlot_owned hbad ho hf]
    refine ⟨?_, fun j hj => ?_, rd_faultReported _ i, hbit, hreports, hfaulted, ?_⟩
    · rw [slot_faultReported, State.upset, slot_putSlot, if_pos rfl]
    · rw [slot_faultReported, State.upset, slot_putSlot, if_neg hj]
    · exact (hup.trans (frame_faultReported _ i)).mono (by simp [Part.counts]) (by simp)

end Sys2Proof.Machine
end

section
/-! # Slots unbound and restamped, forces carried and dropped (R107, R128, R129, R198)

What the steps of a change of ownership do to each slot of the block, and what they leave as it was. -/

namespace Sys2Proof.Machine

variable {s : State} {i : Nat}

/-! ## Slots unbound (R128, R129) -/

/-- The slots of a list unbound. -/
def State.unbind (s : State) (l : List Nat) : State :=
  l.foldl (fun t i => t.putSlot i { t.slot i with binding := 0 }) s

theorem slot_unbind (s : State) (l : List Nat) (i : Nat) :
    (s.unbind l).slot i = if i ∈ l then { s.slot i with binding := 0 } else s.slot i := by
  refine view_foldl (c := id) (f := fun x : Slot => { x with binding := 0 }) (fun t k => ?_) (fun _ => rfl) l s
  by_cases h : i = k
  · subst h; simp [slot_putSlot]
  · simp [slot_putSlot, h]

theorem frame_unbind (s : State) (l : List Nat) : s.Frame (s.unbind l) [.pix] [] :=
  .foldl (fun t i => frame_putSlot t i _) l s

theorem dirty_unbind (s : State) (l : List Nat) : (s.unbind l).pix.dirty = s.pix.dirty := by
  unfold State.unbind
  induction l generalizing s with
  | nil => rfl
  | cons i l ih => exact ih (s.putSlot i _)

theorem slot_unbind_other {b : Nat} (h : i / 1024 ≠ b) : (s.unbind (s.slotsOf b)).slot i = s.slot i := by
  rw [slot_unbind, if_neg fun hm => h (div_of_mem_slotsOf hm)]

/-- An unbound slot keeps what a binding is no part of. -/
theorem view_unbind {α : Type} (c : Slot → α) (hc : ∀ x : Slot, c { x with binding := 0 } = c x) (s : State)
    (l : List Nat) (i : Nat) : c ((s.unbind l).slot i) = c (s.slot i) := by
  rw [slot_unbind]
  split
  · exact hc _
  · rfl

/-! ## Slots restamped (R107, R128) -/

theorem frame_scn (s : State) (x : ScnS) : s.Frame { s with scn := x } [.scn] [] := by
  constructor <;> simp [State.rd]

theorem frame_journalSlot (s : State) (i : Nat) : s.Frame (s.journalSlot i) [.scn] [] := by
  unfold State.journalSlot
  simp only
  split
  · exact frame_scn _ _
  · exact (State.Frame.refl s).mono (by decide) (by simp)

theorem frame_storeOwned (s : State) (i : Nat) (x : Slot) : s.Frame (s.storeOwned i x) Part.slots [R.PMON_HALF] := by
  have h : s.Frame ((s.store i x).count 192) Part.slots [R.PMON_HALF] :=
    ((frame_store s i x).trans (frame_count _ 192 1)).mono (by decide) (by simp)
  unfold State.storeOwned
  simp only
  split
  · exact h.comp ((frame_pix _ _).mono (by decide) (by decide))
  · exact h

theorem slot_storeOwned (s : State) (i j : Nat) (x : Slot) :
    (s.storeOwned i x).slot j = if j = i then { x with badCrc := none } else s.slot j := by
  have h : ((s.store i x).count 192).slot j = if j = i then { x with badCrc := none } else s.slot j := by
    rw [(frame_count _ 192 1).slot (by simp), slot_store]
  unfold State.storeOwned
  simp only
  split
  · exact h
  · exact h

theorem frame_arb (s : State) (n i : Nat) (x : Slot) : s.Frame (s.arb n i x) Part.slots [R.PMON_HALF] :=
  ((frame_storeOwned s i _).trans (frame_journalSlot _ i)).mono (by decide) (by simp)

theorem frame_forward (s : State) (k : FwdKind) (i : Nat) :
    s.Frame (s.forward k i) (.out :: Part.counts) [R.PMON_HALF] := by
  unfold State.forward
  simp only
  split
  · exact (frame_tow s _).mono (by decide) (by simp)
  · exact (State.Frame.refl s).mono (by decide) (by simp)

/-- A slot but for its stamp and its CRC. -/
def Slot.unstamped (x : Slot) : Slot := { x with time := 0, origin := 0, seq := 0, badCrc := none }

/-- A present slot with the quality of a claim: SUBSTITUTED, or FORCED at a forced slot (R128). -/
def Slot.substituted (x : Slot) : Slot := if x.present then { x with quality := if x.forced then 2 else 3 } else x

theorem Slot.substituted_substituted (x : Slot) : x.substituted.substituted = x.substituted := by
  unfold Slot.substituted
  by_cases h : x.present = true
  · rw [if_pos h]
    cases x.forced <;> rfl
  · simp only [if_neg h]

theorem Slot.substituted_value (x : Slot) : x.substituted.value = x.value := by
  unfold Slot.substituted
  split <;> rfl

theorem Slot.substituted_forced (x : Slot) : x.substituted.forced = x.forced := by
  unfold Slot.substituted
  split <;> rfl

theorem Slot.substituted_quality {x : Slot} (hp : x.present = true) (hf : x.forced = false) :
    x.substituted.quality = 3 := by
  simp [Slot.substituted, hp, hf]

theorem slot_restamp_other {n k : Nat} {q : Option Nat} (h : i ≠ k) : (s.restamp n k q).slot i = s.slot i := by
  unfold State.restamp
  simp only
  split
  · rw [(frame_forward _ .restamp k).slot (by decide), State.arb, (frame_journalSlot _ k).slot (by simp), State.arbStamp,
      slot_storeOwned, if_neg h]
  · rfl

/-- A restamp of a claim changes, but for the stamp and the CRC, the quality of its slot alone. -/
theorem unstamped_restamp (s : State) (n k i : Nat) : ((s.restamp n k (some 3)).slot i).unstamped
    = if i = k then (s.slot i).unstamped.substituted else (s.slot i).unstamped := by
  by_cases h : i = k
  · subst h
    rw [if_pos rfl]
    unfold State.restamp Slot.substituted
    simp only
    by_cases hp : (s.slot i).present = true
    · have hp' : (s.slot i).unstamped.present = true := hp
      rw [if_pos hp, if_pos hp', (frame_forward _ .restamp i).slot (by decide), State.arb,
        (frame_journalSlot _ i).slot (by simp), State.arbStamp, slot_storeOwned, if_pos rfl]
      rfl
    · have hp' : ¬(s.slot i).unstamped.present = true := hp
      rw [if_neg hp, if_neg hp']
  · rw [if_neg h, slot_restamp_other h]

theorem frame_restamp (s : State) (n i : Nat) (q : Option Nat) :
    s.Frame (s.restamp n i q) (.out :: Part.slots) [R.PMON_HALF] := by
  unfold State.restamp
  simp only
  split
  · exact ((frame_arb s n i _).trans (frame_forward _ .restamp i)).mono (by decide) (by simp)
  · exact (State.Frame.refl s).mono (by decide) (by simp)

/-- The slots of a list restamped at PTP time `n` as those of a claimed block. -/
def State.restampAll (s : State) (n : Nat) (l : List Nat) : State := l.foldl (fun u i => u.restamp n i (some 3)) s

theorem frame_restampAll (s : State) (n : Nat) (l : List Nat) :
    s.Frame (s.restampAll n l) (.out :: Part.slots) [R.PMON_HALF] := .foldl (fun t i => frame_restamp t n i _) l s

theorem unstamped_restampAll (s : State) (n : Nat) (l : List Nat) (i : Nat) : ((s.restampAll n l).slot i).unstamped
    = if i ∈ l then (s.slot i).unstamped.substituted else (s.slot i).unstamped :=
  view_foldl (fun t k => unstamped_restamp t n k i) Slot.substituted_substituted l s

/-! ## Forces carried and dropped (R128, R129, R198) -/

theorem frame_olc (s : State) (x : OlcS) : s.Frame { s with olc := x } [.olc] [] := by
  constructor <;> simp [State.rd]

/-- The parts that a force installed, released or recorded may change beside OLC_EVENT, LOG_EVENT and PMON_HALF. -/
def Part.forceOps : List Part := [.log, .olc, .out] ++ Part.counts

theorem frame_forceRecord (s : State) (f : Force) (n : Nat) :
    s.Frame (s.forceRecord f n) Part.forceOps [R.OLC_EVENT, R.LOG_EVENT, R.PMON_HALF] := by
  unfold State.forceRecord
  split <;> exact (frame_post s _ _ _ _ _ _ _).mono (by decide) (by simp)

theorem frame_setForce (s : State) (f : Force) : s.Frame (s.setForce f) [.olc] [] := by
  unfold State.setForce
  split
  · exact frame_olc _ _
  · exact (State.Frame.refl s).mono (by decide) (by simp)

theorem frame_stampForce (s : State) (i : Nat) : s.Frame (s.stampForce i) [.olc] [] := frame_olc _ _

theorem frame_dropForce (s : State) (k : ForceKey) :
    s.Frame (s.dropForce k) Part.forceOps [R.OLC_EVENT, R.LOG_EVENT, R.PMON_HALF] := by
  unfold State.dropForce
  split
  · exact (State.Frame.refl s).mono (by decide) (by simp)
  · exact (((frame_olc s _).trans (frame_forceRecord _ _ 3)).trans (frame_raise _ evOLC 3)).mono
      (by decide) (by simp [evOLC])

theorem frame_dropBlockForces (s : State) (b : Nat) :
    s.Frame (s.dropBlockForces b) Part.forceOps [R.OLC_EVENT, R.LOG_EVENT, R.PMON_HALF] :=
  .foldl (f := fun t (e : Nat × Force) => t.dropForce e.2.key) (fun t e => frame_dropForce t e.2.key) _ s

/-- The slot of a carried force, FORCED where this module had made it STALE (R128). -/
def State.forcedAgain (s : State) (i : Nat) : State :=
  if (s.slot i).quality = 2 then s else s.store i { s.slot i with quality := 2 }

/-- A carried force `f` of slot `i` installed, recorded and forwarded where the table has room (R128). -/
def State.installForce (s : State) (f : Force) (i : Nat) : State :=
  if (s.forceOf f.key).isSome || s.forceRoom f.key then
    (((s.setForce f).stampForce i).forceRecord f 4).forward .takenOver i
  else s.raise evOLC 5

/-- The force of slot `i` taken over. -/
def State.takeForce (s : State) (i : Nat) : State :=
  (s.forcedAgain i).installForce ⟨.slot i, (s.slot i).typ, (s.slot i).value⟩ i

theorem takeForces_eq (s : State) (b : Nat) :
    s.takeForces b = ((s.slotsOf b).filter (fun i => (s.slot i).forced)).foldl State.takeForce s := rfl

theorem frame_installForce (s : State) (f : Force) (i : Nat) :
    s.Frame (s.installForce f i) Part.forceOps [R.OLC_EVENT, R.LOG_EVENT, R.PMON_HALF] := by
  unfold State.installForce
  split
  · exact ((((frame_setForce s f).trans (frame_stampForce _ i)).trans (frame_forceRecord _ f 4)).trans
      (frame_forward _ .takenOver i)).mono (by decide) (by simp)
  · exact (frame_raise s evOLC 5).mono (by decide) (by simp [evOLC])

theorem frame_forcedAgain (s : State) (i : Nat) : s.Frame (s.forcedAgain i) Part.slots [] := by
  unfold State.forcedAgain
  split
  · exact (State.Frame.refl s).mono (by decide) (by simp)
  · exact frame_store _ _ _

theorem frame_takeForce (s : State) (i : Nat) : s.Frame (s.takeForce i) (Part.forceOps ++ Part.slots)
    [R.OLC_EVENT, R.LOG_EVENT, R.PMON_HALF] :=
  ((frame_forcedAgain s i).trans (frame_installForce _ _ i)).mono (by decide) (by simp)

theorem frame_takeForces (s : State) (b : Nat) : s.Frame (s.takeForces b) (Part.forceOps ++ Part.slots)
    [R.OLC_EVENT, R.LOG_EVENT, R.PMON_HALF] := by
  rw [takeForces_eq]
  exact .foldl frame_takeForce _ s

theorem slot_takeForce (s : State) (k i : Nat) : (s.takeForce k).slot i = (s.forcedAgain k).slot i :=
  (frame_installForce _ _ k).slot (by decide) i

theorem slot_takeForce_other {k : Nat} (h : i ≠ k) : (s.takeForce k).slot i = s.slot i := by
  rw [slot_takeForce, State.forcedAgain]
  split
  · rfl
  · rw [slot_store, if_neg h]

theorem value_takeForce (s : State) (k i : Nat) : ((s.takeForce k).slot i).value = (s.slot i).value := by
  by_cases h : i = k
  · subst h
    rw [slot_takeForce, State.forcedAgain]
    split
    · rfl
    · rw [slot_store, if_pos rfl]
  · rw [slot_takeForce_other h]

/-- The taking over of a block's forces reaches the forced slots of the block alone. -/
theorem slot_takeForces_other {b : Nat} (h : i / 1024 ≠ b ∨ (s.slot i).forced = false) :
    (s.takeForces b).slot i = s.slot i := by
  rw [takeForces_eq]
  refine slot_foldl_other (fun t k hk => slot_takeForce_other hk) (fun hm => ?_) s
  obtain ⟨hb, hf⟩ := List.mem_filter.1 hm
  rcases h with h | h
  · exact h (div_of_mem_slotsOf hb)
  · exact Bool.false_ne_true (h.symm.trans hf)

theorem value_takeForces (s : State) (b i : Nat) : ((s.takeForces b).slot i).value = (s.slot i).value := by
  rw [takeForces_eq, view_foldl (c := Slot.value) (f := id) (fun t k => by simp [value_takeForce]) (fun _ => rfl)]
  simp

end Sys2Proof.Machine
end

section
/-! # Ownership changes hands (R110, R125, R126, R128, R129)

A claim unbinds the block's slots, tells the claim, restamps the slots as SUBSTITUTED and takes over its forces. A release
sends the block's dirty slots, tells the release, and drops the block's dirty marks, forces and bindings. -/

namespace Sys2Proof.Machine

variable {s t : State} {i : Nat}

/-! ## What sending leaves of the engine's data -/

/-- What of the engine's data is neither the sequence nor the restart mark stays when a frame is sent. -/
theorem rep_sendFrame {α : Type} (c : RepS → α) (hc : ∀ (r : RepS) q w, c { r with seq := q, restart := w } = c r)
    (s : State) (k : Nat) (body : ZBody) (count block part : Nat) (e : Bool) :
    c (s.sendFrame k body count block part e).rep = c s.rep := by
  by_cases h : s.isButty = false ∨ k = 3
  · rw [sendFrame_rep h, hc]
  · rw [sendFrame_of_butty k body count block part e h]

/-- Blocks queued for service change the list of those to serve alone. -/
theorem frame_queueServe (s : State) (l : List Nat) (covered : Bool) : s.Frame (s.queueServe l covered) [.rep] [] :=
  frame_rep _ _

theorem queueServe_own (s : State) (l : List Nat) (covered : Bool) : (s.queueServe l covered).rep.own = s.rep.own := rfl

theorem mem_serve_queueServe (s : State) (b : Nat) : b ∈ (s.queueServe [b] false).rep.serve := by
  by_cases h : b ∈ s.rep.serve
  · exact List.mem_append_left _ h
  · exact List.mem_append_right _ (List.mem_filter.2 ⟨by simp, by simp [h]⟩)

/-! ## A claim (R126, R128) -/

theorem gainBlock_slot (s : State) (b i : Nat) : (s.gainBlock b).slot i = (s.unbind (s.slotsOf b)).slot i := rfl

theorem gainBlock_own (s : State) (b : Nat) : (s.gainBlock b).rep.own = s.rep.own := by
  change (s.unbind (s.slotsOf b)).rep.own = _
  rw [(frame_unbind s _).rep_eq (by simp)]

theorem frame_gainBlock (s : State) (b : Nat) : s.Frame (s.gainBlock b) [.pix, .rep] [] :=
  (frame_unbind s (s.slotsOf b)).trans (frame_rep _ _)

theorem frame_setOwn (s : State) (b : Nat) (o : Own) : s.Frame (s.setOwn b o) [.rep] [] := frame_rep _ _

/-- The entry of block `b` in the ownership table once node `n` has it: the next generation (R125, R126). -/
def State.nextOwn (s : State) (b n : Nat) : Own :=
  { s.ownOf b with owner := n, gen := ((s.ownOf b).gen + 1) % 2 ^ 32 }

/-- Block `b` gained by the node, and the events that tell it. -/
def State.gained (s : State) (b : Nat) : State :=
  (((s.setOwn b (s.nextOwn b s.node)).gainBlock b).raise evREP 3).raise evREP 5

/-- The claim of block `b` told to the network. -/
def State.claimTold (s : State) (b : Nat) (manual : Bool) : State :=
  (s.gained b).sendOwn b 2 (s.ownOf b).owner s.node (s.nextOwn b s.node).gen manual

/-- The slots of a claimed block restamped, and its forces taken over. -/
def State.takeOver (s : State) (b : Nat) : State := (s.restampAll s.ptpNs (s.slotsOf b)).takeForces b

theorem claim_eq (s : State) (b : Nat) (manual : Bool) :
    s.claim b manual = ((s.claimTold b manual).takeOver b).queueServe [b] false := rfl

theorem frame_gained (s : State) (b : Nat) : s.Frame (s.gained b) [.rep, .pix, .edges, .trigs] [R.REP_EVENT] :=
  ((((frame_setOwn s b _).trans (frame_gainBlock _ b)).trans (frame_raise _ evREP 3)).trans (frame_raise _ evREP 5)).mono
    (by decide) (by decide)

theorem gained_own (s : State) (b : Nat) : (s.gained b).rep.own = tset s.rep.own {} b (s.nextOwn b s.node) := by
  rw [State.gained, (frame_raise _ evREP 5).rep_eq (by simp), (frame_raise _ evREP 3).rep_eq (by simp), gainBlock_own]
  rfl

theorem slot_gained (s : State) (b i : Nat) : (s.gained b).slot i = (s.unbind (s.slotsOf b)).slot i := by
  rw [State.gained, (frame_raise _ evREP 5).slot (by simp), (frame_raise _ evREP 3).slot (by simp), gainBlock_slot,
    slot_unbind, slot_unbind]
  rfl

theorem frame_claimTold (s : State) (b : Nat) (manual : Bool) :
    s.Frame (s.claimTold b manual) (.pix :: Part.zader) [R.REP_EVENT, R.REP_TX_FRAMES, R.PMON_HALF] :=
  ((frame_gained s b).trans (sends_sendOwn _ b 2 _ _ _ manual).frame).mono (by decide)
    (by decide)

theorem claimTold_own (s : State) (b : Nat) (manual : Bool) :
    (s.claimTold b manual).rep.own = tset s.rep.own {} b (s.nextOwn b s.node) :=
  (rep_sendFrame RepS.own (fun _ _ _ => rfl) _ _ _ _ _ _ _).trans (gained_own s b)

theorem slot_claimTold (s : State) (b : Nat) (manual : Bool) (i : Nat) :
    (s.claimTold b manual).slot i = (s.unbind (s.slotsOf b)).slot i :=
  (State.slot_congr (congrArg PixS.slots (sends_sendOwn _ b 2 _ _ _ manual).pix) i).trans (slot_gained s b i)

theorem frame_takeOver (s : State) (b : Nat) : s.Frame (s.takeOver b) (Part.forceOps ++ Part.slots)
    [R.OLC_EVENT, R.LOG_EVENT, R.PMON_HALF] :=
  ((frame_restampAll s s.ptpNs (s.slotsOf b)).trans (frame_takeForces _ b)).mono
    (by decide) (by simp)

theorem slot_takeOver_other {b : Nat} (h : i / 1024 ≠ b) : (s.takeOver b).slot i = s.slot i := by
  rw [State.takeOver, slot_takeForces_other (.inl h)]
  exact slot_foldl_other (fun t k hk => slot_restamp_other hk) (fun hm => h (div_of_mem_slotsOf hm)) s

theorem value_takeOver (s : State) (b i : Nat) : ((s.takeOver b).slot i).value = (s.slot i).value := by
  have hv := congrArg Slot.value (unstamped_restampAll s s.ptpNs (s.slotsOf b) i)
  rw [State.takeOver, value_takeForces]
  refine hv.trans ?_
  split
  · exact Slot.substituted_value _
  · rfl

/-- A present unforced slot of a claimed block is SUBSTITUTED (R128). -/
theorem quality_takeOver {b : Nat} (hb : i / 1024 = b) (hp : (s.slot i).present = true)
    (hf : (s.slot i).forced = false) : ((s.takeOver b).slot i).quality = 3 := by
  have hu := unstamped_restampAll s s.ptpNs (s.slotsOf b) i
  rw [if_pos (hb ▸ mem_slotsOf hp)] at hu
  have hforced : ((s.restampAll s.ptpNs (s.slotsOf b)).slot i).forced = false :=
    (congrArg Slot.forced hu).trans ((Slot.substituted_forced _).trans hf)
  rw [State.takeOver, slot_takeForces_other (.inr hforced)]
  exact (congrArg Slot.quality hu).trans (Slot.substituted_quality hp hf)

/-- What a claim of block `b` from `s` to `t` does (R126, R128). -/
structure State.Claimed (s t : State) (b : Nat) : Prop where
  own : t.ownOf b = s.nextOwn b s.node
  value : ∀ i, (t.slot i).value = (s.slot i).value
  quality : ∀ i, i / 1024 = b → (s.slot i).present = true → (s.slot i).forced = false → (t.slot i).quality = 3
  other : ∀ i, i / 1024 ≠ b → t.slot i = s.slot i
  serve : b ∈ t.rep.serve
  frame : s.Frame t (.log :: .olc :: (Part.zader ++ Part.slots))
    [R.REP_EVENT, R.OLC_EVENT, R.REP_TX_FRAMES, R.LOG_EVENT, R.PMON_HALF]

theorem claimed_claim (s : State) (b : Nat) (manual : Bool) : s.Claimed (s.claim b manual) b := by
  have hover := frame_takeOver (s.claimTold b manual) b
  rw [claim_eq]
  have hslot : ∀ i, (((s.claimTold b manual).takeOver b).queueServe [b] false).slot i
      = ((s.claimTold b manual).takeOver b).slot i := (frame_queueServe _ [b] false).slot (by decide)
  refine ⟨?_, fun i => ?_, fun i hb hp hf => ?_, fun i hb => ?_, mem_serve_queueServe _ b, ?_⟩
  · rw [State.ownOf, queueServe_own, hover.rep_eq (by decide), claimTold_own, tget_tset_same]
  · rw [hslot, value_takeOver, slot_claimTold]
    exact view_unbind Slot.value (fun _ => rfl) s _ i
  · rw [hslot]
    have hp' := view_unbind Slot.present (fun _ => rfl) s (s.slotsOf b) i
    have hf' := view_unbind Slot.forced (fun _ => rfl) s (s.slotsOf b) i
    rw [← slot_claimTold s b manual] at hp' hf'
    exact quality_takeOver hb (hp'.trans hp) (hf'.trans hf)
  · rw [hslot, slot_takeOver_other hb, slot_claimTold, slot_unbind_other hb]
  · exact (((frame_claimTold s b manual).trans hover).trans (frame_queueServe _ [b] false)).mono
      (by decide) (by simp)

/-! ## A release (R125, R129) -/

/-- Up to 40 dirty slots of block `b` sent. -/
def State.flush (b : Nat) (s : State) : State := s.sendUpdate ((s.pix.dirty.filter (fun i => i / 1024 == b)).take 40)

/-- From `s` to `t` nothing but the sending of dirty slots has happened. -/
structure State.Flushes (s t : State) : Prop where
  slots : t.pix.slots = s.pix.slots
  own : t.rep.own = s.rep.own
  planned : t.rep.planned = s.rep.planned
  frame : s.Frame t (.pix :: Part.zader) sendRegs

theorem State.Flushes.refl (s : State) : s.Flushes s := ⟨rfl, rfl, rfl, (State.Frame.refl s).mono (by decide) (by decide)⟩

theorem State.Flushes.trans {u : State} (h : s.Flushes t) (k : t.Flushes u) : s.Flushes u :=
  ⟨k.slots.trans h.slots, k.own.trans h.own, k.planned.trans h.planned, h.frame.comp k.frame⟩

theorem flushes_flush (hg : ∀ i, (s.slot i).badCrc = none) (b : Nat) : s.Flushes (s.flush b) := by
  unfold State.flush
  generalize (s.pix.dirty.filter (fun i => i / 1024 == b)).take 40 = l
  by_cases hl : l = []
  · subst hl
    exact .refl s
  · rw [sendUpdate_eq hg hl]
    exact ⟨rfl, rep_sendFrame RepS.own (fun _ _ _ => rfl) _ _ _ _ _ _ _,
      rep_sendFrame RepS.planned (fun _ _ _ => rfl) _ _ _ _ _ _ _,
      ((State.Sends.sendFrame s 1 _ _ 0 0 false).frame.trans (frame_pix _ _)).mono (by decide) (by decide)⟩

theorem flushes_foldl (hg : ∀ i, (s.slot i).badCrc = none) (b : Nat) (l : List Nat) :
    s.Flushes (l.foldl (fun t _ => t.flush b) s) := by
  induction l generalizing s with
  | nil => exact .refl s
  | cons k l ih =>
    have h := flushes_flush hg b
    exact h.trans (ih fun i => by rw [State.slot_congr h.slots]; exact hg i)

/-- The plan to release block `b` dropped. -/
def State.dropPlan (s : State) (b : Nat) : State :=
  { s with rep := { s.rep with planned := s.rep.planned.filter (fun r => r.block != b) } }

theorem frame_dropPlan (s : State) (b : Nat) : s.Frame (s.dropPlan b) [.rep] [] := frame_rep _ _

/-- The dirty marks of block `b`, its service and the drops recorded of outputs to it forgotten (R129, R160). -/
def State.forgetBlock (s : State) (b : Nat) : State :=
  { s with
    pix := { s.pix with dirty := s.pix.dirty.filter (fun i => i / 1024 != b) }
    rep := { s.rep with
      serve := s.rep.serve.filter (fun c => c != b), dropSeen := s.rep.dropSeen.filter (fun e => e.2 != b) } }

/-- Block `b` forgotten and its forces released. -/
def State.unforcedBlock (s : State) (b : Nat) : State := (s.forgetBlock b).dropBlockForces b

theorem loseBlock_eq (s : State) (b : Nat) :
    s.loseBlock b = (s.unforcedBlock b).unbind ((s.unforcedBlock b).slotsOf b) := rfl

theorem frame_forgetBlock (s : State) (b : Nat) : s.Frame (s.forgetBlock b) [.pix, .rep] [] := by
  constructor <;> simp [State.forgetBlock, State.rd]

theorem frame_unforcedBlock (s : State) (b : Nat) :
    (s.forgetBlock b).Frame (s.unforcedBlock b) Part.forceOps [R.OLC_EVENT, R.LOG_EVENT, R.PMON_HALF] :=
  frame_dropBlockForces _ b

theorem frame_loseBlock (s : State) (b : Nat) : s.Frame (s.loseBlock b) ([.pix, .rep] ++ Part.forceOps)
    [R.OLC_EVENT, R.LOG_EVENT, R.PMON_HALF] :=
  (((frame_forgetBlock s b).trans (frame_unforcedBlock s b)).trans (frame_unbind _ _)).mono (by decide) (by simp)

theorem slot_unforcedBlock (s : State) (b i : Nat) : (s.unforcedBlock b).slot i = s.slot i :=
  (frame_unforcedBlock s b).slot (by decide) i

theorem slot_loseBlock_other {b : Nat} (h : i / 1024 ≠ b) : (s.loseBlock b).slot i = s.slot i := by
  rw [loseBlock_eq, slot_unbind_other h, slot_unforcedBlock]

theorem value_loseBlock (s : State) (b i : Nat) : ((s.loseBlock b).slot i).value = (s.slot i).value := by
  rw [loseBlock_eq, view_unbind Slot.value (fun _ => rfl), slot_unforcedBlock]

theorem not_dirty_loseBlock {b : Nat} (h : i ∈ (s.loseBlock b).pix.dirty) : i / 1024 ≠ b := by
  rw [loseBlock_eq, dirty_unbind, (frame_unforcedBlock s b).pix.resolve_left (by decide)] at h
  simpa using (List.mem_filter.1 h).2

/-- A block lost leaves of the engine's data what is neither its service nor a recorded drop. -/
theorem rep_loseBlock {α : Type} (c : RepS → α) (hc : ∀ (r : RepS) l m, c { r with serve := l, dropSeen := m } = c r)
    (s : State) (b : Nat) : c (s.loseBlock b).rep = c s.rep := by
  rw [loseBlock_eq, (frame_unbind _ _).rep_eq (by simp), (frame_unforcedBlock s b).rep_eq (by decide)]
  exact hc _ _ _

/-- Block `b` ceded to node `n`: the release told, the entry of the table and the block's data changed. -/
def State.cedeBlock (s : State) (b n : Nat) : State :=
  ((s.sendOwn b 1 s.node n (s.nextOwn b n).gen false).setOwn b (s.nextOwn b n)).loseBlock b

/-- Block `b` ceded, and that shown in REP_EVENT and REP_OWN_RESULT. -/
def State.ceded (s : State) (b n : Nat) : State := ((s.cedeBlock b n).raise evREP 3).p F.REP_OWN_RESULT_CODE 1

theorem releaseNow_owned {b : Nat} (h : s.owns b = true) (n : Nat) : s.releaseNow b n
    = ((List.range 26).foldl (fun t _ => t.flush b) (s.dropPlan b)).ceded b n := by
  have h' : (s.dropPlan b).owns b = true := h
  unfold State.dropPlan at h'
  unfold State.releaseNow
  simp only [h', Bool.not_true, Bool.false_eq_true, if_false]
  rfl

/-- What a release of block `b` to node `n` from `s` to `t` does (R125, R129). -/
structure State.Released (s t : State) (b n : Nat) : Prop where
  own : t.ownOf b = s.nextOwn b n
  planned : t.rep.planned = s.rep.planned.filter (fun r => r.block != b)
  dirty : ∀ i ∈ t.pix.dirty, i / 1024 ≠ b
  value : ∀ i, (t.slot i).value = (s.slot i).value
  other : ∀ i, i / 1024 ≠ b → t.slot i = s.slot i
  code : t.g F.REP_OWN_RESULT_CODE = 1
  frame : s.Frame t (.pix :: .log :: .olc :: Part.zader)
    [R.REP_OWN_RESULT, R.REP_EVENT, R.OLC_EVENT, R.REP_TX_FRAMES, R.LOG_EVENT, R.PMON_HALF]

theorem frame_cedeBlock (s : State) (b n : Nat) : s.Frame (s.cedeBlock b n) (.pix :: .log :: .olc :: Part.zader)
    [R.OLC_EVENT, R.REP_TX_FRAMES, R.LOG_EVENT, R.PMON_HALF] :=
  (((sends_sendOwn s b 1 _ n _ false).frame.trans (frame_setOwn _ b _)).trans (frame_loseBlock _ b)).mono
    (by decide) (by decide)

/-- The slots before a block is ceded are those before it is lost. -/
theorem slot_sendOwn_setOwn (s : State) (b former new gen : Nat) (o : Own) (i : Nat) :
    ((s.sendOwn b 1 former new gen false).setOwn b o).slot i = s.slot i :=
  State.slot_congr (congrArg PixS.slots (sends_sendOwn s b 1 former new gen false).pix) i

theorem frame_ceded_of_cedeBlock (s : State) (b n : Nat) :
    (s.cedeBlock b n).Frame (s.ceded b n) [.edges, .trigs] [R.REP_EVENT, R.REP_OWN_RESULT] :=
  ((frame_raise _ evREP 3).trans (frame_p _ _ 1)).mono (by decide) (by simp [evREP, F.REP_OWN_RESULT_CODE])

/-- What the release of block `b` to node `n` makes of the table, the plans, the dirty marks and the slots. -/
theorem ceded_spec (s : State) (b n : Nat) : (s.ceded b n).ownOf b = s.nextOwn b n
    ∧ (s.ceded b n).rep.planned = s.rep.planned ∧ (∀ i ∈ (s.ceded b n).pix.dirty, i / 1024 ≠ b)
    ∧ (∀ i, ((s.ceded b n).slot i).value = (s.slot i).value)
    ∧ (∀ i, i / 1024 ≠ b → (s.ceded b n).slot i = s.slot i) := by
  have hshown := frame_ceded_of_cedeBlock s b n
  have hrep := hshown.rep_eq (by simp)
  have hslot : ∀ i, (s.ceded b n).slot i = (s.cedeBlock b n).slot i := hshown.slot (by simp)
  refine ⟨?_, ?_, fun i hi => ?_, fun i => ?_, fun i hb => ?_⟩
  · rw [State.ownOf, hrep, State.cedeBlock, rep_loseBlock RepS.own fun _ _ _ => rfl]
    exact tget_tset_same _ _ _ _
  · rw [hrep, State.cedeBlock, rep_loseBlock RepS.planned fun _ _ _ => rfl]
    exact rep_sendFrame RepS.planned (fun _ _ _ => rfl) _ _ _ _ _ _ _
  · rw [hshown.pix.resolve_left (by simp)] at hi
    exact not_dirty_loseBlock hi
  · rw [hslot, State.cedeBlock, value_loseBlock, slot_sendOwn_setOwn]
  · rw [hslot, State.cedeBlock, slot_loseBlock_other hb, slot_sendOwn_setOwn]

theorem released_releaseNow {b : Nat} (ho : s.owns b = true) (hg : ∀ i, (s.slot i).badCrc = none) (n : Nat) :
    s.Released (s.releaseNow b n) b n := by
  rw [releaseNow_owned ho]
  have hflush : (s.dropPlan b).Flushes ((List.range 26).foldl (fun t _ => t.flush b) (s.dropPlan b)) :=
    flushes_foldl (s := s.dropPlan b) hg b _
  generalize (List.range 26).foldl (fun t _ => t.flush b) (s.dropPlan b) = u at hflush ⊢
  obtain ⟨hown, hplanned, hdirty, hvalue, hother⟩ := ceded_spec u b n
  have hslot : ∀ i, u.slot i = s.slot i := State.slot_congr hflush.slots
  have howner : u.ownOf b = s.ownOf b := by
    rw [State.ownOf, hflush.own]
    rfl
  refine ⟨?_, hplanned.trans hflush.planned, hdirty, fun i => ?_, fun i hb => ?_, State.g_p_same _ _ 1 (by decide), ?_⟩
  · rw [hown, State.nextOwn, State.nextOwn, howner]
  · rw [hvalue, hslot]
  · rw [hother i hb, hslot]
  · exact ((((frame_dropPlan s b).trans hflush.frame).trans (frame_cedeBlock u b n)).trans
      (frame_ceded_of_cedeBlock u b n)).mono (by decide) (by decide)

/-! ## The commands -/

/-- A register command by a port that may write the register has its own effect (R62, R96). -/
theorem regWrite_of_mayWrite {p a : Nat} (h : s.mayWrite p a = true) (f : State → State) :
    s.linkUp p = true ∧ s.regWrite p a f = f s := by
  simp only [State.mayWrite, Bool.and_eq_true] at h
  obtain ⟨⟨hl, hr⟩, hg⟩ := h
  exact ⟨hl, regWrite_held hr fun n hn => by simpa [hn] using hg⟩

theorem exec_ownClaim {p : Fin 2} {b : Fin 256} (hw : s.mayWrite p R.REP_OWN_CMD = true) (ho : s.owns b = false)
    (hm : s.mayOriginate = true) (hc : s.core 1 = true) : exec (.ownClaim p b) s
      = .next (((s.wn R.REP_OWN_CMD (b.val + 0 * 256 + 2 * 65536)).claim b true).p F.REP_OWN_RESULT_CODE 1) := by
  obtain ⟨hl, hreg⟩ := regWrite_of_mayWrite hw (fun t => t.ownClaim b 0)
  change execOwnClaim p b s = _
  rw [execOwnClaim, if_neg (by simp [hl]), hreg]
  simp only [State.ownClaim, ho, hm, hc, Bool.not_true, Bool.false_eq_true, if_false]

/-- The instant from which the node may take block `b` over from its silent owner (R126). -/
def State.takeoverAt (s : State) (b : Nat) : Nat :=
  (s.origin (s.ownOf b).owner).silentNs + s.rank b * s.g F.REP_TIMEOUT_TAKEOVER_MS * 1000000

theorem exec_autoTakeover {b : Fin 256} (hm : s.mayOriginate = true) (hc : s.core 1 = true)
    (ha : (s.ownOf b).auto = true) (hk : s.rank b ≠ 0) (hn : (s.ownOf b).owner ≠ s.node) (ho : (s.ownOf b).owner ≠ 0)
    (hs : (s.origin (s.ownOf b).owner).silent = true) :
    exec (.autoTakeover b) s = .next ((s.advanceToUp (s.takeoverAt b)).claim b false) :=
  if_neg (by simp [hm, hc, ha, hk, hn, ho, hs])

/-- A release planned for PTP time `at_` (R125). -/
def State.plan (s : State) (b n at_ : Nat) : State :=
  { s with rep := { s.rep with planned := s.rep.planned.filter (fun r => r.block != b) ++ [⟨b, n, at_⟩] } }

section
variable {p : Fin 2} {b n : Fin 256} (hw : s.mayWrite p R.REP_OWN_CMD = true) (ho : s.owns b = true)
  (h1 : 1 ≤ n.val) (h2 : n.val ≤ 192) (hm : s.mayOriginate = true) (hc : s.core 1 = true)
include hw ho h1 h2 hm hc

theorem exec_ownRelease_now (ht : s.rn64 R.REP_OWN_TIME_LO = 0) : exec (.ownRelease p b n) s
    = .next ((s.wn R.REP_OWN_CMD (b.val + n.val * 256 + 1 * 65536)).releaseNow b n) := by
  obtain ⟨hl, hreg⟩ := regWrite_of_mayWrite hw (fun t => t.ownRelease b n)
  have hnode : ¬(n.val = 0 ∨ 192 < n.val) := by omega
  change execOwnRelease p b n s = _
  rw [execOwnRelease, if_neg (by simp [hl]), hreg]
  simp only [State.ownRelease, ho, hm, hc, hnode, ht, Bool.not_true, Bool.false_eq_true, if_false, true_or, if_true]

theorem exec_ownRelease_planned (ht : s.ptpNs < s.rn64 R.REP_OWN_TIME_LO) : exec (.ownRelease p b n) s
    = .next (((s.wn R.REP_OWN_CMD (b.val + n.val * 256 + 1 * 65536)).p F.REP_OWN_RESULT_CODE 2).plan b n
        (s.rn64 R.REP_OWN_TIME_LO)) := by
  obtain ⟨hl, hreg⟩ := regWrite_of_mayWrite hw (fun t => t.ownRelease b n)
  have hnode : ¬(n.val = 0 ∨ 192 < n.val) := by omega
  have hlater : ¬(s.rn64 R.REP_OWN_TIME_LO = 0 ∨ s.rn64 R.REP_OWN_TIME_LO ≤ s.ptpNs) := by omega
  change execOwnRelease p b n s = _
  rw [execOwnRelease, if_neg (by simp [hl]), hreg]
  simp only [State.ownRelease, State.plan, ho, hm, hc, hnode, hlater, Bool.not_true, Bool.false_eq_true, if_false]

end

/-- What no clock edge changes stays when the clocks advance to a PTP time. -/
theorem view_advanceToPtp {α : Type} (c : State → α) (hc : ∀ t n, c (t.advance n) = c t) (s : State) (n : Nat) :
    c (s.advanceToPtp n) = c s := by
  unfold State.advanceToPtp
  split
  · exact hc _ _
  · rfl

theorem advanceToPtp_mayOriginate (s : State) (n : Nat) : (s.advanceToPtp n).mayOriginate = s.mayOriginate :=
  view_advanceToPtp State.mayOriginate (fun _ _ => rfl) s n

theorem advanceToPtp_owns (s : State) (n b : Nat) : (s.advanceToPtp n).owns b = s.owns b :=
  view_advanceToPtp (fun t => t.owns b) (fun _ _ => rfl) s n

theorem exec_ownReleaseEffective {b : Fin 256} {r : PlannedRelease}
    (hf : s.rep.planned.find? (fun x => x.block == b.val) = some r) (hm : s.mayOriginate = true)
    (hc : s.core 1 = true) :
    exec (.ownReleaseEffective b) s = .next ((s.advanceToPtp r.time).releaseNow b r.toNode) := by
  have hb : r.block = b.val := by simpa using List.find?_some hf
  change execOwnReleaseEffective b s = _
  simp only [execOwnReleaseEffective, hf, hc, advanceToPtp_mayOriginate, hm, hb, Bool.not_true, Bool.false_eq_true,
    if_false, if_true]

/-- A plan changes the list of plans alone, and is in it. -/
theorem frame_plan (s : State) (b n at_ : Nat) : s.Frame (s.plan b n at_) [.rep] [] := frame_rep _ _

theorem mem_planned_plan (s : State) (b n at_ : Nat) : ⟨b, n, at_⟩ ∈ (s.plan b n at_).rep.planned :=
  List.mem_append_right _ (List.mem_singleton.2 rfl)

theorem plan_own (s : State) (b n at_ : Nat) : (s.plan b n at_).rep.own = s.rep.own := rfl

/-- Settles O16: a claim and a takeover are one claim, a release at once and at its time one release. -/
theorem ownershipChangesHands : Obligations.OwnershipChangesHands := by
  refine ⟨fun s p b hw ho hm hc => ?claim, fun s b hm hc ha hk hn ho hs => ?takeover,
    fun s p b n hw ho h1 h2 hm hc ht hg => ?release, fun s p b n hw ho h1 h2 hm hc ht => ?plan,
    fun s b r hf ho hm hc hg => ?effective⟩
  case claim =>
    refine ⟨_, exec_ownClaim hw ho hm hc, ?_⟩
    have hcmd := frame_wn s R.REP_OWN_CMD (b.val + 0 * 256 + 2 * 65536)
    generalize s.wn R.REP_OWN_CMD (b.val + 0 * 256 + 2 * 65536) = u at hcmd ⊢
    have hclaim := claimed_claim u b true
    have hcode := frame_p (u.claim b true) F.REP_OWN_RESULT_CODE 1
    have hown := (hcode.ownOf (by simp) b).trans hclaim.own
    have hslot : ∀ i, ((u.claim b true).p F.REP_OWN_RESULT_CODE 1).slot i = (u.claim b true).slot i :=
      hcode.slot (by simp)
    have hslot' : ∀ i, u.slot i = s.slot i := hcmd.slot (by simp)
    refine ⟨?_, ?_, fun i hb => ⟨?_, fun hp hf => ?_⟩, fun i hb => ?_, State.g_p_same _ _ 1 (by decide), ?_, ?_⟩
    · rw [hown]
      exact hcmd.field (by decide) (by simp)
    · rw [hown, State.nextOwn, hcmd.ownOf (by simp)]
    · rw [hslot, hclaim.value, hslot']
    · rw [← hslot'] at hp hf
      rw [hslot]
      exact hclaim.quality i hb hp hf
    · rw [hslot, hclaim.other i hb, hslot']
    · rw [hcode.rep_eq (by simp)]
      exact hclaim.serve
    · exact ((hcmd.trans hclaim.frame).trans hcode).mono (by decide) (by decide)
  case takeover =>
    refine ⟨_, exec_autoTakeover hm hc ha hk hn ho hs, ?_⟩
    have hclk := frame_advanceToUp s (s.takeoverAt b)
    have hle := le_advanceToUp s (s.takeoverAt b)
    generalize s.advanceToUp (s.takeoverAt b) = u at hclk hle ⊢
    have hclaim := claimed_claim u b false
    have hslot : ∀ i, u.slot i = s.slot i := hclk.slot (by simp)
    refine ⟨?_, ?_, ?_, fun i hb => ⟨?_, fun hp hf => ?_⟩, fun i hb => ?_, ?_⟩
    · rw [hclaim.own]
      exact hclk.field (by simp) (by simp)
    · rw [hclaim.own, State.nextOwn, hclk.ownOf (by simp)]
    · rw [hclaim.frame.clk.resolve_left (by decide)]
      exact hle
    · rw [hclaim.value, hslot]
    · rw [← hslot] at hp hf
      exact hclaim.quality i hb hp hf
    · rw [hclaim.other i hb, hslot]
    · exact (hclk.trans hclaim.frame).mono (by decide) (by decide)
  case release =>
    refine ⟨_, exec_ownRelease_now hw ho h1 h2 hm hc ht, ?_⟩
    have hcmd := frame_wn s R.REP_OWN_CMD (b.val + n.val * 256 + 1 * 65536)
    have hslot : ∀ i, (s.wn R.REP_OWN_CMD (b.val + n.val * 256 + 1 * 65536)).slot i = s.slot i := hcmd.slot (by simp)
    have howns : (s.wn R.REP_OWN_CMD (b.val + n.val * 256 + 1 * 65536)).owns b = true := by
      rw [State.owns, State.node, hcmd.field (by decide) (by simp), hcmd.ownOf (by simp)]
      exact ho
    generalize s.wn R.REP_OWN_CMD (b.val + n.val * 256 + 1 * 65536) = u at hcmd hslot howns ⊢
    have hrel := released_releaseNow howns (fun i => by rw [hslot]; exact hg i) n
    refine ⟨?_, ?_, hrel.dirty, fun i _ => ?_, fun i hb => ?_, hrel.code, ?_⟩
    · rw [hrel.own]
      rfl
    · rw [hrel.own, State.nextOwn, hcmd.ownOf (by simp)]
    · rw [hrel.value, hslot]
    · rw [hrel.other i hb, hslot]
    · exact (hcmd.trans hrel.frame).mono (by decide) (by decide)
  case plan =>
    refine ⟨_, exec_ownRelease_planned hw ho h1 h2 hm hc ht, ?_⟩
    have hcmd := frame_wn s R.REP_OWN_CMD (b.val + n.val * 256 + 1 * 65536)
    generalize s.wn R.REP_OWN_CMD (b.val + n.val * 256 + 1 * 65536) = u at hcmd ⊢
    have hcode := frame_p u F.REP_OWN_RESULT_CODE 2
    have hplan := frame_plan (u.p F.REP_OWN_RESULT_CODE 2) b n (s.rn64 R.REP_OWN_TIME_LO)
    refine ⟨?_, mem_planned_plan _ _ _ _, ?_, ?_⟩
    · rw [plan_own, hcode.rep_eq (by simp), hcmd.rep_eq (by simp)]
    · rw [hplan.field (by simp) (by decide)]
      exact State.g_p_same _ _ 2 (by decide)
    · exact ((hcmd.trans hcode).trans hplan).mono (by decide) (by decide)
  case effective =>
    refine ⟨_, exec_ownReleaseEffective hf hm hc, ?_⟩
    have hclk := frame_advanceToPtp s r.time
    have howns := (advanceToPtp_owns s r.time b).trans ho
    generalize s.advanceToPtp r.time = u at hclk howns ⊢
    have hslot : ∀ i, u.slot i = s.slot i := hclk.slot (by simp)
    have hrel := released_releaseNow howns (fun i => by rw [hslot]; exact hg i) r.toNode
    refine ⟨?_, ?_, fun x hx => ?_, hrel.dirty, fun i hb => ?_, hrel.code, ?_⟩
    · rw [hrel.own]
      rfl
    · rw [hrel.own, State.nextOwn, hclk.ownOf (by simp)]
    · rw [hrel.planned] at hx
      simpa using (List.mem_filter.1 hx).2
    · rw [hrel.other i hb, hslot]
    · exact (hclk.trans hrel.frame).mono (by decide) (by decide)

end Sys2Proof.Machine
end
